-- ==== Sys2Proof/Word.lean ====
section
/-! DEFINITION. The word types of the device: the 32-bit register word, the scalar registers of a sequencer thread and the
24-bit V registers of a Beater context. -/

namespace Sys2Proof

/-- A register, or a scalar register of a sequencer thread (R71): 32 bits. -/
abbrev Word := BitVec 32

/-- A V register of a Beater context (R224): 24 bits. -/
abbrev VWord := BitVec 24

/-- One byte of memory. -/
abbrev Byte := BitVec 8

end Sys2Proof
end

