-- ==== Sys2Proof/Syntax.lean ====
section
/-! DEFINITION. The commands of the device, one constructor for each row of spec/opcode_table.json, with the operand types they
use. A command comes from outside the block: an instruction a sequencer core or a Beater engine issues, a register write, a cell or
message received, an event on a pin or in a converter, or the instant at which a timed event of the spec falls due. -/

namespace Sys2Proof

/-- Who makes a register or memory access, in the order of the MASTER codes of BUS_ERR_STAT (R374, R376). -/
inductive Master where
  | pcie
  | core (n : Fin 4)
  | dma
  | sizing
deriving DecidableEq, Repr

/-- The kinds of channel of a quire (R81): drive and probe tones, flux channels, read-out channels. -/
inductive ChanKind where
  | tone | flux | readout
deriving DecidableEq, Repr

/-- An output of a quire that a mute register names: drive and probe outputs 0 to 4, flux channels 0 to 23. -/
inductive OutRef where
  | drive (o : Fin 5)
  | flux (i : Fin 24)
deriving DecidableEq, Repr

/-- A data word that crosses a bridge (R20), by its number in device time: a DACW word of a drive or probe output (counted from the
entry of its samples into the pipeline), an FLX word of a flux channel, or an ADCW word. -/
inductive BridgeWord where
  | dac (q : Fin 16) (o : Fin 5) (word : Nat)
  | flux (q : Fin 16) (i : Fin 24) (word : Nat)
  | adc (q : Fin 16) (word : Nat)
deriving DecidableEq, Repr

/-- What a bridge lane carries (R20, R21): the words of an output, of a flux channel, or of a quire's ADC. -/
inductive LaneEnd where
  | drive (o : Fin 5)
  | flux (i : Fin 24)
  | acq
deriving DecidableEq, Repr

/-- A bridge lane (R21): its direction, and the channels of the region it carries. -/
structure BridgeLane where
  out : Bool
  lane : Nat
  feeds : List (Fin 16 × LaneEnd)
deriving DecidableEq, Repr

/-- A cell that finds itself faulty (R23) and that is no tone, demodulation cell, core or engine (those have their own rows). -/
inductive CellRef where
  | flux (q : Fin 16) (i : Fin 24)
  | bias (q : Fin 16) (b : Fin 2)
  | thread (q t : Fin 16)
  | context (q c : Fin 16)
  /-- No cell: the quire's error handler itself, which its region handles (R22). -/
  | handler (q : Fin 16)
deriving DecidableEq, Repr

/-- A unit of a quire whose self-check runs after a quire restore (R26, R144). -/
inductive CheckedCell where
  | tone (c : Fin 32)
  | cell (j : Fin 16)
  | flux (i : Fin 24)
  | bias (b : Fin 2)
  | thread (t : Fin 16)
  | context (c : Fin 16)
  | core
  | engine
deriving DecidableEq, Repr

/-- The end of a restore (R24): the quire, and its units that fail their self-check. -/
structure RestoreEnd where
  q : Fin 16
  failing : List CheckedCell
deriving DecidableEq, Repr

/-- How a generator or cell was found faulty (R141, R142, R219, R220). -/
inductive FaultCause where
  | audit
  | halvesDisagree
  | ecc
  | parity
  /-- A correctable error, which only counts (R23). -/
  | corrected
deriving DecidableEq, Repr

/-- The unit of a frequency word pair (R118, R199): a tone or a demodulation cell. -/
inductive FtwUnit where
  | tone (c : Fin 32)
  | cell (j : Fin 16)
deriving DecidableEq, Repr

/-- A write to the Deckle's maps (R493). -/
inductive DkMap where
  | cfg (w : Fin 456) (en tripEn clrShot : Bool) (group : Fin 32)
  | group (g : Fin 32) (action line : Fin 4) (biasRamp : Fin 65536)
  | qmask (g : Fin 32) (mask : BitVec 16)
  | qmap (q : Fin 16) (line : Fin 4) (map : BitVec 31)
  | ext (gmask : BitVec 32)
deriving DecidableEq, Repr

/-- A Deckle latch (R180, R187). -/
inductive DkLatch where
  | window (w : Fin 456)
  | external
deriving DecidableEq, Repr

/-- A memory lane of a Beater parallel instruction (R239): direction, V register, address register, address mode, stage. -/
structure Lane where
  en : Bool
  wr : Bool
  r : Fin 32
  p : Fin 8
  m : Fin 8
  stage : Fin 8
deriving DecidableEq, Repr

/-- The fields of a Beater parallel instruction beside OP (R239). -/
structure Par where
  ad : Fin 4
  as : Fin 4
  va : Fin 32
  vb : Fin 32
  x : Lane
  y : Lane
  so : Fin 8
  rsv : Bool
deriving DecidableEq, Repr

/-- An entry of a decision cell (R256): export number, kind, value, bits [7:0] of its departure tick. -/
structure DecEntry where
  exp : Fin 64
  arm : Bool
  val : Fin 4
  l8 : Fin 256
deriving DecidableEq, Repr

/-- The cluster state a heartbeat carries (R326, R340). -/
structure Heartbeat where
  cid : Nat
  epoch : Nat
  uid : Nat
  hops : Fin 64
  parent : Bool
  isOpen : Bool
  pending : Bool
  pendEpoch : Nat
  pendT : Nat
deriving DecidableEq, Repr

/-- The message of a control cell (R326). -/
inductive Msg where
  | heartbeat (h : Heartbeat)
  | join (uid bars : Nat)
  | assign (uid dev epoch : Nat)
  | refuse (uid : Nat)
  | part (bars : Nat)
  | shot (b : Nat) (prev : Option Nat)
  | barArrive (bar tt : Nat)
  | barRelease (bar r : Nat)
  | prepare (epoch id : Nat)
  | ack (epoch code : Nat)
  | commit (epoch t : Nat)
  | cancel (epoch : Nat)
  | resync (epoch : Nat)
deriving DecidableEq, Repr

/-- A control cell (R326): originator, destination (none: broadcast) and message. -/
structure Ctrl where
  src : Nat
  dst : Option Nat
  msg : Msg
deriving DecidableEq, Repr

/-- What a timing cell carries (R325), with its arrival within the tick in fine units. -/
structure TimingCell where
  tstat : Fin 8
  hops : Fin 64
  tdep : Nat
  echoDep : Nat
  echoArr : Nat
  echoFine : Fin 4096
  fasym : Int
  arrFine : Fin 4096
deriving DecidableEq, Repr

/-- What a link cell carries (R328). -/
structure LinkCell where
  uid : Nat
  port : Fin 8
  role : Fin 4
  seRole : Fin 4
  fasym : Int
  cid : Nat
  rxOk : Bool
deriving DecidableEq, Repr

/-- The kinds of signal balls a boundary scan may name (R415). -/
inductive BallKind where
  | digital | drive | probe | readout | flux | bias | chain
deriving DecidableEq, Repr

/-- A boundary-scan cell of a request: its ball and the level driven. -/
structure ScanCell where
  kind : BallKind
  ball : Nat
  level : Bool
deriving DecidableEq, Repr

/-- The boundary-scan instructions that drive cells (R415). -/
inductive ScanOp where
  | extest | intest
deriving DecidableEq, Repr

/-- How an Ethernet frame's outcome comes known (R382). -/
inductive RxFrame where
  | arp | ndp | icmp4 | icmp6 | fragment | other
deriving DecidableEq, Repr

/-- The route of a Felt message: an Ethernet port, or the PCIe mailbox (R384, R391). -/
inductive Via where
  | eth (e : Fin 2)
  | mailbox
deriving DecidableEq, Repr

/-- The head of a Felt request (R384, R386): route, SESSION, SEQ, and whether its HMAC tag verifies under the session's key and its source
is that of the HELLO (for session 0: whether it carries no tag). -/
structure FeltHead where
  via : Via
  session : Nat
  seq : Nat
  auth : Bool
deriving DecidableEq, Repr

/-- The signer of an object (R406): which root its public key hashes to. -/
inductive Root where
  | vendor | customer | other
deriving DecidableEq, Repr

/-- A signed object (R406): its signer, whether digest and signature are right, and its SVN. -/
structure SignedObj where
  signer : Root
  digestOk : Bool
  sigOk : Bool
  svn : Nat
deriving DecidableEq, Repr

/-- What is shifted in over the JTAG balls: an unlock token (R414), or a boundary-scan instruction and its cells (R415). -/
inductive DebugWord where
  | token (obj : SignedObj)
  | scan (op : ScanOp) (cells : List ScanCell)
deriving DecidableEq, Repr

/-- A firmware image slot (R366, R409). -/
inductive Slot where
  | a | b | flash
deriving DecidableEq, Repr

/-- What a PMBus transaction returned (R401): not acknowledged or PEC wrong on the third try, or a reading. -/
inductive PmbRead where
  | failed
  | value (v : Nat)
deriving DecidableEq, Repr

/-- One entry's readings in a monitoring round (R403): STATUS_WORD, VOUT in mV, IOUT, TEMPERATURE_1; none: the transactions failed. -/
structure PmbStatus where
  entry : Fin 16
  read : Option (Nat × Nat × Nat × Int)
deriving DecidableEq, Repr

/-- A field Sizing owns (R426), or an internal trim by its index in the procedure's block. -/
inductive SzField where
  | calSub (o : Fin 5)
  | trim (o : Fin 5)
  | xgain (i : Fin 24)
  | pdCoef (o : Fin 5) (k : Fin 24)
  | iirC0 (i : Fin 24) (k : Fin 8)
  | iirC1 (i : Fin 24) (k : Fin 8)
  | iirD (i : Fin 24) (k : Fin 8)
  | internal (proc : Fin 8) (index : Nat)
  /-- A redundant unit-cell selection (R426, R429). -/
  | cellSel (index : Nat)
deriving DecidableEq, Repr

/-- A value a procedure produced (R431): its field and code; the coefficient of the table's row it is, its size and its change, in
thousandths of the table's unit. -/
structure SzValue where
  field : SzField
  code : Int
  kind : Fin 4
  size : Int
  change : Int
deriving DecidableEq, Repr

/-- A point of a calibration set (R429): its temperature in 1/16 °C and its values. -/
structure SzPoint where
  temp : Int
  values : List SzValue
deriving DecidableEq, Repr

/-- Why the device is reset by the chip itself or its balls (PWR_RST_CAUSE). -/
inductive WakeSource where
  | pin
  | post
  | decision (d : Fin 8)
  | chain (p : Fin 8)
deriving DecidableEq, Repr

/-- An uncorrectable word of a quire's memory that real-time traffic met (R356): a word of memory classes 0 to 2 by its BAR2 offset, or a
word of the packet the result mover was reading. -/
inductive QuireWord where
  | word (addr : Nat)
  | mover (k : Fin 8)
deriving DecidableEq, Repr

/-- A reader that meets an uncorrectable word (R356): a quire's real-time traffic, a Beater context, the syndrome engine, a management
core, or an access over the network to the BAR2 offset given. -/
inductive EccUse where
  | realtime (q : Fin 16) (w : QuireWord)
  | context (q c : Fin 16) (addr : Nat)
  | engine (addr : Nat)
  | core (n : Fin 4)
  | network (m : Master) (addr : Nat)
deriving DecidableEq, Repr

/-- What the scrubber found in one word (R357): its BAR2 offset, and whether uncorrectable or corrected. -/
structure ScrubFind where
  addr : Nat
  ue : Bool
deriving DecidableEq, Repr

/-- The commands of the device. -/
inductive Instr where
  /-- RESET_N_FALL (R476): RESET_N falls and the device resets, with every output going to its reset state at once and ramps and sequences cut. -/
  | resetNFall
  /-- RESET_N_RISE (R474): RESET_N rises after at least 1 µs low; PERS and MASTER are sampled by majority of three and boot begins. -/
  | resetNRise (pers master : Bool × Bool × Bool)
  /-- BOOT (R409): The boot ROM verifies candidate images in order, runs the first that qualifies, or serves only recovery. -/
  | boot
  /-- LOFT_POWER_ON (R442): VDD_LOFT crosses its power-on reset threshold and the always-on domain starts or stops. -/
  | loftPowerOn (on : Bool)
  /-- VDD_IO_FALL (R476): VDD_IO falls below its range while RESET_N is high and the device resets as a power-on reset. -/
  | vddIoFall
  /-- REGISTER_WRITE (R13): A write through the normal, toggle, set or clear view to a register without behaviour of its own, under the access codes and state checks. -/
  | registerWrite (m : Master) (addr : Nat) (size : Nat) (val : Nat)
  /-- WINDOW_WRITE (R359): A host, DMA or Sizing write through a BAR2 memory window, subject to the write rules of the memory it reaches. -/
  | windowWrite (m : Master) (addr : Nat) (size : Nat) (val : Nat)
  /-- SHOT_BOUNDARY (R30): At a shot boundary tick the device applies calibration, mode change, latch clears and time correction in that order. -/
  | shotBoundary
  /-- BRIDGE_PARITY_ERROR (R20): A bridge word arrives with a parity error; output words play as zero, input words corrupt their windows, and shots are tainted. -/
  | bridgeParityError (w : BridgeWord)
  /-- BRIDGE_LANE_SWITCH (R21): A lane's error counter crosses its threshold and the Vatman switches its traffic onto a spare lane or mutes its channels. -/
  | bridgeLaneSwitch (g : Fin 4) (lane : BridgeLane)
  /-- BRIDGE_LANE_SWITCH_DONE (R21): The lane switch completes and the lane's outputs resume within 20 µs. -/
  | bridgeLaneSwitchDone (g : Fin 4) (lane : BridgeLane)
  /-- CELL_FAULT (R23): A cell finds an uncorrectable error or fails self-check, mutes itself and flags the quire error handler. -/
  | cellFault (c : CellRef)
  /-- QUIRE_RESTORE (R24): A shared-part fault makes the quire error handler reset the quire and begin restoring it from shadow state. -/
  | quireRestore (q : Fin 16) (w : Option QuireWord)
  /-- QUIRE_RESTORE_COMPLETE (R24): The quire restore ends, outputs unmute and threads resume at their restored positions. -/
  | quireRestoreComplete (r : RestoreEnd)
  /-- VATMAN_FAULT (R463): A Vatman or router slice faults and the chip fault handler restarts or resets it. -/
  | vatmanFault (g : Fin 4) (router : Bool)
  /-- VATMAN_RESTART_COMPLETE (R463): The restarted Vatman or reset router slice resumes, and any abandoned substitution is repeated. -/
  | vatmanRestartComplete (g : Fin 4) (router : Bool)
  /-- NOC_ARB_APPLY (R39): A written NOC_ARB setting takes effect at the start of the next 256-cycle arbitration frame at every router. -/
  | nocArbApply
  /-- REF_EDGE_TIMEOUT (R42): No reference edge appears for 64 ns and the reference is declared lost. -/
  | refEdgeTimeout
  /-- REF_FREQ_WINDOW_END (R42): A 1 ms Loft frequency window ends and the reference is declared lost or present from its result. -/
  | refFreqWindowEnd (inRange : Bool)
  /-- DANDY_LOCK (R45): The Dandy locks; after reset or wake the dividers start together and device time starts at zero. -/
  | dandyLock
  /-- TB_TIME_LO_READ (R50): A read of TB_TIME_LO returns the low half of device time and latches the high half. -/
  | tbTimeLoRead
  /-- TIMING_CELL_RX (R325): A timing cell arrives on a port, giving one delay exchange and the peer's time status. -/
  | timingCellRx (p : Fin 8) (c : TimingCell)
  /-- MEASUREMENT_COMPLETE (R57): The 1,024th valid exchange completes a delay measurement on a port. -/
  | measurementComplete (p : Fin 8)
  /-- ROOT_TRIM_MOVE (R62): A pending root-trim move is made at the shot boundary, or refused and the device fenced if out of range. -/
  | rootTrimMove
  /-- PTP_SYNC_RX (R63): A PTP Sync message is received and timestamped by firmware. -/
  | ptpSyncRx (e : Fin 2) (domain : Nat) (interval : Int) (origin : Option Nat)
  /-- PTP_FOLLOW_UP_RX (R63): A PTP Follow_Up message is received from a two-step master. -/
  | ptpFollowUpRx (e : Fin 2) (domain : Nat) (origin : Nat)
  /-- PTP_DELAY_REQ_TX (R63): The slave sends a PTP Delay_Req message. -/
  | ptpDelayReqTx
  /-- PTP_DELAY_RESP_RX (R63): A PTP Delay_Resp is received and the servo updates the wall-clock rate or makes its first step. -/
  | ptpDelayRespRx (e : Fin 2) (domain : Nat) (t4 : Nat)
  /-- TB_WCT_NS_READ (R66): A read of TB_WCT_NS returns nanoseconds and latches seconds and device time of the same tick. -/
  | tbWctNsRead
  /-- TX_DESCRIPTOR_TAKE (R382): An Ethernet port takes the next transmit descriptor from its ring and queues it as timed or normal, or refuses it. -/
  | txDescriptorTake (e : Fin 2)
  /-- TIMED_LAUNCH (R67): A timed frame reaches its launch tick and leaves the MAC, or is discarded as late. -/
  | timedLaunch (e : Fin 2)
  /-- NORMAL_FRAME_TX (R70): The MAC begins a normal-queue frame if it cannot overlap the next pending launch. -/
  | normalFrameTx (e : Fin 2)
  /-- FRAME_TX_COMPLETE (R383): A frame's outcome is known and its descriptor word 3 is written back. -/
  | frameTxComplete (e : Fin 2)
  /-- NOP (R94): Sequencer instruction NOP does nothing. -/
  | nop (q t : Fin 16) (rsv : Bool)
  /-- HALT (R79): Sequencer instruction HALT puts the thread in DONE. -/
  | halt (q t : Fin 16) (rsv : Bool)
  /-- PLAY (R71): PLAY places segment SEG, scaled by AMP, on a drive or probe tone at TT + OFS, alone or as a set member. -/
  | play (q t : Fin 16) (a l : Bool) (cond : Fin 16) (ch : Fin 32) (seg : Fin 1024) (sa : Bool) (amp : BitVec 16) (ofs : Fin 16384) (sub : Fin 64)
  /-- FLUX (R153): FLUX mode 0 places a real-format segment on a flux channel's fast path. -/
  | flux (q t : Fin 16) (a l : Bool) (cond : Fin 16) (ch : Fin 32) (seg : Fin 1024) (amp : BitVec 16) (ofs : Fin 16384) (sub : Fin 64)
  /-- FLUX_MODE_1 (R161): FLUX mode 1 sets the slow ladder of a flux channel to CODE at its play time. -/
  | fluxMode1 (q t : Fin 16) (a l : Bool) (cond : Fin 16) (ch : Fin 32) (code : BitVec 20) (rsv : Bool) (ofs : Fin 16384) (sub : Fin 64)
  /-- MEAS (R96): MEAS reserves a result credit and places an integration window on a read-out channel. -/
  | meas (q t : Fin 16) (rsv : Bool) (ch : Fin 16) (wgt : Fin 256) (len : Fin 8192) (arm : Fin 256) (ofs : Fin 16384) (sub : Fin 64)
  /-- FRAME (R85): FRAME adds to or replaces the frame phase of a tone at its play tick. -/
  | frame (q t : Fin 16) (rsv : Bool) (ch : Fin 32) (mode src : Bool) (ofs : Fin 16384) (val : BitVec 32)
  /-- SJUMP (R102): SJUMP sends a jump request to a channel's envelope player. -/
  | sjump (q t : Fin 16) (rsv : Bool) (ch : Fin 64) (seg : Fin 1024)
  /-- WAIT_IMM (R71): WAIT mode 0 advances TT by IMM. -/
  | waitImm (q t : Fin 16) (rsv : Bool) (imm : BitVec 32)
  /-- WAIT_REG (R71): WAIT mode 1 advances TT by a scalar register. -/
  | waitReg (q t : Fin 16) (rsv : Bool) (reg : Fin 16)
  /-- WAIT_EVENT (R76): WAIT mode 2 waits for an event flag, then rebases TT and optionally clears the flag. -/
  | waitEvent (q t : Fin 16) (rsv : Bool) (ev : Fin 16) (clr : Bool) (gap : Fin 16384)
  /-- WAITD (R76): WAITD waits for a subscription to become valid or a timeout, then rebases and writes the result. -/
  | waitd (q t : Fin 16) (rsv : Bool) (sub : Fin 8) (reb : Bool) (sd : Fin 16) (wr : Bool) (gap : Fin 16384) (tmo : Fin 65536)
  /-- WAITD_TIMEOUT (R76): A WAITD timeout expires and the thread wakes with bit 31 of S[SD] set. -/
  | waitdTimeout (q t : Fin 16)
  /-- BR (R75): BR branches to TGT. -/
  | br (q t : Fin 16) (rsv : Bool) (tgt : Fin 131072)
  /-- BRE (R97): BRE branches on an event flag and optionally clears it. -/
  | bre (q t : Fin 16) (rsv : Bool) (ev : Fin 16) (neg clr : Bool) (tgt : Fin 131072)
  /-- BRC (R94): BRC compares scalar registers or an immediate and branches on condition CC. -/
  | brc (q t : Fin 16) (rsv : Bool) (cc : Fin 8) (immb : Bool) (sa sb : Fin 16) (imm : BitVec 16) (tgt : Fin 131072)
  /-- BRP (R96): BRP branches on a subscription's predicate, waiting for it first if it is invalid. -/
  | brp (q t : Fin 16) (rsv : Bool) (sub : Fin 8) (neg reb : Bool) (gap : Fin 16384) (tgt : Fin 131072)
  /-- LOOP (R98): LOOP starts a hardware loop over the body up to END, CNT times. -/
  | loop (q t : Fin 16) (rsv : Bool) (src : Bool) (reg : Fin 16) (cnt : Fin 65536) (last : Fin 131072)
  /-- SYNC (R99): SYNC makes the thread arrive at a barrier of quire, device, cluster or shot scope. -/
  | sync (q t : Fin 16) (rsv : Bool) (scope : Fin 4) (bar : Fin 16) (gap : Fin 16384)
  /-- ALU (R100): ALU computes S[SD] from two scalar registers with function FN. -/
  | alu (q t : Fin 16) (rsv : Bool) (sd sa sb : Fin 16) (fn : Fin 16)
  /-- ALUI (R100): ALUI computes S[SD] from a scalar register and an immediate with function FN. -/
  | alui (q t : Fin 16) (rsv : Bool) (sd sa : Fin 16) (fn : Fin 16) (imm : BitVec 32)
  /-- GET (R100): GET writes a scalar register with device time, TT, identity, lookahead or event flags. -/
  | get (q t : Fin 16) (rsv : Bool) (sd : Fin 16) (sel : Fin 16)
  /-- BARRIER_RELEASE (R99): A barrier of quire or device scope, or a standalone cluster barrier, releases and its participants rebase. -/
  | barrierRelease (scope : Fin 3) (q bar : Fin 16)
  /-- BARRIER_TIMEOUT (R100): A thread waits SEQ_SYNC_TMO ticks at a barrier and faults with FCAUSE 0x04. -/
  | barrierTimeout (q t : Fin 16)
  /-- COMMAND_PLAY (R32): A queued command or alternate set reaches its play tick and enters the output pipeline. -/
  | commandPlay (q : Fin 16) (kind : ChanKind) (n : Fin 32)
  /-- SEGMENT_ITERATION_END (R102): The player fetches the last sample of an iteration and honours a pending jump, loops or ends the segment. -/
  | segmentIterationEnd (q : Fin 16) (kind : ChanKind) (n : Fin 32)
  /-- STREAM_WRITE (R106): The streaming writer stores data from LPDDR6 into a Vat ring up to its fence. -/
  | streamWrite (q : Fin 16) (n : Fin 4)
  /-- STREAM_UNDERRUN (R108): The player reaches an unwritten stream position and the tone outputs zero until written data is reached. -/
  | streamUnderrun (q : Fin 16) (n : Fin 4)
  /-- STREAM_ENABLE (R109): Writing STRM_CTRL.EN = 1 zeroes the stream positions and starts the writer. -/
  | streamEnable (m : Master) (q : Fin 16) (n : Fin 4) (ch : Fin 32)
  /-- THREAD_START (R79): THR_CTRL.START starts a thread at its start address with TT set under R72, or is refused. -/
  | threadStart (m : Master) (q t : Fin 16)
  /-- THREAD_STOP (R491): THR_CTRL.STOP puts a running thread in DONE. -/
  | threadStop (m : Master) (q t : Fin 16)
  /-- THREAD_FLUSH (R491): THR_CTRL.FLUSH written with STOP removes the thread's queued and in-transit commands. -/
  | threadFlush (m : Master) (q t : Fin 16)
  /-- SEQ_RUN (R74): A write of SEQ_CTRL.RUN enables the core or, when cleared, stops every thread without flush. -/
  | seqRun (m : Master) (q : Fin 16) (run : Bool)
  /-- FTW_COMMIT (R118): A write of TONE_FTW_HI or HB_CELL_FTW_HI commits a 48-bit frequency word, timed or untimed. -/
  | ftwCommit (m : Master) (q : Fin 16) (u : FtwUnit) (hi : Fin 65536)
  /-- FTW_EFFECT (R119): A committed frequency word takes effect at the start of its effect tick. -/
  | ftwEffect (q : Fin 16) (u : FtwUnit)
  /-- FRAME_CLR (R122): TONE_CTRL.FRAME_CLR sets a tone's frame phase to zero while the quire is idle. -/
  | frameClr (m : Master) (q : Fin 16) (c : Fin 32)
  /-- PD_COMMIT (R127): DRV_PD_CTRL.COMMIT moves predistortion and gain shadows into force at once or at the next boundary. -/
  | pdCommit (m : Master) (q : Fin 16) (o : Fin 5)
  /-- DRV_ENABLE (R133): Setting DRV_CFG.EN enables a drive or probe output without a transient. -/
  | drvEnable (m : Master) (q : Fin 16) (o : Fin 5)
  /-- RANGE_CHANGE (R130): A write of RANGE mutes the output and starts current-reference settling. -/
  | rangeChange (m : Master) (q : Fin 16) (o : Fin 5) (range : Fin 4)
  /-- RANGE_SETTLED (R130): Range settling ends and SETTLING clears. -/
  | rangeSettled (q : Fin 16) (o : Fin 5)
  /-- SOFTWARE_MUTE (R135): A write of DRV_MUTE or FLX_MUTE mutes or unmutes an output after 4 ticks. -/
  | softwareMute (m : Master) (q : Fin 16) (o : OutRef) (mute : Bool)
  /-- CW_AMP_WRITE (R139): A write to DRV_CW.AMP starts a linear CW amplitude ramp. -/
  | cwAmpWrite (m : Master) (q : Fin 16) (o : Fin 5) (amp : BitVec 16)
  /-- CW_RAMP_END (R139): A CW amplitude ramp reaches its target. -/
  | cwRampEnd (q : Fin 16) (o : Fin 5)
  /-- TONE_FAULT (R142): A drive or probe tone is found faulty by audit, ECC or parity and its contribution is zeroed. -/
  | toneFault (q : Fin 16) (c : Fin 32) (why : FaultCause)
  /-- TONE_SUBSTITUTION (R142): The Vatman switches the spare tone generator in at entry tick S, resuming mid-segment. -/
  | toneSubstitution (q : Fin 16) (pass : Bool)
  /-- TONE_SPARE_FORCE (R145): TONE_SPARE_CTRL.FORCE moves a healthy drive tone onto the free spare without interruption. -/
  | toneSpareForce (m : Master) (q : Fin 16) (c : Fin 16)
  /-- TONE_SPARE_RELEASE (R144): TONE_SPARE_CTRL.RELEASE hands the served tone back from the spare. -/
  | toneSpareRelease (m : Master) (q : Fin 16)
  /-- LADDER_WRITE (R161): A write to FLX_LADDER steps or starts a ramp of the slow ladder after 8 ticks. -/
  | ladderWrite (m : Master) (q : Fin 16) (i : Fin 24) (code : BitVec 20)
  /-- LADDER_RAMP_UPDATE (R161): Every 256 ticks a ramping ladder moves toward its target by at most STEP codes. -/
  | ladderRampUpdate (q : Fin 16) (i : Fin 24)
  /-- DEGLITCH_HOLD_END (R162): The deglitcher hold ends and the slow path settles to the latest code. -/
  | deglitchHoldEnd (q : Fin 16) (i : Fin 24)
  /-- FLUX_ENABLE (R165): Setting FLX_CFG.EN drives the stage to 0 V with the switch open. -/
  | fluxEnable (m : Master) (q : Fin 16) (i : Fin 24)
  /-- FLUX_SWITCH_CLOSE (R165): 2 µs after enable the output switch closes and the ladder ramps or steps to its code. -/
  | fluxSwitchClose (q : Fin 16) (i : Fin 24)
  /-- FLUX_DISABLE (R165): Clearing FLX_CFG.EN ramps the ladder to zero before the switch opens. -/
  | fluxDisable (m : Master) (q : Fin 16) (i : Fin 24)
  /-- FLUX_SWITCH_OPEN (R165): The ladder reaches zero after disable and the output switch opens. -/
  | fluxSwitchOpen (q : Fin 16) (i : Fin 24)
  /-- FLUX_RANGE_CHANGE (R167): An accepted SRANGE or FRANGE write holds the channel at 0 V while the range settles. -/
  | fluxRangeChange (m : Master) (q : Fin 16) (i : Fin 24) (srange : Fin 4) (frange : Bool)
  /-- FLUX_RANGE_SETTLED (R167): The new flux range has settled and RANGING clears. -/
  | fluxRangeSettled (q : Fin 16) (i : Fin 24)
  /-- PRESS_COMMIT (R158): FLX_PRESS_CTRL.COMMIT moves the Press shadow into force at once or at the next boundary, or is refused. -/
  | pressCommit (m : Master) (q : Fin 16) (i : Fin 24)
  /-- PRESS_CLR (R159): FLX_PRESS_CTRL.CLR zeroes the Press state while the quire is idle. -/
  | pressClr (m : Master) (q : Fin 16) (i : Fin 24)
  /-- BIAS_SET_WRITE (R170): A write to BIAS_SET steps or starts a ramp of a bias source after 8 ticks. -/
  | biasSetWrite (m : Master) (q : Fin 16) (b : Fin 2) (code : BitVec 16)
  /-- BIAS_RAMP_UPDATE (R170): Every PERIOD µs a ramping bias source moves toward its target by at most STEP codes. -/
  | biasRampUpdate (q : Fin 16) (b : Fin 2)
  /-- BIAS_ILIM (R171): A bias source enters current limiting. -/
  | biasIlim (q : Fin 16) (b : Fin 2) (on : Bool)
  /-- BIAS_SEQ_UP (R172): BIAS_SEQ.UP enables and ramps the first source of the pair, then the second. -/
  | biasSeqUp (m : Master) (q : Fin 16)
  /-- BIAS_SEQ_DOWN (R172): BIAS_SEQ.DOWN ramps the second source to 0 V and opens it, then the first. -/
  | biasSeqDown (m : Master) (q : Fin 16)
  /-- BIAS_SEQ_DWELL_END (R172): The DWELL pause ends and the sequence moves to the other source, or ends and fires bias sequence done. -/
  | biasSeqDwellEnd (q : Fin 16)
  /-- WINDOW_CROSSING (R180): A Deckle window becomes outside, setting its latch if armed and asserting its trip group. -/
  | windowCrossing (w : Fin 456) (level : Int)
  /-- WINDOW_INSIDE (R177): A Deckle window's input returns inside its thresholds less hysteresis. -/
  | windowInside (w : Fin 456) (level : Int)
  /-- WINDOW_ARM (R178): 2 µs after enable or a threshold write the window's latch is armed. -/
  | windowArm (w : Fin 456)
  /-- DK_WIN_THR_WRITE (R178): A write of a window's thresholds or hysteresis disarms its latch, or is refused if L ≥ U. -/
  | dkWinThrWrite (m : Master) (w : Fin 456) (upper lower : Fin 1024) (hyst : Fin 8)
  /-- DK_MAP_WRITE (R493): A write to the window, group, quire mask, output map or external mask changes the trips in force. -/
  | dkMapWrite (m : Master) (w : DkMap)
  /-- DK_LATCH_CLEAR (R180): Software writes 1 to a window or external latch, which clears unless the input is still outside. -/
  | dkLatchClear (m : Master) (l : DkLatch)
  /-- TRIPIN_FALL (R187): TRIPIN_N is held low for at least 10 ns and sets the external latch. -/
  | tripinFall (low : Bool)
  /-- THRESHOLD_READBACK (R188): A write to DK_RB starts a read-back of one threshold DAC through the Loft. -/
  | thresholdReadback (m : Master) (win : Fin 512) (upper : Bool)
  /-- READBACK_DONE (R188): The threshold read-back result is written to DK_RB_DATA and BUSY clears. -/
  | readbackDone (result : BitVec 16)
  /-- ACQ_ENABLE (R193): HB_CTRL.ACQ_EN powers the ADC of a feedline while the quire is idle. -/
  | acqEnable (m : Master) (q : Fin 16)
  /-- ADC_READY (R193): The ADC has powered and settled and ADC_READY sets. -/
  | adcReady (q : Fin 16)
  /-- ADC_OVERLOAD (R195): An ADC sample reaches a code limit and is recorded as overloaded. -/
  | adcOverload (q : Fin 16) (word : Nat) (sample : Fin 16)
  /-- WINDOW_RESULT (R206): At E + 14 a demodulation cell forms I and Q, releases its descriptor and offers the result to the Beater. -/
  | windowResult (q j : Fin 16) (codes : List Int)
  /-- RECORD_ENQUEUE (R210): A waiting packet enters the result queue in its ADCW cycle in the priority order. -/
  | recordEnqueue (q : Fin 16)
  /-- DISC_COMMIT (R203): HB_CTRL.COMMIT moves the discriminator shadows of all cells into force at once or at the next boundary. -/
  | discCommit (m : Master) (q : Fin 16)
  /-- RESULT_QUEUE_ENABLE (R212): Writing HB_RQ_CFG.EN = 1 grants DEPTH credits and resets the ring counters. -/
  | resultQueueEnable (m : Master) (q : Fin 16) (shotrec : Bool) (dest : Fin 4) (depth : Fin 1024)
  /-- RESULT_MOVE (R214): The mover takes the head packet to its ring and frees its credit, or stops at a full ring. -/
  | resultMove (q : Fin 16)
  /-- DST_RD_WRITE (R214): A write of HB_RQ_DST_RD consumes ring slots and lets a stopped mover resume. -/
  | dstRdWrite (m : Master) (q : Fin 16) (slot : BitVec 32)
  /-- RESULT_POP (R215): HB_RQ_POP.POP removes the head packet and frees its credit. -/
  | resultPop (m : Master) (q : Fin 16)
  /-- READOUT_CELL_FAULT (R220): A demodulation cell is found faulty and stops delivering states. -/
  | readoutCellFault (q j : Fin 16) (why : FaultCause)
  /-- READOUT_SUBSTITUTION (R220): The spare read-out unit is switched in for a cell or probe tone. -/
  | readoutSubstitution (q : Fin 16) (pass : Bool)
  /-- READOUT_SPARE_FORCE (R221): HB_SPARE_CTRL.FORCE moves a healthy cell or probe tone onto the spare read-out unit. -/
  | readoutSpareForce (m : Master) (q : Fin 16) (tone : Bool) (n : Fin 16)
  /-- READOUT_SPARE_RELEASE (R221): HB_SPARE_CTRL.RELEASE hands the served item back from the spare read-out unit. -/
  | readoutSpareRelease (m : Master) (q : Fin 16)
  /-- BEATER_NOP (R240): Parallel operation NOP does nothing besides its memory lane moves. -/
  | beaterNop (q c : Fin 16) (p : Par)
  /-- MPY (R240): MPY writes the product VA·VB to an accumulator. -/
  | mpy (q c : Fin 16) (p : Par)
  /-- MAC (R240): MAC adds VA·VB to an accumulator. -/
  | mac (q c : Fin 16) (p : Par)
  /-- MSU (R240): MSU subtracts VA·VB from an accumulator. -/
  | msu (q c : Fin 16) (p : Par)
  /-- DSQ (R240): DSQ writes (VA − VB)² to an accumulator. -/
  | dsq (q c : Fin 16) (p : Par)
  /-- DSQA (R240): DSQA adds (VA − VB)² to an accumulator. -/
  | dsqa (q c : Fin 16) (p : Par)
  /-- LDA (R240): LDA loads VA fraction-aligned into an accumulator. -/
  | lda (q c : Fin 16) (p : Par)
  /-- ADDV (R240): ADDV adds VA fraction-aligned to an accumulator. -/
  | addv (q c : Fin 16) (p : Par)
  /-- ADDA (R240): ADDA adds one accumulator to another. -/
  | adda (q c : Fin 16) (p : Par)
  /-- SUBA (R240): SUBA subtracts one accumulator from another. -/
  | suba (q c : Fin 16) (p : Par)
  /-- SHA (R240): SHA shifts an accumulator by a signed amount. -/
  | sha (q c : Fin 16) (p : Par)
  /-- CLR (R240): CLR zeroes an accumulator. -/
  | clr (q c : Fin 16) (p : Par)
  /-- MINX (R240): MINX keeps the smaller accumulator and sets IX when the second is smaller. -/
  | minx (q c : Fin 16) (p : Par)
  /-- GEX (R240): GEX sets IX when one accumulator is at least another. -/
  | gex (q c : Fin 16) (p : Par)
  /-- CMP (R240): CMP sets N and Z from the difference of two accumulators. -/
  | cmp (q c : Fin 16) (p : Par)
  /-- TST (R240): TST sets N and Z from an accumulator. -/
  | tst (q c : Fin 16) (p : Par)
  /-- STV (R232): STV rounds, shifts and saturates an accumulator into a V register. -/
  | stv (q c : Fin 16) (p : Par)
  /-- ABS (R240): ABS replaces an accumulator by its magnitude. -/
  | abs (q c : Fin 16) (p : Par)
  /-- LDAL (R240): LDAL loads VA LSB-aligned into an accumulator. -/
  | ldal (q c : Fin 16) (p : Par)
  /-- BEATER_HALT (R228): Control instruction HALT puts the context in DONE. -/
  | beaterHalt (q c : Fin 16) (rsv : Bool)
  /-- BEATER_BR (R241): Control instruction BR branches to TGT. -/
  | beaterBr (q c : Fin 16) (rsv : Bool) (tgt : Fin 8192)
  /-- BRF (R241): BRF branches when flag condition CC holds. -/
  | brf (q c : Fin 16) (rsv : Bool) (cc : Fin 8) (tgt : Fin 8192)
  /-- BEATER_LOOP (R237): Control instruction LOOP starts a hardware or rotating software-pipelined loop. -/
  | beaterLoop (q c : Fin 16) (rsv : Bool) (rot : Bool) (stg1 : Fin 8) (src : Bool) (cnt : Fin 65536) (vr : Fin 32) (last : Fin 8192)
  /-- WAITIN (R243): WAITIN takes the head input entry into V registers or waits for one. -/
  | waitin (q c : Fin 16) (rsv : Bool) (vr : Fin 32) (tmo : Fin 65536)
  /-- WAITIN_TIMEOUT (R243): A WAITIN timeout expires and the context resumes with zero values and the TIMEOUT tag. -/
  | waitinTimeout (q c : Fin 16)
  /-- OUTP (R245): OUTP delivers a 2-bit value to a Beater output's Couch source, unless gated. -/
  | outp (q c : Fin 16) (rsv : Bool) (out src imm : Fin 4) (gate : Bool) (vr : Fin 32)
  /-- OUTR (R248): OUTR appends a word to the packet buffer, reserving a credit first and closing the packet on END. -/
  | outr (q c : Fin 16) (rsv : Bool) (vr : Fin 32) (last : Bool) (tag : Fin 128)
  /-- SETP (R241): SETP writes a field of an address register. -/
  | setp (q c : Fin 16) (rsv : Bool) (p : Fin 8) (field : Fin 4) (imm : BitVec 16)
  /-- LDI (R241): LDI writes a 24-bit immediate to a V register. -/
  | ldi (q c : Fin 16) (rsv : Bool) (vr : Fin 32) (imm : BitVec 24)
  /-- ROT (R236): ROT decreases the rotating register base by N. -/
  | rot (q c : Fin 16) (rsv : Bool) (n : Fin 16)
  /-- CTX_START (R228): CTX_CTRL.START starts a Beater context at its start address, or is refused. -/
  | ctxStart (m : Master) (q c : Fin 16)
  /-- CTX_STOP (R228): CTX_CTRL.STOP puts a running context in DONE and discards its packet. -/
  | ctxStop (m : Master) (q c : Fin 16)
  /-- BEATER_ENABLE (R229): A write of BT_CTRL.EN enables the engine or, when cleared, stops every context. -/
  | beaterEnable (m : Master) (q : Fin 16) (en : Bool)
  /-- ENGINE_FAULT (R251): A residue mismatch pauses the engine for substitution, or faults every context if no spare is free. -/
  | engineFault (q : Fin 16)
  /-- ENGINE_SUBSTITUTION (R251): The regional spare engine takes over and resumes each context. -/
  | engineSubstitution (g : Fin 4)
  /-- BEATER_FORCE (R252): BT_CTRL.FORCE moves a healthy engine onto the free regional spare. -/
  | beaterForce (m : Master) (q : Fin 16)
  /-- BEATER_RELEASE (R252): BT_CTRL.RELEASE moves the engine back from the spare. -/
  | beaterRelease (m : Master) (q : Fin 16)
  /-- DECISION_CELL_RX (R257): A decision cell arrives; each entry is matched to external inputs and delivered at L + 16 + CDLY or late. -/
  | decisionCellRx (p : Fin 8) (entries : List DecEntry)
  /-- CELL_SLOT (R319): At every fourth tick each lane of a port in Run starts a cell chosen by priority. -/
  | cellSlot (p : Fin 8) (lane : Fin 2)
  /-- PF_XOR (R262): A write to COUCH_PF_XOR toggles frame bits after 4 ticks. -/
  | pfXor (m : Master) (w : Fin 16) (mask : BitVec 32)
  /-- PF_CLR (R262): COUCH_CTRL.PF_CLR clears every frame while all quires are idle. -/
  | pfClr (m : Master) 
  /-- SE_START (R271): SE_CTRL.START checks the graph and arms the syndrome engine, or sets GRAPH_ERR. -/
  | seStart (m : Master) 
  /-- SE_STOP (R271): SE_CTRL.STOP ends the engine at once and discards the window. -/
  | seStop (m : Master) 
  /-- ROUND_CLOSE (R272): A syndrome round closes on its last delivery, its window timeout, or a repeated delivery. -/
  | roundClose
  /-- DECODE_PASS (R273): A decode pass for a closed round slides the window, forms detectors, grows, selects and peels clusters. -/
  | decodePass
  /-- DECODE_PASS_END (R280): A decode pass ends, writes its round-log entry and lets the next waiting round start. -/
  | decodePassEnd
  /-- BOUNDARY_ENTRY_RX (R277): A syndrome boundary entry arrives and is held for the puller's next pass or dropped. -/
  | boundaryEntryRx (p : Fin 8) (index : Fin 512) (round : Fin 256)
  /-- POST_EVENT (R283): A producer's event reaches its channels and is passed, dropped or blocked, reaching cells and asynchronous inputs. -/
  | postEvent (prod : Fin 674) (ps : Nat)
  /-- TASK_EXECUTION (R290): A sampled task input acts through its synchroniser and divider on its consumer. -/
  | taskExecution (i : Fin 593) (same : Bool)
  /-- SWFIRE (R286): A write of 1 to a POST_SWFIRE bit fires its producer. -/
  | swfire (m : Master) (mask : BitVec 32)
  /-- CELL_CLR (R293): POST_CTRL.CELL_CLR clears Q of every logic cell. -/
  | cellClr (m : Master) 
  /-- CAPTURE_ARM (R305): CAP_CTRL.ARM takes an idle capture unit into PREFILL, or is refused. -/
  | captureArm (m : Master) (u : Fin 16)
  /-- CAPTURE_STOP (R305): CAP_CTRL.STOP returns the unit to IDLE and discards any record in progress. -/
  | captureStop (m : Master) (u : Fin 16)
  /-- CAPTURE_FORCE (R307): CAP_CTRL.FORCE requests a software trigger 4 ticks later. -/
  | captureForce (m : Master) (u : Fin 16)
  /-- CAPTURE_CNT_CLR (R313): CAP_CTRL.CNT_CLR zeroes CAP_WR, CAP_RD and the record sequence in IDLE or DONE. -/
  | captureCntClr (m : Master) (u : Fin 16)
  /-- PREFILL_DONE (R305): PRE stored samples are held and the unit enters ARMED. -/
  | prefillDone (u : Fin 16)
  /-- CAPTURE_TRIGGER (R309): One or more conditions are met in a sample in ARMED and one trigger is accepted. -/
  | captureTrigger (u : Fin 16) (w : Nat) (k : Fin 16) (code : BitVec 12) (more : List (BitVec 12))
  /-- AUTO_TIMEOUT (R310): The auto timeout expires in ARMED and forces a trigger. -/
  | autoTimeout (u : Fin 16)
  /-- RECORD_COMPLETE (R314): POST samples are written, the header follows and CAP_WR counts the record. -/
  | recordComplete (u : Fin 16) (codes : List (BitVec 12)) (corrupt : List Nat) (off : Bool) (lostAt : Nat)
  /-- REARM_END (R305): 16 ticks after a header the unit enters PREFILL or FULL. -/
  | rearmEnd (u : Fin 16)
  /-- CAP_RD_WRITE (R313): A write of CAP_RD frees segments and takes a FULL unit to PREFILL. -/
  | capRdWrite (m : Master) (u : Fin 16) (val : BitVec 32)
  /-- PORT_ROLE_WRITE (R330): A write of CHN_PORT_CFG.ROLE starts training or turns the port off. -/
  | portRoleWrite (m : Master) (p : Fin 8) (role : Fin 4)
  /-- TRAIN_END (R330): After 8,192 ticks in TRAIN the port enters ALIGN. -/
  | trainEnd (p : Fin 8)
  /-- TRAIN_TIMEOUT (R330): 2 ms pass without reaching RUN and the port restarts training. -/
  | trainTimeout (p : Fin 8)
  /-- LINK_CELL_RX (R328): A link cell arrives and the peer's fields are stored, possibly taking the port to RUN. -/
  | linkCellRx (p : Fin 8) (lane : Fin 2) (c : LinkCell) (own : Option Int)
  /-- CELL_CRC_FAIL (R322): A cell fails its CRC and is discarded, counted and, after 8 in a row, the port retrains. -/
  | cellCrcFail (p : Fin 8) (lane : Fin 2) (word : BitVec 256)
  /-- PORT_REQ_WRITE (R332): A write of CHN_PORT_CFG.REQ requests Idle, Deep or Run, or is refused. -/
  | portReqWrite (m : Master) (p : Fin 8) (req : Fin 4)
  /-- IDLE_CELL_RX (R332): A lane-1 cell announcing a state is received, and Idle or Deep is entered after 8 each way. -/
  | idleCellRx (p : Fin 8) (st : Fin 4)
  /-- SIGNAL_DETECT (R334): The signal detector of a port in Deep sees training and starts TRAIN. -/
  | signalDetect (p : Fin 8)
  /-- EYE_SCAN_START (R335): CHN_EYE_CTRL.START begins an eye scan on a lane in Run. -/
  | eyeScanStart (m : Master) (p : Fin 8) (lane : Fin 2) (dwell : Fin 16) (vofs phase : Fin 128)
  /-- EYE_SCAN_DONE (R335): The eye scan has compared its bits and reports its count. -/
  | eyeScanDone (count : Nat)
  /-- HEARTBEAT_SEND (R340): Every 1,024 ticks a device sends a heartbeat on each tree port in Run. -/
  | heartbeatSend
  /-- HEARTBEAT (R340): A heartbeat is received carrying the neighbour's cluster state. -/
  | heartbeat (p : Fin 8) (src : Fin 64) (h : Heartbeat)
  /-- MASTER_TIMEOUT (R340): No heartbeat naming the master arrives within CL_MTMO and the follower enters HOLD. -/
  | masterTimeout
  /-- JOIN (R339): A JOIN reaches the master, which assigns a number or refuses. -/
  | join (p : Fin 8) (src : Fin 64) (uid : Nat) (bars : Fin 65536)
  /-- ASSIGN (R339): ASSIGN reaches the joiner, which adopts the epoch and its parent. -/
  | assign (p : Fin 8) (src : Fin 64) (uid : Nat) (dev : Fin 64) (epoch : Nat)
  /-- REFUSE (R339): REFUSE reaches the joiner, which sets REFUSED and stays in UNSYNC. -/
  | refuse (p : Fin 8) (src : Fin 64) (uid : Nat)
  /-- PART (R344): PART reaches the master and updates a device's barrier participation. -/
  | part (p : Fin 8) (src : Fin 64) (bars : Fin 65536)
  /-- SHOT_ANNOUNCE (R341): The master's generator announces boundary B at B − LEAD with a SHOT message. -/
  | shotAnnounce
  /-- SHOT (R342): A SHOT message is decoded; the boundary is accepted or found late or missed. -/
  | shot (p : Fin 8) (src : Fin 64) (b : Nat) (prev : Option Nat)
  /-- SHOT_NEXT_WRITE (R341): A write of CL_SHOT_NEXT_HI commits the next boundary, or is refused. -/
  | shotNextWrite (m : Master) (hi : BitVec 32)
  /-- BAR_ARRIVE (R344): BAR_ARRIVE reaches the master, which releases the cluster barrier when all have arrived. -/
  | barArrive (p : Fin 8) (src : Fin 64) (bar : Fin 16) (tt : Nat)
  /-- BAR_RELEASE (R99): BAR_RELEASE is decoded and participating threads rebase to R + GAP. -/
  | barRelease (p : Fin 8) (src : Fin 64) (bar : Fin 16) (r : Nat)
  /-- CL_PREPARE (R345): CL_CMD.PREPARE on the master opens an agreement and broadcasts PREPARE. -/
  | clPrepare (m : Master) (id : BitVec 16)
  /-- PREPARE (R345): PREPARE is received; the device validates its staged change and answers ACK. -/
  | prepare (p : Fin 8) (src : Fin 64) (epoch id : Nat)
  /-- ACK (R346): An ACK reaches the master, which commits or cancels when settled. -/
  | ack (p : Fin 8) (src : Fin 64) (epoch code : Nat)
  /-- PREPARE_TIMEOUT (R346): CL_PREP_TMO passes without all acceptances and the master cancels. -/
  | prepareTimeout
  /-- COMMIT (R347): COMMIT is received and its tick T recorded, or the device goes out of epoch. -/
  | commit (p : Fin 8) (src : Fin 64) (epoch t : Nat)
  /-- CANCEL (R347): CANCEL is received and the prepared shadow is discarded. -/
  | cancel (p : Fin 8) (src : Fin 64) (epoch : Nat)
  /-- COMMIT_APPLY (R347): At tick T a prepared device applies its staged change and adopts the new epoch. -/
  | commitApply
  /-- CL_RESYNC (R350): CL_CMD.RESYNC sends RESYNC to a target, or resynchronises the master itself. -/
  | clResync (m : Master) (target : Fin 64)
  /-- RESYNC (R350): RESYNC is received; the device adopts the epoch and clears out-of-epoch. -/
  | resync (p : Fin 8) (src dst : Fin 64) (epoch : Nat)
  /-- ECC_WRITEBACK (R355): A corrected word is written back in the next free window-class cycle. -/
  | eccWriteback (cls : Fin 7) (addr : Nat)
  /-- SCRUB_PASS (R357): The patrol scrubber reads words of classes 0–5 each period. -/
  | scrubPass (found : List ScrubFind) (met : List EccUse)
  /-- LPDDR6_TRAINING (R363): Firmware trains every LPDDR6 channel and sets READY or reports failed channels. -/
  | lpddr6Training (cap : Fin 65) (rate : Fin 10668) (failed : Fin 16)
  /-- LPDDR6_RECAL (R363): The controller recalibrates a channel, suspending it briefly. -/
  | lpddr6Recal (ch : Fin 4)
  /-- LPDDR6_REFRESH (R363): A refresh suspends a bank briefly. -/
  | lpddr6Refresh (ch : Fin 4) (bank : Fin 16)
  /-- REAM_STORE_START (R368): The next queued store begins when no store runs and no supply warning is present. -/
  | reamStoreStart
  /-- REAM_STORE_COMPLETE (R369): A store completes and fires producer 552. -/
  | reamStoreComplete
  /-- DMA_START (R380): DMA_CTRL.START starts a copy between host memory and BAR2, or is refused. -/
  | dmaStart (m : Master) (d : Fin 4) (dir : Bool) (data : List Nat)
  /-- DMA_DONE (R380): A DMA copy ends with DONE or ERR and vector 34 + d. -/
  | dmaDone (d : Fin 4)
  /-- ETH_FRAME_RX (R381): An Ethernet frame for ARP, NDP, ICMP or no supported service is received and answered or discarded. -/
  | ethFrameRx (e : Fin 2) (f : RxFrame)
  /-- HELLO (R385): HELLO opens a session attempt and is answered with CHALLENGE, AUTH or BUSY. -/
  | feltHello (via : Via) (seq : Nat) (priv : Fin 4) (key : Nat)
  /-- OPEN (R385): OPEN carries the client's signature and is answered with ACCEPT or AUTH. -/
  | feltOpen (via : Via) (session seq : Nat) (sigOk : Bool)
  /-- READ (R389): READ returns a dictionary value or segment. -/
  | feltRead (h : FeltHead) (index sub offset maxlen : Nat)
  /-- WRITE (R389): WRITE writes a dictionary value, segment or staged change after checks. -/
  | feltWrite (h : FeltHead) (stage last : Bool) (index sub offset change : Nat) (val : List Nat)
  /-- SUBSCRIBE (R389): SUBSCRIBE sets the session's host-notification mask. -/
  | feltSubscribe (h : FeltHead) (mask : Nat)
  /-- NOTIFY_ACK (R390): NOTIFY_ACK acknowledges a NOTIFY, releasing any pending count as a new NOTIFY. -/
  | feltNotifyAck (h : FeltHead) (devseq : Nat)
  /-- KEEPALIVE (R389): KEEPALIVE keeps a session open. -/
  | feltKeepalive (h : FeltHead)
  /-- CLOSE (R388): CLOSE closes a session and discards its staged writes. -/
  | feltClose (h : FeltHead)
  /-- NOTIFY_RESEND (R390): Every 100 ms an unacknowledged NOTIFY is sent again. -/
  | feltNotifyResend (session : Nat) (n : Fin 32)
  /-- SESSION_IDLE_TIMEOUT (R388): No valid request arrives within the idle time and the session closes. -/
  | sessionIdleTimeout (session : Nat)
  /-- MAILBOX_GO (R391): MBX_CTRL.GO submits a Felt message through the PCIe mailbox. -/
  | mailboxGo (m : Master) (len : Fin 8192)
  /-- MAILBOX_RESPONSE (R391): The mailbox response is written, RSP_VALID sets and vector 32 is signalled. -/
  | mailboxResponse
  /-- STORE_ALL (R396): A write of 0x5354_4F52 to 0x10F0:01 queues a store of every RWS value. -/
  | storeAll (h : FeltHead)
  /-- RESTORE_DEFAULTS (R396): A write of 0x4446_4C54 to 0x10F0:02 queues a store of an empty record. -/
  | restoreDefaults (h : FeltHead)
  /-- DISCARD_STAGED (R397): Writing 1 to 0x2110:03 discards the staged set. -/
  | discardStaged (h : FeltHead)
  /-- PMB_UP (R402): PMB_CMD.UP starts the up sequence over enabled entries. -/
  | pmbUp (m : Master)
  /-- PMB_DOWN (R403): PMB_CMD.DOWN starts the down sequence over the entries that are up. -/
  | pmbDown (m : Master)
  /-- PMB_POLL (R402): Every 100 µs the master polls READ_VOUT of the entry being sequenced. -/
  | pmbPoll (cmd vout : PmbRead)
  /-- PMB_ENTRY_TIMEOUT (R402): An entry is not up or down within TMO ms and faults or is passed. -/
  | pmbEntryTimeout
  /-- PMB_DELAY_END (R402): The DELAY after an entry ends and the sequence moves on. -/
  | pmbDelayEnd
  /-- PMB_MONITOR_ROUND (R403): Every PERIOD ms the master reads the status of each up entry and applies fault actions. -/
  | pmbMonitorRound (l : List PmbStatus)
  /-- PMB_SALERT (R401): PMB_SALERT_N falls and STATUS_WORD of every enabled entry is polled. -/
  | pmbSalert (low : Bool) (l : List (Fin 16 × PmbRead))
  /-- ROOT_PROVISION (R407): The first write to 0x1200:02 blows the customer root hash into the fuses. -/
  | rootProvision (h : FeltHead) (modulus : List Nat)
  /-- KEY_INSTALL (R408): A certificate written to 0x1201:01 installs or replaces a client key entry. -/
  | keyInstall (h : FeltHead) (obj : SignedObj) (id priv : Nat)
  /-- KEY_REMOVE (R408): An identifier written to 0x1201:02 removes its entry and closes its sessions. -/
  | keyRemove (h : FeltHead) (id : Nat)
  /-- IMAGE_WRITE (R410): A firmware image written to 0x1220:01 is verified, stored and made the trial image. -/
  | imageWrite (h : FeltHead) (obj : SignedObj)
  /-- IMAGE_CONFIRM (R410): Writing 0x434F_4E46 to 0x1220:02 confirms the running image and advances the fuse counter. -/
  | imageConfirm (h : FeltHead)
  /-- RECOVERY_IMAGE (R412): A TYPE 0x30 recovery message writes a verified image to slot A and resets. -/
  | recoveryImage (seq : Nat) (obj : SignedObj)
  /-- QUOTE_REQUEST (R413): A nonce written to 0x1210:01 makes the device form a signed quote. -/
  | quoteRequest (h : FeltHead) (nonce : List Nat)
  /-- QUOTE_READ (R413): A read of 0x1210:02 returns the quote, or NO_OBJECT before any nonce. -/
  | quoteRead (h : FeltHead) (offset maxlen : Nat)
  /-- DEBUG_TOKEN (R414): A debug unlock token arrives and opens the port at its level, or fails. -/
  | debugToken (word : DebugWord) (nonce : Nat) (level : Fin 4) (uidOk : Bool)
  /-- ZEROIZE (R416): ZEROIZE_N held low for 10 ms starts zeroization. -/
  | zeroize
  /-- SIZING_RUN (R425): SZ_Q_CMD.RUN makes a Sizing run of the quire due. -/
  | sizingRun (m : Master) (q : Fin 16)
  /-- PRESS_FIT_REQUEST (R434): SZ_Q_CMD.PRESS requests a Press fit of one flux channel at the next idle. -/
  | pressFitRequest (m : Master) (q : Fin 16) (ch : Fin 32)
  /-- SIZING_ABORT (R422): SZ_Q_CMD.ABORT abandons the running S or L procedure. -/
  | sizingAbort (m : Master) (q : Fin 16)
  /-- TEMP_UPDATE (R424): Every 64 ms a quire temperature is updated, triggering interpolation or a run. -/
  | tempUpdate (q : Fin 16) (t : Option Int)
  /-- SIZING_IDLE_RUN_START (R421): After 16 idle ticks the Vatman starts the quire's S and L procedures. -/
  | sizingIdleRunStart (q : Fin 16)
  /-- PROCEDURE_COMPLETE (R431): A Sizing procedure ends and its values are checked and accepted or rejected. -/
  | procedureComplete (q : Fin 16) (proc : Fin 9) (values : List SzValue)
  /-- FACTORY_SET_WRITE (R433): A signed factory set written to 0x2410 + q:01 replaces the factory points. -/
  | factorySetWrite (h : FeltHead) (q : Fin 16) (obj : SignedObj) (ps : List SzPoint)
  /-- FIELD_SET_WRITE (R433): A field set written to 0x2410 + q:02 is checked and replaces the field points. -/
  | fieldSetWrite (h : FeltHead) (q : Fin 16) (ps : List (SzPoint × List Nat))
  /-- POWER_REQ (R439): A write of PWR_CTRL.REQ requests a power state, accepted or refused. -/
  | powerReq (m : Master) (req : Fin 4)
  /-- POWER_TRANSITION_COMPLETE (R440): A power-state change finishes its entry actions or ramps and the new state takes effect. -/
  | powerTransitionComplete
  /-- WAKE (R450): An enabled wake source acts in Standby or Dormant and the device returns to Active. -/
  | wake (w : WakeSource) (rails : Bool)
  /-- CORE_WARNING (R444): The VDD_CORE warning asserts, aborting stores and Sizing and tainting shots. -/
  | coreWarning
  /-- CORE_WARNING_RELEASE (R444): The VDD_CORE warning releases and held log entries are stored. -/
  | coreWarningRelease
  /-- BROWN_OUT (R445): The VDD_CORE reset detector asserts and the device resets. -/
  | brownOut
  /-- RAIL_LOSS (R446): RGOOD of a converter die falls and its domains switch off. -/
  | railLoss (g : Fin 4)
  /-- LOFT_CONVERSION (R447): The housekeeping ADC completes a conversion, updating filters and decision units. -/
  | loftConversion (slot : Fin 64) (result : BitVec 16)
  /-- THERMAL_SAMPLE (R454): The 1 kHz thermal sample updates zone levels and the thermal state. -/
  | thermalSample (l : List (Option Int))
  /-- SENSOR_SELF_TEST (R453): The once-per-second self-test checks each junction sensor and marks failed ones. -/
  | sensorSelfTest (failed : List (Fin 64))
  /-- GRACE_EXPIRY (R455): GRACE passes in REQUEST and the thermal state enters ENFORCE. -/
  | graceExpiry
  /-- PWR_STOP (R455): PWR_CTRL.STOP starts the orderly stop. -/
  | pwrStop (m : Master) 
  /-- ORDERLY_STOP (R458): At stop tick S threads stop and flush, outputs mute, ladders ramp and bias pairs go down. -/
  | orderlyStop
  /-- STOP_POWERDOWN (R458): At S + 500,000 ladders are at zero and converter domains switch off. -/
  | stopPowerdown
  /-- PWR_RESTART (R459): PWR_CTRL.RESTART switches converter domains back on and clears every output enable, or is refused. -/
  | pwrRestart (m : Master) 
  /-- THERMAL_TRIP (R460): A sensor's 125 °C comparator fires and every domain but always-on switches off. -/
  | thermalTrip (n : Fin 64)
  /-- CORE_FAULT (R462): A sequencer core's issue copies mismatch and the core commits nothing further. -/
  | coreFault (q : Fin 16)
  /-- CORE_SUBSTITUTION (R462): The regional spare core resumes the quire's threads from the shadow. -/
  | coreSubstitution (g : Fin 4) (pass : Bool)
  /-- WATCHDOG_EXPIRY (R464): A management core misses its 100 ms watchdog and is restarted by another. -/
  | watchdogExpiry (core : Fin 4)
  /-- MGMT_CORE_RESTART (R464): A restarted management core resumes from its image. -/
  | mgmtCoreRestart (core : Fin 4)
  /-- DEVICE_TIME_TICK (R47): At the start of every TICK cycle device time increments and the per-tick work runs: continuous Couch sources deliver, spares audit, and lookahead stalls are re-tested. -/
  | deviceTimeTick
  /-- PHASE_LOOP_OUT_OF_LOCK (R330): A chain lane's phase-tracking loop loses lock and the port leaves RUN for TRAIN with DOWN latched and counted. -/
  | phaseLoopOutOfLock (p : Fin 8) (lane : Fin 2)
  /-- SUPPLY_RAIL_RETURN (R441): Rails removed in Dormant, or converter rails that came late, return good so that a waiting wake or domain switch-on can proceed. -/
  | supplyRailReturn (g : Option (Fin 4))
  /-- BIAS_TMO_EXPIRY (R458): PWR_STOP.BIAS_TMO runs out during an orderly stop or Standby entry, so any bias switch still ramping opens and the bias domains switch off. -/
  | biasTmoExpiry
  /-- PCIE_LINK_CHANGE (R378): The PCIe link trains up, changes width or speed, or goes down, including when PCIEREF is lost, and PCI_LINK follows. -/
  | pcieLinkChange (width speed : Fin 16)
  /-- ETH_LINK_CHANGE (R381): An Ethernet port's link comes up or goes down, including when ETHREF is lost (R480), stopping Ethernet and PTP on it. -/
  | ethLinkChange (e : Fin 2) (up : Bool)
  /-- DEBUG_NONCE_REQUEST (R414): An unlock request on the JTAG debug port returns a fresh 32-byte nonce and the UID, unless the 1 s lockout after a failed token is still running. -/
  | debugNonceRequest
deriving DecidableEq, Repr

end Sys2Proof
end

