-- ==== Sys2Proof/Decode.lean ====
section
/-! DEFINITION. Reading a command from a word's bits: no row of the table gives bits (every command carries its operands from outside), so no
word spells a command. -/

namespace Sys2Proof

/-- The command a word spells by the table's bits: none, since no row gives any. -/
def decodeTableWord (_nbits _w : Nat) : Option Instr := none

end Sys2Proof
end

