-- ==== Sys2Proof/Config.lean ====
section
/-! DEFINITION. What the spec leaves open: constants without a body, so that nothing can be proved of the value they take. Each is
named in the assumption log. -/

namespace Sys2Proof.Config

/-- A free natural number, by the model's own counter: a value the spec gives no rule for. -/
opaque freeNat : Nat → Nat

/-- The interpolator's response at an offset of so many DACS samples from a sample's nominal position (R115): its coefficients are not
published; it is linear-phase, so that both sides are equal. -/
opaque interp : Nat → Rat

/-- A resampled value below full rate (R114, R153): the coefficients are not published. Argument: counter; in 2^-15 of full scale. -/
opaque resampled : Nat → Int

/-- The cosine an NCO forms, and the sine, by the bits [47:22] of its accumulator (R51, R113, R198): the table's entries are not published.
-/
opaque ncoCos : Nat → Rat
opaque ncoSin : Nat → Rat

/-- The factory asymmetry term of a chain port, in fine units (R58): identity data of the device. -/
opaque factoryAsym : Nat → Int

/-- Bits [249:16] of a link cell, from what it carries (R328): the spec lists its fields and gives them no places. -/
opaque linkLayout : Sys2Proof.LinkCell → BitVec 234

/-- Whether a mean that is no whole number of fine units is given as the next unit above (R57): the spec states no rounding. -/
opaque meanUp : Int → Bool

/-- The whole fine units of a measurement (R57): the mean of 1,024 exchanges, from twice their sum, as one of the two units it lies
between. -/
def roundMean (x : Int) : Int := x / 2048 + (if x % 2048 = 0 then 0 else (meanUp x).toNat)

/-- How fast the servo slews for an offset in ns, in 2^-32 (R63, R65), before its limit; the spec gives no servo law. -/
opaque servoRate : Int → Nat

/-- Bytes the spec does not determine (an HMAC tag, a nonce, an encrypted key), by the model's own counter. -/
opaque freeByte : Nat → BitVec 8

/-- The SHA-512 of a string of bytes, as a number (R405 to R413). -/
opaque sha512 : List Nat → Nat

/-- The signature of the identity key over a quote's content (R413). -/
opaque quoteSig : List Nat → Nat

/-- The SHA-512 of the firmware image in a slot with an SVN, and over the digests of the signed bundles loaded, by the model's counter
(R413). -/
opaque imageHash : Nat → Nat → Nat
opaque bundleHash : Nat → Nat

/-- What the bytes of a signed object, a certificate or a calibration set spell (R406, R408, R433), whose layout the spec gives only in
part: none where they spell none. -/
opaque readObj : List Nat → Option Sys2Proof.SignedObj
opaque readCert : List Nat → Option (Sys2Proof.SignedObj × Nat × Nat)
opaque readPoints : List Nat → List (Sys2Proof.SzPoint × List Nat)

/-- The bytes of a calibration set's points (R433). -/
opaque pointBytes : List Sys2Proof.SzPoint → List Nat

/-- Identity data and figures the spec gives only "per fuse", "per silicon", "per port" or "per input", by dictionary index and
subindex. -/
opaque identity : Nat → Nat → Nat

/-- The bytes of the event log as dictionary entry 0x2320 reads it (R465). -/
opaque logByte : Nat → BitVec 8

/-- The LPDDR6 bank, within its channel, of a byte address (R362): the spec gives the channel, not the bank. -/
opaque ddrBank : Nat → Nat

end Sys2Proof.Config
end

