-- ==== Sys2Proof/Machine/RegNames.lean ====
section
/-! DEFINITION. The names of the device's registers, and what a register field is: where it stands, how wide it is,
what it holds at reset and which access code of R1 it has. A register is a name with up to three indices (quire, thread, tone,
port ...), so that a field is one key of the state and two fields never share storage. -/

namespace Sys2Proof.Machine

/-- Every register (or register family, indexed) that the chapters' register tables give the device. -/
inductive RegName where
  | CHIP_IDENT | CHIP_PERS | CHIP_FAULT_STAT | CHIP_FAULT_LATCH | NOC_ARB | TB_REF_STAT | TB_TIME_LO | TB_TIME_HI
  | TB_TSTAT | TB_TLATCH | TB_OFFSET | TB_PHASE | TB_EVCNT | TB_WCT_NS | TB_WCT_SEC_LO | TB_WCT_SEC_HI | TB_WCT_DT_LO
  | TB_WCT_DT_HI | TB_WCT_STAT | TB_WCT_OFFSET | TB_WCT_RATE | TB_LAUNCH_CNT | TB_PORT_DELAY | TB_PORT_ASYM
  | SEQ_CTRL | SEQ_STAT | SEQ_LAH | SEQ_SYNC | SEQ_SYNC_TMO | SEQ_EVFLAG | SEQ_CNT_LATE | SEQ_CNT_SEG | SEQ_CNT_STALL
  | SEQ_BAR | STRM_CTRL | STRM_RING | STRM_SRC_LO | STRM_SRC_HI | STRM_SRC_LEN | STRM_LEVEL | STRM_STAT | STRM_CNT
  | THR_CTRL | THR_PC | THR_WIN | THR_STAT | THR_LATCH | THR_TT_LO | THR_TT_HI | THR_START_LO | THR_START_HI
  | THR_CNT | THR_SUB | SEG_W0 | SEG_W1 | SEG_W2 | SEG_W3 | TONE_SPARE_STAT | TONE_SPARE_CTRL | TONE_SPARE_CNT
  | TONE_CTRL | TONE_FTW_LO | TONE_FTW_HI | TONE_AT_LO | TONE_AT_HI | TONE_FRAME | TONE_GAIN | TONE_STAT | TONE_LATCH
  | TONE_CNT | DRV_CFG | DRV_DELAY | DRV_STAT | DRV_LATCH | DRV_CNT | DRV_MUTE | DRV_CW | DRV_PD_CTRL | DRV_PD_COEF
  | DRV_QSTAT | FLX_CFG | FLX_LADDER | FLX_LADDER_NOW | FLX_SLOW_RAMP | FLX_STAT | FLX_LATCH | FLX_CNT | FLX_MUTE
  | FLX_XGAIN | FLX_PRESS_CTRL | FLX_IIR_C0 | FLX_IIR_C1 | FLX_IIR_D | FLX_FIR | BIAS_CFG | BIAS_SET | BIAS_NOW
  | BIAS_RAMP | BIAS_STAT | BIAS_LATCH | BIAS_SEQ | DK_WIN_CFG | DK_WIN_THR | DK_WIN_CNT | DK_GRP_CFG | DK_GRP_QMASK
  | DK_STAT | DK_LATCH | DK_EXT | DK_EXT_CTRL | DK_RB | DK_RB_DATA | DK_QMAP | HB_CTRL | HB_STAT | HB_LATCH
  | HB_CNT_A | HB_CNT_B | HB_RQ_CFG | HB_RQ_CREDIT | HB_RQ_COUNT | HB_RQ_PEAK | HB_RQ_STAT | HB_RQ_CNT | HB_RQ_DST_LO
  | HB_RQ_DST_HI | HB_RQ_DST_SIZE | HB_RQ_DST_WR | HB_RQ_DST_RD | HB_RQ_HEAD | HB_RQ_POP | HB_SPARE_STAT
  | HB_SPARE_CTRL | HB_SPARE_CNT | HB_RQ_DATA | HB_CELL_CFG | HB_CELL_FTW_LO | HB_CELL_FTW_HI | HB_CELL_PHASE
  | HB_DISC_CFG | HB_DISC_ROT | HB_DISC_OFS_I | HB_DISC_OFS_Q | HB_DISC_THR0 | HB_DISC_THR1 | HB_CELL_STAT
  | HB_CELL_LAST_I | HB_CELL_LAST_Q | HB_CELL_LATCH | HB_CELL_CNT | WGT_W0 | WGT_W1 | WGT_W2 | WGT_W3 | BT_CTRL
  | BT_STAT | BT_ESTAT | BT_LATCH | BT_CNT | BT_OUT | CTX_CTRL | CTX_PC | CTX_WIN | CTX_STAT | CTX_LATCH | CTX_CNT
  | CTX_IN | CTX_IX | CTX_PTR_A | CTX_PTR_B | COUCH_CTRL | COUCH_LATCH | COUCH_CNT | COUCH_PSRC | SE_CTRL | SE_GEOM
  | SE_RWIN | SE_STAT | SE_LATCH | SE_CNT_A | SE_CNT_B | SE_CNT_C | SE_ROUND | SE_LOG | SE_GERR | COUCH_PORT
  | SE_PORT | DX_CFG | XIN_CFG | FRULE_A | FRULE_B | COUCH_SLOT | COUCH_PF | COUCH_PF_XOR | POST_CTRL | POST_SWFIRE
  | POST_GRP | POST_GRP_ONCE | POST_CH | POST_CHCNT | POST_CELL | POST_GCNT | POST_CSEL | POST_CCNT | CAP_CFG
  | CAP_TRIG | CAP_THR | CAP_PRE | CAP_POST | CAP_SEG | CAP_AUTO | CAP_TT_LO | CAP_TT_HI | CAP_TPER | CAP_CTRL
  | CAP_STAT | CAP_WR | CAP_RD | CAP_LATCH | CAP_IGN_A | CAP_IGN_B | CL_CFG | CL_CID | CL_UID_LO | CL_UID_HI
  | CL_STAT | CL_EPOCH | CL_LATCH | CL_CMD | CL_AGREE | CL_PREP_TMO | CL_MTMO | CL_EXCL_LO | CL_EXCL_HI | CL_MEMB_LO
  | CL_MEMB_HI | CL_SHOT_CTRL | CL_SHOT_PER | CL_SHOT_NEXT_LO | CL_SHOT_NEXT_HI | CHN_EYE_CTRL | CHN_EYE_RES
  | CHN_EYE_STAT | CL_BARPART_LO | CL_BARPART_HI | CHN_PORT_CFG | CHN_PORT_STAT | CHN_PORT_LATCH | CHN_PORT_CNT_A
  | CHN_PORT_CNT_B | CHN_PORT_SKEW | CHN_PEER_UID_LO | CHN_PEER_UID_HI | MEM_ECC_CNT | MEM_ECC_LATCH | MEM_UE_ADDR
  | MEM_SCRUB | MEM_DWIN | MEM_DDR_STAT | MEM_DDR_CNT | REAM_STAT | REAM_CNT | BUS_ERR_STAT | BUS_ERR_ADDR | BUS_CNT
  | BUS_LOCK_ADDR | MBX_CTRL | MBX_STAT | MBX_REQ | MBX_RSP | ETH_STAT | ETH_TXR_LO | ETH_TXR_HI | ETH_TXR_SIZE
  | ETH_TXR_WR | ETH_TXR_RD | ETH_TXCNT | PCI_LINK | PCI_NOTIFY_EN | MSIX_TABLE | MSIX_PBA | DMA_HOST_LO
  | DMA_HOST_HI | DMA_DEV | DMA_LEN | DMA_CTRL | DMA_STAT | PMB_CFG | PMB_CMD | PMB_STAT | PMB_LATCH | PMB_ENT_A
  | PMB_ENT_B | PMB_ENT_STAT | PMB_ENT_MEAS | SEC_STAT | SEC_SVN | SEC_CNT | SZ_CTRL | SZ_Q_CFG | SZ_Q_CMD
  | SZ_Q_STAT | SZ_Q_TEMP | SZ_Q_LATCH | SZ_Q_REJ | SZ_Q_CNT | PWR_CTRL | PWR_STAT | PWR_LATCH | PWR_CNT
  | PWR_RST_CAUSE | PWR_SHOTCAP | PWR_SHOTEFF | PWR_STOP | THM_CFG | THM_STAT | THM_LATCH | THM_CNT | PWR_DOM
  | THM_ZONE | LOFT_WAKE | LOFT_WAKE_SRC | LOFT_SCAN | LOFT_DATA | LOFT_FILT | LOFT_FOUT | LOFT_DEC_A | LOFT_DEC_B
  | QERR_STAT | QERR_LATCH | QERR_CNT
deriving DecidableEq, Repr

/-- The access codes of R1: read/write, read-only, write-one-to-clear latch, counter, write-only strobe. -/
inductive Acc where
  | rw | ro | w1c | cnt | wo
deriving DecidableEq, Repr

/-- One register: its name and its indices (0 where the register has fewer). -/
structure Reg where
  name : RegName
  i : Nat
  j : Nat
  k : Nat
deriving DecidableEq, Repr

/-- The key a field is stored under: its register and its lowest bit. -/
structure FKey where
  reg : Reg
  lsb : Nat
deriving DecidableEq, Repr

/-- One field of a register: its key, its width in bits and its value at reset. -/
structure Fld where
  key : FKey
  width : Nat
  rst : Nat
deriving DecidableEq, Repr

end Sys2Proof.Machine
end

