-- ==== Sys2Proof/Machine/RegFields.lean ====
section
/-! DEFINITION. Every field of every register, as the chapters' register tables give it: key, width and reset value. The
docstring of a field gives its bits, its access code and the chapter of spec/ whose table it follows. -/

namespace Sys2Proof.Machine.F

/-- CHIP_IDENT.PART [31:16] RO, 01_architecture. -/
def CHIP_IDENT_PART : Fld := ⟨⟨⟨.CHIP_IDENT, 0, 0, 0⟩, 16⟩, 16, 0xc256⟩
/-- CHIP_IDENT.DIE_REV [15:8] RO, 01_architecture. -/
def CHIP_IDENT_DIE_REV : Fld := ⟨⟨⟨.CHIP_IDENT, 0, 0, 0⟩, 8⟩, 8, 0x0⟩
/-- CHIP_IDENT.ORDER [7:4] RO, 01_architecture. -/
def CHIP_IDENT_ORDER : Fld := ⟨⟨⟨.CHIP_IDENT, 0, 0, 0⟩, 4⟩, 4, 0x0⟩
/-- CHIP_PERS.MASTER [3] RO, 01_architecture. -/
def CHIP_PERS_MASTER : Fld := ⟨⟨⟨.CHIP_PERS, 0, 0, 0⟩, 3⟩, 1, 0x0⟩
/-- CHIP_PERS.FUSED [2] RO, 01_architecture. -/
def CHIP_PERS_FUSED : Fld := ⟨⟨⟨.CHIP_PERS, 0, 0, 0⟩, 2⟩, 1, 0x0⟩
/-- CHIP_PERS.ACTIVE [1] RO, 01_architecture. -/
def CHIP_PERS_ACTIVE : Fld := ⟨⟨⟨.CHIP_PERS, 0, 0, 0⟩, 1⟩, 1, 0x0⟩
/-- CHIP_PERS.STRAP [0] RO, 01_architecture. -/
def CHIP_PERS_STRAP : Fld := ⟨⟨⟨.CHIP_PERS, 0, 0, 0⟩, 0⟩, 1, 0x0⟩
/-- CHIP_FAULT_STAT.CHIP [20] RO, 01_architecture. -/
def CHIP_FAULT_STAT_CHIP : Fld := ⟨⟨⟨.CHIP_FAULT_STAT, 0, 0, 0⟩, 20⟩, 1, 0x0⟩
/-- CHIP_FAULT_STAT.REGION [19:16] RO, 01_architecture. -/
def CHIP_FAULT_STAT_REGION : Fld := ⟨⟨⟨.CHIP_FAULT_STAT, 0, 0, 0⟩, 16⟩, 4, 0x0⟩
/-- CHIP_FAULT_STAT.QUIRE [15:0] RO, 01_architecture. -/
def CHIP_FAULT_STAT_QUIRE : Fld := ⟨⟨⟨.CHIP_FAULT_STAT, 0, 0, 0⟩, 0⟩, 16, 0x0⟩
/-- CHIP_FAULT_LATCH.CHIP [20] W1C, 01_architecture. -/
def CHIP_FAULT_LATCH_CHIP : Fld := ⟨⟨⟨.CHIP_FAULT_LATCH, 0, 0, 0⟩, 20⟩, 1, 0x0⟩
/-- CHIP_FAULT_LATCH.REGION [19:16] W1C, 01_architecture. -/
def CHIP_FAULT_LATCH_REGION : Fld := ⟨⟨⟨.CHIP_FAULT_LATCH, 0, 0, 0⟩, 16⟩, 4, 0x0⟩
/-- CHIP_FAULT_LATCH.QUIRE [15:0] W1C, 01_architecture. -/
def CHIP_FAULT_LATCH_QUIRE : Fld := ⟨⟨⟨.CHIP_FAULT_LATCH, 0, 0, 0⟩, 0⟩, 16, 0x0⟩
/-- NOC_ARB.W_TC3 [19:16] RW, 01_architecture. -/
def NOC_ARB_W_TC3 : Fld := ⟨⟨⟨.NOC_ARB, 0, 0, 0⟩, 16⟩, 4, 0x1⟩
/-- NOC_ARB.W_TC2 [15:12] RW, 01_architecture. -/
def NOC_ARB_W_TC2 : Fld := ⟨⟨⟨.NOC_ARB, 0, 0, 0⟩, 12⟩, 4, 0x2⟩
/-- NOC_ARB.W_TC1 [11:8] RW, 01_architecture. -/
def NOC_ARB_W_TC1 : Fld := ⟨⟨⟨.NOC_ARB, 0, 0, 0⟩, 8⟩, 4, 0x4⟩
/-- NOC_ARB.TC0_RES [7:0] RW, 01_architecture. -/
def NOC_ARB_TC0_RES : Fld := ⟨⟨⟨.NOC_ARB, 0, 0, 0⟩, 0⟩, 8, 0x80⟩
/-- TB_REF_STAT.LOCK_LOSS [3] W1C, 02_timebase. -/
def TB_REF_STAT_LOCK_LOSS : Fld := ⟨⟨⟨.TB_REF_STAT, 0, 0, 0⟩, 3⟩, 1, 0x0⟩
/-- TB_REF_STAT.REF_LOSS [2] W1C, 02_timebase. -/
def TB_REF_STAT_REF_LOSS : Fld := ⟨⟨⟨.TB_REF_STAT, 0, 0, 0⟩, 2⟩, 1, 0x0⟩
/-- TB_REF_STAT.DANDY_LOCK [1] RO, 02_timebase. -/
def TB_REF_STAT_DANDY_LOCK : Fld := ⟨⟨⟨.TB_REF_STAT, 0, 0, 0⟩, 1⟩, 1, 0x0⟩
/-- TB_REF_STAT.REF_PRESENT [0] RO, 02_timebase. -/
def TB_REF_STAT_REF_PRESENT : Fld := ⟨⟨⟨.TB_REF_STAT, 0, 0, 0⟩, 0⟩, 1, 0x0⟩
/-- TB_TIME_LO.TIME [31:0] RO, 02_timebase. -/
def TB_TIME_LO_TIME : Fld := ⟨⟨⟨.TB_TIME_LO, 0, 0, 0⟩, 0⟩, 32, 0x0⟩
/-- TB_TIME_HI.TIME [31:0] RO, 02_timebase. -/
def TB_TIME_HI_TIME : Fld := ⟨⟨⟨.TB_TIME_HI, 0, 0, 0⟩, 0⟩, 32, 0x0⟩
/-- TB_TSTAT.PARENT_HOLD [11] RO, 02_timebase. -/
def TB_TSTAT_PARENT_HOLD : Fld := ⟨⟨⟨.TB_TSTAT, 0, 0, 0⟩, 11⟩, 1, 0x0⟩
/-- TB_TSTAT.MEAS_BUSY [10] RO, 02_timebase. -/
def TB_TSTAT_MEAS_BUSY : Fld := ⟨⟨⟨.TB_TSTAT, 0, 0, 0⟩, 10⟩, 1, 0x0⟩
/-- TB_TSTAT.PARENT_VALID [9] RO, 02_timebase. -/
def TB_TSTAT_PARENT_VALID : Fld := ⟨⟨⟨.TB_TSTAT, 0, 0, 0⟩, 9⟩, 1, 0x0⟩
/-- TB_TSTAT.PARENT [7:4] RO, 02_timebase. -/
def TB_TSTAT_PARENT : Fld := ⟨⟨⟨.TB_TSTAT, 0, 0, 0⟩, 4⟩, 4, 0x0⟩
/-- TB_TSTAT.STATE [2:0] RO, 02_timebase. -/
def TB_TSTAT_STATE : Fld := ⟨⟨⟨.TB_TSTAT, 0, 0, 0⟩, 0⟩, 3, 0x0⟩
/-- TB_TLATCH.FENCE [4] W1C, 02_timebase. -/
def TB_TLATCH_FENCE : Fld := ⟨⟨⟨.TB_TLATCH, 0, 0, 0⟩, 4⟩, 1, 0x0⟩
/-- TB_TLATCH.RANGE [3] W1C, 02_timebase. -/
def TB_TLATCH_RANGE : Fld := ⟨⟨⟨.TB_TLATCH, 0, 0, 0⟩, 3⟩, 1, 0x0⟩
/-- TB_TLATCH.SYNC_FAIL [2] W1C, 02_timebase. -/
def TB_TLATCH_SYNC_FAIL : Fld := ⟨⟨⟨.TB_TLATCH, 0, 0, 0⟩, 2⟩, 1, 0x0⟩
/-- TB_TLATCH.ADJUST [1] W1C, 02_timebase. -/
def TB_TLATCH_ADJUST : Fld := ⟨⟨⟨.TB_TLATCH, 0, 0, 0⟩, 1⟩, 1, 0x0⟩
/-- TB_TLATCH.HOLD [0] W1C, 02_timebase. -/
def TB_TLATCH_HOLD : Fld := ⟨⟨⟨.TB_TLATCH, 0, 0, 0⟩, 0⟩, 1, 0x0⟩
/-- TB_OFFSET.THETA [31:0] RO, 02_timebase. -/
def TB_OFFSET_THETA : Fld := ⟨⟨⟨.TB_OFFSET, 0, 0, 0⟩, 0⟩, 32, 0x0⟩
/-- TB_PHASE.DIV_PHASE [22:16] RO, 02_timebase. -/
def TB_PHASE_DIV_PHASE : Fld := ⟨⟨⟨.TB_PHASE, 0, 0, 0⟩, 16⟩, 7, 0x0⟩
/-- TB_PHASE.TRIM [6:0] RO, 02_timebase. -/
def TB_PHASE_TRIM : Fld := ⟨⟨⟨.TB_PHASE, 0, 0, 0⟩, 0⟩, 7, 0x40⟩
/-- TB_EVCNT.HOLDS [31:16] CNT, 02_timebase. -/
def TB_EVCNT_HOLDS : Fld := ⟨⟨⟨.TB_EVCNT, 0, 0, 0⟩, 16⟩, 16, 0x0⟩
/-- TB_EVCNT.ADJUSTS [15:0] CNT, 02_timebase. -/
def TB_EVCNT_ADJUSTS : Fld := ⟨⟨⟨.TB_EVCNT, 0, 0, 0⟩, 0⟩, 16, 0x0⟩
/-- TB_WCT_NS.VALUE [31:0] RO, 02_timebase. -/
def TB_WCT_NS_VALUE : Fld := ⟨⟨⟨.TB_WCT_NS, 0, 0, 0⟩, 0⟩, 32, 0x0⟩
/-- TB_WCT_SEC_LO.VALUE [31:0] RO, 02_timebase. -/
def TB_WCT_SEC_LO_VALUE : Fld := ⟨⟨⟨.TB_WCT_SEC_LO, 0, 0, 0⟩, 0⟩, 32, 0x0⟩
/-- TB_WCT_SEC_HI.VALUE [15:0] RO, 02_timebase. -/
def TB_WCT_SEC_HI_VALUE : Fld := ⟨⟨⟨.TB_WCT_SEC_HI, 0, 0, 0⟩, 0⟩, 16, 0⟩
/-- TB_WCT_DT_LO.TIME [31:0] RO, 02_timebase. -/
def TB_WCT_DT_LO_TIME : Fld := ⟨⟨⟨.TB_WCT_DT_LO, 0, 0, 0⟩, 0⟩, 32, 0x0⟩
/-- TB_WCT_DT_HI.TIME [31:0] RO, 02_timebase. -/
def TB_WCT_DT_HI_TIME : Fld := ⟨⟨⟨.TB_WCT_DT_HI, 0, 0, 0⟩, 0⟩, 32, 0x0⟩
/-- TB_WCT_STAT.PORT [2] RO, 02_timebase. -/
def TB_WCT_STAT_PORT : Fld := ⟨⟨⟨.TB_WCT_STAT, 0, 0, 0⟩, 2⟩, 1, 0x0⟩
/-- TB_WCT_STAT.TIME_SUSPECT [1] RO, 02_timebase. -/
def TB_WCT_STAT_TIME_SUSPECT : Fld := ⟨⟨⟨.TB_WCT_STAT, 0, 0, 0⟩, 1⟩, 1, 0x0⟩
/-- TB_WCT_STAT.SET [0] RO, 02_timebase. -/
def TB_WCT_STAT_SET : Fld := ⟨⟨⟨.TB_WCT_STAT, 0, 0, 0⟩, 0⟩, 1, 0x0⟩
/-- TB_WCT_OFFSET.VALUE [31:0] RO, 02_timebase. -/
def TB_WCT_OFFSET_VALUE : Fld := ⟨⟨⟨.TB_WCT_OFFSET, 0, 0, 0⟩, 0⟩, 32, 0x0⟩
/-- TB_WCT_RATE.VALUE [31:0] RO, 02_timebase. -/
def TB_WCT_RATE_VALUE : Fld := ⟨⟨⟨.TB_WCT_RATE, 0, 0, 0⟩, 0⟩, 32, 0x0⟩
/-- TB_LAUNCH_CNT.LATE1 [31:16] CNT, 02_timebase. -/
def TB_LAUNCH_CNT_LATE1 : Fld := ⟨⟨⟨.TB_LAUNCH_CNT, 0, 0, 0⟩, 16⟩, 16, 0x0⟩
/-- TB_LAUNCH_CNT.LATE0 [15:0] CNT, 02_timebase. -/
def TB_LAUNCH_CNT_LATE0 : Fld := ⟨⟨⟨.TB_LAUNCH_CNT, 0, 0, 0⟩, 0⟩, 16, 0x0⟩
/-- TB_PORT_DELAY.DELAY [31:0] RO, 02_timebase. -/
def TB_PORT_DELAY_DELAY (i : Nat) : Fld := ⟨⟨⟨.TB_PORT_DELAY, i, 0, 0⟩, 0⟩, 32, 0x0⟩
/-- TB_PORT_ASYM.ASYM [31:0] RW, 02_timebase. -/
def TB_PORT_ASYM_ASYM (i : Nat) : Fld := ⟨⟨⟨.TB_PORT_ASYM, i, 0, 0⟩, 0⟩, 32, 0x0⟩
/-- SEQ_CTRL.EVCLR_SHOT [2] RW, 03_quire_sequencers. -/
def SEQ_CTRL_EVCLR_SHOT (i : Nat) : Fld := ⟨⟨⟨.SEQ_CTRL, i, 0, 0⟩, 2⟩, 1, 0x0⟩
/-- SEQ_CTRL.TAINT_SCOPE [1] RW, 03_quire_sequencers. -/
def SEQ_CTRL_TAINT_SCOPE (i : Nat) : Fld := ⟨⟨⟨.SEQ_CTRL, i, 0, 0⟩, 1⟩, 1, 0x0⟩
/-- SEQ_CTRL.RUN [0] RW, 03_quire_sequencers. -/
def SEQ_CTRL_RUN (i : Nat) : Fld := ⟨⟨⟨.SEQ_CTRL, i, 0, 0⟩, 0⟩, 1, 0x0⟩
/-- SEQ_STAT.ACTIVE [31:16] RO, 03_quire_sequencers. -/
def SEQ_STAT_ACTIVE (i : Nat) : Fld := ⟨⟨⟨.SEQ_STAT, i, 0, 0⟩, 16⟩, 16, 0x0⟩
/-- SEQ_STAT.FAULT [15:0] RO, 03_quire_sequencers. -/
def SEQ_STAT_FAULT (i : Nat) : Fld := ⟨⟨⟨.SEQ_STAT, i, 0, 0⟩, 0⟩, 16, 0x0⟩
/-- SEQ_LAH.LAH_MAX [31:16] RW, 03_quire_sequencers. -/
def SEQ_LAH_LAH_MAX (i : Nat) : Fld := ⟨⟨⟨.SEQ_LAH, i, 0, 0⟩, 16⟩, 16, 0xc350⟩
/-- SEQ_LAH.START_GAP [15:0] RW, 03_quire_sequencers. -/
def SEQ_LAH_START_GAP (i : Nat) : Fld := ⟨⟨⟨.SEQ_LAH, i, 0, 0⟩, 0⟩, 16, 0x64⟩
/-- SEQ_SYNC.CL_MARGIN [31:16] RW, 03_quire_sequencers. -/
def SEQ_SYNC_CL_MARGIN (i : Nat) : Fld := ⟨⟨⟨.SEQ_SYNC, i, 0, 0⟩, 16⟩, 16, 0x3e8⟩
/-- SEQ_SYNC.DEV_MARGIN [15:0] RW, 03_quire_sequencers. -/
def SEQ_SYNC_DEV_MARGIN (i : Nat) : Fld := ⟨⟨⟨.SEQ_SYNC, i, 0, 0⟩, 0⟩, 16, 0x64⟩
/-- SEQ_SYNC_TMO.TMO [31:0] RW, 03_quire_sequencers. -/
def SEQ_SYNC_TMO_TMO (i : Nat) : Fld := ⟨⟨⟨.SEQ_SYNC_TMO, i, 0, 0⟩, 0⟩, 32, 0x7a120⟩
/-- SEQ_EVFLAG.FLAG [15:0] W1C, 03_quire_sequencers. -/
def SEQ_EVFLAG_FLAG (i : Nat) : Fld := ⟨⟨⟨.SEQ_EVFLAG, i, 0, 0⟩, 0⟩, 16, 0x0⟩
/-- SEQ_CNT_LATE.PRED [31:16] CNT, 03_quire_sequencers. -/
def SEQ_CNT_LATE_PRED (i : Nat) : Fld := ⟨⟨⟨.SEQ_CNT_LATE, i, 0, 0⟩, 16⟩, 16, 0x0⟩
/-- SEQ_CNT_LATE.LATE [15:0] CNT, 03_quire_sequencers. -/
def SEQ_CNT_LATE_LATE (i : Nat) : Fld := ⟨⟨⟨.SEQ_CNT_LATE, i, 0, 0⟩, 0⟩, 16, 0x0⟩
/-- SEQ_CNT_SEG.JMISS [31:16] CNT, 03_quire_sequencers. -/
def SEQ_CNT_SEG_JMISS (i : Nat) : Fld := ⟨⟨⟨.SEQ_CNT_SEG, i, 0, 0⟩, 16⟩, 16, 0x0⟩
/-- SEQ_CNT_SEG.SEGCONF [15:0] CNT, 03_quire_sequencers. -/
def SEQ_CNT_SEG_SEGCONF (i : Nat) : Fld := ⟨⟨⟨.SEQ_CNT_SEG, i, 0, 0⟩, 0⟩, 16, 0x0⟩
/-- SEQ_CNT_STALL.CREDIT [31:16] CNT, 03_quire_sequencers. -/
def SEQ_CNT_STALL_CREDIT (i : Nat) : Fld := ⟨⟨⟨.SEQ_CNT_STALL, i, 0, 0⟩, 16⟩, 16, 0x0⟩
/-- SEQ_CNT_STALL.QFULL [15:0] CNT, 03_quire_sequencers. -/
def SEQ_CNT_STALL_QFULL (i : Nat) : Fld := ⟨⟨⟨.SEQ_CNT_STALL, i, 0, 0⟩, 0⟩, 16, 0x0⟩
/-- SEQ_BAR.CLUSTER [16] RW, 03_quire_sequencers. -/
def SEQ_BAR_CLUSTER (i j : Nat) : Fld := ⟨⟨⟨.SEQ_BAR, i, j, 0⟩, 16⟩, 1, 0x0⟩
/-- SEQ_BAR.MASK [15:0] RW, 03_quire_sequencers. -/
def SEQ_BAR_MASK (i j : Nat) : Fld := ⟨⟨⟨.SEQ_BAR, i, j, 0⟩, 0⟩, 16, 0x0⟩
/-- STRM_CTRL.EN [31] RW, 03_quire_sequencers. -/
def STRM_CTRL_EN (i j : Nat) : Fld := ⟨⟨⟨.STRM_CTRL, i, j, 0⟩, 31⟩, 1, 0x0⟩
/-- STRM_CTRL.CH [4:0] RW, 03_quire_sequencers. -/
def STRM_CTRL_CH (i j : Nat) : Fld := ⟨⟨⟨.STRM_CTRL, i, j, 0⟩, 0⟩, 5, 0x0⟩
/-- STRM_RING.LEN [29:16] RW, 03_quire_sequencers. -/
def STRM_RING_LEN (i j : Nat) : Fld := ⟨⟨⟨.STRM_RING, i, j, 0⟩, 16⟩, 14, 0x0⟩
/-- STRM_RING.BASE [13:0] RW, 03_quire_sequencers. -/
def STRM_RING_BASE (i j : Nat) : Fld := ⟨⟨⟨.STRM_RING, i, j, 0⟩, 0⟩, 14, 0x0⟩
/-- STRM_SRC_LO.VALUE [31:0] RW, 03_quire_sequencers. -/
def STRM_SRC_LO_VALUE (i j : Nat) : Fld := ⟨⟨⟨.STRM_SRC_LO, i, j, 0⟩, 0⟩, 32, 0x0⟩
/-- STRM_SRC_HI.VALUE [3:0] RW, 03_quire_sequencers. -/
def STRM_SRC_HI_VALUE (i j : Nat) : Fld := ⟨⟨⟨.STRM_SRC_HI, i, j, 0⟩, 0⟩, 4, 0⟩
/-- STRM_SRC_LEN.VALUE [25:0] RW, 03_quire_sequencers. -/
def STRM_SRC_LEN_VALUE (i j : Nat) : Fld := ⟨⟨⟨.STRM_SRC_LEN, i, j, 0⟩, 0⟩, 26, 0⟩
/-- STRM_LEVEL.LEVEL [20:0] RO, 03_quire_sequencers. -/
def STRM_LEVEL_LEVEL (i j : Nat) : Fld := ⟨⟨⟨.STRM_LEVEL, i, j, 0⟩, 0⟩, 21, 0x0⟩
/-- STRM_STAT.DONE [2] RO, 03_quire_sequencers. -/
def STRM_STAT_DONE (i j : Nat) : Fld := ⟨⟨⟨.STRM_STAT, i, j, 0⟩, 2⟩, 1, 0x0⟩
/-- STRM_STAT.FENCED [1] RO, 03_quire_sequencers. -/
def STRM_STAT_FENCED (i j : Nat) : Fld := ⟨⟨⟨.STRM_STAT, i, j, 0⟩, 1⟩, 1, 0x0⟩
/-- STRM_STAT.UNDERRUN [0] W1C, 03_quire_sequencers. -/
def STRM_STAT_UNDERRUN (i j : Nat) : Fld := ⟨⟨⟨.STRM_STAT, i, j, 0⟩, 0⟩, 1, 0x0⟩
/-- STRM_CNT.FENCE [31:16] CNT, 03_quire_sequencers. -/
def STRM_CNT_FENCE (i j : Nat) : Fld := ⟨⟨⟨.STRM_CNT, i, j, 0⟩, 16⟩, 16, 0x0⟩
/-- STRM_CNT.UNDERRUN [15:0] CNT, 03_quire_sequencers. -/
def STRM_CNT_UNDERRUN (i j : Nat) : Fld := ⟨⟨⟨.STRM_CNT, i, j, 0⟩, 0⟩, 16, 0x0⟩
/-- THR_CTRL.AT [3] RW, 03_quire_sequencers. -/
def THR_CTRL_AT (i j : Nat) : Fld := ⟨⟨⟨.THR_CTRL, i, j, 0⟩, 3⟩, 1, 0x0⟩
/-- THR_CTRL.FLUSH [2] WO, 03_quire_sequencers. -/
def THR_CTRL_FLUSH (i j : Nat) : Fld := ⟨⟨⟨.THR_CTRL, i, j, 0⟩, 2⟩, 1, 0x0⟩
/-- THR_CTRL.STOP [1] WO, 03_quire_sequencers. -/
def THR_CTRL_STOP (i j : Nat) : Fld := ⟨⟨⟨.THR_CTRL, i, j, 0⟩, 1⟩, 1, 0x0⟩
/-- THR_CTRL.START [0] WO, 03_quire_sequencers. -/
def THR_CTRL_START (i j : Nat) : Fld := ⟨⟨⟨.THR_CTRL, i, j, 0⟩, 0⟩, 1, 0x0⟩
/-- THR_PC.PC [16:0] RW, 03_quire_sequencers. -/
def THR_PC_PC (i j : Nat) : Fld := ⟨⟨⟨.THR_PC, i, j, 0⟩, 0⟩, 17, 0x0⟩
/-- THR_WIN.LIMIT [29:16] RW, 03_quire_sequencers. -/
def THR_WIN_LIMIT (i j : Nat) : Fld := ⟨⟨⟨.THR_WIN, i, j, 0⟩, 16⟩, 14, 0x3fff⟩
/-- THR_WIN.BASE [13:0] RW, 03_quire_sequencers. -/
def THR_WIN_BASE (i j : Nat) : Fld := ⟨⟨⟨.THR_WIN, i, j, 0⟩, 0⟩, 14, 0x0⟩
/-- THR_STAT.FCAUSE [23:16] RO, 03_quire_sequencers. -/
def THR_STAT_FCAUSE (i j : Nat) : Fld := ⟨⟨⟨.THR_STAT, i, j, 0⟩, 16⟩, 8, 0x0⟩
/-- THR_STAT.WCAUSE [11:8] RO, 03_quire_sequencers. -/
def THR_STAT_WCAUSE (i j : Nat) : Fld := ⟨⟨⟨.THR_STAT, i, j, 0⟩, 8⟩, 4, 0x0⟩
/-- THR_STAT.STATE [2:0] RO, 03_quire_sequencers. -/
def THR_STAT_STATE (i j : Nat) : Fld := ⟨⟨⟨.THR_STAT, i, j, 0⟩, 0⟩, 3, 0x0⟩
/-- THR_LATCH.SETERR [6] W1C, 03_quire_sequencers. -/
def THR_LATCH_SETERR (i j : Nat) : Fld := ⟨⟨⟨.THR_LATCH, i, j, 0⟩, 6⟩, 1, 0x0⟩
/-- THR_LATCH.ORDER [5] W1C, 03_quire_sequencers. -/
def THR_LATCH_ORDER (i j : Nat) : Fld := ⟨⟨⟨.THR_LATCH, i, j, 0⟩, 5⟩, 1, 0x0⟩
/-- THR_LATCH.PRED [4] W1C, 03_quire_sequencers. -/
def THR_LATCH_PRED (i j : Nat) : Fld := ⟨⟨⟨.THR_LATCH, i, j, 0⟩, 4⟩, 1, 0x0⟩
/-- THR_LATCH.LATE [3] W1C, 03_quire_sequencers. -/
def THR_LATCH_LATE (i j : Nat) : Fld := ⟨⟨⟨.THR_LATCH, i, j, 0⟩, 3⟩, 1, 0x0⟩
/-- THR_LATCH.FAULT [2] W1C, 03_quire_sequencers. -/
def THR_LATCH_FAULT (i j : Nat) : Fld := ⟨⟨⟨.THR_LATCH, i, j, 0⟩, 2⟩, 1, 0x0⟩
/-- THR_LATCH.SYNC_TMO [1] W1C, 03_quire_sequencers. -/
def THR_LATCH_SYNC_TMO (i j : Nat) : Fld := ⟨⟨⟨.THR_LATCH, i, j, 0⟩, 1⟩, 1, 0x0⟩
/-- THR_LATCH.START_REF [0] W1C, 03_quire_sequencers. -/
def THR_LATCH_START_REF (i j : Nat) : Fld := ⟨⟨⟨.THR_LATCH, i, j, 0⟩, 0⟩, 1, 0x0⟩
/-- THR_TT_LO.TT [31:0] RO, 03_quire_sequencers. -/
def THR_TT_LO_TT (i j : Nat) : Fld := ⟨⟨⟨.THR_TT_LO, i, j, 0⟩, 0⟩, 32, 0x0⟩
/-- THR_TT_HI.TT [31:0] RO, 03_quire_sequencers. -/
def THR_TT_HI_TT (i j : Nat) : Fld := ⟨⟨⟨.THR_TT_HI, i, j, 0⟩, 0⟩, 32, 0x0⟩
/-- THR_START_LO.START [31:0] RW, 03_quire_sequencers. -/
def THR_START_LO_START (i j : Nat) : Fld := ⟨⟨⟨.THR_START_LO, i, j, 0⟩, 0⟩, 32, 0x0⟩
/-- THR_START_HI.START [31:0] RW, 03_quire_sequencers. -/
def THR_START_HI_START (i j : Nat) : Fld := ⟨⟨⟨.THR_START_HI, i, j, 0⟩, 0⟩, 32, 0x0⟩
/-- THR_CNT.STALL [31:16] CNT, 03_quire_sequencers. -/
def THR_CNT_STALL (i j : Nat) : Fld := ⟨⟨⟨.THR_CNT, i, j, 0⟩, 16⟩, 16, 0x0⟩
/-- THR_CNT.LATE [15:0] CNT, 03_quire_sequencers. -/
def THR_CNT_LATE (i j : Nat) : Fld := ⟨⟨⟨.THR_CNT, i, j, 0⟩, 0⟩, 16, 0x0⟩
/-- THR_SUB.VALID [31] RO, 03_quire_sequencers. -/
def THR_SUB_VALID (i j k : Nat) : Fld := ⟨⟨⟨.THR_SUB, i, j, k⟩, 31⟩, 1, 0x0⟩
/-- THR_SUB.VAL [17:16] RW, 03_quire_sequencers. -/
def THR_SUB_VAL (i j k : Nat) : Fld := ⟨⟨⟨.THR_SUB, i, j, k⟩, 16⟩, 2, 0x0⟩
/-- THR_SUB.TEST [13:12] RW, 03_quire_sequencers. -/
def THR_SUB_TEST (i j k : Nat) : Fld := ⟨⟨⟨.THR_SUB, i, j, k⟩, 12⟩, 2, 0x0⟩
/-- THR_SUB.SRC [11:0] RW, 03_quire_sequencers. -/
def THR_SUB_SRC (i j k : Nat) : Fld := ⟨⟨⟨.THR_SUB, i, j, k⟩, 0⟩, 12, 0x0⟩
/-- SEG_W0.START [19:0] RW, 03_quire_sequencers. -/
def SEG_W0_START (i j : Nat) : Fld := ⟨⟨⟨.SEG_W0, i, j, 0⟩, 0⟩, 20, 0x0⟩
/-- SEG_W1.STREAM [31] RW, 03_quire_sequencers. -/
def SEG_W1_STREAM (i j : Nat) : Fld := ⟨⟨⟨.SEG_W1, i, j, 0⟩, 31⟩, 1, 0x0⟩
/-- SEG_W1.FMT [30] RW, 03_quire_sequencers. -/
def SEG_W1_FMT (i j : Nat) : Fld := ⟨⟨⟨.SEG_W1, i, j, 0⟩, 30⟩, 1, 0x0⟩
/-- SEG_W1.LOOPS [29:20] RW, 03_quire_sequencers. -/
def SEG_W1_LOOPS (i j : Nat) : Fld := ⟨⟨⟨.SEG_W1, i, j, 0⟩, 20⟩, 10, 0x0⟩
/-- SEG_W1.LENGTH [19:0] RW, 03_quire_sequencers. -/
def SEG_W1_LENGTH (i j : Nat) : Fld := ⟨⟨⟨.SEG_W1, i, j, 0⟩, 0⟩, 20, 0x0⟩
/-- SEG_W2.RATE [31:0] RW, 03_quire_sequencers. -/
def SEG_W2_RATE (i j : Nat) : Fld := ⟨⟨⟨.SEG_W2, i, j, 0⟩, 0⟩, 32, 0x0⟩
/-- SEG_W3.ACTIVE [31:16] RO, 03_quire_sequencers. -/
def SEG_W3_ACTIVE (i j : Nat) : Fld := ⟨⟨⟨.SEG_W3, i, j, 0⟩, 16⟩, 16, 0x0⟩
/-- TONE_SPARE_STAT.SPARE_FAIL [11] RO, 04_drive_synthesis. -/
def TONE_SPARE_STAT_SPARE_FAIL (i : Nat) : Fld := ⟨⟨⟨.TONE_SPARE_STAT, i, 0, 0⟩, 11⟩, 1, 0x0⟩
/-- TONE_SPARE_STAT.BUSY [10] RO, 04_drive_synthesis. -/
def TONE_SPARE_STAT_BUSY (i : Nat) : Fld := ⟨⟨⟨.TONE_SPARE_STAT, i, 0, 0⟩, 10⟩, 1, 0x0⟩
/-- TONE_SPARE_STAT.FORCED [9] RO, 04_drive_synthesis. -/
def TONE_SPARE_STAT_FORCED (i : Nat) : Fld := ⟨⟨⟨.TONE_SPARE_STAT, i, 0, 0⟩, 9⟩, 1, 0x0⟩
/-- TONE_SPARE_STAT.IN_USE [8] RO, 04_drive_synthesis. -/
def TONE_SPARE_STAT_IN_USE (i : Nat) : Fld := ⟨⟨⟨.TONE_SPARE_STAT, i, 0, 0⟩, 8⟩, 1, 0x0⟩
/-- TONE_SPARE_STAT.TARGET [3:0] RO, 04_drive_synthesis. -/
def TONE_SPARE_STAT_TARGET (i : Nat) : Fld := ⟨⟨⟨.TONE_SPARE_STAT, i, 0, 0⟩, 0⟩, 4, 0x0⟩
/-- TONE_SPARE_CTRL.TGT [11:8] RW, 04_drive_synthesis. -/
def TONE_SPARE_CTRL_TGT (i : Nat) : Fld := ⟨⟨⟨.TONE_SPARE_CTRL, i, 0, 0⟩, 8⟩, 4, 0x0⟩
/-- TONE_SPARE_CTRL.RELEASE [1] WO, 04_drive_synthesis. -/
def TONE_SPARE_CTRL_RELEASE (i : Nat) : Fld := ⟨⟨⟨.TONE_SPARE_CTRL, i, 0, 0⟩, 1⟩, 1, 0x0⟩
/-- TONE_SPARE_CTRL.FORCE [0] WO, 04_drive_synthesis. -/
def TONE_SPARE_CTRL_FORCE (i : Nat) : Fld := ⟨⟨⟨.TONE_SPARE_CTRL, i, 0, 0⟩, 0⟩, 1, 0x0⟩
/-- TONE_SPARE_CNT.AUDIT [31:16] CNT, 04_drive_synthesis. -/
def TONE_SPARE_CNT_AUDIT (i : Nat) : Fld := ⟨⟨⟨.TONE_SPARE_CNT, i, 0, 0⟩, 16⟩, 16, 0x0⟩
/-- TONE_SPARE_CNT.SUBST [15:0] CNT, 04_drive_synthesis. -/
def TONE_SPARE_CNT_SUBST (i : Nat) : Fld := ⟨⟨⟨.TONE_SPARE_CNT, i, 0, 0⟩, 0⟩, 16, 0x0⟩
/-- TONE_CTRL.SLOT [11:8] RW, 04_drive_synthesis. -/
def TONE_CTRL_SLOT (i j : Nat) : Fld := ⟨⟨⟨.TONE_CTRL, i, j, 0⟩, 8⟩, 4, (if j < 16 then j else 0)⟩
/-- TONE_CTRL.FRAME_CLR [3] WO, 04_drive_synthesis. -/
def TONE_CTRL_FRAME_CLR (i j : Nat) : Fld := ⟨⟨⟨.TONE_CTRL, i, j, 0⟩, 3⟩, 1, 0x0⟩
/-- TONE_CTRL.PF_LATCH [2] RW, 04_drive_synthesis. -/
def TONE_CTRL_PF_LATCH (i j : Nat) : Fld := ⟨⟨⟨.TONE_CTRL, i, j, 0⟩, 2⟩, 1, 1⟩
/-- TONE_CTRL.PF_EN [1] RW, 04_drive_synthesis. -/
def TONE_CTRL_PF_EN (i j : Nat) : Fld := ⟨⟨⟨.TONE_CTRL, i, j, 0⟩, 1⟩, 1, (if j < 16 then 1 else 0)⟩
/-- TONE_CTRL.FTW_TIMED [0] RW, 04_drive_synthesis. -/
def TONE_CTRL_FTW_TIMED (i j : Nat) : Fld := ⟨⟨⟨.TONE_CTRL, i, j, 0⟩, 0⟩, 1, 0x0⟩
/-- TONE_FTW_LO.FTW [31:0] RW, 04_drive_synthesis. -/
def TONE_FTW_LO_FTW (i j : Nat) : Fld := ⟨⟨⟨.TONE_FTW_LO, i, j, 0⟩, 0⟩, 32, 0x0⟩
/-- TONE_FTW_HI.FTW [15:0] RW, 04_drive_synthesis. -/
def TONE_FTW_HI_FTW (i j : Nat) : Fld := ⟨⟨⟨.TONE_FTW_HI, i, j, 0⟩, 0⟩, 16, 0⟩
/-- TONE_AT_LO.TICK [31:0] RW, 04_drive_synthesis. -/
def TONE_AT_LO_TICK (i j : Nat) : Fld := ⟨⟨⟨.TONE_AT_LO, i, j, 0⟩, 0⟩, 32, 0x0⟩
/-- TONE_AT_HI.TICK [31:0] RW, 04_drive_synthesis. -/
def TONE_AT_HI_TICK (i j : Nat) : Fld := ⟨⟨⟨.TONE_AT_HI, i, j, 0⟩, 0⟩, 32, 0x0⟩
/-- TONE_FRAME.FRAME [31:0] RO, 04_drive_synthesis. -/
def TONE_FRAME_FRAME (i j : Nat) : Fld := ⟨⟨⟨.TONE_FRAME, i, j, 0⟩, 0⟩, 32, 0x0⟩
/-- TONE_GAIN.ACTIVE [31:16] RO, 04_drive_synthesis. -/
def TONE_GAIN_ACTIVE (i j : Nat) : Fld := ⟨⟨⟨.TONE_GAIN, i, j, 0⟩, 16⟩, 16, 0x7fff⟩
/-- TONE_GAIN.GAIN [15:0] RW, 04_drive_synthesis. -/
def TONE_GAIN_GAIN (i j : Nat) : Fld := ⟨⟨⟨.TONE_GAIN, i, j, 0⟩, 0⟩, 16, 0x7fff⟩
/-- TONE_STAT.FAILED [7] RO, 04_drive_synthesis. -/
def TONE_STAT_FAILED (i j : Nat) : Fld := ⟨⟨⟨.TONE_STAT, i, j, 0⟩, 7⟩, 1, 0x0⟩
/-- TONE_STAT.SUBST [6] RO, 04_drive_synthesis. -/
def TONE_STAT_SUBST (i j : Nat) : Fld := ⟨⟨⟨.TONE_STAT, i, j, 0⟩, 6⟩, 1, 0x0⟩
/-- TONE_STAT.PF [5] RO, 04_drive_synthesis. -/
def TONE_STAT_PF (i j : Nat) : Fld := ⟨⟨⟨.TONE_STAT, i, j, 0⟩, 5⟩, 1, 0x0⟩
/-- TONE_STAT.FTW_PEND [4] RO, 04_drive_synthesis. -/
def TONE_STAT_FTW_PEND (i j : Nat) : Fld := ⟨⟨⟨.TONE_STAT, i, j, 0⟩, 4⟩, 1, 0x0⟩
/-- TONE_STAT.PLAYING [0] RO, 04_drive_synthesis. -/
def TONE_STAT_PLAYING (i j : Nat) : Fld := ⟨⟨⟨.TONE_STAT, i, j, 0⟩, 0⟩, 1, 0x0⟩
/-- TONE_LATCH.FAULT [2] W1C, 04_drive_synthesis. -/
def TONE_LATCH_FAULT (i j : Nat) : Fld := ⟨⟨⟨.TONE_LATCH, i, j, 0⟩, 2⟩, 1, 0x0⟩
/-- TONE_LATCH.FTW_REPL [1] W1C, 04_drive_synthesis. -/
def TONE_LATCH_FTW_REPL (i j : Nat) : Fld := ⟨⟨⟨.TONE_LATCH, i, j, 0⟩, 1⟩, 1, 0x0⟩
/-- TONE_LATCH.FTW_LATE [0] W1C, 04_drive_synthesis. -/
def TONE_LATCH_FTW_LATE (i j : Nat) : Fld := ⟨⟨⟨.TONE_LATCH, i, j, 0⟩, 0⟩, 1, 0x0⟩
/-- TONE_CNT.CORR [31:16] CNT, 04_drive_synthesis. -/
def TONE_CNT_CORR (i j : Nat) : Fld := ⟨⟨⟨.TONE_CNT, i, j, 0⟩, 16⟩, 16, 0x0⟩
/-- TONE_CNT.AUDIT [15:0] CNT, 04_drive_synthesis. -/
def TONE_CNT_AUDIT (i j : Nat) : Fld := ⟨⟨⟨.TONE_CNT, i, j, 0⟩, 0⟩, 16, 0x0⟩
/-- DRV_CFG.PD_BYP [11] RW, 04_drive_synthesis. -/
def DRV_CFG_PD_BYP (i j : Nat) : Fld := ⟨⟨⟨.DRV_CFG, i, j, 0⟩, 11⟩, 1, 0x0⟩
/-- DRV_CFG.CW_SRC [10:7] RW, 04_drive_synthesis. -/
def DRV_CFG_CW_SRC (i j : Nat) : Fld := ⟨⟨⟨.DRV_CFG, i, j, 0⟩, 7⟩, 4, 0x0⟩
/-- DRV_CFG.TONE_SCALE [6:4] RW, 04_drive_synthesis. -/
def DRV_CFG_TONE_SCALE (i j : Nat) : Fld := ⟨⟨⟨.DRV_CFG, i, j, 0⟩, 4⟩, 3, (if j < 4 then 2 else 4)⟩
/-- DRV_CFG.MODE [3] RW, 04_drive_synthesis. -/
def DRV_CFG_MODE (i j : Nat) : Fld := ⟨⟨⟨.DRV_CFG, i, j, 0⟩, 3⟩, 1, 0x0⟩
/-- DRV_CFG.RANGE [2:1] RW, 04_drive_synthesis. -/
def DRV_CFG_RANGE (i j : Nat) : Fld := ⟨⟨⟨.DRV_CFG, i, j, 0⟩, 1⟩, 2, 0x3⟩
/-- DRV_CFG.EN [0] RW, 04_drive_synthesis. -/
def DRV_CFG_EN (i j : Nat) : Fld := ⟨⟨⟨.DRV_CFG, i, j, 0⟩, 0⟩, 1, 0x0⟩
/-- DRV_DELAY.TRIM [22:16] RO, 04_drive_synthesis. -/
def DRV_DELAY_TRIM (i j : Nat) : Fld := ⟨⟨⟨.DRV_DELAY, i, j, 0⟩, 16⟩, 7, 0x40⟩
/-- DRV_DELAY.CAL_SUB [12:8] RO, 04_drive_synthesis. -/
def DRV_DELAY_CAL_SUB (i j : Nat) : Fld := ⟨⟨⟨.DRV_DELAY, i, j, 0⟩, 8⟩, 5, 0x0⟩
/-- DRV_DELAY.FINE [7:0] RW, 04_drive_synthesis. -/
def DRV_DELAY_FINE (i j : Nat) : Fld := ⟨⟨⟨.DRV_DELAY, i, j, 0⟩, 0⟩, 8, 0x0⟩
/-- DRV_STAT.CW_RAMPING [8] RO, 04_drive_synthesis. -/
def DRV_STAT_CW_RAMPING (i j : Nat) : Fld := ⟨⟨⟨.DRV_STAT, i, j, 0⟩, 8⟩, 1, 0x0⟩
/-- DRV_STAT.STOP [7] RO, 04_drive_synthesis. -/
def DRV_STAT_STOP (i j : Nat) : Fld := ⟨⟨⟨.DRV_STAT, i, j, 0⟩, 7⟩, 1, 0x0⟩
/-- DRV_STAT.SETTLING [6] RO, 04_drive_synthesis. -/
def DRV_STAT_SETTLING (i j : Nat) : Fld := ⟨⟨⟨.DRV_STAT, i, j, 0⟩, 6⟩, 1, 0x0⟩
/-- DRV_STAT.SW_MUTE [5] RO, 04_drive_synthesis. -/
def DRV_STAT_SW_MUTE (i j : Nat) : Fld := ⟨⟨⟨.DRV_STAT, i, j, 0⟩, 5⟩, 1, 0x0⟩
/-- DRV_STAT.TRIP [4] RO, 04_drive_synthesis. -/
def DRV_STAT_TRIP (i j : Nat) : Fld := ⟨⟨⟨.DRV_STAT, i, j, 0⟩, 4⟩, 1, 0x0⟩
/-- DRV_STAT.FENCE [3] RO, 04_drive_synthesis. -/
def DRV_STAT_FENCE (i j : Nat) : Fld := ⟨⟨⟨.DRV_STAT, i, j, 0⟩, 3⟩, 1, 0x0⟩
/-- DRV_STAT.RESTORE [2] RO, 04_drive_synthesis. -/
def DRV_STAT_RESTORE (i j : Nat) : Fld := ⟨⟨⟨.DRV_STAT, i, j, 0⟩, 2⟩, 1, 0x0⟩
/-- DRV_STAT.MUTED [0] RO, 04_drive_synthesis. -/
def DRV_STAT_MUTED (i j : Nat) : Fld := ⟨⟨⟨.DRV_STAT, i, j, 0⟩, 0⟩, 1, 0x0⟩
/-- DRV_LATCH.SETTLE_LATE [2] W1C, 04_drive_synthesis. -/
def DRV_LATCH_SETTLE_LATE (i j : Nat) : Fld := ⟨⟨⟨.DRV_LATCH, i, j, 0⟩, 2⟩, 1, 0x0⟩
/-- DRV_LATCH.MUTE [1] W1C, 04_drive_synthesis. -/
def DRV_LATCH_MUTE (i j : Nat) : Fld := ⟨⟨⟨.DRV_LATCH, i, j, 0⟩, 1⟩, 1, 0x0⟩
/-- DRV_LATCH.CLIP [0] W1C, 04_drive_synthesis. -/
def DRV_LATCH_CLIP (i j : Nat) : Fld := ⟨⟨⟨.DRV_LATCH, i, j, 0⟩, 0⟩, 1, 0x0⟩
/-- DRV_CNT.MUTES [31:16] CNT, 04_drive_synthesis. -/
def DRV_CNT_MUTES (i j : Nat) : Fld := ⟨⟨⟨.DRV_CNT, i, j, 0⟩, 16⟩, 16, 0x0⟩
/-- DRV_CNT.CLIP [15:0] CNT, 04_drive_synthesis. -/
def DRV_CNT_CLIP (i j : Nat) : Fld := ⟨⟨⟨.DRV_CNT, i, j, 0⟩, 0⟩, 16, 0x0⟩
/-- DRV_MUTE.MUTE [0] RW, 04_drive_synthesis. -/
def DRV_MUTE_MUTE (i j : Nat) : Fld := ⟨⟨⟨.DRV_MUTE, i, j, 0⟩, 0⟩, 1, 0x0⟩
/-- DRV_CW.RAMP [31:16] RW, 04_drive_synthesis. -/
def DRV_CW_RAMP (i j : Nat) : Fld := ⟨⟨⟨.DRV_CW, i, j, 0⟩, 16⟩, 16, 0x0⟩
/-- DRV_CW.AMP [15:0] RW, 04_drive_synthesis. -/
def DRV_CW_AMP (i j : Nat) : Fld := ⟨⟨⟨.DRV_CW, i, j, 0⟩, 0⟩, 16, 0x0⟩
/-- DRV_PD_CTRL.PENDING [1] RO, 04_drive_synthesis. -/
def DRV_PD_CTRL_PENDING (i j : Nat) : Fld := ⟨⟨⟨.DRV_PD_CTRL, i, j, 0⟩, 1⟩, 1, 0x0⟩
/-- DRV_PD_CTRL.COMMIT [0] WO, 04_drive_synthesis. -/
def DRV_PD_CTRL_COMMIT (i j : Nat) : Fld := ⟨⟨⟨.DRV_PD_CTRL, i, j, 0⟩, 0⟩, 1, 0x0⟩
/-- DRV_PD_COEF.COEF [17:0] RW, 04_drive_synthesis. -/
def DRV_PD_COEF_COEF (i j k : Nat) : Fld := ⟨⟨⟨.DRV_PD_COEF, i, j, k⟩, 0⟩, 18, (if k = 8 then 0x10000 else 0)⟩
/-- DRV_QSTAT.IDLE [0] RO, 04_drive_synthesis. -/
def DRV_QSTAT_IDLE (i : Nat) : Fld := ⟨⟨⟨.DRV_QSTAT, i, 0, 0⟩, 0⟩, 1, 0x1⟩
/-- FLX_CFG.HOLD [15:8] RW, 05_flux_and_bias. -/
def FLX_CFG_HOLD (i j : Nat) : Fld := ⟨⟨⟨.FLX_CFG, i, j, 0⟩, 8⟩, 8, 0x40⟩
/-- FLX_CFG.MON_EXT [5] RW, 05_flux_and_bias. -/
def FLX_CFG_MON_EXT (i j : Nat) : Fld := ⟨⟨⟨.FLX_CFG, i, j, 0⟩, 5⟩, 1, 0x0⟩
/-- FLX_CFG.PRESS_BYP [4] RW, 05_flux_and_bias. -/
def FLX_CFG_PRESS_BYP (i j : Nat) : Fld := ⟨⟨⟨.FLX_CFG, i, j, 0⟩, 4⟩, 1, 0x0⟩
/-- FLX_CFG.SRANGE [3:2] RW, 05_flux_and_bias. -/
def FLX_CFG_SRANGE (i j : Nat) : Fld := ⟨⟨⟨.FLX_CFG, i, j, 0⟩, 2⟩, 2, 0x0⟩
/-- FLX_CFG.FRANGE [1] RW, 05_flux_and_bias. -/
def FLX_CFG_FRANGE (i j : Nat) : Fld := ⟨⟨⟨.FLX_CFG, i, j, 0⟩, 1⟩, 1, 0x0⟩
/-- FLX_CFG.EN [0] RW, 05_flux_and_bias. -/
def FLX_CFG_EN (i j : Nat) : Fld := ⟨⟨⟨.FLX_CFG, i, j, 0⟩, 0⟩, 1, 0x0⟩
/-- FLX_LADDER.CODE [19:0] RW, 05_flux_and_bias. -/
def FLX_LADDER_CODE (i j : Nat) : Fld := ⟨⟨⟨.FLX_LADDER, i, j, 0⟩, 0⟩, 20, 0x0⟩
/-- FLX_LADDER_NOW.RAMPING [31] RO, 05_flux_and_bias. -/
def FLX_LADDER_NOW_RAMPING (i j : Nat) : Fld := ⟨⟨⟨.FLX_LADDER_NOW, i, j, 0⟩, 31⟩, 1, 0x0⟩
/-- FLX_LADDER_NOW.HOLDING [30] RO, 05_flux_and_bias. -/
def FLX_LADDER_NOW_HOLDING (i j : Nat) : Fld := ⟨⟨⟨.FLX_LADDER_NOW, i, j, 0⟩, 30⟩, 1, 0x0⟩
/-- FLX_LADDER_NOW.CODE [19:0] RO, 05_flux_and_bias. -/
def FLX_LADDER_NOW_CODE (i j : Nat) : Fld := ⟨⟨⟨.FLX_LADDER_NOW, i, j, 0⟩, 0⟩, 20, 0x0⟩
/-- FLX_SLOW_RAMP.TRIP_RAMP [31:16] RW, 05_flux_and_bias. -/
def FLX_SLOW_RAMP_TRIP_RAMP (i j : Nat) : Fld := ⟨⟨⟨.FLX_SLOW_RAMP, i, j, 0⟩, 16⟩, 16, 0x3e8⟩
/-- FLX_SLOW_RAMP.STEP [15:0] RW, 05_flux_and_bias. -/
def FLX_SLOW_RAMP_STEP (i j : Nat) : Fld := ⟨⟨⟨.FLX_SLOW_RAMP, i, j, 0⟩, 0⟩, 16, 0x0⟩
/-- FLX_STAT.SWITCH [7] RO, 05_flux_and_bias. -/
def FLX_STAT_SWITCH (i j : Nat) : Fld := ⟨⟨⟨.FLX_STAT, i, j, 0⟩, 7⟩, 1, 0x0⟩
/-- FLX_STAT.RANGING [6] RO, 05_flux_and_bias. -/
def FLX_STAT_RANGING (i j : Nat) : Fld := ⟨⟨⟨.FLX_STAT, i, j, 0⟩, 6⟩, 1, 0x0⟩
/-- FLX_STAT.STOP [5] RO, 05_flux_and_bias. -/
def FLX_STAT_STOP (i j : Nat) : Fld := ⟨⟨⟨.FLX_STAT, i, j, 0⟩, 5⟩, 1, 0x0⟩
/-- FLX_STAT.SW_MUTE [4] RO, 05_flux_and_bias. -/
def FLX_STAT_SW_MUTE (i j : Nat) : Fld := ⟨⟨⟨.FLX_STAT, i, j, 0⟩, 4⟩, 1, 0x0⟩
/-- FLX_STAT.TRIP [3] RO, 05_flux_and_bias. -/
def FLX_STAT_TRIP (i j : Nat) : Fld := ⟨⟨⟨.FLX_STAT, i, j, 0⟩, 3⟩, 1, 0x0⟩
/-- FLX_STAT.FENCE [2] RO, 05_flux_and_bias. -/
def FLX_STAT_FENCE (i j : Nat) : Fld := ⟨⟨⟨.FLX_STAT, i, j, 0⟩, 2⟩, 1, 0x0⟩
/-- FLX_STAT.RESTORE [1] RO, 05_flux_and_bias. -/
def FLX_STAT_RESTORE (i j : Nat) : Fld := ⟨⟨⟨.FLX_STAT, i, j, 0⟩, 1⟩, 1, 0x0⟩
/-- FLX_STAT.MUTED [0] RO, 05_flux_and_bias. -/
def FLX_STAT_MUTED (i j : Nat) : Fld := ⟨⟨⟨.FLX_STAT, i, j, 0⟩, 0⟩, 1, 0x0⟩
/-- FLX_LATCH.FAULT [4] W1C, 05_flux_and_bias. -/
def FLX_LATCH_FAULT (i j : Nat) : Fld := ⟨⟨⟨.FLX_LATCH, i, j, 0⟩, 4⟩, 1, 0x0⟩
/-- FLX_LATCH.TRIP_DROP [3] W1C, 05_flux_and_bias. -/
def FLX_LATCH_TRIP_DROP (i j : Nat) : Fld := ⟨⟨⟨.FLX_LATCH, i, j, 0⟩, 3⟩, 1, 0x0⟩
/-- FLX_LATCH.MUTE [2] W1C, 05_flux_and_bias. -/
def FLX_LATCH_MUTE (i j : Nat) : Fld := ⟨⟨⟨.FLX_LATCH, i, j, 0⟩, 2⟩, 1, 0x0⟩
/-- FLX_LATCH.SUM_CLIP [1] W1C, 05_flux_and_bias. -/
def FLX_LATCH_SUM_CLIP (i j : Nat) : Fld := ⟨⟨⟨.FLX_LATCH, i, j, 0⟩, 1⟩, 1, 0x0⟩
/-- FLX_LATCH.CLIP [0] W1C, 05_flux_and_bias. -/
def FLX_LATCH_CLIP (i j : Nat) : Fld := ⟨⟨⟨.FLX_LATCH, i, j, 0⟩, 0⟩, 1, 0x0⟩
/-- FLX_CNT.MUTES [31:24] CNT, 05_flux_and_bias. -/
def FLX_CNT_MUTES (i j : Nat) : Fld := ⟨⟨⟨.FLX_CNT, i, j, 0⟩, 24⟩, 8, 0x0⟩
/-- FLX_CNT.HOLDS [23:16] CNT, 05_flux_and_bias. -/
def FLX_CNT_HOLDS (i j : Nat) : Fld := ⟨⟨⟨.FLX_CNT, i, j, 0⟩, 16⟩, 8, 0x0⟩
/-- FLX_CNT.CLIP [15:0] CNT, 05_flux_and_bias. -/
def FLX_CNT_CLIP (i j : Nat) : Fld := ⟨⟨⟨.FLX_CNT, i, j, 0⟩, 0⟩, 16, 0x0⟩
/-- FLX_MUTE.MUTE [0] RW, 05_flux_and_bias. -/
def FLX_MUTE_MUTE (i j : Nat) : Fld := ⟨⟨⟨.FLX_MUTE, i, j, 0⟩, 0⟩, 1, 0x0⟩
/-- FLX_XGAIN.GAIN [15:0] RO, 05_flux_and_bias. -/
def FLX_XGAIN_GAIN (i j : Nat) : Fld := ⟨⟨⟨.FLX_XGAIN, i, j, 0⟩, 0⟩, 16, 0x8000⟩
/-- FLX_PRESS_CTRL.SEC_EN [15:8] RW, 05_flux_and_bias. -/
def FLX_PRESS_CTRL_SEC_EN (i j : Nat) : Fld := ⟨⟨⟨.FLX_PRESS_CTRL, i, j, 0⟩, 8⟩, 8, 0x0⟩
/-- FLX_PRESS_CTRL.PENDING [2] RO, 05_flux_and_bias. -/
def FLX_PRESS_CTRL_PENDING (i j : Nat) : Fld := ⟨⟨⟨.FLX_PRESS_CTRL, i, j, 0⟩, 2⟩, 1, 0x0⟩
/-- FLX_PRESS_CTRL.CLR [1] WO, 05_flux_and_bias. -/
def FLX_PRESS_CTRL_CLR (i j : Nat) : Fld := ⟨⟨⟨.FLX_PRESS_CTRL, i, j, 0⟩, 1⟩, 1, 0x0⟩
/-- FLX_PRESS_CTRL.COMMIT [0] WO, 05_flux_and_bias. -/
def FLX_PRESS_CTRL_COMMIT (i j : Nat) : Fld := ⟨⟨⟨.FLX_PRESS_CTRL, i, j, 0⟩, 0⟩, 1, 0x0⟩
/-- FLX_IIR_C0.COEF [23:0] RW, 05_flux_and_bias. -/
def FLX_IIR_C0_COEF (i j k : Nat) : Fld := ⟨⟨⟨.FLX_IIR_C0, i, j, k⟩, 0⟩, 24, 0x400000⟩
/-- FLX_IIR_C1.COEF [23:0] RW, 05_flux_and_bias. -/
def FLX_IIR_C1_COEF (i j k : Nat) : Fld := ⟨⟨⟨.FLX_IIR_C1, i, j, k⟩, 0⟩, 24, 0⟩
/-- FLX_IIR_D.COEF [23:0] RW, 05_flux_and_bias. -/
def FLX_IIR_D_COEF (i j k : Nat) : Fld := ⟨⟨⟨.FLX_IIR_D, i, j, k⟩, 0⟩, 24, 0⟩
/-- FLX_FIR.COEF [17:0] RW, 05_flux_and_bias. -/
def FLX_FIR_COEF (i j k : Nat) : Fld := ⟨⟨⟨.FLX_FIR, i, j, k⟩, 0⟩, 18, (if k = 4 then 0x10000 else 0)⟩
/-- BIAS_CFG.ILIM [13:8] RW, 05_flux_and_bias. -/
def BIAS_CFG_ILIM (i j : Nat) : Fld := ⟨⟨⟨.BIAS_CFG, i, j, 0⟩, 8⟩, 6, 0xa⟩
/-- BIAS_CFG.SENSE [2] RW, 05_flux_and_bias. -/
def BIAS_CFG_SENSE (i j : Nat) : Fld := ⟨⟨⟨.BIAS_CFG, i, j, 0⟩, 2⟩, 1, 0x0⟩
/-- BIAS_CFG.RANGE [1] RW, 05_flux_and_bias. -/
def BIAS_CFG_RANGE (i j : Nat) : Fld := ⟨⟨⟨.BIAS_CFG, i, j, 0⟩, 1⟩, 1, 0x0⟩
/-- BIAS_CFG.EN [0] RW, 05_flux_and_bias. -/
def BIAS_CFG_EN (i j : Nat) : Fld := ⟨⟨⟨.BIAS_CFG, i, j, 0⟩, 0⟩, 1, 0x0⟩
/-- BIAS_SET.CODE [15:0] RW, 05_flux_and_bias. -/
def BIAS_SET_CODE (i j : Nat) : Fld := ⟨⟨⟨.BIAS_SET, i, j, 0⟩, 0⟩, 16, 0⟩
/-- BIAS_NOW.RAMPING [31] RO, 05_flux_and_bias. -/
def BIAS_NOW_RAMPING (i j : Nat) : Fld := ⟨⟨⟨.BIAS_NOW, i, j, 0⟩, 31⟩, 1, 0⟩
/-- BIAS_NOW.CODE [15:0] RO, 05_flux_and_bias. -/
def BIAS_NOW_CODE (i j : Nat) : Fld := ⟨⟨⟨.BIAS_NOW, i, j, 0⟩, 0⟩, 16, 0⟩
/-- BIAS_RAMP.PERIOD [31:16] RW, 05_flux_and_bias. -/
def BIAS_RAMP_PERIOD (i j : Nat) : Fld := ⟨⟨⟨.BIAS_RAMP, i, j, 0⟩, 16⟩, 16, 0x64⟩
/-- BIAS_RAMP.STEP [15:0] RW, 05_flux_and_bias. -/
def BIAS_RAMP_STEP (i j : Nat) : Fld := ⟨⟨⟨.BIAS_RAMP, i, j, 0⟩, 0⟩, 16, 0x10⟩
/-- BIAS_STAT.TRIP [2] RO, 05_flux_and_bias. -/
def BIAS_STAT_TRIP (i j : Nat) : Fld := ⟨⟨⟨.BIAS_STAT, i, j, 0⟩, 2⟩, 1, 0⟩
/-- BIAS_STAT.SWITCH [1] RO, 05_flux_and_bias. -/
def BIAS_STAT_SWITCH (i j : Nat) : Fld := ⟨⟨⟨.BIAS_STAT, i, j, 0⟩, 1⟩, 1, 0⟩
/-- BIAS_STAT.ILIM [0] RO, 05_flux_and_bias. -/
def BIAS_STAT_ILIM (i j : Nat) : Fld := ⟨⟨⟨.BIAS_STAT, i, j, 0⟩, 0⟩, 1, 0⟩
/-- BIAS_LATCH.SEQ_ABORT [2] W1C, 05_flux_and_bias. -/
def BIAS_LATCH_SEQ_ABORT (i j : Nat) : Fld := ⟨⟨⟨.BIAS_LATCH, i, j, 0⟩, 2⟩, 1, 0⟩
/-- BIAS_LATCH.MUTE [1] W1C, 05_flux_and_bias. -/
def BIAS_LATCH_MUTE (i j : Nat) : Fld := ⟨⟨⟨.BIAS_LATCH, i, j, 0⟩, 1⟩, 1, 0⟩
/-- BIAS_LATCH.ILIM [0] W1C, 05_flux_and_bias. -/
def BIAS_LATCH_ILIM (i j : Nat) : Fld := ⟨⟨⟨.BIAS_LATCH, i, j, 0⟩, 0⟩, 1, 0⟩
/-- BIAS_SEQ.DWELL [31:16] RW, 05_flux_and_bias. -/
def BIAS_SEQ_DWELL (i : Nat) : Fld := ⟨⟨⟨.BIAS_SEQ, i, 0, 0⟩, 16⟩, 16, 0x3e8⟩
/-- BIAS_SEQ.BUSY [4] RO, 05_flux_and_bias. -/
def BIAS_SEQ_BUSY (i : Nat) : Fld := ⟨⟨⟨.BIAS_SEQ, i, 0, 0⟩, 4⟩, 1, 0x0⟩
/-- BIAS_SEQ.ORDER [3] RW, 05_flux_and_bias. -/
def BIAS_SEQ_ORDER (i : Nat) : Fld := ⟨⟨⟨.BIAS_SEQ, i, 0, 0⟩, 3⟩, 1, 0x0⟩
/-- BIAS_SEQ.DOWN [1] WO, 05_flux_and_bias. -/
def BIAS_SEQ_DOWN (i : Nat) : Fld := ⟨⟨⟨.BIAS_SEQ, i, 0, 0⟩, 1⟩, 1, 0x0⟩
/-- BIAS_SEQ.UP [0] WO, 05_flux_and_bias. -/
def BIAS_SEQ_UP (i : Nat) : Fld := ⟨⟨⟨.BIAS_SEQ, i, 0, 0⟩, 0⟩, 1, 0x0⟩
/-- DK_WIN_CFG.GROUP [11:7] RW, 06_deckle_protection. -/
def DK_WIN_CFG_GROUP (i : Nat) : Fld := ⟨⟨⟨.DK_WIN_CFG, i, 0, 0⟩, 7⟩, 5, 0x0⟩
/-- DK_WIN_CFG.TRIP_EN [6] RW, 06_deckle_protection. -/
def DK_WIN_CFG_TRIP_EN (i : Nat) : Fld := ⟨⟨⟨.DK_WIN_CFG, i, 0, 0⟩, 6⟩, 1, 0x0⟩
/-- DK_WIN_CFG.HYST [5:3] RW, 06_deckle_protection. -/
def DK_WIN_CFG_HYST (i : Nat) : Fld := ⟨⟨⟨.DK_WIN_CFG, i, 0, 0⟩, 3⟩, 3, 0x0⟩
/-- DK_WIN_CFG.CLR_SHOT [2] RW, 06_deckle_protection. -/
def DK_WIN_CFG_CLR_SHOT (i : Nat) : Fld := ⟨⟨⟨.DK_WIN_CFG, i, 0, 0⟩, 2⟩, 1, 0x0⟩
/-- DK_WIN_CFG.EN [0] RW, 06_deckle_protection. -/
def DK_WIN_CFG_EN (i : Nat) : Fld := ⟨⟨⟨.DK_WIN_CFG, i, 0, 0⟩, 0⟩, 1, (if 432 ≤ i ∧ i ≠ 453 then 1 else 0)⟩
/-- DK_WIN_THR.UPPER [25:16] RW, 06_deckle_protection. -/
def DK_WIN_THR_UPPER (i : Nat) : Fld := ⟨⟨⟨.DK_WIN_THR, i, 0, 0⟩, 16⟩, 10, (if 432 ≤ i then 0x233 else 0x3FF)⟩
/-- DK_WIN_THR.LOWER [9:0] RW, 06_deckle_protection. -/
def DK_WIN_THR_LOWER (i : Nat) : Fld := ⟨⟨⟨.DK_WIN_THR, i, 0, 0⟩, 0⟩, 10, (if 432 ≤ i then 0x1CD else 0)⟩
/-- DK_WIN_CNT.CROSS [31:16] CNT, 06_deckle_protection. -/
def DK_WIN_CNT_CROSS (i : Nat) : Fld := ⟨⟨⟨.DK_WIN_CNT, i, 0, 0⟩, 16⟩, 16, 0x0⟩
/-- DK_WIN_CNT.TRIPS [15:8] CNT, 06_deckle_protection. -/
def DK_WIN_CNT_TRIPS (i : Nat) : Fld := ⟨⟨⟨.DK_WIN_CNT, i, 0, 0⟩, 8⟩, 8, 0x0⟩
/-- DK_WIN_CNT.HELD [7:0] CNT, 06_deckle_protection. -/
def DK_WIN_CNT_HELD (i : Nat) : Fld := ⟨⟨⟨.DK_WIN_CNT, i, 0, 0⟩, 0⟩, 8, 0x0⟩
/-- DK_GRP_CFG.BIAS_RAMP [31:16] RW, 06_deckle_protection. -/
def DK_GRP_CFG_BIAS_RAMP (i : Nat) : Fld := ⟨⟨⟨.DK_GRP_CFG, i, 0, 0⟩, 16⟩, 16, 0x3e8⟩
/-- DK_GRP_CFG.ASSERTED [7] RO, 06_deckle_protection. -/
def DK_GRP_CFG_ASSERTED (i : Nat) : Fld := ⟨⟨⟨.DK_GRP_CFG, i, 0, 0⟩, 7⟩, 1, 0x0⟩
/-- DK_GRP_CFG.LINE [5:4] RW, 06_deckle_protection. -/
def DK_GRP_CFG_LINE (i : Nat) : Fld := ⟨⟨⟨.DK_GRP_CFG, i, 0, 0⟩, 4⟩, 2, 0x0⟩
/-- DK_GRP_CFG.ACTION [1:0] RW, 06_deckle_protection. -/
def DK_GRP_CFG_ACTION (i : Nat) : Fld := ⟨⟨⟨.DK_GRP_CFG, i, 0, 0⟩, 0⟩, 2, 0x0⟩
/-- DK_GRP_QMASK.QMASK [15:0] RW, 06_deckle_protection. -/
def DK_GRP_QMASK_QMASK (i : Nat) : Fld := ⟨⟨⟨.DK_GRP_QMASK, i, 0, 0⟩, 0⟩, 16, 0x0⟩
/-- DK_STAT.STATE [31:0] RO, 06_deckle_protection. -/
def DK_STAT_STATE (i : Nat) : Fld := ⟨⟨⟨.DK_STAT, i, 0, 0⟩, 0⟩, 32, 0⟩
/-- DK_LATCH.LATCH [31:0] W1C, 06_deckle_protection. -/
def DK_LATCH_LATCH (i : Nat) : Fld := ⟨⟨⟨.DK_LATCH, i, 0, 0⟩, 0⟩, 32, 0⟩
/-- DK_EXT.GMASK [31:0] RW, 06_deckle_protection. -/
def DK_EXT_GMASK : Fld := ⟨⟨⟨.DK_EXT, 0, 0, 0⟩, 0⟩, 32, 0x0⟩
/-- DK_EXT_CTRL.COUNT [31:16] CNT, 06_deckle_protection. -/
def DK_EXT_CTRL_COUNT : Fld := ⟨⟨⟨.DK_EXT_CTRL, 0, 0, 0⟩, 16⟩, 16, 0x0⟩
/-- DK_EXT_CTRL.CLR_SHOT [2] RW, 06_deckle_protection. -/
def DK_EXT_CTRL_CLR_SHOT : Fld := ⟨⟨⟨.DK_EXT_CTRL, 0, 0, 0⟩, 2⟩, 1, 0x0⟩
/-- DK_EXT_CTRL.PIN [1] RO, 06_deckle_protection. -/
def DK_EXT_CTRL_PIN : Fld := ⟨⟨⟨.DK_EXT_CTRL, 0, 0, 0⟩, 1⟩, 1, 0x1⟩
/-- DK_EXT_CTRL.LATCH [0] W1C, 06_deckle_protection. -/
def DK_EXT_CTRL_LATCH : Fld := ⟨⟨⟨.DK_EXT_CTRL, 0, 0, 0⟩, 0⟩, 1, 0x0⟩
/-- DK_RB.BUSY [31] RO, 06_deckle_protection. -/
def DK_RB_BUSY : Fld := ⟨⟨⟨.DK_RB, 0, 0, 0⟩, 31⟩, 1, 0x0⟩
/-- DK_RB.SIDE [16] RW, 06_deckle_protection. -/
def DK_RB_SIDE : Fld := ⟨⟨⟨.DK_RB, 0, 0, 0⟩, 16⟩, 1, 0x0⟩
/-- DK_RB.WIN [8:0] RW, 06_deckle_protection. -/
def DK_RB_WIN : Fld := ⟨⟨⟨.DK_RB, 0, 0, 0⟩, 0⟩, 9, 0x0⟩
/-- DK_RB_DATA.ERR [31] RO, 06_deckle_protection. -/
def DK_RB_DATA_ERR : Fld := ⟨⟨⟨.DK_RB_DATA, 0, 0, 0⟩, 31⟩, 1, 0x0⟩
/-- DK_RB_DATA.RESULT [15:0] RO, 06_deckle_protection. -/
def DK_RB_DATA_RESULT : Fld := ⟨⟨⟨.DK_RB_DATA, 0, 0, 0⟩, 0⟩, 16, 0x0⟩
/-- DK_QMAP.MAP [30:0] RW, 06_deckle_protection. -/
def DK_QMAP_MAP (i j : Nat) : Fld := ⟨⟨⟨.DK_QMAP, i, j, 0⟩, 0⟩, 31, 0x0⟩
/-- HB_CTRL.LOOP [4] RW, 07_headbox_readout. -/
def HB_CTRL_LOOP (i : Nat) : Fld := ⟨⟨⟨.HB_CTRL, i, 0, 0⟩, 4⟩, 1, 0x0⟩
/-- HB_CTRL.ACQ_EN [3] RW, 07_headbox_readout. -/
def HB_CTRL_ACQ_EN (i : Nat) : Fld := ⟨⟨⟨.HB_CTRL, i, 0, 0⟩, 3⟩, 1, 0x0⟩
/-- HB_CTRL.PENDING [1] RO, 07_headbox_readout. -/
def HB_CTRL_PENDING (i : Nat) : Fld := ⟨⟨⟨.HB_CTRL, i, 0, 0⟩, 1⟩, 1, 0x0⟩
/-- HB_CTRL.COMMIT [0] WO, 07_headbox_readout. -/
def HB_CTRL_COMMIT (i : Nat) : Fld := ⟨⟨⟨.HB_CTRL, i, 0, 0⟩, 0⟩, 1, 0x0⟩
/-- HB_STAT.SUBST [2] RO, 07_headbox_readout. -/
def HB_STAT_SUBST (i : Nat) : Fld := ⟨⟨⟨.HB_STAT, i, 0, 0⟩, 2⟩, 1, 0x0⟩
/-- HB_STAT.OVL [1] RO, 07_headbox_readout. -/
def HB_STAT_OVL (i : Nat) : Fld := ⟨⟨⟨.HB_STAT, i, 0, 0⟩, 1⟩, 1, 0x0⟩
/-- HB_STAT.ADC_READY [0] RO, 07_headbox_readout. -/
def HB_STAT_ADC_READY (i : Nat) : Fld := ⟨⟨⟨.HB_STAT, i, 0, 0⟩, 0⟩, 1, 0x0⟩
/-- HB_LATCH.CELL_FAULT [5] W1C, 07_headbox_readout. -/
def HB_LATCH_CELL_FAULT (i : Nat) : Fld := ⟨⟨⟨.HB_LATCH, i, 0, 0⟩, 5⟩, 1, 0x0⟩
/-- HB_LATCH.WCONF [4] W1C, 07_headbox_readout. -/
def HB_LATCH_WCONF (i : Nat) : Fld := ⟨⟨⟨.HB_LATCH, i, 0, 0⟩, 4⟩, 1, 0x0⟩
/-- HB_LATCH.DEST_FULL [3] W1C, 07_headbox_readout. -/
def HB_LATCH_DEST_FULL (i : Nat) : Fld := ⟨⟨⟨.HB_LATCH, i, 0, 0⟩, 3⟩, 1, 0x0⟩
/-- HB_LATCH.LATE_MEAS [2] W1C, 07_headbox_readout. -/
def HB_LATCH_LATE_MEAS (i : Nat) : Fld := ⟨⟨⟨.HB_LATCH, i, 0, 0⟩, 2⟩, 1, 0x0⟩
/-- HB_LATCH.CORRUPT [1] W1C, 07_headbox_readout. -/
def HB_LATCH_CORRUPT (i : Nat) : Fld := ⟨⟨⟨.HB_LATCH, i, 0, 0⟩, 1⟩, 1, 0x0⟩
/-- HB_LATCH.OVL [0] W1C, 07_headbox_readout. -/
def HB_LATCH_OVL (i : Nat) : Fld := ⟨⟨⟨.HB_LATCH, i, 0, 0⟩, 0⟩, 1, 0x0⟩
/-- HB_CNT_A.OVL [31:16] CNT, 07_headbox_readout. -/
def HB_CNT_A_OVL (i : Nat) : Fld := ⟨⟨⟨.HB_CNT_A, i, 0, 0⟩, 16⟩, 16, 0x0⟩
/-- HB_CNT_A.CORRUPT [15:0] CNT, 07_headbox_readout. -/
def HB_CNT_A_CORRUPT (i : Nat) : Fld := ⟨⟨⟨.HB_CNT_A, i, 0, 0⟩, 0⟩, 16, 0x0⟩
/-- HB_CNT_B.WCONF [31:16] CNT, 07_headbox_readout. -/
def HB_CNT_B_WCONF (i : Nat) : Fld := ⟨⟨⟨.HB_CNT_B, i, 0, 0⟩, 16⟩, 16, 0x0⟩
/-- HB_CNT_B.LATE [15:0] CNT, 07_headbox_readout. -/
def HB_CNT_B_LATE (i : Nat) : Fld := ⟨⟨⟨.HB_CNT_B, i, 0, 0⟩, 0⟩, 16, 0x0⟩
/-- HB_RQ_CFG.EN [31] RW, 07_headbox_readout. -/
def HB_RQ_CFG_EN (i : Nat) : Fld := ⟨⟨⟨.HB_RQ_CFG, i, 0, 0⟩, 31⟩, 1, 0x0⟩
/-- HB_RQ_CFG.SHOTREC [18] RW, 07_headbox_readout. -/
def HB_RQ_CFG_SHOTREC (i : Nat) : Fld := ⟨⟨⟨.HB_RQ_CFG, i, 0, 0⟩, 18⟩, 1, 0x0⟩
/-- HB_RQ_CFG.DEST [17:16] RW, 07_headbox_readout. -/
def HB_RQ_CFG_DEST (i : Nat) : Fld := ⟨⟨⟨.HB_RQ_CFG, i, 0, 0⟩, 16⟩, 2, 0x0⟩
/-- HB_RQ_CFG.DEPTH [9:0] RW, 07_headbox_readout. -/
def HB_RQ_CFG_DEPTH (i : Nat) : Fld := ⟨⟨⟨.HB_RQ_CFG, i, 0, 0⟩, 0⟩, 10, 0x40⟩
/-- HB_RQ_CREDIT.FREE [9:0] RO, 07_headbox_readout. -/
def HB_RQ_CREDIT_FREE (i : Nat) : Fld := ⟨⟨⟨.HB_RQ_CREDIT, i, 0, 0⟩, 0⟩, 10, 0⟩
/-- HB_RQ_COUNT.COUNT [9:0] RO, 07_headbox_readout. -/
def HB_RQ_COUNT_COUNT (i : Nat) : Fld := ⟨⟨⟨.HB_RQ_COUNT, i, 0, 0⟩, 0⟩, 10, 0⟩
/-- HB_RQ_PEAK.PEAK [9:0] RW, 07_headbox_readout. -/
def HB_RQ_PEAK_PEAK (i : Nat) : Fld := ⟨⟨⟨.HB_RQ_PEAK, i, 0, 0⟩, 0⟩, 10, 0⟩
/-- HB_RQ_STAT.STARVED [3] RO, 07_headbox_readout. -/
def HB_RQ_STAT_STARVED (i : Nat) : Fld := ⟨⟨⟨.HB_RQ_STAT, i, 0, 0⟩, 3⟩, 1, 0x0⟩
/-- HB_RQ_STAT.DEST_FULL [2] RO, 07_headbox_readout. -/
def HB_RQ_STAT_DEST_FULL (i : Nat) : Fld := ⟨⟨⟨.HB_RQ_STAT, i, 0, 0⟩, 2⟩, 1, 0x0⟩
/-- HB_RQ_STAT.EMPTY [1] RO, 07_headbox_readout. -/
def HB_RQ_STAT_EMPTY (i : Nat) : Fld := ⟨⟨⟨.HB_RQ_STAT, i, 0, 0⟩, 1⟩, 1, 0x1⟩
/-- HB_RQ_CNT.DEST_FULL [31:16] CNT, 07_headbox_readout. -/
def HB_RQ_CNT_DEST_FULL (i : Nat) : Fld := ⟨⟨⟨.HB_RQ_CNT, i, 0, 0⟩, 16⟩, 16, 0x0⟩
/-- HB_RQ_CNT.REVISED [15:0] CNT, 07_headbox_readout. -/
def HB_RQ_CNT_REVISED (i : Nat) : Fld := ⟨⟨⟨.HB_RQ_CNT, i, 0, 0⟩, 0⟩, 16, 0x0⟩
/-- HB_RQ_DST_LO.VALUE [31:0] RW, 07_headbox_readout. -/
def HB_RQ_DST_LO_VALUE (i : Nat) : Fld := ⟨⟨⟨.HB_RQ_DST_LO, i, 0, 0⟩, 0⟩, 32, 0x0⟩
/-- HB_RQ_DST_HI.VALUE [3:0] RW, 07_headbox_readout. -/
def HB_RQ_DST_HI_VALUE (i : Nat) : Fld := ⟨⟨⟨.HB_RQ_DST_HI, i, 0, 0⟩, 0⟩, 4, 0⟩
/-- HB_RQ_DST_SIZE.VALUE [19:0] RW, 07_headbox_readout. -/
def HB_RQ_DST_SIZE_VALUE (i : Nat) : Fld := ⟨⟨⟨.HB_RQ_DST_SIZE, i, 0, 0⟩, 0⟩, 20, 0⟩
/-- HB_RQ_DST_WR.SLOT [31:0] RO, 07_headbox_readout. -/
def HB_RQ_DST_WR_SLOT (i : Nat) : Fld := ⟨⟨⟨.HB_RQ_DST_WR, i, 0, 0⟩, 0⟩, 32, 0⟩
/-- HB_RQ_DST_RD.SLOT [31:0] RW, 07_headbox_readout. -/
def HB_RQ_DST_RD_SLOT (i : Nat) : Fld := ⟨⟨⟨.HB_RQ_DST_RD, i, 0, 0⟩, 0⟩, 32, 0⟩
/-- HB_RQ_HEAD.VALID [8] RO, 07_headbox_readout. -/
def HB_RQ_HEAD_VALID (i : Nat) : Fld := ⟨⟨⟨.HB_RQ_HEAD, i, 0, 0⟩, 8⟩, 1, 0x0⟩
/-- HB_RQ_HEAD.LEN [3:0] RO, 07_headbox_readout. -/
def HB_RQ_HEAD_LEN (i : Nat) : Fld := ⟨⟨⟨.HB_RQ_HEAD, i, 0, 0⟩, 0⟩, 4, 0x0⟩
/-- HB_RQ_POP.POP [0] WO, 07_headbox_readout. -/
def HB_RQ_POP_POP (i : Nat) : Fld := ⟨⟨⟨.HB_RQ_POP, i, 0, 0⟩, 0⟩, 1, 0x0⟩
/-- HB_SPARE_STAT.SPARE_FAIL [11] RO, 07_headbox_readout. -/
def HB_SPARE_STAT_SPARE_FAIL (i : Nat) : Fld := ⟨⟨⟨.HB_SPARE_STAT, i, 0, 0⟩, 11⟩, 1, 0x0⟩
/-- HB_SPARE_STAT.BUSY [10] RO, 07_headbox_readout. -/
def HB_SPARE_STAT_BUSY (i : Nat) : Fld := ⟨⟨⟨.HB_SPARE_STAT, i, 0, 0⟩, 10⟩, 1, 0x0⟩
/-- HB_SPARE_STAT.FORCED [9] RO, 07_headbox_readout. -/
def HB_SPARE_STAT_FORCED (i : Nat) : Fld := ⟨⟨⟨.HB_SPARE_STAT, i, 0, 0⟩, 9⟩, 1, 0x0⟩
/-- HB_SPARE_STAT.IN_USE [8] RO, 07_headbox_readout. -/
def HB_SPARE_STAT_IN_USE (i : Nat) : Fld := ⟨⟨⟨.HB_SPARE_STAT, i, 0, 0⟩, 8⟩, 1, 0x0⟩
/-- HB_SPARE_STAT.KIND [4] RO, 07_headbox_readout. -/
def HB_SPARE_STAT_KIND (i : Nat) : Fld := ⟨⟨⟨.HB_SPARE_STAT, i, 0, 0⟩, 4⟩, 1, 0x0⟩
/-- HB_SPARE_STAT.TARGET [3:0] RO, 07_headbox_readout. -/
def HB_SPARE_STAT_TARGET (i : Nat) : Fld := ⟨⟨⟨.HB_SPARE_STAT, i, 0, 0⟩, 0⟩, 4, 0x0⟩
/-- HB_SPARE_CTRL.KIND [12] RW, 07_headbox_readout. -/
def HB_SPARE_CTRL_KIND (i : Nat) : Fld := ⟨⟨⟨.HB_SPARE_CTRL, i, 0, 0⟩, 12⟩, 1, 0x0⟩
/-- HB_SPARE_CTRL.TGT [11:8] RW, 07_headbox_readout. -/
def HB_SPARE_CTRL_TGT (i : Nat) : Fld := ⟨⟨⟨.HB_SPARE_CTRL, i, 0, 0⟩, 8⟩, 4, 0x0⟩
/-- HB_SPARE_CTRL.RELEASE [1] WO, 07_headbox_readout. -/
def HB_SPARE_CTRL_RELEASE (i : Nat) : Fld := ⟨⟨⟨.HB_SPARE_CTRL, i, 0, 0⟩, 1⟩, 1, 0x0⟩
/-- HB_SPARE_CTRL.FORCE [0] WO, 07_headbox_readout. -/
def HB_SPARE_CTRL_FORCE (i : Nat) : Fld := ⟨⟨⟨.HB_SPARE_CTRL, i, 0, 0⟩, 0⟩, 1, 0x0⟩
/-- HB_SPARE_CNT.AUDIT [31:16] CNT, 07_headbox_readout. -/
def HB_SPARE_CNT_AUDIT (i : Nat) : Fld := ⟨⟨⟨.HB_SPARE_CNT, i, 0, 0⟩, 16⟩, 16, 0x0⟩
/-- HB_SPARE_CNT.SUBST [15:0] CNT, 07_headbox_readout. -/
def HB_SPARE_CNT_SUBST (i : Nat) : Fld := ⟨⟨⟨.HB_SPARE_CNT, i, 0, 0⟩, 0⟩, 16, 0x0⟩
/-- HB_RQ_DATA.WORD [31:0] RO, 07_headbox_readout. -/
def HB_RQ_DATA_WORD (i j : Nat) : Fld := ⟨⟨⟨.HB_RQ_DATA, i, j, 0⟩, 0⟩, 32, 0x0⟩
/-- HB_CELL_CFG.PTONE [7:4] RW, 07_headbox_readout. -/
def HB_CELL_CFG_PTONE (i j : Nat) : Fld := ⟨⟨⟨.HB_CELL_CFG, i, j, 0⟩, 4⟩, 4, (j % 16)⟩
/-- HB_CELL_CFG.LINK [1] RW, 07_headbox_readout. -/
def HB_CELL_CFG_LINK (i j : Nat) : Fld := ⟨⟨⟨.HB_CELL_CFG, i, j, 0⟩, 1⟩, 1, 0x1⟩
/-- HB_CELL_CFG.EN [0] RW, 07_headbox_readout. -/
def HB_CELL_CFG_EN (i j : Nat) : Fld := ⟨⟨⟨.HB_CELL_CFG, i, j, 0⟩, 0⟩, 1, 0x0⟩
/-- HB_CELL_FTW_LO.FTW [31:0] RW, 07_headbox_readout. -/
def HB_CELL_FTW_LO_FTW (i j : Nat) : Fld := ⟨⟨⟨.HB_CELL_FTW_LO, i, j, 0⟩, 0⟩, 32, 0x0⟩
/-- HB_CELL_FTW_HI.FTW [15:0] RW, 07_headbox_readout. -/
def HB_CELL_FTW_HI_FTW (i j : Nat) : Fld := ⟨⟨⟨.HB_CELL_FTW_HI, i, j, 0⟩, 0⟩, 16, 0⟩
/-- HB_CELL_PHASE.PHASE [31:0] RW, 07_headbox_readout. -/
def HB_CELL_PHASE_PHASE (i j : Nat) : Fld := ⟨⟨⟨.HB_CELL_PHASE, i, j, 0⟩, 0⟩, 32, 0x0⟩
/-- HB_DISC_CFG.MODE [1:0] RW, 07_headbox_readout. -/
def HB_DISC_CFG_MODE (i j : Nat) : Fld := ⟨⟨⟨.HB_DISC_CFG, i, j, 0⟩, 0⟩, 2, 0x0⟩
/-- HB_DISC_ROT.SIN [31:16] RW, 07_headbox_readout. -/
def HB_DISC_ROT_SIN (i j : Nat) : Fld := ⟨⟨⟨.HB_DISC_ROT, i, j, 0⟩, 16⟩, 16, 0x0⟩
/-- HB_DISC_ROT.COS [15:0] RW, 07_headbox_readout. -/
def HB_DISC_ROT_COS (i j : Nat) : Fld := ⟨⟨⟨.HB_DISC_ROT, i, j, 0⟩, 0⟩, 16, 0x7fff⟩
/-- HB_DISC_OFS_I.VALUE [31:0] RW, 07_headbox_readout. -/
def HB_DISC_OFS_I_VALUE (i j : Nat) : Fld := ⟨⟨⟨.HB_DISC_OFS_I, i, j, 0⟩, 0⟩, 32, 0x0⟩
/-- HB_DISC_OFS_Q.VALUE [31:0] RW, 07_headbox_readout. -/
def HB_DISC_OFS_Q_VALUE (i j : Nat) : Fld := ⟨⟨⟨.HB_DISC_OFS_Q, i, j, 0⟩, 0⟩, 32, 0x0⟩
/-- HB_DISC_THR0.VALUE [31:0] RW, 07_headbox_readout. -/
def HB_DISC_THR0_VALUE (i j : Nat) : Fld := ⟨⟨⟨.HB_DISC_THR0, i, j, 0⟩, 0⟩, 32, 0x0⟩
/-- HB_DISC_THR1.VALUE [31:0] RW, 07_headbox_readout. -/
def HB_DISC_THR1_VALUE (i j : Nat) : Fld := ⟨⟨⟨.HB_DISC_THR1, i, j, 0⟩, 0⟩, 32, 0x0⟩
/-- HB_CELL_STAT.FAILED [7] RO, 07_headbox_readout. -/
def HB_CELL_STAT_FAILED (i j : Nat) : Fld := ⟨⟨⟨.HB_CELL_STAT, i, j, 0⟩, 7⟩, 1, 0x0⟩
/-- HB_CELL_STAT.SUBST [6] RO, 07_headbox_readout. -/
def HB_CELL_STAT_SUBST (i j : Nat) : Fld := ⟨⟨⟨.HB_CELL_STAT, i, j, 0⟩, 6⟩, 1, 0x0⟩
/-- HB_CELL_STAT.FTW_PEND [5] RO, 07_headbox_readout. -/
def HB_CELL_STAT_FTW_PEND (i j : Nat) : Fld := ⟨⟨⟨.HB_CELL_STAT, i, j, 0⟩, 5⟩, 1, 0x0⟩
/-- HB_CELL_STAT.BUSY [4] RO, 07_headbox_readout. -/
def HB_CELL_STAT_BUSY (i j : Nat) : Fld := ⟨⟨⟨.HB_CELL_STAT, i, j, 0⟩, 4⟩, 1, 0x0⟩
/-- HB_CELL_STAT.LAST_VALID [2] RO, 07_headbox_readout. -/
def HB_CELL_STAT_LAST_VALID (i j : Nat) : Fld := ⟨⟨⟨.HB_CELL_STAT, i, j, 0⟩, 2⟩, 1, 0x0⟩
/-- HB_CELL_STAT.LAST_STATE [1:0] RO, 07_headbox_readout. -/
def HB_CELL_STAT_LAST_STATE (i j : Nat) : Fld := ⟨⟨⟨.HB_CELL_STAT, i, j, 0⟩, 0⟩, 2, 0x0⟩
/-- HB_CELL_LAST_I.VALUE [31:0] RO, 07_headbox_readout. -/
def HB_CELL_LAST_I_VALUE (i j : Nat) : Fld := ⟨⟨⟨.HB_CELL_LAST_I, i, j, 0⟩, 0⟩, 32, 0x0⟩
/-- HB_CELL_LAST_Q.VALUE [31:0] RO, 07_headbox_readout. -/
def HB_CELL_LAST_Q_VALUE (i j : Nat) : Fld := ⟨⟨⟨.HB_CELL_LAST_Q, i, j, 0⟩, 0⟩, 32, 0x0⟩
/-- HB_CELL_LATCH.OVL [3] W1C, 07_headbox_readout. -/
def HB_CELL_LATCH_OVL (i j : Nat) : Fld := ⟨⟨⟨.HB_CELL_LATCH, i, j, 0⟩, 3⟩, 1, 0x0⟩
/-- HB_CELL_LATCH.FAULT [2] W1C, 07_headbox_readout. -/
def HB_CELL_LATCH_FAULT (i j : Nat) : Fld := ⟨⟨⟨.HB_CELL_LATCH, i, j, 0⟩, 2⟩, 1, 0x0⟩
/-- HB_CELL_LATCH.FTW_REPL [1] W1C, 07_headbox_readout. -/
def HB_CELL_LATCH_FTW_REPL (i j : Nat) : Fld := ⟨⟨⟨.HB_CELL_LATCH, i, j, 0⟩, 1⟩, 1, 0x0⟩
/-- HB_CELL_LATCH.FTW_LATE [0] W1C, 07_headbox_readout. -/
def HB_CELL_LATCH_FTW_LATE (i j : Nat) : Fld := ⟨⟨⟨.HB_CELL_LATCH, i, j, 0⟩, 0⟩, 1, 0x0⟩
/-- HB_CELL_CNT.WINDOWS [31:16] CNT, 07_headbox_readout. -/
def HB_CELL_CNT_WINDOWS (i j : Nat) : Fld := ⟨⟨⟨.HB_CELL_CNT, i, j, 0⟩, 16⟩, 16, 0x0⟩
/-- HB_CELL_CNT.CORR [15:0] CNT, 07_headbox_readout. -/
def HB_CELL_CNT_CORR (i j : Nat) : Fld := ⟨⟨⟨.HB_CELL_CNT, i, j, 0⟩, 0⟩, 16, 0x0⟩
/-- WGT_W0.MODE [31] RW, 07_headbox_readout. -/
def WGT_W0_MODE (i j : Nat) : Fld := ⟨⟨⟨.WGT_W0, i, j, 0⟩, 31⟩, 1, 0x0⟩
/-- WGT_W0.START [17:0] RW, 07_headbox_readout. -/
def WGT_W0_START (i j : Nat) : Fld := ⟨⟨⟨.WGT_W0, i, j, 0⟩, 0⟩, 18, 0x0⟩
/-- WGT_W1.WLEN [13:0] RW, 07_headbox_readout. -/
def WGT_W1_WLEN (i j : Nat) : Fld := ⟨⟨⟨.WGT_W1, i, j, 0⟩, 0⟩, 14, 0x0⟩
/-- WGT_W2.CONST_Q [31:16] RW, 07_headbox_readout. -/
def WGT_W2_CONST_Q (i j : Nat) : Fld := ⟨⟨⟨.WGT_W2, i, j, 0⟩, 16⟩, 16, 0x0⟩
/-- WGT_W2.CONST_I [15:0] RW, 07_headbox_readout. -/
def WGT_W2_CONST_I (i j : Nat) : Fld := ⟨⟨⟨.WGT_W2, i, j, 0⟩, 0⟩, 16, 0x0⟩
/-- WGT_W3.ACTIVE [31:16] RO, 07_headbox_readout. -/
def WGT_W3_ACTIVE (i j : Nat) : Fld := ⟨⟨⟨.WGT_W3, i, j, 0⟩, 16⟩, 16, 0x0⟩
/-- BT_CTRL.RELEASE [2] WO, 08_beater_dsp. -/
def BT_CTRL_RELEASE (i : Nat) : Fld := ⟨⟨⟨.BT_CTRL, i, 0, 0⟩, 2⟩, 1, 0x0⟩
/-- BT_CTRL.FORCE [1] WO, 08_beater_dsp. -/
def BT_CTRL_FORCE (i : Nat) : Fld := ⟨⟨⟨.BT_CTRL, i, 0, 0⟩, 1⟩, 1, 0x0⟩
/-- BT_CTRL.EN [0] RW, 08_beater_dsp. -/
def BT_CTRL_EN (i : Nat) : Fld := ⟨⟨⟨.BT_CTRL, i, 0, 0⟩, 0⟩, 1, 0x0⟩
/-- BT_STAT.ACTIVE [31:16] RO, 08_beater_dsp. -/
def BT_STAT_ACTIVE (i : Nat) : Fld := ⟨⟨⟨.BT_STAT, i, 0, 0⟩, 16⟩, 16, 0x0⟩
/-- BT_STAT.FAULT [15:0] RO, 08_beater_dsp. -/
def BT_STAT_FAULT (i : Nat) : Fld := ⟨⟨⟨.BT_STAT, i, 0, 0⟩, 0⟩, 16, 0x0⟩
/-- BT_ESTAT.SUBST [2] RO, 08_beater_dsp. -/
def BT_ESTAT_SUBST (i : Nat) : Fld := ⟨⟨⟨.BT_ESTAT, i, 0, 0⟩, 2⟩, 1, 0x0⟩
/-- BT_ESTAT.FAILED [1] RO, 08_beater_dsp. -/
def BT_ESTAT_FAILED (i : Nat) : Fld := ⟨⟨⟨.BT_ESTAT, i, 0, 0⟩, 1⟩, 1, 0x0⟩
/-- BT_ESTAT.PAUSED [0] RO, 08_beater_dsp. -/
def BT_ESTAT_PAUSED (i : Nat) : Fld := ⟨⟨⟨.BT_ESTAT, i, 0, 0⟩, 0⟩, 1, 0x0⟩
/-- BT_LATCH.OVERWRITE [1] W1C, 08_beater_dsp. -/
def BT_LATCH_OVERWRITE (i : Nat) : Fld := ⟨⟨⟨.BT_LATCH, i, 0, 0⟩, 1⟩, 1, 0x0⟩
/-- BT_LATCH.RESIDUE [0] W1C, 08_beater_dsp. -/
def BT_LATCH_RESIDUE (i : Nat) : Fld := ⟨⟨⟨.BT_LATCH, i, 0, 0⟩, 0⟩, 1, 0x0⟩
/-- BT_CNT.RESIDUE [31:16] CNT, 08_beater_dsp. -/
def BT_CNT_RESIDUE (i : Nat) : Fld := ⟨⟨⟨.BT_CNT, i, 0, 0⟩, 16⟩, 16, 0x0⟩
/-- BT_CNT.OVERWRITE [15:0] CNT, 08_beater_dsp. -/
def BT_CNT_OVERWRITE (i : Nat) : Fld := ⟨⟨⟨.BT_CNT, i, 0, 0⟩, 0⟩, 16, 0x0⟩
/-- BT_OUT.DELIVERED [8] RO, 08_beater_dsp. -/
def BT_OUT_DELIVERED (i j : Nat) : Fld := ⟨⟨⟨.BT_OUT, i, j, 0⟩, 8⟩, 1, 0x0⟩
/-- BT_OUT.VALUE [1:0] RO, 08_beater_dsp. -/
def BT_OUT_VALUE (i j : Nat) : Fld := ⟨⟨⟨.BT_OUT, i, j, 0⟩, 0⟩, 2, 0x0⟩
/-- CTX_CTRL.PHASE_EN [6] RW, 08_beater_dsp. -/
def CTX_CTRL_PHASE_EN (i j : Nat) : Fld := ⟨⟨⟨.CTX_CTRL, i, j, 0⟩, 6⟩, 1, 0x0⟩
/-- CTX_CTRL.PHASE [5:4] RW, 08_beater_dsp. -/
def CTX_CTRL_PHASE (i j : Nat) : Fld := ⟨⟨⟨.CTX_CTRL, i, j, 0⟩, 4⟩, 2, 0x0⟩
/-- CTX_CTRL.STOP [1] WO, 08_beater_dsp. -/
def CTX_CTRL_STOP (i j : Nat) : Fld := ⟨⟨⟨.CTX_CTRL, i, j, 0⟩, 1⟩, 1, 0x0⟩
/-- CTX_CTRL.START [0] WO, 08_beater_dsp. -/
def CTX_CTRL_START (i j : Nat) : Fld := ⟨⟨⟨.CTX_CTRL, i, j, 0⟩, 0⟩, 1, 0x0⟩
/-- CTX_PC.PC [12:0] RW, 08_beater_dsp. -/
def CTX_PC_PC (i j : Nat) : Fld := ⟨⟨⟨.CTX_PC, i, j, 0⟩, 0⟩, 13, 0x0⟩
/-- CTX_WIN.LIMIT [28:16] RW, 08_beater_dsp. -/
def CTX_WIN_LIMIT (i j : Nat) : Fld := ⟨⟨⟨.CTX_WIN, i, j, 0⟩, 16⟩, 13, 0x1fff⟩
/-- CTX_WIN.BASE [12:0] RW, 08_beater_dsp. -/
def CTX_WIN_BASE (i j : Nat) : Fld := ⟨⟨⟨.CTX_WIN, i, j, 0⟩, 0⟩, 13, 0x0⟩
/-- CTX_STAT.SAT [26] RO, 08_beater_dsp. -/
def CTX_STAT_SAT (i j : Nat) : Fld := ⟨⟨⟨.CTX_STAT, i, j, 0⟩, 26⟩, 1, 0x0⟩
/-- CTX_STAT.N [25] RO, 08_beater_dsp. -/
def CTX_STAT_N (i j : Nat) : Fld := ⟨⟨⟨.CTX_STAT, i, j, 0⟩, 25⟩, 1, 0x0⟩
/-- CTX_STAT.Z [24] RO, 08_beater_dsp. -/
def CTX_STAT_Z (i j : Nat) : Fld := ⟨⟨⟨.CTX_STAT, i, j, 0⟩, 24⟩, 1, 0x0⟩
/-- CTX_STAT.FCAUSE [23:16] RO, 08_beater_dsp. -/
def CTX_STAT_FCAUSE (i j : Nat) : Fld := ⟨⟨⟨.CTX_STAT, i, j, 0⟩, 16⟩, 8, 0x0⟩
/-- CTX_STAT.WCAUSE [11:8] RO, 08_beater_dsp. -/
def CTX_STAT_WCAUSE (i j : Nat) : Fld := ⟨⟨⟨.CTX_STAT, i, j, 0⟩, 8⟩, 4, 0x0⟩
/-- CTX_STAT.STATE [2:0] RO, 08_beater_dsp. -/
def CTX_STAT_STATE (i j : Nat) : Fld := ⟨⟨⟨.CTX_STAT, i, j, 0⟩, 0⟩, 3, 0x0⟩
/-- CTX_LATCH.IN_DROP [3] W1C, 08_beater_dsp. -/
def CTX_LATCH_IN_DROP (i j : Nat) : Fld := ⟨⟨⟨.CTX_LATCH, i, j, 0⟩, 3⟩, 1, 0x0⟩
/-- CTX_LATCH.SAT [2] W1C, 08_beater_dsp. -/
def CTX_LATCH_SAT (i j : Nat) : Fld := ⟨⟨⟨.CTX_LATCH, i, j, 0⟩, 2⟩, 1, 0x0⟩
/-- CTX_LATCH.FAULT [1] W1C, 08_beater_dsp. -/
def CTX_LATCH_FAULT (i j : Nat) : Fld := ⟨⟨⟨.CTX_LATCH, i, j, 0⟩, 1⟩, 1, 0x0⟩
/-- CTX_LATCH.START_REF [0] W1C, 08_beater_dsp. -/
def CTX_LATCH_START_REF (i j : Nat) : Fld := ⟨⟨⟨.CTX_LATCH, i, j, 0⟩, 0⟩, 1, 0x0⟩
/-- CTX_CNT.STALL [31:24] CNT, 08_beater_dsp. -/
def CTX_CNT_STALL (i j : Nat) : Fld := ⟨⟨⟨.CTX_CNT, i, j, 0⟩, 24⟩, 8, 0x0⟩
/-- CTX_CNT.SAT [23:16] CNT, 08_beater_dsp. -/
def CTX_CNT_SAT (i j : Nat) : Fld := ⟨⟨⟨.CTX_CNT, i, j, 0⟩, 16⟩, 8, 0x0⟩
/-- CTX_CNT.IN_DROP [15:0] CNT, 08_beater_dsp. -/
def CTX_CNT_IN_DROP (i j : Nat) : Fld := ⟨⟨⟨.CTX_CNT, i, j, 0⟩, 0⟩, 16, 0x0⟩
/-- CTX_IN.MASK [31:16] RW, 08_beater_dsp. -/
def CTX_IN_MASK (i j : Nat) : Fld := ⟨⟨⟨.CTX_IN, i, j, 0⟩, 16⟩, 16, 0x0⟩
/-- CTX_IN.SHIFT [15:12] RW, 08_beater_dsp. -/
def CTX_IN_SHIFT (i j : Nat) : Fld := ⟨⟨⟨.CTX_IN, i, j, 0⟩, 12⟩, 4, 0x7⟩
/-- CTX_IN.LEVEL [4:0] RO, 08_beater_dsp. -/
def CTX_IN_LEVEL (i j : Nat) : Fld := ⟨⟨⟨.CTX_IN, i, j, 0⟩, 0⟩, 5, 0x0⟩
/-- CTX_IX.RRB [11:8] RO, 08_beater_dsp. -/
def CTX_IX_RRB (i j : Nat) : Fld := ⟨⟨⟨.CTX_IX, i, j, 0⟩, 8⟩, 4, 0x0⟩
/-- CTX_IX.IX [4:0] RO, 08_beater_dsp. -/
def CTX_IX_IX (i j : Nat) : Fld := ⟨⟨⟨.CTX_IX, i, j, 0⟩, 0⟩, 5, 0x0⟩
/-- CTX_PTR_A.LEN [31:16] RW, 08_beater_dsp. -/
def CTX_PTR_A_LEN (i j k : Nat) : Fld := ⟨⟨⟨.CTX_PTR_A, i, j, k⟩, 16⟩, 16, 0x0⟩
/-- CTX_PTR_A.BASE [15:0] RW, 08_beater_dsp. -/
def CTX_PTR_A_BASE (i j k : Nat) : Fld := ⟨⟨⟨.CTX_PTR_A, i, j, k⟩, 0⟩, 16, 0x0⟩
/-- CTX_PTR_B.STEP [31:16] RW, 08_beater_dsp. -/
def CTX_PTR_B_STEP (i j k : Nat) : Fld := ⟨⟨⟨.CTX_PTR_B, i, j, k⟩, 16⟩, 16, 0x1⟩
/-- CTX_PTR_B.OFS [15:0] RW, 08_beater_dsp. -/
def CTX_PTR_B_OFS (i j k : Nat) : Fld := ⟨⟨⟨.CTX_PTR_B, i, j, k⟩, 0⟩, 16, 0x0⟩
/-- COUCH_CTRL.PF_CLR_SHOT [1] RW, 09_couch_decisions. -/
def COUCH_CTRL_PF_CLR_SHOT : Fld := ⟨⟨⟨.COUCH_CTRL, 0, 0, 0⟩, 1⟩, 1, 0x0⟩
/-- COUCH_CTRL.PF_CLR [0] WO, 09_couch_decisions. -/
def COUCH_CTRL_PF_CLR : Fld := ⟨⟨⟨.COUCH_CTRL, 0, 0, 0⟩, 0⟩, 1, 0x0⟩
/-- COUCH_LATCH.XLATE [0] W1C, 09_couch_decisions. -/
def COUCH_LATCH_XLATE : Fld := ⟨⟨⟨.COUCH_LATCH, 0, 0, 0⟩, 0⟩, 1, 0x0⟩
/-- COUCH_CNT.XDROP [31:16] CNT, 09_couch_decisions. -/
def COUCH_CNT_XDROP : Fld := ⟨⟨⟨.COUCH_CNT, 0, 0, 0⟩, 16⟩, 16, 0x0⟩
/-- COUCH_CNT.XLATE [15:0] CNT, 09_couch_decisions. -/
def COUCH_CNT_XLATE : Fld := ⟨⟨⟨.COUCH_CNT, 0, 0, 0⟩, 0⟩, 16, 0x0⟩
/-- COUCH_PSRC.FLAG [31:0] RO, 09_couch_decisions. -/
def COUCH_PSRC_FLAG : Fld := ⟨⟨⟨.COUCH_PSRC, 0, 0, 0⟩, 0⟩, 32, 0x0⟩
/-- SE_CTRL.STOP [1] WO, 09_couch_decisions. -/
def SE_CTRL_STOP : Fld := ⟨⟨⟨.SE_CTRL, 0, 0, 0⟩, 1⟩, 1, 0x0⟩
/-- SE_CTRL.START [0] WO, 09_couch_decisions. -/
def SE_CTRL_START : Fld := ⟨⟨⟨.SE_CTRL, 0, 0, 0⟩, 0⟩, 1, 0x0⟩
/-- SE_GEOM.C [8:0] RW, 09_couch_decisions. -/
def SE_GEOM_C : Fld := ⟨⟨⟨.SE_GEOM, 0, 0, 0⟩, 0⟩, 9, 1⟩
/-- SE_GEOM.W [21:16] RW, 09_couch_decisions. -/
def SE_GEOM_W : Fld := ⟨⟨⟨.SE_GEOM, 0, 0, 0⟩, 16⟩, 6, 8⟩
/-- SE_GEOM.HOLD [26:24] RW, 09_couch_decisions. -/
def SE_GEOM_HOLD : Fld := ⟨⟨⟨.SE_GEOM, 0, 0, 0⟩, 24⟩, 3, 1⟩
/-- SE_RWIN.TICKS [15:0] RW, 09_couch_decisions. -/
def SE_RWIN_TICKS : Fld := ⟨⟨⟨.SE_RWIN, 0, 0, 0⟩, 0⟩, 16, 0xC8⟩
/-- SE_STAT.ODD [31:16] RO, 09_couch_decisions. -/
def SE_STAT_ODD : Fld := ⟨⟨⟨.SE_STAT, 0, 0, 0⟩, 16⟩, 16, 0x0⟩
/-- SE_STAT.WAITING [6:4] RO, 09_couch_decisions. -/
def SE_STAT_WAITING : Fld := ⟨⟨⟨.SE_STAT, 0, 0, 0⟩, 4⟩, 3, 0x0⟩
/-- SE_STAT.ARMED [1] RO, 09_couch_decisions. -/
def SE_STAT_ARMED : Fld := ⟨⟨⟨.SE_STAT, 0, 0, 0⟩, 1⟩, 1, 0x0⟩
/-- SE_STAT.RUN [0] RO, 09_couch_decisions. -/
def SE_STAT_RUN : Fld := ⟨⟨⟨.SE_STAT, 0, 0, 0⟩, 0⟩, 1, 0x0⟩
/-- SE_LATCH.GRAPH_ERR [4] W1C, 09_couch_decisions. -/
def SE_LATCH_GRAPH_ERR : Fld := ⟨⟨⟨.SE_LATCH, 0, 0, 0⟩, 4⟩, 1, 0x0⟩
/-- SE_LATCH.LATE_BND [3] W1C, 09_couch_decisions. -/
def SE_LATCH_LATE_BND : Fld := ⟨⟨⟨.SE_LATCH, 0, 0, 0⟩, 3⟩, 1, 0x0⟩
/-- SE_LATCH.MISSING [2] W1C, 09_couch_decisions. -/
def SE_LATCH_MISSING : Fld := ⟨⟨⟨.SE_LATCH, 0, 0, 0⟩, 2⟩, 1, 0x0⟩
/-- SE_LATCH.FORCED [1] W1C, 09_couch_decisions. -/
def SE_LATCH_FORCED : Fld := ⟨⟨⟨.SE_LATCH, 0, 0, 0⟩, 1⟩, 1, 0x0⟩
/-- SE_LATCH.OVERLOAD [0] W1C, 09_couch_decisions. -/
def SE_LATCH_OVERLOAD : Fld := ⟨⟨⟨.SE_LATCH, 0, 0, 0⟩, 0⟩, 1, 0x0⟩
/-- SE_CNT_A.OVERLOAD [31:16] CNT, 09_couch_decisions. -/
def SE_CNT_A_OVERLOAD : Fld := ⟨⟨⟨.SE_CNT_A, 0, 0, 0⟩, 16⟩, 16, 0x0⟩
/-- SE_CNT_A.FORCED [15:0] CNT, 09_couch_decisions. -/
def SE_CNT_A_FORCED : Fld := ⟨⟨⟨.SE_CNT_A, 0, 0, 0⟩, 0⟩, 16, 0x0⟩
/-- SE_CNT_B.MISSING [31:16] CNT, 09_couch_decisions. -/
def SE_CNT_B_MISSING : Fld := ⟨⟨⟨.SE_CNT_B, 0, 0, 0⟩, 16⟩, 16, 0x0⟩
/-- SE_CNT_B.LATE_BND [15:0] CNT, 09_couch_decisions. -/
def SE_CNT_B_LATE_BND : Fld := ⟨⟨⟨.SE_CNT_B, 0, 0, 0⟩, 0⟩, 16, 0x0⟩
/-- SE_CNT_C.GBUSY [31:16] CNT, 09_couch_decisions. -/
def SE_CNT_C_GBUSY : Fld := ⟨⟨⟨.SE_CNT_C, 0, 0, 0⟩, 16⟩, 16, 0x0⟩
/-- SE_CNT_C.BND_TX [15:0] CNT, 09_couch_decisions. -/
def SE_CNT_C_BND_TX : Fld := ⟨⟨⟨.SE_CNT_C, 0, 0, 0⟩, 0⟩, 16, 0x0⟩
/-- SE_ROUND.LAST [15:0] RO, 09_couch_decisions. -/
def SE_ROUND_LAST : Fld := ⟨⟨⟨.SE_ROUND, 0, 0, 0⟩, 0⟩, 16, 0x0⟩
/-- SE_LOG.WR [9:0] RO, 09_couch_decisions. -/
def SE_LOG_WR : Fld := ⟨⟨⟨.SE_LOG, 0, 0, 0⟩, 0⟩, 10, 0x0⟩
/-- SE_GERR.CODE [19:16] RO, 09_couch_decisions. -/
def SE_GERR_CODE : Fld := ⟨⟨⟨.SE_GERR, 0, 0, 0⟩, 16⟩, 4, 0x0⟩
/-- SE_GERR.CHECK [12] RO, 09_couch_decisions. -/
def SE_GERR_CHECK : Fld := ⟨⟨⟨.SE_GERR, 0, 0, 0⟩, 12⟩, 1, 0x0⟩
/-- SE_GERR.INDEX [11:0] RO, 09_couch_decisions. -/
def SE_GERR_INDEX : Fld := ⟨⟨⟨.SE_GERR, 0, 0, 0⟩, 0⟩, 12, 0x0⟩
/-- COUCH_PORT.CDLY [7:0] RW, 09_couch_decisions. -/
def COUCH_PORT_CDLY (i : Nat) : Fld := ⟨⟨⟨.COUCH_PORT, i, 0, 0⟩, 0⟩, 8, 0x4⟩
/-- SE_PORT.PEER_PULL [4] RO, 09_couch_decisions. -/
def SE_PORT_PEER_PULL (i : Nat) : Fld := ⟨⟨⟨.SE_PORT, i, 0, 0⟩, 4⟩, 1, 0x0⟩
/-- SE_PORT.ROLE [1:0] RW, 09_couch_decisions. -/
def SE_PORT_ROLE (i : Nat) : Fld := ⟨⟨⟨.SE_PORT, i, 0, 0⟩, 0⟩, 2, 0x0⟩
/-- DX_CFG.EN [31] RW, 09_couch_decisions. -/
def DX_CFG_EN (i : Nat) : Fld := ⟨⟨⟨.DX_CFG, i, 0, 0⟩, 31⟩, 1, 0x0⟩
/-- DX_CFG.ARM_EN [30] RW, 09_couch_decisions. -/
def DX_CFG_ARM_EN (i : Nat) : Fld := ⟨⟨⟨.DX_CFG, i, 0, 0⟩, 30⟩, 1, 0x0⟩
/-- DX_CFG.ARM_CH [29:22] RW, 09_couch_decisions. -/
def DX_CFG_ARM_CH (i : Nat) : Fld := ⟨⟨⟨.DX_CFG, i, 0, 0⟩, 22⟩, 8, 0x0⟩
/-- DX_CFG.PORTS [19:12] RW, 09_couch_decisions. -/
def DX_CFG_PORTS (i : Nat) : Fld := ⟨⟨⟨.DX_CFG, i, 0, 0⟩, 12⟩, 8, 0x0⟩
/-- DX_CFG.SRC [11:0] RW, 09_couch_decisions. -/
def DX_CFG_SRC (i : Nat) : Fld := ⟨⟨⟨.DX_CFG, i, 0, 0⟩, 0⟩, 12, 0x0⟩
/-- XIN_CFG.EN [31] RW, 09_couch_decisions. -/
def XIN_CFG_EN (i : Nat) : Fld := ⟨⟨⟨.XIN_CFG, i, 0, 0⟩, 31⟩, 1, 0x0⟩
/-- XIN_CFG.DELIVERED [30] RO, 09_couch_decisions. -/
def XIN_CFG_DELIVERED (i : Nat) : Fld := ⟨⟨⟨.XIN_CFG, i, 0, 0⟩, 30⟩, 1, 0x0⟩
/-- XIN_CFG.VALUE [29:28] RO, 09_couch_decisions. -/
def XIN_CFG_VALUE (i : Nat) : Fld := ⟨⟨⟨.XIN_CFG, i, 0, 0⟩, 28⟩, 2, 0x0⟩
/-- XIN_CFG.PORT [10:8] RW, 09_couch_decisions. -/
def XIN_CFG_PORT (i : Nat) : Fld := ⟨⟨⟨.XIN_CFG, i, 0, 0⟩, 8⟩, 3, 0x0⟩
/-- XIN_CFG.EXPORT [5:0] RW, 09_couch_decisions. -/
def XIN_CFG_EXPORT (i : Nat) : Fld := ⟨⟨⟨.XIN_CFG, i, 0, 0⟩, 0⟩, 6, 0x0⟩
/-- FRULE_A.EN [31] RW, 09_couch_decisions. -/
def FRULE_A_EN (i : Nat) : Fld := ⟨⟨⟨.FRULE_A, i, 0, 0⟩, 31⟩, 1, 0x0⟩
/-- FRULE_A.VAL [17:16] RW, 09_couch_decisions. -/
def FRULE_A_VAL (i : Nat) : Fld := ⟨⟨⟨.FRULE_A, i, 0, 0⟩, 16⟩, 2, 0x0⟩
/-- FRULE_A.TEST [13:12] RW, 09_couch_decisions. -/
def FRULE_A_TEST (i : Nat) : Fld := ⟨⟨⟨.FRULE_A, i, 0, 0⟩, 12⟩, 2, 0x0⟩
/-- FRULE_A.SRC [11:0] RW, 09_couch_decisions. -/
def FRULE_A_SRC (i : Nat) : Fld := ⟨⟨⟨.FRULE_A, i, 0, 0⟩, 0⟩, 12, 0x0⟩
/-- FRULE_B.XMASK [9:8] RW, 09_couch_decisions. -/
def FRULE_B_XMASK (i : Nat) : Fld := ⟨⟨⟨.FRULE_B, i, 0, 0⟩, 8⟩, 2, 0x0⟩
/-- FRULE_B.SLOT [7:0] RW, 09_couch_decisions. -/
def FRULE_B_SLOT (i : Nat) : Fld := ⟨⟨⟨.FRULE_B, i, 0, 0⟩, 0⟩, 8, 0x0⟩
/-- COUCH_SLOT.RC_SLOT [11:8] RW, 09_couch_decisions. -/
def COUCH_SLOT_RC_SLOT (i : Nat) : Fld := ⟨⟨⟨.COUCH_SLOT, i, 0, 0⟩, 8⟩, 4, (i % 16)⟩
/-- COUCH_SLOT.AXIS [0] RW, 09_couch_decisions. -/
def COUCH_SLOT_AXIS (i : Nat) : Fld := ⟨⟨⟨.COUCH_SLOT, i, 0, 0⟩, 0⟩, 1, 0x0⟩
/-- COUCH_PF.FRAME [31:0] RO, 09_couch_decisions. -/
def COUCH_PF_FRAME (i : Nat) : Fld := ⟨⟨⟨.COUCH_PF, i, 0, 0⟩, 0⟩, 32, 0⟩
/-- COUCH_PF_XOR.FRAME [31:0] WO, 09_couch_decisions. -/
def COUCH_PF_XOR_FRAME (i : Nat) : Fld := ⟨⟨⟨.COUCH_PF_XOR, i, 0, 0⟩, 0⟩, 32, 0⟩
/-- POST_CTRL.CELL_CLR [0] WO, 10_post_event_fabric. -/
def POST_CTRL_CELL_CLR : Fld := ⟨⟨⟨.POST_CTRL, 0, 0, 0⟩, 0⟩, 1, 0x0⟩
/-- POST_SWFIRE.FIRE [31:0] WO, 10_post_event_fabric. -/
def POST_SWFIRE_FIRE : Fld := ⟨⟨⟨.POST_SWFIRE, 0, 0, 0⟩, 0⟩, 32, 0x0⟩
/-- POST_GRP.EN [15:0] RW, 10_post_event_fabric. -/
def POST_GRP_EN : Fld := ⟨⟨⟨.POST_GRP, 0, 0, 0⟩, 0⟩, 16, 0xffff⟩
/-- POST_GRP_ONCE.ONCE [15:0] RW, 10_post_event_fabric. -/
def POST_GRP_ONCE_ONCE : Fld := ⟨⟨⟨.POST_GRP_ONCE, 0, 0, 0⟩, 0⟩, 16, 0x0⟩
/-- POST_CH.EN [31] RW, 10_post_event_fabric. -/
def POST_CH_EN (i : Nat) : Fld := ⟨⟨⟨.POST_CH, i, 0, 0⟩, 31⟩, 1, 0x0⟩
/-- POST_CH.MERGE [30] RW, 10_post_event_fabric. -/
def POST_CH_MERGE (i : Nat) : Fld := ⟨⟨⟨.POST_CH, i, 0, 0⟩, 30⟩, 1, 0x0⟩
/-- POST_CH.PROD2 [29:20] RW, 10_post_event_fabric. -/
def POST_CH_PROD2 (i : Nat) : Fld := ⟨⟨⟨.POST_CH, i, 0, 0⟩, 20⟩, 10, 0x0⟩
/-- POST_CH.PROD [9:0] RW, 10_post_event_fabric. -/
def POST_CH_PROD (i : Nat) : Fld := ⟨⟨⟨.POST_CH, i, 0, 0⟩, 0⟩, 10, 0x0⟩
/-- POST_CHCNT.DROP [31:16] CNT, 10_post_event_fabric. -/
def POST_CHCNT_DROP (i : Nat) : Fld := ⟨⟨⟨.POST_CHCNT, i, 0, 0⟩, 16⟩, 16, 0x0⟩
/-- POST_CHCNT.PASS [15:0] CNT, 10_post_event_fabric. -/
def POST_CHCNT_PASS (i : Nat) : Fld := ⟨⟨⟨.POST_CHCNT, i, 0, 0⟩, 0⟩, 16, 0x0⟩
/-- POST_CELL.LUT [31:16] RW, 10_post_event_fabric. -/
def POST_CELL_LUT (i : Nat) : Fld := ⟨⟨⟨.POST_CELL, i, 0, 0⟩, 16⟩, 16, 0x0⟩
/-- POST_CELL.FF [15] RW, 10_post_event_fabric. -/
def POST_CELL_FF (i : Nat) : Fld := ⟨⟨⟨.POST_CELL, i, 0, 0⟩, 15⟩, 1, 0x0⟩
/-- POST_CELL.FILT [14:12] RW, 10_post_event_fabric. -/
def POST_CELL_FILT (i : Nat) : Fld := ⟨⟨⟨.POST_CELL, i, 0, 0⟩, 12⟩, 3, 0x0⟩
/-- POST_CELL.F [1] RO, 10_post_event_fabric. -/
def POST_CELL_F (i : Nat) : Fld := ⟨⟨⟨.POST_CELL, i, 0, 0⟩, 1⟩, 1, 0x0⟩
/-- POST_CELL.Q [0] RO, 10_post_event_fabric. -/
def POST_CELL_Q (i : Nat) : Fld := ⟨⟨⟨.POST_CELL, i, 0, 0⟩, 0⟩, 1, 0x0⟩
/-- POST_GCNT.BLOCK [15:0] CNT, 10_post_event_fabric. -/
def POST_GCNT_BLOCK (i : Nat) : Fld := ⟨⟨⟨.POST_GCNT, i, 0, 0⟩, 0⟩, 16, 0x0⟩
/-- POST_CSEL.EN [31] RW, 10_post_event_fabric. -/
def POST_CSEL_EN (i : Nat) : Fld := ⟨⟨⟨.POST_CSEL, i, 0, 0⟩, 31⟩, 1, 0x0⟩
/-- POST_CSEL.EVERY [23:16] RW, 10_post_event_fabric. -/
def POST_CSEL_EVERY (i : Nat) : Fld := ⟨⟨⟨.POST_CSEL, i, 0, 0⟩, 16⟩, 8, 0x0⟩
/-- POST_CSEL.SRC [8:0] RW, 10_post_event_fabric. -/
def POST_CSEL_SRC (i : Nat) : Fld := ⟨⟨⟨.POST_CSEL, i, 0, 0⟩, 0⟩, 9, 0x0⟩
/-- POST_CCNT.EXEC [31:16] CNT, 10_post_event_fabric. -/
def POST_CCNT_EXEC (i : Nat) : Fld := ⟨⟨⟨.POST_CCNT, i, 0, 0⟩, 16⟩, 16, 0x0⟩
/-- POST_CCNT.COINC [15:8] CNT, 10_post_event_fabric. -/
def POST_CCNT_COINC (i : Nat) : Fld := ⟨⟨⟨.POST_CCNT, i, 0, 0⟩, 8⟩, 8, 0x0⟩
/-- POST_CCNT.OFF [7:0] CNT, 10_post_event_fabric. -/
def POST_CCNT_OFF (i : Nat) : Fld := ⟨⟨⟨.POST_CCNT, i, 0, 0⟩, 0⟩, 8, 0x0⟩
/-- CAP_CFG.SRC [15:8] RW, 11_capture. -/
def CAP_CFG_SRC (i : Nat) : Fld := ⟨⟨⟨.CAP_CFG, i, 0, 0⟩, 8⟩, 8, 0x0⟩
/-- CAP_CFG.DEC [7:4] RW, 11_capture. -/
def CAP_CFG_DEC (i : Nat) : Fld := ⟨⟨⟨.CAP_CFG, i, 0, 0⟩, 4⟩, 4, 0x0⟩
/-- CAP_CFG.AUTO [1] RW, 11_capture. -/
def CAP_CFG_AUTO (i : Nat) : Fld := ⟨⟨⟨.CAP_CFG, i, 0, 0⟩, 1⟩, 1, 0x0⟩
/-- CAP_CFG.MODE [0] RW, 11_capture. -/
def CAP_CFG_MODE (i : Nat) : Fld := ⟨⟨⟨.CAP_CFG, i, 0, 0⟩, 0⟩, 1, 0x0⟩
/-- CAP_TRIG.HYST [31:16] RW, 11_capture. -/
def CAP_TRIG_HYST (i : Nat) : Fld := ⟨⟨⟨.CAP_TRIG, i, 0, 0⟩, 16⟩, 16, 0x0⟩
/-- CAP_TRIG.WIN_IN [7] RW, 11_capture. -/
def CAP_TRIG_WIN_IN (i : Nat) : Fld := ⟨⟨⟨.CAP_TRIG, i, 0, 0⟩, 7⟩, 1, 0x0⟩
/-- CAP_TRIG.POL [6] RW, 11_capture. -/
def CAP_TRIG_POL (i : Nat) : Fld := ⟨⟨⟨.CAP_TRIG, i, 0, 0⟩, 6⟩, 1, 0x0⟩
/-- CAP_TRIG.TIME [4] RW, 11_capture. -/
def CAP_TRIG_TIME (i : Nat) : Fld := ⟨⟨⟨.CAP_TRIG, i, 0, 0⟩, 4⟩, 1, 0x0⟩
/-- CAP_TRIG.POST [3] RW, 11_capture. -/
def CAP_TRIG_POST (i : Nat) : Fld := ⟨⟨⟨.CAP_TRIG, i, 0, 0⟩, 3⟩, 1, 0x0⟩
/-- CAP_TRIG.WINDOW [2] RW, 11_capture. -/
def CAP_TRIG_WINDOW (i : Nat) : Fld := ⟨⟨⟨.CAP_TRIG, i, 0, 0⟩, 2⟩, 1, 0x0⟩
/-- CAP_TRIG.EDGE [1] RW, 11_capture. -/
def CAP_TRIG_EDGE (i : Nat) : Fld := ⟨⟨⟨.CAP_TRIG, i, 0, 0⟩, 1⟩, 1, 0x0⟩
/-- CAP_TRIG.LEVEL [0] RW, 11_capture. -/
def CAP_TRIG_LEVEL (i : Nat) : Fld := ⟨⟨⟨.CAP_TRIG, i, 0, 0⟩, 0⟩, 1, 0x0⟩
/-- CAP_THR.HI [31:16] RW, 11_capture. -/
def CAP_THR_HI (i : Nat) : Fld := ⟨⟨⟨.CAP_THR, i, 0, 0⟩, 16⟩, 16, 0x7fff⟩
/-- CAP_THR.LO [15:0] RW, 11_capture. -/
def CAP_THR_LO (i : Nat) : Fld := ⟨⟨⟨.CAP_THR, i, 0, 0⟩, 0⟩, 16, 0x8000⟩
/-- CAP_PRE.COUNT [19:0] RW, 11_capture. -/
def CAP_PRE_COUNT (i : Nat) : Fld := ⟨⟨⟨.CAP_PRE, i, 0, 0⟩, 0⟩, 20, 0⟩
/-- CAP_POST.COUNT [19:0] RW, 11_capture. -/
def CAP_POST_COUNT (i : Nat) : Fld := ⟨⟨⟨.CAP_POST, i, 0, 0⟩, 0⟩, 20, 0x400⟩
/-- CAP_SEG.NLOG [3:0] RW, 11_capture. -/
def CAP_SEG_NLOG (i : Nat) : Fld := ⟨⟨⟨.CAP_SEG, i, 0, 0⟩, 0⟩, 4, 0x0⟩
/-- CAP_AUTO.VALUE [31:0] RW, 11_capture. -/
def CAP_AUTO_VALUE (i : Nat) : Fld := ⟨⟨⟨.CAP_AUTO, i, 0, 0⟩, 0⟩, 32, 0x0⟩
/-- CAP_TT_LO.VALUE [31:0] RW, 11_capture. -/
def CAP_TT_LO_VALUE (i : Nat) : Fld := ⟨⟨⟨.CAP_TT_LO, i, 0, 0⟩, 0⟩, 32, 0x0⟩
/-- CAP_TT_HI.VALUE [31:0] RW, 11_capture. -/
def CAP_TT_HI_VALUE (i : Nat) : Fld := ⟨⟨⟨.CAP_TT_HI, i, 0, 0⟩, 0⟩, 32, 0x0⟩
/-- CAP_TPER.VALUE [31:0] RW, 11_capture. -/
def CAP_TPER_VALUE (i : Nat) : Fld := ⟨⟨⟨.CAP_TPER, i, 0, 0⟩, 0⟩, 32, 0x0⟩
/-- CAP_CTRL.CNT_CLR [3] WO, 11_capture. -/
def CAP_CTRL_CNT_CLR (i : Nat) : Fld := ⟨⟨⟨.CAP_CTRL, i, 0, 0⟩, 3⟩, 1, 0x0⟩
/-- CAP_CTRL.FORCE [2] WO, 11_capture. -/
def CAP_CTRL_FORCE (i : Nat) : Fld := ⟨⟨⟨.CAP_CTRL, i, 0, 0⟩, 2⟩, 1, 0x0⟩
/-- CAP_CTRL.STOP [1] WO, 11_capture. -/
def CAP_CTRL_STOP (i : Nat) : Fld := ⟨⟨⟨.CAP_CTRL, i, 0, 0⟩, 1⟩, 1, 0x0⟩
/-- CAP_CTRL.ARM [0] WO, 11_capture. -/
def CAP_CTRL_ARM (i : Nat) : Fld := ⟨⟨⟨.CAP_CTRL, i, 0, 0⟩, 0⟩, 1, 0x0⟩
/-- CAP_STAT.STATE [2:0] RO, 11_capture. -/
def CAP_STAT_STATE (i : Nat) : Fld := ⟨⟨⟨.CAP_STAT, i, 0, 0⟩, 0⟩, 3, 0x0⟩
/-- CAP_WR.COUNT [31:0] RO, 11_capture. -/
def CAP_WR_COUNT (i : Nat) : Fld := ⟨⟨⟨.CAP_WR, i, 0, 0⟩, 0⟩, 32, 0⟩
/-- CAP_RD.COUNT [31:0] RW, 11_capture. -/
def CAP_RD_COUNT (i : Nat) : Fld := ⟨⟨⟨.CAP_RD, i, 0, 0⟩, 0⟩, 32, 0⟩
/-- CAP_LATCH.TT_LATE [4] W1C, 11_capture. -/
def CAP_LATCH_TT_LATE (i : Nat) : Fld := ⟨⟨⟨.CAP_LATCH, i, 0, 0⟩, 4⟩, 1, 0x0⟩
/-- CAP_LATCH.ABORT [3] W1C, 11_capture. -/
def CAP_LATCH_ABORT (i : Nat) : Fld := ⟨⟨⟨.CAP_LATCH, i, 0, 0⟩, 3⟩, 1, 0x0⟩
/-- CAP_LATCH.FULL [2] W1C, 11_capture. -/
def CAP_LATCH_FULL (i : Nat) : Fld := ⟨⟨⟨.CAP_LATCH, i, 0, 0⟩, 2⟩, 1, 0x0⟩
/-- CAP_LATCH.CORRUPT [1] W1C, 11_capture. -/
def CAP_LATCH_CORRUPT (i : Nat) : Fld := ⟨⟨⟨.CAP_LATCH, i, 0, 0⟩, 1⟩, 1, 0x0⟩
/-- CAP_LATCH.OVL [0] W1C, 11_capture. -/
def CAP_LATCH_OVL (i : Nat) : Fld := ⟨⟨⟨.CAP_LATCH, i, 0, 0⟩, 0⟩, 1, 0x0⟩
/-- CAP_IGN_A.REARM [31:16] CNT, 11_capture. -/
def CAP_IGN_A_REARM (i : Nat) : Fld := ⟨⟨⟨.CAP_IGN_A, i, 0, 0⟩, 16⟩, 16, 0x0⟩
/-- CAP_IGN_A.PRE [15:0] CNT, 11_capture. -/
def CAP_IGN_A_PRE (i : Nat) : Fld := ⟨⟨⟨.CAP_IGN_A, i, 0, 0⟩, 0⟩, 16, 0x0⟩
/-- CAP_IGN_B.FULL [31:16] CNT, 11_capture. -/
def CAP_IGN_B_FULL (i : Nat) : Fld := ⟨⟨⟨.CAP_IGN_B, i, 0, 0⟩, 16⟩, 16, 0x0⟩
/-- CAP_IGN_B.AUTO [15:0] CNT, 11_capture. -/
def CAP_IGN_B_AUTO (i : Nat) : Fld := ⟨⟨⟨.CAP_IGN_B, i, 0, 0⟩, 0⟩, 16, 0x0⟩
/-- CL_CFG.EN [0] RW, 12_chain_and_clusters. -/
def CL_CFG_EN : Fld := ⟨⟨⟨.CL_CFG, 0, 0, 0⟩, 0⟩, 1, 0x0⟩
/-- CL_CID.VALUE [31:0] RW, 12_chain_and_clusters. -/
def CL_CID_VALUE : Fld := ⟨⟨⟨.CL_CID, 0, 0, 0⟩, 0⟩, 32, 0⟩
/-- CL_UID_LO.VALUE [31:0] RO, 12_chain_and_clusters. -/
def CL_UID_LO_VALUE : Fld := ⟨⟨⟨.CL_UID_LO, 0, 0, 0⟩, 0⟩, 32, 0⟩
/-- CL_UID_HI.VALUE [31:0] RO, 12_chain_and_clusters. -/
def CL_UID_HI_VALUE : Fld := ⟨⟨⟨.CL_UID_HI, 0, 0, 0⟩, 0⟩, 32, 0⟩
/-- CL_STAT.LAG [31:24] RO, 12_chain_and_clusters. -/
def CL_STAT_LAG : Fld := ⟨⟨⟨.CL_STAT, 0, 0, 0⟩, 24⟩, 8, 0x0⟩
/-- CL_STAT.HOPS [23:20] RO, 12_chain_and_clusters. -/
def CL_STAT_HOPS : Fld := ⟨⟨⟨.CL_STAT, 0, 0, 0⟩, 20⟩, 4, 0xf⟩
/-- CL_STAT.DEVNUM [13:8] RO, 12_chain_and_clusters. -/
def CL_STAT_DEVNUM : Fld := ⟨⟨⟨.CL_STAT, 0, 0, 0⟩, 8⟩, 6, 0x0⟩
/-- CL_STAT.MASTER_LOST [4] RO, 12_chain_and_clusters. -/
def CL_STAT_MASTER_LOST : Fld := ⟨⟨⟨.CL_STAT, 0, 0, 0⟩, 4⟩, 1, 0x0⟩
/-- CL_STAT.PREPARED [3] RO, 12_chain_and_clusters. -/
def CL_STAT_PREPARED : Fld := ⟨⟨⟨.CL_STAT, 0, 0, 0⟩, 3⟩, 1, 0x0⟩
/-- CL_STAT.OUT_EPOCH [2] RO, 12_chain_and_clusters. -/
def CL_STAT_OUT_EPOCH : Fld := ⟨⟨⟨.CL_STAT, 0, 0, 0⟩, 2⟩, 1, 0x0⟩
/-- CL_STAT.MEMBER [1] RO, 12_chain_and_clusters. -/
def CL_STAT_MEMBER : Fld := ⟨⟨⟨.CL_STAT, 0, 0, 0⟩, 1⟩, 1, 0x0⟩
/-- CL_STAT.MASTER [0] RO, 12_chain_and_clusters. -/
def CL_STAT_MASTER : Fld := ⟨⟨⟨.CL_STAT, 0, 0, 0⟩, 0⟩, 1, 0x0⟩
/-- CL_EPOCH.EPOCH [31:0] RO, 12_chain_and_clusters. -/
def CL_EPOCH_EPOCH : Fld := ⟨⟨⟨.CL_EPOCH, 0, 0, 0⟩, 0⟩, 32, 0x0⟩
/-- CL_LATCH.NAK [6] W1C, 12_chain_and_clusters. -/
def CL_LATCH_NAK : Fld := ⟨⟨⟨.CL_LATCH, 0, 0, 0⟩, 6⟩, 1, 0x0⟩
/-- CL_LATCH.MASTER_LOST [5] W1C, 12_chain_and_clusters. -/
def CL_LATCH_MASTER_LOST : Fld := ⟨⟨⟨.CL_LATCH, 0, 0, 0⟩, 5⟩, 1, 0x0⟩
/-- CL_LATCH.REFUSED [4] W1C, 12_chain_and_clusters. -/
def CL_LATCH_REFUSED : Fld := ⟨⟨⟨.CL_LATCH, 0, 0, 0⟩, 4⟩, 1, 0x0⟩
/-- CL_LATCH.DUAL_MASTER [3] W1C, 12_chain_and_clusters. -/
def CL_LATCH_DUAL_MASTER : Fld := ⟨⟨⟨.CL_LATCH, 0, 0, 0⟩, 3⟩, 1, 0x0⟩
/-- CL_LATCH.LATE_SHOT [2] W1C, 12_chain_and_clusters. -/
def CL_LATCH_LATE_SHOT : Fld := ⟨⟨⟨.CL_LATCH, 0, 0, 0⟩, 2⟩, 1, 0x0⟩
/-- CL_LATCH.COMMITTED [1] W1C, 12_chain_and_clusters. -/
def CL_LATCH_COMMITTED : Fld := ⟨⟨⟨.CL_LATCH, 0, 0, 0⟩, 1⟩, 1, 0x0⟩
/-- CL_LATCH.EPOCH [0] W1C, 12_chain_and_clusters. -/
def CL_LATCH_EPOCH : Fld := ⟨⟨⟨.CL_LATCH, 0, 0, 0⟩, 0⟩, 1, 0x0⟩
/-- CL_CMD.PREPARE [31] WO, 12_chain_and_clusters. -/
def CL_CMD_PREPARE : Fld := ⟨⟨⟨.CL_CMD, 0, 0, 0⟩, 31⟩, 1, 0x0⟩
/-- CL_CMD.RESYNC [30] WO, 12_chain_and_clusters. -/
def CL_CMD_RESYNC : Fld := ⟨⟨⟨.CL_CMD, 0, 0, 0⟩, 30⟩, 1, 0x0⟩
/-- CL_CMD.TARGET [21:16] WO, 12_chain_and_clusters. -/
def CL_CMD_TARGET : Fld := ⟨⟨⟨.CL_CMD, 0, 0, 0⟩, 16⟩, 6, 0x0⟩
/-- CL_CMD.ID [15:0] WO, 12_chain_and_clusters. -/
def CL_CMD_ID : Fld := ⟨⟨⟨.CL_CMD, 0, 0, 0⟩, 0⟩, 16, 0x0⟩
/-- CL_AGREE.CODE [31:24] RO, 12_chain_and_clusters. -/
def CL_AGREE_CODE : Fld := ⟨⟨⟨.CL_AGREE, 0, 0, 0⟩, 24⟩, 8, 0x0⟩
/-- CL_AGREE.DEV [21:16] RO, 12_chain_and_clusters. -/
def CL_AGREE_DEV : Fld := ⟨⟨⟨.CL_AGREE, 0, 0, 0⟩, 16⟩, 6, 0x0⟩
/-- CL_AGREE.STATE [1:0] RO, 12_chain_and_clusters. -/
def CL_AGREE_STATE : Fld := ⟨⟨⟨.CL_AGREE, 0, 0, 0⟩, 0⟩, 2, 0x0⟩
/-- CL_PREP_TMO.TICKS [31:0] RW, 12_chain_and_clusters. -/
def CL_PREP_TMO_TICKS : Fld := ⟨⟨⟨.CL_PREP_TMO, 0, 0, 0⟩, 0⟩, 32, 0xC350⟩
/-- CL_MTMO.TICKS [31:0] RW, 12_chain_and_clusters. -/
def CL_MTMO_TICKS : Fld := ⟨⟨⟨.CL_MTMO, 0, 0, 0⟩, 0⟩, 32, 0x7A120⟩
/-- CL_EXCL_LO.MASK [31:0] RW, 12_chain_and_clusters. -/
def CL_EXCL_LO_MASK : Fld := ⟨⟨⟨.CL_EXCL_LO, 0, 0, 0⟩, 0⟩, 32, 0⟩
/-- CL_EXCL_HI.MASK [31:0] RW, 12_chain_and_clusters. -/
def CL_EXCL_HI_MASK : Fld := ⟨⟨⟨.CL_EXCL_HI, 0, 0, 0⟩, 0⟩, 32, 0⟩
/-- CL_MEMB_LO.MASK [31:0] RO, 12_chain_and_clusters. -/
def CL_MEMB_LO_MASK : Fld := ⟨⟨⟨.CL_MEMB_LO, 0, 0, 0⟩, 0⟩, 32, 0⟩
/-- CL_MEMB_HI.MASK [31:0] RO, 12_chain_and_clusters. -/
def CL_MEMB_HI_MASK : Fld := ⟨⟨⟨.CL_MEMB_HI, 0, 0, 0⟩, 0⟩, 32, 0⟩
/-- CL_SHOT_CTRL.LEAD [31:16] RW, 12_chain_and_clusters. -/
def CL_SHOT_CTRL_LEAD : Fld := ⟨⟨⟨.CL_SHOT_CTRL, 0, 0, 0⟩, 16⟩, 16, 0x7d0⟩
/-- CL_SHOT_CTRL.MODE [1:0] RW, 12_chain_and_clusters. -/
def CL_SHOT_CTRL_MODE : Fld := ⟨⟨⟨.CL_SHOT_CTRL, 0, 0, 0⟩, 0⟩, 2, 0x0⟩
/-- CL_SHOT_PER.VALUE [31:0] RW, 12_chain_and_clusters. -/
def CL_SHOT_PER_VALUE : Fld := ⟨⟨⟨.CL_SHOT_PER, 0, 0, 0⟩, 0⟩, 32, 0x4E20⟩
/-- CL_SHOT_NEXT_LO.VALUE [31:0] RW, 12_chain_and_clusters. -/
def CL_SHOT_NEXT_LO_VALUE : Fld := ⟨⟨⟨.CL_SHOT_NEXT_LO, 0, 0, 0⟩, 0⟩, 32, 0⟩
/-- CL_SHOT_NEXT_HI.VALUE [31:0] RW, 12_chain_and_clusters. -/
def CL_SHOT_NEXT_HI_VALUE : Fld := ⟨⟨⟨.CL_SHOT_NEXT_HI, 0, 0, 0⟩, 0⟩, 32, 0⟩
/-- CHN_EYE_CTRL.START [31] WO, 12_chain_and_clusters. -/
def CHN_EYE_CTRL_START : Fld := ⟨⟨⟨.CHN_EYE_CTRL, 0, 0, 0⟩, 31⟩, 1, 0x0⟩
/-- CHN_EYE_CTRL.DWELL [30:27] RW, 12_chain_and_clusters. -/
def CHN_EYE_CTRL_DWELL : Fld := ⟨⟨⟨.CHN_EYE_CTRL, 0, 0, 0⟩, 27⟩, 4, 0x0⟩
/-- CHN_EYE_CTRL.VOFS [26:20] RW, 12_chain_and_clusters. -/
def CHN_EYE_CTRL_VOFS : Fld := ⟨⟨⟨.CHN_EYE_CTRL, 0, 0, 0⟩, 20⟩, 7, 0x0⟩
/-- CHN_EYE_CTRL.PHASE [19:13] RW, 12_chain_and_clusters. -/
def CHN_EYE_CTRL_PHASE : Fld := ⟨⟨⟨.CHN_EYE_CTRL, 0, 0, 0⟩, 13⟩, 7, 0x0⟩
/-- CHN_EYE_CTRL.LANE [4] RW, 12_chain_and_clusters. -/
def CHN_EYE_CTRL_LANE : Fld := ⟨⟨⟨.CHN_EYE_CTRL, 0, 0, 0⟩, 4⟩, 1, 0x0⟩
/-- CHN_EYE_CTRL.PORT [2:0] RW, 12_chain_and_clusters. -/
def CHN_EYE_CTRL_PORT : Fld := ⟨⟨⟨.CHN_EYE_CTRL, 0, 0, 0⟩, 0⟩, 3, 0x0⟩
/-- CHN_EYE_RES.COUNT [31:0] RO, 12_chain_and_clusters. -/
def CHN_EYE_RES_COUNT : Fld := ⟨⟨⟨.CHN_EYE_RES, 0, 0, 0⟩, 0⟩, 32, 0⟩
/-- CHN_EYE_STAT.BUSY [0] RO, 12_chain_and_clusters. -/
def CHN_EYE_STAT_BUSY : Fld := ⟨⟨⟨.CHN_EYE_STAT, 0, 0, 0⟩, 0⟩, 1, 0⟩
/-- CHN_EYE_STAT.DONE [1] RO, 12_chain_and_clusters. -/
def CHN_EYE_STAT_DONE : Fld := ⟨⟨⟨.CHN_EYE_STAT, 0, 0, 0⟩, 1⟩, 1, 0⟩
/-- CHN_EYE_STAT.INVALID [2] RO, 12_chain_and_clusters. -/
def CHN_EYE_STAT_INVALID : Fld := ⟨⟨⟨.CHN_EYE_STAT, 0, 0, 0⟩, 2⟩, 1, 0⟩
/-- CL_BARPART_LO.MASK [31:0] RO, 12_chain_and_clusters. -/
def CL_BARPART_LO_MASK (i : Nat) : Fld := ⟨⟨⟨.CL_BARPART_LO, i, 0, 0⟩, 0⟩, 32, 0x0⟩
/-- CL_BARPART_HI.MASK [31:0] RO, 12_chain_and_clusters. -/
def CL_BARPART_HI_MASK (i : Nat) : Fld := ⟨⟨⟨.CL_BARPART_HI, i, 0, 0⟩, 0⟩, 32, 0x0⟩
/-- CHN_PORT_CFG.INV [7:4] RW, 12_chain_and_clusters. -/
def CHN_PORT_CFG_INV (i : Nat) : Fld := ⟨⟨⟨.CHN_PORT_CFG, i, 0, 0⟩, 4⟩, 4, 0x0⟩
/-- CHN_PORT_CFG.REQ [3:2] RW, 12_chain_and_clusters. -/
def CHN_PORT_CFG_REQ (i : Nat) : Fld := ⟨⟨⟨.CHN_PORT_CFG, i, 0, 0⟩, 2⟩, 2, 0x0⟩
/-- CHN_PORT_CFG.ROLE [1:0] RW, 12_chain_and_clusters. -/
def CHN_PORT_CFG_ROLE (i : Nat) : Fld := ⟨⟨⟨.CHN_PORT_CFG, i, 0, 0⟩, 0⟩, 2, 0x0⟩
/-- CHN_PORT_STAT.PEER_PORT [18:16] RO, 12_chain_and_clusters. -/
def CHN_PORT_STAT_PEER_PORT (i : Nat) : Fld := ⟨⟨⟨.CHN_PORT_STAT, i, 0, 0⟩, 16⟩, 3, 0x0⟩
/-- CHN_PORT_STAT.PEER_DEV [15:10] RO, 12_chain_and_clusters. -/
def CHN_PORT_STAT_PEER_DEV (i : Nat) : Fld := ⟨⟨⟨.CHN_PORT_STAT, i, 0, 0⟩, 10⟩, 6, 0x0⟩
/-- CHN_PORT_STAT.PEER_ROLE [9:8] RO, 12_chain_and_clusters. -/
def CHN_PORT_STAT_PEER_ROLE (i : Nat) : Fld := ⟨⟨⟨.CHN_PORT_STAT, i, 0, 0⟩, 8⟩, 2, 0x0⟩
/-- CHN_PORT_STAT.CID_OK [7] RO, 12_chain_and_clusters. -/
def CHN_PORT_STAT_CID_OK (i : Nat) : Fld := ⟨⟨⟨.CHN_PORT_STAT, i, 0, 0⟩, 7⟩, 1, 0x0⟩
/-- CHN_PORT_STAT.CHILD [6] RO, 12_chain_and_clusters. -/
def CHN_PORT_STAT_CHILD (i : Nat) : Fld := ⟨⟨⟨.CHN_PORT_STAT, i, 0, 0⟩, 6⟩, 1, 0x0⟩
/-- CHN_PORT_STAT.PARENT [5] RO, 12_chain_and_clusters. -/
def CHN_PORT_STAT_PARENT (i : Nat) : Fld := ⟨⟨⟨.CHN_PORT_STAT, i, 0, 0⟩, 5⟩, 1, 0x0⟩
/-- CHN_PORT_STAT.LOCK [4:3] RO, 12_chain_and_clusters. -/
def CHN_PORT_STAT_LOCK (i : Nat) : Fld := ⟨⟨⟨.CHN_PORT_STAT, i, 0, 0⟩, 3⟩, 2, 0x0⟩
/-- CHN_PORT_STAT.STATE [2:0] RO, 12_chain_and_clusters. -/
def CHN_PORT_STAT_STATE (i : Nat) : Fld := ⟨⟨⟨.CHN_PORT_STAT, i, 0, 0⟩, 0⟩, 3, 0x0⟩
/-- CHN_PORT_LATCH.REQ_REFUSED [4] W1C, 12_chain_and_clusters. -/
def CHN_PORT_LATCH_REQ_REFUSED (i : Nat) : Fld := ⟨⟨⟨.CHN_PORT_LATCH, i, 0, 0⟩, 4⟩, 1, 0x0⟩
/-- CHN_PORT_LATCH.CID_MISMATCH [3] W1C, 12_chain_and_clusters. -/
def CHN_PORT_LATCH_CID_MISMATCH (i : Nat) : Fld := ⟨⟨⟨.CHN_PORT_LATCH, i, 0, 0⟩, 3⟩, 1, 0x0⟩
/-- CHN_PORT_LATCH.ROLE_MISMATCH [2] W1C, 12_chain_and_clusters. -/
def CHN_PORT_LATCH_ROLE_MISMATCH (i : Nat) : Fld := ⟨⟨⟨.CHN_PORT_LATCH, i, 0, 0⟩, 2⟩, 1, 0x0⟩
/-- CHN_PORT_LATCH.CRC [1] W1C, 12_chain_and_clusters. -/
def CHN_PORT_LATCH_CRC (i : Nat) : Fld := ⟨⟨⟨.CHN_PORT_LATCH, i, 0, 0⟩, 1⟩, 1, 0x0⟩
/-- CHN_PORT_LATCH.DOWN [0] W1C, 12_chain_and_clusters. -/
def CHN_PORT_LATCH_DOWN (i : Nat) : Fld := ⟨⟨⟨.CHN_PORT_LATCH, i, 0, 0⟩, 0⟩, 1, 0x0⟩
/-- CHN_PORT_CNT_A.LOST1 [31:16] CNT, 12_chain_and_clusters. -/
def CHN_PORT_CNT_A_LOST1 (i : Nat) : Fld := ⟨⟨⟨.CHN_PORT_CNT_A, i, 0, 0⟩, 16⟩, 16, 0x0⟩
/-- CHN_PORT_CNT_A.LOST0 [15:0] CNT, 12_chain_and_clusters. -/
def CHN_PORT_CNT_A_LOST0 (i : Nat) : Fld := ⟨⟨⟨.CHN_PORT_CNT_A, i, 0, 0⟩, 0⟩, 16, 0x0⟩
/-- CHN_PORT_CNT_B.TRAIN [31:16] CNT, 12_chain_and_clusters. -/
def CHN_PORT_CNT_B_TRAIN (i : Nat) : Fld := ⟨⟨⟨.CHN_PORT_CNT_B, i, 0, 0⟩, 16⟩, 16, 0x0⟩
/-- CHN_PORT_CNT_B.DOWN [15:0] CNT, 12_chain_and_clusters. -/
def CHN_PORT_CNT_B_DOWN (i : Nat) : Fld := ⟨⟨⟨.CHN_PORT_CNT_B, i, 0, 0⟩, 0⟩, 16, 0x0⟩
/-- CHN_PORT_SKEW.SKEW [31:0] RO, 12_chain_and_clusters. -/
def CHN_PORT_SKEW_SKEW (i : Nat) : Fld := ⟨⟨⟨.CHN_PORT_SKEW, i, 0, 0⟩, 0⟩, 32, 0x0⟩
/-- CHN_PEER_UID_LO.UID [31:0] RO, 12_chain_and_clusters. -/
def CHN_PEER_UID_LO_UID (i : Nat) : Fld := ⟨⟨⟨.CHN_PEER_UID_LO, i, 0, 0⟩, 0⟩, 32, 0x0⟩
/-- CHN_PEER_UID_HI.UID [31:0] RO, 12_chain_and_clusters. -/
def CHN_PEER_UID_HI_UID (i : Nat) : Fld := ⟨⟨⟨.CHN_PEER_UID_HI, i, 0, 0⟩, 0⟩, 32, 0x0⟩
/-- MEM_ECC_CNT.UE [31:16] CNT, 13_memory_system. -/
def MEM_ECC_CNT_UE (i : Nat) : Fld := ⟨⟨⟨.MEM_ECC_CNT, i, 0, 0⟩, 16⟩, 16, 0x0⟩
/-- MEM_ECC_CNT.CE [15:0] CNT, 13_memory_system. -/
def MEM_ECC_CNT_CE (i : Nat) : Fld := ⟨⟨⟨.MEM_ECC_CNT, i, 0, 0⟩, 0⟩, 16, 0x0⟩
/-- MEM_ECC_LATCH.UE [6:0] W1C, 13_memory_system. -/
def MEM_ECC_LATCH_UE : Fld := ⟨⟨⟨.MEM_ECC_LATCH, 0, 0, 0⟩, 0⟩, 7, 0x0⟩
/-- MEM_UE_ADDR.ADDR [30:0] RO, 13_memory_system. -/
def MEM_UE_ADDR_ADDR : Fld := ⟨⟨⟨.MEM_UE_ADDR, 0, 0, 0⟩, 0⟩, 31, 0x0⟩
/-- MEM_SCRUB.PASSES [31:16] CNT, 13_memory_system. -/
def MEM_SCRUB_PASSES : Fld := ⟨⟨⟨.MEM_SCRUB, 0, 0, 0⟩, 16⟩, 16, 0x0⟩
/-- MEM_SCRUB.PERIOD [15:0] RW, 13_memory_system. -/
def MEM_SCRUB_PERIOD : Fld := ⟨⟨⟨.MEM_SCRUB, 0, 0, 0⟩, 0⟩, 16, 0x3e8⟩
/-- MEM_DWIN.BASE [5:0] RW, 13_memory_system. -/
def MEM_DWIN_BASE : Fld := ⟨⟨⟨.MEM_DWIN, 0, 0, 0⟩, 0⟩, 6, 0x0⟩
/-- MEM_DDR_STAT.READY [31] RO, 13_memory_system. -/
def MEM_DDR_STAT_READY : Fld := ⟨⟨⟨.MEM_DDR_STAT, 0, 0, 0⟩, 31⟩, 1, 0x0⟩
/-- MEM_DDR_STAT.TRAIN [30:27] RO, 13_memory_system. -/
def MEM_DDR_STAT_TRAIN : Fld := ⟨⟨⟨.MEM_DDR_STAT, 0, 0, 0⟩, 27⟩, 4, 0x0⟩
/-- MEM_DDR_STAT.CAP [26:20] RO, 13_memory_system. -/
def MEM_DDR_STAT_CAP : Fld := ⟨⟨⟨.MEM_DDR_STAT, 0, 0, 0⟩, 20⟩, 7, 0x0⟩
/-- MEM_DDR_STAT.RATE [15:0] RO, 13_memory_system. -/
def MEM_DDR_STAT_RATE : Fld := ⟨⟨⟨.MEM_DDR_STAT, 0, 0, 0⟩, 0⟩, 16, 0x0⟩
/-- MEM_DDR_CNT.TRAIN_FAIL [31:16] CNT, 13_memory_system. -/
def MEM_DDR_CNT_TRAIN_FAIL : Fld := ⟨⟨⟨.MEM_DDR_CNT, 0, 0, 0⟩, 16⟩, 16, 0x0⟩
/-- MEM_DDR_CNT.RECAL [15:0] CNT, 13_memory_system. -/
def MEM_DDR_CNT_RECAL : Fld := ⟨⟨⟨.MEM_DDR_CNT, 0, 0, 0⟩, 0⟩, 16, 0x0⟩
/-- REAM_STAT.QUEUED [28:24] RO, 13_memory_system. -/
def REAM_STAT_QUEUED : Fld := ⟨⟨⟨.REAM_STAT, 0, 0, 0⟩, 24⟩, 5, 0x0⟩
/-- REAM_STAT.INVALID [15:8] RO, 13_memory_system. -/
def REAM_STAT_INVALID : Fld := ⟨⟨⟨.REAM_STAT, 0, 0, 0⟩, 8⟩, 8, 0x0⟩
/-- REAM_STAT.ABORT [1] W1C, 13_memory_system. -/
def REAM_STAT_ABORT : Fld := ⟨⟨⟨.REAM_STAT, 0, 0, 0⟩, 1⟩, 1, 0x0⟩
/-- REAM_STAT.BUSY [0] RO, 13_memory_system. -/
def REAM_STAT_BUSY : Fld := ⟨⟨⟨.REAM_STAT, 0, 0, 0⟩, 0⟩, 1, 0x0⟩
/-- REAM_CNT.ABORTS [31:16] CNT, 13_memory_system. -/
def REAM_CNT_ABORTS : Fld := ⟨⟨⟨.REAM_CNT, 0, 0, 0⟩, 16⟩, 16, 0x0⟩
/-- REAM_CNT.STORES [15:0] CNT, 13_memory_system. -/
def REAM_CNT_STORES : Fld := ⟨⟨⟨.REAM_CNT, 0, 0, 0⟩, 0⟩, 16, 0x0⟩
/-- BUS_ERR_STAT.VALID [31] W1C, 14_host_and_dictionary. -/
def BUS_ERR_STAT_VALID : Fld := ⟨⟨⟨.BUS_ERR_STAT, 0, 0, 0⟩, 31⟩, 1, 0x0⟩
/-- BUS_ERR_STAT.MASTER [23:20] RO, 14_host_and_dictionary. -/
def BUS_ERR_STAT_MASTER : Fld := ⟨⟨⟨.BUS_ERR_STAT, 0, 0, 0⟩, 20⟩, 4, 0x0⟩
/-- BUS_ERR_STAT.WRITE [19] RO, 14_host_and_dictionary. -/
def BUS_ERR_STAT_WRITE : Fld := ⟨⟨⟨.BUS_ERR_STAT, 0, 0, 0⟩, 19⟩, 1, 0x0⟩
/-- BUS_ERR_STAT.SIZE [18:16] RO, 14_host_and_dictionary. -/
def BUS_ERR_STAT_SIZE : Fld := ⟨⟨⟨.BUS_ERR_STAT, 0, 0, 0⟩, 16⟩, 3, 0x0⟩
/-- BUS_ERR_STAT.CODE [7:0] RO, 14_host_and_dictionary. -/
def BUS_ERR_STAT_CODE : Fld := ⟨⟨⟨.BUS_ERR_STAT, 0, 0, 0⟩, 0⟩, 8, 0x0⟩
/-- BUS_ERR_ADDR.BAR2 [31] RO, 14_host_and_dictionary. -/
def BUS_ERR_ADDR_BAR2 : Fld := ⟨⟨⟨.BUS_ERR_ADDR, 0, 0, 0⟩, 31⟩, 1, 0x0⟩
/-- BUS_ERR_ADDR.ADDR [30:0] RO, 14_host_and_dictionary. -/
def BUS_ERR_ADDR_ADDR : Fld := ⟨⟨⟨.BUS_ERR_ADDR, 0, 0, 0⟩, 0⟩, 31, 0x0⟩
/-- BUS_CNT.LOCKVIO [31:16] CNT, 14_host_and_dictionary. -/
def BUS_CNT_LOCKVIO : Fld := ⟨⟨⟨.BUS_CNT, 0, 0, 0⟩, 16⟩, 16, 0x0⟩
/-- BUS_CNT.ERR [15:0] CNT, 14_host_and_dictionary. -/
def BUS_CNT_ERR : Fld := ⟨⟨⟨.BUS_CNT, 0, 0, 0⟩, 0⟩, 16, 0x0⟩
/-- BUS_LOCK_ADDR.ADDR [27:0] RO, 14_host_and_dictionary. -/
def BUS_LOCK_ADDR_ADDR : Fld := ⟨⟨⟨.BUS_LOCK_ADDR, 0, 0, 0⟩, 0⟩, 28, 0x0⟩
/-- MBX_CTRL.GO [31] WO, 14_host_and_dictionary. -/
def MBX_CTRL_GO : Fld := ⟨⟨⟨.MBX_CTRL, 0, 0, 0⟩, 31⟩, 1, 0x0⟩
/-- MBX_CTRL.LEN [12:0] RW, 14_host_and_dictionary. -/
def MBX_CTRL_LEN : Fld := ⟨⟨⟨.MBX_CTRL, 0, 0, 0⟩, 0⟩, 13, 0x0⟩
/-- MBX_STAT.RSP_LEN [28:16] RO, 14_host_and_dictionary. -/
def MBX_STAT_RSP_LEN : Fld := ⟨⟨⟨.MBX_STAT, 0, 0, 0⟩, 16⟩, 13, 0x0⟩
/-- MBX_STAT.RSP_VALID [1] RO, 14_host_and_dictionary. -/
def MBX_STAT_RSP_VALID : Fld := ⟨⟨⟨.MBX_STAT, 0, 0, 0⟩, 1⟩, 1, 0x0⟩
/-- MBX_STAT.BUSY [0] RO, 14_host_and_dictionary. -/
def MBX_STAT_BUSY : Fld := ⟨⟨⟨.MBX_STAT, 0, 0, 0⟩, 0⟩, 1, 0x0⟩
/-- MBX_REQ.DATA [31:0] RW, 14_host_and_dictionary. -/
def MBX_REQ_DATA (i : Nat) : Fld := ⟨⟨⟨.MBX_REQ, i, 0, 0⟩, 0⟩, 32, 0⟩
/-- MBX_RSP.DATA [31:0] RO, 14_host_and_dictionary. -/
def MBX_RSP_DATA (i : Nat) : Fld := ⟨⟨⟨.MBX_RSP, i, 0, 0⟩, 0⟩, 32, 0⟩
/-- ETH_STAT.FEC [3] RO, 14_host_and_dictionary. -/
def ETH_STAT_FEC (i : Nat) : Fld := ⟨⟨⟨.ETH_STAT, i, 0, 0⟩, 3⟩, 1, 0x0⟩
/-- ETH_STAT.SPEED [2] RO, 14_host_and_dictionary. -/
def ETH_STAT_SPEED (i : Nat) : Fld := ⟨⟨⟨.ETH_STAT, i, 0, 0⟩, 2⟩, 1, 0x0⟩
/-- ETH_STAT.LINK [0] RO, 14_host_and_dictionary. -/
def ETH_STAT_LINK (i : Nat) : Fld := ⟨⟨⟨.ETH_STAT, i, 0, 0⟩, 0⟩, 1, 0x0⟩
/-- ETH_TXR_LO.VALUE [31:0] RW, 14_host_and_dictionary. -/
def ETH_TXR_LO_VALUE (i : Nat) : Fld := ⟨⟨⟨.ETH_TXR_LO, i, 0, 0⟩, 0⟩, 32, 0x0⟩
/-- ETH_TXR_HI.VALUE [3:0] RW, 14_host_and_dictionary. -/
def ETH_TXR_HI_VALUE (i : Nat) : Fld := ⟨⟨⟨.ETH_TXR_HI, i, 0, 0⟩, 0⟩, 4, 0⟩
/-- ETH_TXR_SIZE.VALUE [11:0] RW, 14_host_and_dictionary. -/
def ETH_TXR_SIZE_VALUE (i : Nat) : Fld := ⟨⟨⟨.ETH_TXR_SIZE, i, 0, 0⟩, 0⟩, 12, 0⟩
/-- ETH_TXR_WR.COUNT [31:0] RW, 14_host_and_dictionary. -/
def ETH_TXR_WR_COUNT (i : Nat) : Fld := ⟨⟨⟨.ETH_TXR_WR, i, 0, 0⟩, 0⟩, 32, 0⟩
/-- ETH_TXR_RD.COUNT [31:0] RO, 14_host_and_dictionary. -/
def ETH_TXR_RD_COUNT (i : Nat) : Fld := ⟨⟨⟨.ETH_TXR_RD, i, 0, 0⟩, 0⟩, 32, 0⟩
/-- ETH_TXCNT.TIMED [31:16] CNT, 14_host_and_dictionary. -/
def ETH_TXCNT_TIMED (i : Nat) : Fld := ⟨⟨⟨.ETH_TXCNT, i, 0, 0⟩, 16⟩, 16, 0x0⟩
/-- ETH_TXCNT.NORMAL [15:0] CNT, 14_host_and_dictionary. -/
def ETH_TXCNT_NORMAL (i : Nat) : Fld := ⟨⟨⟨.ETH_TXCNT, i, 0, 0⟩, 0⟩, 16, 0x0⟩
/-- PCI_LINK.WIDTH [7:4] RO, 14_host_and_dictionary. -/
def PCI_LINK_WIDTH : Fld := ⟨⟨⟨.PCI_LINK, 0, 0, 0⟩, 4⟩, 4, 0x0⟩
/-- PCI_LINK.SPEED [3:0] RO, 14_host_and_dictionary. -/
def PCI_LINK_SPEED : Fld := ⟨⟨⟨.PCI_LINK, 0, 0, 0⟩, 0⟩, 4, 0x0⟩
/-- PCI_NOTIFY_EN.EN [31:0] RW, 14_host_and_dictionary. -/
def PCI_NOTIFY_EN_EN : Fld := ⟨⟨⟨.PCI_NOTIFY_EN, 0, 0, 0⟩, 0⟩, 32, 0x0⟩
/-- MSIX_TABLE.DATA [31:0] RW, 14_host_and_dictionary. -/
def MSIX_TABLE_DATA (i : Nat) : Fld := ⟨⟨⟨.MSIX_TABLE, i, 0, 0⟩, 0⟩, 32, (if i % 4 = 3 then 1 else 0)⟩
/-- MSIX_PBA.PENDING [31:0] RO, 14_host_and_dictionary. -/
def MSIX_PBA_PENDING (i : Nat) : Fld := ⟨⟨⟨.MSIX_PBA, i, 0, 0⟩, 0⟩, 32, 0⟩
/-- DMA_HOST_LO.VALUE [31:0] RW, 14_host_and_dictionary. -/
def DMA_HOST_LO_VALUE (i : Nat) : Fld := ⟨⟨⟨.DMA_HOST_LO, i, 0, 0⟩, 0⟩, 32, 0x0⟩
/-- DMA_HOST_HI.VALUE [31:0] RW, 14_host_and_dictionary. -/
def DMA_HOST_HI_VALUE (i : Nat) : Fld := ⟨⟨⟨.DMA_HOST_HI, i, 0, 0⟩, 0⟩, 32, 0x0⟩
/-- DMA_DEV.VALUE [30:0] RW, 14_host_and_dictionary. -/
def DMA_DEV_VALUE (i : Nat) : Fld := ⟨⟨⟨.DMA_DEV, i, 0, 0⟩, 0⟩, 31, 0⟩
/-- DMA_LEN.VALUE [24:0] RW, 14_host_and_dictionary. -/
def DMA_LEN_VALUE (i : Nat) : Fld := ⟨⟨⟨.DMA_LEN, i, 0, 0⟩, 0⟩, 25, 0⟩
/-- DMA_CTRL.START [31] WO, 14_host_and_dictionary. -/
def DMA_CTRL_START (i : Nat) : Fld := ⟨⟨⟨.DMA_CTRL, i, 0, 0⟩, 31⟩, 1, 0x0⟩
/-- DMA_CTRL.DIR [30] RW, 14_host_and_dictionary. -/
def DMA_CTRL_DIR (i : Nat) : Fld := ⟨⟨⟨.DMA_CTRL, i, 0, 0⟩, 30⟩, 1, 0x0⟩
/-- DMA_STAT.CODE [15:8] RO, 14_host_and_dictionary. -/
def DMA_STAT_CODE (i : Nat) : Fld := ⟨⟨⟨.DMA_STAT, i, 0, 0⟩, 8⟩, 8, 0x0⟩
/-- DMA_STAT.ERR [2] W1C, 14_host_and_dictionary. -/
def DMA_STAT_ERR (i : Nat) : Fld := ⟨⟨⟨.DMA_STAT, i, 0, 0⟩, 2⟩, 1, 0x0⟩
/-- DMA_STAT.DONE [1] W1C, 14_host_and_dictionary. -/
def DMA_STAT_DONE (i : Nat) : Fld := ⟨⟨⟨.DMA_STAT, i, 0, 0⟩, 1⟩, 1, 0x0⟩
/-- DMA_STAT.BUSY [0] RO, 14_host_and_dictionary. -/
def DMA_STAT_BUSY (i : Nat) : Fld := ⟨⟨⟨.DMA_STAT, i, 0, 0⟩, 0⟩, 1, 0x0⟩
/-- PMB_CFG.PERIOD [31:16] RW, 14_host_and_dictionary. -/
def PMB_CFG_PERIOD : Fld := ⟨⟨⟨.PMB_CFG, 0, 0, 0⟩, 16⟩, 16, 0xa⟩
/-- PMB_CFG.SPEED [3:2] RW, 14_host_and_dictionary. -/
def PMB_CFG_SPEED : Fld := ⟨⟨⟨.PMB_CFG, 0, 0, 0⟩, 2⟩, 2, 0x1⟩
/-- PMB_CFG.EN [0] RW, 14_host_and_dictionary. -/
def PMB_CFG_EN : Fld := ⟨⟨⟨.PMB_CFG, 0, 0, 0⟩, 0⟩, 1, 0x0⟩
/-- PMB_CMD.DOWN [1] WO, 14_host_and_dictionary. -/
def PMB_CMD_DOWN : Fld := ⟨⟨⟨.PMB_CMD, 0, 0, 0⟩, 1⟩, 1, 0x0⟩
/-- PMB_CMD.UP [0] WO, 14_host_and_dictionary. -/
def PMB_CMD_UP : Fld := ⟨⟨⟨.PMB_CMD, 0, 0, 0⟩, 0⟩, 1, 0x0⟩
/-- PMB_STAT.UP [31:16] RO, 14_host_and_dictionary. -/
def PMB_STAT_UP : Fld := ⟨⟨⟨.PMB_STAT, 0, 0, 0⟩, 16⟩, 16, 0x0⟩
/-- PMB_STAT.SALERT [2] RO, 14_host_and_dictionary. -/
def PMB_STAT_SALERT : Fld := ⟨⟨⟨.PMB_STAT, 0, 0, 0⟩, 2⟩, 1, 0x0⟩
/-- PMB_STAT.ALL_UP [1] RO, 14_host_and_dictionary. -/
def PMB_STAT_ALL_UP : Fld := ⟨⟨⟨.PMB_STAT, 0, 0, 0⟩, 1⟩, 1, 0x0⟩
/-- PMB_STAT.BUSY [0] RO, 14_host_and_dictionary. -/
def PMB_STAT_BUSY : Fld := ⟨⟨⟨.PMB_STAT, 0, 0, 0⟩, 0⟩, 1, 0x0⟩
/-- PMB_LATCH.FAULT [31:16] W1C, 14_host_and_dictionary. -/
def PMB_LATCH_FAULT : Fld := ⟨⟨⟨.PMB_LATCH, 0, 0, 0⟩, 16⟩, 16, 0x0⟩
/-- PMB_LATCH.SEQ_FAIL [1] W1C, 14_host_and_dictionary. -/
def PMB_LATCH_SEQ_FAIL : Fld := ⟨⟨⟨.PMB_LATCH, 0, 0, 0⟩, 1⟩, 1, 0x0⟩
/-- PMB_LATCH.SALERT [0] W1C, 14_host_and_dictionary. -/
def PMB_LATCH_SALERT : Fld := ⟨⟨⟨.PMB_LATCH, 0, 0, 0⟩, 0⟩, 1, 0x0⟩
/-- PMB_ENT_A.EN [31] RW, 14_host_and_dictionary. -/
def PMB_ENT_A_EN (i : Nat) : Fld := ⟨⟨⟨.PMB_ENT_A, i, 0, 0⟩, 31⟩, 1, 0x0⟩
/-- PMB_ENT_A.ACTION [30:29] RW, 14_host_and_dictionary. -/
def PMB_ENT_A_ACTION (i : Nat) : Fld := ⟨⟨⟨.PMB_ENT_A, i, 0, 0⟩, 29⟩, 2, 0x0⟩
/-- PMB_ENT_A.WIN [23:20] RW, 14_host_and_dictionary. -/
def PMB_ENT_A_WIN (i : Nat) : Fld := ⟨⟨⟨.PMB_ENT_A, i, 0, 0⟩, 20⟩, 4, 0x5⟩
/-- PMB_ENT_A.ORDER [19:16] RW, 14_host_and_dictionary. -/
def PMB_ENT_A_ORDER (i : Nat) : Fld := ⟨⟨⟨.PMB_ENT_A, i, 0, 0⟩, 16⟩, 4, 0x0⟩
/-- PMB_ENT_A.PAGE [15:8] RW, 14_host_and_dictionary. -/
def PMB_ENT_A_PAGE (i : Nat) : Fld := ⟨⟨⟨.PMB_ENT_A, i, 0, 0⟩, 8⟩, 8, 0x0⟩
/-- PMB_ENT_A.ADDR [6:0] RW, 14_host_and_dictionary. -/
def PMB_ENT_A_ADDR (i : Nat) : Fld := ⟨⟨⟨.PMB_ENT_A, i, 0, 0⟩, 0⟩, 7, 0x0⟩
/-- PMB_ENT_B.TMO [31:16] RW, 14_host_and_dictionary. -/
def PMB_ENT_B_TMO (i : Nat) : Fld := ⟨⟨⟨.PMB_ENT_B, i, 0, 0⟩, 16⟩, 16, 0x64⟩
/-- PMB_ENT_B.DELAY [15:0] RW, 14_host_and_dictionary. -/
def PMB_ENT_B_DELAY (i : Nat) : Fld := ⟨⟨⟨.PMB_ENT_B, i, 0, 0⟩, 0⟩, 16, 0x3e8⟩
/-- PMB_ENT_STAT.STATUS [31:16] RO, 14_host_and_dictionary. -/
def PMB_ENT_STAT_STATUS (i : Nat) : Fld := ⟨⟨⟨.PMB_ENT_STAT, i, 0, 0⟩, 16⟩, 16, 0x0⟩
/-- PMB_ENT_STAT.VOUT [15:0] RO, 14_host_and_dictionary. -/
def PMB_ENT_STAT_VOUT (i : Nat) : Fld := ⟨⟨⟨.PMB_ENT_STAT, i, 0, 0⟩, 0⟩, 16, 0x0⟩
/-- PMB_ENT_MEAS.IOUT [31:16] RO, 14_host_and_dictionary. -/
def PMB_ENT_MEAS_IOUT (i : Nat) : Fld := ⟨⟨⟨.PMB_ENT_MEAS, i, 0, 0⟩, 16⟩, 16, 0x0⟩
/-- PMB_ENT_MEAS.TEMP [15:0] RO, 14_host_and_dictionary. -/
def PMB_ENT_MEAS_TEMP (i : Nat) : Fld := ⟨⟨⟨.PMB_ENT_MEAS, i, 0, 0⟩, 0⟩, 16, 0x0⟩
/-- SEC_STAT.KS_CLOSED [10] RO, 15_security. -/
def SEC_STAT_KS_CLOSED : Fld := ⟨⟨⟨.SEC_STAT, 0, 0, 0⟩, 10⟩, 1, 0x0⟩
/-- SEC_STAT.DBG_LEVEL [9:8] RO, 15_security. -/
def SEC_STAT_DBG_LEVEL : Fld := ⟨⟨⟨.SEC_STAT, 0, 0, 0⟩, 8⟩, 2, 0x0⟩
/-- SEC_STAT.ZEROIZED [7] RO, 15_security. -/
def SEC_STAT_ZEROIZED : Fld := ⟨⟨⟨.SEC_STAT, 0, 0, 0⟩, 7⟩, 1, 0x0⟩
/-- SEC_STAT.ROOT_REVOKED [6] RO, 15_security. -/
def SEC_STAT_ROOT_REVOKED : Fld := ⟨⟨⟨.SEC_STAT, 0, 0, 0⟩, 6⟩, 1, 0x0⟩
/-- SEC_STAT.ROOT_PROV [5] RO, 15_security. -/
def SEC_STAT_ROOT_PROV : Fld := ⟨⟨⟨.SEC_STAT, 0, 0, 0⟩, 5⟩, 1, 0x0⟩
/-- SEC_STAT.UNSIGNED_CODE [4] RO, 15_security. -/
def SEC_STAT_UNSIGNED_CODE : Fld := ⟨⟨⟨.SEC_STAT, 0, 0, 0⟩, 4⟩, 1, 0x0⟩
/-- SEC_STAT.TRIAL [3] RO, 15_security. -/
def SEC_STAT_TRIAL : Fld := ⟨⟨⟨.SEC_STAT, 0, 0, 0⟩, 3⟩, 1, 0x0⟩
/-- SEC_STAT.BOOT_SRC [2:1] RO, 15_security. -/
def SEC_STAT_BOOT_SRC : Fld := ⟨⟨⟨.SEC_STAT, 0, 0, 0⟩, 1⟩, 2, 0x0⟩
/-- SEC_SVN.IMAGE [23:16] RO, 15_security. -/
def SEC_SVN_IMAGE : Fld := ⟨⟨⟨.SEC_SVN, 0, 0, 0⟩, 16⟩, 8, 0x0⟩
/-- SEC_SVN.FUSE [7:0] RO, 15_security. -/
def SEC_SVN_FUSE : Fld := ⟨⟨⟨.SEC_SVN, 0, 0, 0⟩, 0⟩, 8, 0x0⟩
/-- SEC_CNT.DBG_FAIL [31:16] CNT, 15_security. -/
def SEC_CNT_DBG_FAIL : Fld := ⟨⟨⟨.SEC_CNT, 0, 0, 0⟩, 16⟩, 16, 0x0⟩
/-- SEC_CNT.VERIFY_FAIL [15:0] CNT, 15_security. -/
def SEC_CNT_VERIFY_FAIL : Fld := ⟨⟨⟨.SEC_CNT, 0, 0, 0⟩, 0⟩, 16, 0x0⟩
/-- SZ_CTRL.DT [12:8] RW, 16_sizing_calibration. -/
def SZ_CTRL_DT : Fld := ⟨⟨⟨.SZ_CTRL, 0, 0, 0⟩, 8⟩, 5, 0x4⟩
/-- SZ_CTRL.AUTO [0] RW, 16_sizing_calibration. -/
def SZ_CTRL_AUTO : Fld := ⟨⟨⟨.SZ_CTRL, 0, 0, 0⟩, 0⟩, 1, 0x1⟩
/-- SZ_Q_CFG.PRESS_SEC [31:24] RW, 16_sizing_calibration. -/
def SZ_Q_CFG_PRESS_SEC (i : Nat) : Fld := ⟨⟨⟨.SZ_Q_CFG, i, 0, 0⟩, 24⟩, 8, 0x1⟩
/-- SZ_Q_CFG.OWN_PD [9] RW, 16_sizing_calibration. -/
def SZ_Q_CFG_OWN_PD (i : Nat) : Fld := ⟨⟨⟨.SZ_Q_CFG, i, 0, 0⟩, 9⟩, 1, 0x1⟩
/-- SZ_Q_CFG.LINE_EN [8] RW, 16_sizing_calibration. -/
def SZ_Q_CFG_LINE_EN (i : Nat) : Fld := ⟨⟨⟨.SZ_Q_CFG, i, 0, 0⟩, 8⟩, 1, 0x0⟩
/-- SZ_Q_CFG.EN [0] RW, 16_sizing_calibration. -/
def SZ_Q_CFG_EN (i : Nat) : Fld := ⟨⟨⟨.SZ_Q_CFG, i, 0, 0⟩, 0⟩, 1, 0x1⟩
/-- SZ_Q_CMD.CH [28:24] WO, 16_sizing_calibration. -/
def SZ_Q_CMD_CH (i : Nat) : Fld := ⟨⟨⟨.SZ_Q_CMD, i, 0, 0⟩, 24⟩, 5, 0x0⟩
/-- SZ_Q_CMD.ABORT [2] WO, 16_sizing_calibration. -/
def SZ_Q_CMD_ABORT (i : Nat) : Fld := ⟨⟨⟨.SZ_Q_CMD, i, 0, 0⟩, 2⟩, 1, 0x0⟩
/-- SZ_Q_CMD.PRESS [1] WO, 16_sizing_calibration. -/
def SZ_Q_CMD_PRESS (i : Nat) : Fld := ⟨⟨⟨.SZ_Q_CMD, i, 0, 0⟩, 1⟩, 1, 0x0⟩
/-- SZ_Q_CMD.RUN [0] WO, 16_sizing_calibration. -/
def SZ_Q_CMD_RUN (i : Nat) : Fld := ⟨⟨⟨.SZ_Q_CMD, i, 0, 0⟩, 0⟩, 1, 0x0⟩
/-- SZ_Q_STAT.PROC [31:28] RO, 16_sizing_calibration. -/
def SZ_Q_STAT_PROC (i : Nat) : Fld := ⟨⟨⟨.SZ_Q_STAT, i, 0, 0⟩, 28⟩, 4, 0xf⟩
/-- SZ_Q_STAT.POINTS [7:4] RO, 16_sizing_calibration. -/
def SZ_Q_STAT_POINTS (i : Nat) : Fld := ⟨⟨⟨.SZ_Q_STAT, i, 0, 0⟩, 4⟩, 4, 0x3⟩
/-- SZ_Q_STAT.TFAIL [3] RO, 16_sizing_calibration. -/
def SZ_Q_STAT_TFAIL (i : Nat) : Fld := ⟨⟨⟨.SZ_Q_STAT, i, 0, 0⟩, 3⟩, 1, 0x0⟩
/-- SZ_Q_STAT.WAIT_IDLE [2] RO, 16_sizing_calibration. -/
def SZ_Q_STAT_WAIT_IDLE (i : Nat) : Fld := ⟨⟨⟨.SZ_Q_STAT, i, 0, 0⟩, 2⟩, 1, 0x0⟩
/-- SZ_Q_STAT.RUNNING [1] RO, 16_sizing_calibration. -/
def SZ_Q_STAT_RUNNING (i : Nat) : Fld := ⟨⟨⟨.SZ_Q_STAT, i, 0, 0⟩, 1⟩, 1, 0x0⟩
/-- SZ_Q_STAT.DUE [0] RO, 16_sizing_calibration. -/
def SZ_Q_STAT_DUE (i : Nat) : Fld := ⟨⟨⟨.SZ_Q_STAT, i, 0, 0⟩, 0⟩, 1, 0x0⟩
/-- SZ_Q_TEMP.LAST [31:16] RO, 16_sizing_calibration. -/
def SZ_Q_TEMP_LAST (i : Nat) : Fld := ⟨⟨⟨.SZ_Q_TEMP, i, 0, 0⟩, 16⟩, 16, 0x0⟩
/-- SZ_Q_TEMP.NOW [15:0] RO, 16_sizing_calibration. -/
def SZ_Q_TEMP_NOW (i : Nat) : Fld := ⟨⟨⟨.SZ_Q_TEMP, i, 0, 0⟩, 0⟩, 16, 0x0⟩
/-- SZ_Q_LATCH.STORE_FAIL [3] W1C, 16_sizing_calibration. -/
def SZ_Q_LATCH_STORE_FAIL (i : Nat) : Fld := ⟨⟨⟨.SZ_Q_LATCH, i, 0, 0⟩, 3⟩, 1, 0x0⟩
/-- SZ_Q_LATCH.ABANDON [2] W1C, 16_sizing_calibration. -/
def SZ_Q_LATCH_ABANDON (i : Nat) : Fld := ⟨⟨⟨.SZ_Q_LATCH, i, 0, 0⟩, 2⟩, 1, 0x0⟩
/-- SZ_Q_LATCH.REJECT [1] W1C, 16_sizing_calibration. -/
def SZ_Q_LATCH_REJECT (i : Nat) : Fld := ⟨⟨⟨.SZ_Q_LATCH, i, 0, 0⟩, 1⟩, 1, 0x0⟩
/-- SZ_Q_LATCH.APPLIED [0] W1C, 16_sizing_calibration. -/
def SZ_Q_LATCH_APPLIED (i : Nat) : Fld := ⟨⟨⟨.SZ_Q_LATCH, i, 0, 0⟩, 0⟩, 1, 0x0⟩
/-- SZ_Q_REJ.PROC [31:28] RO, 16_sizing_calibration. -/
def SZ_Q_REJ_PROC (i : Nat) : Fld := ⟨⟨⟨.SZ_Q_REJ, i, 0, 0⟩, 28⟩, 4, 0x0⟩
/-- SZ_Q_REJ.INDEX [15:0] RO, 16_sizing_calibration. -/
def SZ_Q_REJ_INDEX (i : Nat) : Fld := ⟨⟨⟨.SZ_Q_REJ, i, 0, 0⟩, 0⟩, 16, 0x0⟩
/-- SZ_Q_CNT.REJECT [31:24] CNT, 16_sizing_calibration. -/
def SZ_Q_CNT_REJECT (i : Nat) : Fld := ⟨⟨⟨.SZ_Q_CNT, i, 0, 0⟩, 24⟩, 8, 0x0⟩
/-- SZ_Q_CNT.ABANDON [23:16] CNT, 16_sizing_calibration. -/
def SZ_Q_CNT_ABANDON (i : Nat) : Fld := ⟨⟨⟨.SZ_Q_CNT, i, 0, 0⟩, 16⟩, 8, 0x0⟩
/-- SZ_Q_CNT.RUNS [15:0] CNT, 16_sizing_calibration. -/
def SZ_Q_CNT_RUNS (i : Nat) : Fld := ⟨⟨⟨.SZ_Q_CNT, i, 0, 0⟩, 0⟩, 16, 0x0⟩
/-- PWR_CTRL.RETAIN_VAT [8] RW, 17_power_thermal_faults. -/
def PWR_CTRL_RETAIN_VAT : Fld := ⟨⟨⟨.PWR_CTRL, 0, 0, 0⟩, 8⟩, 1, 0x0⟩
/-- PWR_CTRL.STOP [4] WO, 17_power_thermal_faults. -/
def PWR_CTRL_STOP : Fld := ⟨⟨⟨.PWR_CTRL, 0, 0, 0⟩, 4⟩, 1, 0x0⟩
/-- PWR_CTRL.RESTART [3] WO, 17_power_thermal_faults. -/
def PWR_CTRL_RESTART : Fld := ⟨⟨⟨.PWR_CTRL, 0, 0, 0⟩, 3⟩, 1, 0x0⟩
/-- PWR_CTRL.REQ [1:0] RW, 17_power_thermal_faults. -/
def PWR_CTRL_REQ : Fld := ⟨⟨⟨.PWR_CTRL, 0, 0, 0⟩, 0⟩, 2, 0x0⟩
/-- PWR_STAT.RGOOD [15:12] RO, 17_power_thermal_faults. -/
def PWR_STAT_RGOOD : Fld := ⟨⟨⟨.PWR_STAT, 0, 0, 0⟩, 12⟩, 4, 0xF⟩
/-- PWR_STAT.CORE_WARN [8] RO, 17_power_thermal_faults. -/
def PWR_STAT_CORE_WARN : Fld := ⟨⟨⟨.PWR_STAT, 0, 0, 0⟩, 8⟩, 1, 0x0⟩
/-- PWR_STAT.STATE [2:0] RO, 17_power_thermal_faults. -/
def PWR_STAT_STATE : Fld := ⟨⟨⟨.PWR_STAT, 0, 0, 0⟩, 0⟩, 3, 0x0⟩
/-- PWR_LATCH.STOP [2] W1C, 17_power_thermal_faults. -/
def PWR_LATCH_STOP : Fld := ⟨⟨⟨.PWR_LATCH, 0, 0, 0⟩, 2⟩, 1, 0x0⟩
/-- PWR_LATCH.RAIL_LOSS [1] W1C, 17_power_thermal_faults. -/
def PWR_LATCH_RAIL_LOSS : Fld := ⟨⟨⟨.PWR_LATCH, 0, 0, 0⟩, 1⟩, 1, 0x0⟩
/-- PWR_LATCH.CORE_WARN [0] W1C, 17_power_thermal_faults. -/
def PWR_LATCH_CORE_WARN : Fld := ⟨⟨⟨.PWR_LATCH, 0, 0, 0⟩, 0⟩, 1, 0x0⟩
/-- PWR_CNT.DIPS [31:16] CNT, 17_power_thermal_faults. -/
def PWR_CNT_DIPS : Fld := ⟨⟨⟨.PWR_CNT, 0, 0, 0⟩, 16⟩, 16, 0x0⟩
/-- PWR_CNT.RAIL_LOSS [15:0] CNT, 17_power_thermal_faults. -/
def PWR_CNT_RAIL_LOSS : Fld := ⟨⟨⟨.PWR_CNT, 0, 0, 0⟩, 0⟩, 16, 0x0⟩
/-- PWR_RST_CAUSE.CAUSE [5:0] RO, 17_power_thermal_faults. -/
def PWR_RST_CAUSE_CAUSE : Fld := ⟨⟨⟨.PWR_RST_CAUSE, 0, 0, 0⟩, 0⟩, 6, 0x0⟩
/-- PWR_SHOTCAP.PER [23:0] RW, 17_power_thermal_faults. -/
def PWR_SHOTCAP_PER : Fld := ⟨⟨⟨.PWR_SHOTCAP, 0, 0, 0⟩, 0⟩, 24, 0x7D0⟩
/-- PWR_SHOTEFF.PER [23:0] RO, 17_power_thermal_faults. -/
def PWR_SHOTEFF_PER : Fld := ⟨⟨⟨.PWR_SHOTEFF, 0, 0, 0⟩, 0⟩, 24, 0x7D0⟩
/-- PWR_STOP.BIAS_TMO [31:16] RW, 17_power_thermal_faults. -/
def PWR_STOP_BIAS_TMO : Fld := ⟨⟨⟨.PWR_STOP, 0, 0, 0⟩, 16⟩, 16, 0x1f4⟩
/-- PWR_STOP.CAUSE [3:0] RO, 17_power_thermal_faults. -/
def PWR_STOP_CAUSE : Fld := ⟨⟨⟨.PWR_STOP, 0, 0, 0⟩, 0⟩, 4, 0x0⟩
/-- THM_CFG.GRACE [6:0] RW, 17_power_thermal_faults. -/
def THM_CFG_GRACE : Fld := ⟨⟨⟨.THM_CFG, 0, 0, 0⟩, 0⟩, 7, 0x14⟩
/-- THM_STAT.WARN [31:16] RO, 17_power_thermal_faults. -/
def THM_STAT_WARN : Fld := ⟨⟨⟨.THM_STAT, 0, 0, 0⟩, 16⟩, 16, 0x0⟩
/-- THM_STAT.STATE [2:0] RO, 17_power_thermal_faults. -/
def THM_STAT_STATE : Fld := ⟨⟨⟨.THM_STAT, 0, 0, 0⟩, 0⟩, 3, 0x0⟩
/-- THM_LATCH.SENSOR [3] W1C, 17_power_thermal_faults. -/
def THM_LATCH_SENSOR : Fld := ⟨⟨⟨.THM_LATCH, 0, 0, 0⟩, 3⟩, 1, 0x0⟩
/-- THM_LATCH.CRIT [2] W1C, 17_power_thermal_faults. -/
def THM_LATCH_CRIT : Fld := ⟨⟨⟨.THM_LATCH, 0, 0, 0⟩, 2⟩, 1, 0x0⟩
/-- THM_LATCH.ENFORCE [1] W1C, 17_power_thermal_faults. -/
def THM_LATCH_ENFORCE : Fld := ⟨⟨⟨.THM_LATCH, 0, 0, 0⟩, 1⟩, 1, 0x0⟩
/-- THM_LATCH.WARN [0] W1C, 17_power_thermal_faults. -/
def THM_LATCH_WARN : Fld := ⟨⟨⟨.THM_LATCH, 0, 0, 0⟩, 0⟩, 1, 0x0⟩
/-- THM_CNT.ENFORCE [31:16] CNT, 17_power_thermal_faults. -/
def THM_CNT_ENFORCE : Fld := ⟨⟨⟨.THM_CNT, 0, 0, 0⟩, 16⟩, 16, 0x0⟩
/-- THM_CNT.WARN [15:0] CNT, 17_power_thermal_faults. -/
def THM_CNT_WARN : Fld := ⟨⟨⟨.THM_CNT, 0, 0, 0⟩, 0⟩, 16, 0x0⟩
/-- PWR_DOM.ON [31:0] RO, 17_power_thermal_faults. -/
def PWR_DOM_ON (i : Nat) : Fld := ⟨⟨⟨.PWR_DOM, i, 0, 0⟩, 0⟩, 32, (if i < 4 then 0xFFFFFFFF else 0xFFFF)⟩
/-- THM_ZONE.FAILED [31:28] RO, 17_power_thermal_faults. -/
def THM_ZONE_FAILED (i : Nat) : Fld := ⟨⟨⟨.THM_ZONE, i, 0, 0⟩, 28⟩, 4, 0x0⟩
/-- THM_ZONE.LEVEL [25:24] RO, 17_power_thermal_faults. -/
def THM_ZONE_LEVEL (i : Nat) : Fld := ⟨⟨⟨.THM_ZONE, i, 0, 0⟩, 24⟩, 2, 0x0⟩
/-- THM_ZONE.TEMP [15:0] RO, 17_power_thermal_faults. -/
def THM_ZONE_TEMP (i : Nat) : Fld := ⟨⟨⟨.THM_ZONE, i, 0, 0⟩, 0⟩, 16, 0x0⟩
/-- LOFT_WAKE.CHAIN [31:24] RW, 17_power_thermal_faults. -/
def LOFT_WAKE_CHAIN : Fld := ⟨⟨⟨.LOFT_WAKE, 0, 0, 0⟩, 24⟩, 8, 0⟩
/-- LOFT_WAKE.POST [2] RW, 17_power_thermal_faults. -/
def LOFT_WAKE_POST : Fld := ⟨⟨⟨.LOFT_WAKE, 0, 0, 0⟩, 2⟩, 1, 1⟩
/-- LOFT_WAKE.DEC [1] RW, 17_power_thermal_faults. -/
def LOFT_WAKE_DEC : Fld := ⟨⟨⟨.LOFT_WAKE, 0, 0, 0⟩, 1⟩, 1, 1⟩
/-- LOFT_WAKE.PIN [0] RW, 17_power_thermal_faults. -/
def LOFT_WAKE_PIN : Fld := ⟨⟨⟨.LOFT_WAKE, 0, 0, 0⟩, 0⟩, 1, 1⟩
/-- LOFT_WAKE_SRC.CHAIN [31:24] RO, 17_power_thermal_faults. -/
def LOFT_WAKE_SRC_CHAIN : Fld := ⟨⟨⟨.LOFT_WAKE_SRC, 0, 0, 0⟩, 24⟩, 8, 0⟩
/-- LOFT_WAKE_SRC.POST [2] RO, 17_power_thermal_faults. -/
def LOFT_WAKE_SRC_POST : Fld := ⟨⟨⟨.LOFT_WAKE_SRC, 0, 0, 0⟩, 2⟩, 1, 0⟩
/-- LOFT_WAKE_SRC.DEC [1] RO, 17_power_thermal_faults. -/
def LOFT_WAKE_SRC_DEC : Fld := ⟨⟨⟨.LOFT_WAKE_SRC, 0, 0, 0⟩, 1⟩, 1, 0⟩
/-- LOFT_WAKE_SRC.PIN [0] RO, 17_power_thermal_faults. -/
def LOFT_WAKE_SRC_PIN : Fld := ⟨⟨⟨.LOFT_WAKE_SRC, 0, 0, 0⟩, 0⟩, 1, 0⟩
/-- LOFT_SCAN.EN [31] RW, 17_power_thermal_faults. -/
def LOFT_SCAN_EN (i : Nat) : Fld := ⟨⟨⟨.LOFT_SCAN, i, 0, 0⟩, 31⟩, 1, 0⟩
/-- LOFT_SCAN.SUB [22:16] RW, 17_power_thermal_faults. -/
def LOFT_SCAN_SUB (i : Nat) : Fld := ⟨⟨⟨.LOFT_SCAN, i, 0, 0⟩, 16⟩, 7, 0⟩
/-- LOFT_SCAN.INPUT [5:0] RW, 17_power_thermal_faults. -/
def LOFT_SCAN_INPUT (i : Nat) : Fld := ⟨⟨⟨.LOFT_SCAN, i, 0, 0⟩, 0⟩, 6, 0⟩
/-- LOFT_DATA.VALID [31] RO, 17_power_thermal_faults. -/
def LOFT_DATA_VALID (i : Nat) : Fld := ⟨⟨⟨.LOFT_DATA, i, 0, 0⟩, 31⟩, 1, 0⟩
/-- LOFT_DATA.RESULT [15:0] RO, 17_power_thermal_faults. -/
def LOFT_DATA_RESULT (i : Nat) : Fld := ⟨⟨⟨.LOFT_DATA, i, 0, 0⟩, 0⟩, 16, 0⟩
/-- LOFT_FILT.EN [31] RW, 17_power_thermal_faults. -/
def LOFT_FILT_EN (i : Nat) : Fld := ⟨⟨⟨.LOFT_FILT, i, 0, 0⟩, 31⟩, 1, 0⟩
/-- LOFT_FILT.K [19:16] RW, 17_power_thermal_faults. -/
def LOFT_FILT_K (i : Nat) : Fld := ⟨⟨⟨.LOFT_FILT, i, 0, 0⟩, 16⟩, 4, 0⟩
/-- LOFT_FILT.SLOT [5:0] RW, 17_power_thermal_faults. -/
def LOFT_FILT_SLOT (i : Nat) : Fld := ⟨⟨⟨.LOFT_FILT, i, 0, 0⟩, 0⟩, 6, 0⟩
/-- LOFT_FOUT.Y [15:0] RO, 17_power_thermal_faults. -/
def LOFT_FOUT_Y (i : Nat) : Fld := ⟨⟨⟨.LOFT_FOUT, i, 0, 0⟩, 0⟩, 16, 0⟩
/-- LOFT_DEC_A.HI [31:16] RW, 17_power_thermal_faults. -/
def LOFT_DEC_A_HI (i : Nat) : Fld := ⟨⟨⟨.LOFT_DEC_A, i, 0, 0⟩, 16⟩, 16, 0x7fff⟩
/-- LOFT_DEC_A.LO [15:0] RW, 17_power_thermal_faults. -/
def LOFT_DEC_A_LO (i : Nat) : Fld := ⟨⟨⟨.LOFT_DEC_A, i, 0, 0⟩, 0⟩, 16, 0x8000⟩
/-- LOFT_DEC_B.EN [31] RW, 17_power_thermal_faults. -/
def LOFT_DEC_B_EN (i : Nat) : Fld := ⟨⟨⟨.LOFT_DEC_B, i, 0, 0⟩, 31⟩, 1, 0x0⟩
/-- LOFT_DEC_B.WAKE [30] RW, 17_power_thermal_faults. -/
def LOFT_DEC_B_WAKE (i : Nat) : Fld := ⟨⟨⟨.LOFT_DEC_B, i, 0, 0⟩, 30⟩, 1, 0x0⟩
/-- LOFT_DEC_B.ALERT [29] RW, 17_power_thermal_faults. -/
def LOFT_DEC_B_ALERT (i : Nat) : Fld := ⟨⟨⟨.LOFT_DEC_B, i, 0, 0⟩, 29⟩, 1, 0x0⟩
/-- LOFT_DEC_B.OUT [28] RO, 17_power_thermal_faults. -/
def LOFT_DEC_B_OUT (i : Nat) : Fld := ⟨⟨⟨.LOFT_DEC_B, i, 0, 0⟩, 28⟩, 1, 0x0⟩
/-- LOFT_DEC_B.PERSIST [19:12] RW, 17_power_thermal_faults. -/
def LOFT_DEC_B_PERSIST (i : Nat) : Fld := ⟨⟨⟨.LOFT_DEC_B, i, 0, 0⟩, 12⟩, 8, 0x4⟩
/-- LOFT_DEC_B.HYST [11:4] RW, 17_power_thermal_faults. -/
def LOFT_DEC_B_HYST (i : Nat) : Fld := ⟨⟨⟨.LOFT_DEC_B, i, 0, 0⟩, 4⟩, 8, 0x0⟩
/-- LOFT_DEC_B.FILT [3:0] RW, 17_power_thermal_faults. -/
def LOFT_DEC_B_FILT (i : Nat) : Fld := ⟨⟨⟨.LOFT_DEC_B, i, 0, 0⟩, 0⟩, 4, 0x0⟩
/-- QERR_STAT.GATED [3] RO, 17_power_thermal_faults. -/
def QERR_STAT_GATED (i : Nat) : Fld := ⟨⟨⟨.QERR_STAT, i, 0, 0⟩, 3⟩, 1, 0x0⟩
/-- QERR_STAT.CORE_SUBST [2] RO, 17_power_thermal_faults. -/
def QERR_STAT_CORE_SUBST (i : Nat) : Fld := ⟨⟨⟨.QERR_STAT, i, 0, 0⟩, 2⟩, 1, 0x0⟩
/-- QERR_STAT.UNSPARABLE [1] RO, 17_power_thermal_faults. -/
def QERR_STAT_UNSPARABLE (i : Nat) : Fld := ⟨⟨⟨.QERR_STAT, i, 0, 0⟩, 1⟩, 1, 0x0⟩
/-- QERR_STAT.RESTORE [0] RO, 17_power_thermal_faults. -/
def QERR_STAT_RESTORE (i : Nat) : Fld := ⟨⟨⟨.QERR_STAT, i, 0, 0⟩, 0⟩, 1, 0x0⟩
/-- QERR_LATCH.EVENT [2:0] W1C, 17_power_thermal_faults. -/
def QERR_LATCH_EVENT (i : Nat) : Fld := ⟨⟨⟨.QERR_LATCH, i, 0, 0⟩, 0⟩, 3, 0⟩
/-- QERR_CNT.RESTORES [31:16] CNT, 17_power_thermal_faults. -/
def QERR_CNT_RESTORES (i : Nat) : Fld := ⟨⟨⟨.QERR_CNT, i, 0, 0⟩, 16⟩, 16, 0⟩
/-- QERR_CNT.SUBST [2:0] CNT, 17_power_thermal_faults. -/
def QERR_CNT_SUBST (i : Nat) : Fld := ⟨⟨⟨.QERR_CNT, i, 0, 0⟩, 0⟩, 3, 0⟩

end Sys2Proof.Machine.F
end

