-- ==== Sys2Proof/Machine/Tab.lean ====
section
/-! DEFINITION. Finite tables with a default: a list of keys and values in which the first entry of a key counts. The device's
arrays (threads, tones, queues, windows) are tables that list only the entries something has changed. -/

namespace Sys2Proof.Machine

/-- A table from keys to values. -/
abbrev Tab (κ α : Type) := List (κ × α)

/-- The value of a key; the default where the table lists none. -/
def tget {κ α : Type} [DecidableEq κ] (t : Tab κ α) (d : α) (k : κ) : α :=
  match t with
  | [] => d
  | (k', v) :: r => if k' = k then v else tget r d k

/-- The table with one key's value replaced; a key not listed is added at the end. -/
def tset {κ α : Type} [DecidableEq κ] (t : Tab κ α) (k : κ) (v : α) : Tab κ α :=
  match t with
  | [] => [(k, v)]
  | (k', v') :: r => if k' = k then (k, v) :: r else (k', v') :: tset r k v

/-- The table with one key's value changed by a function. -/
def tmod {κ α : Type} [DecidableEq κ] (t : Tab κ α) (d : α) (k : κ) (f : α → α) : Tab κ α :=
  tset t k (f (tget t d k))

end Sys2Proof.Machine
end

