-- ==== Sys2Proof/Machine/State.lean ====
section
/-! DEFINITION. The state of the device as plain data: its registers, its memories, device time, and for each subsystem what the
spec gives it beside its registers; the queue of commands that wait; and the state after reset. -/

namespace Sys2Proof.Machine

/-- Why the model stops with a fault. The spec gives every command of the table an effect or says it has none, so no meaning
raises one; the type is empty. -/
inductive Fault where
deriving DecidableEq, Repr

/-- Why the model refuses a command. -/
inductive Refusal where
  /-- The command has no meaning in this model yet. Raised only by the dispatch of such a command; safe, since nothing can be
  proved of a run past it. -/
  | notModelled (mnemonic : String)
deriving DecidableEq, Repr

/-- The taint causes of R31, in the order of the record's CAUSE bits (R207). -/
inductive Cause where
  | late | underrun | bridge | restore | dip | fenced
deriving DecidableEq, Repr

/-- A taint (R110): the tick whose shot it marks, the quire whose records it marks (none: every quire's), and its cause. -/
structure Taint where
  tick : Nat
  q : Option Nat
  cause : Cause
deriving DecidableEq, Repr

/-! ### Post (chapter 10) -/

/-- The inside of one logic cell (R292 to R295). Q is the register field POST_CELL.Q. Times are picoseconds of fabric time. -/
structure LogicCell where
  /-- When the pulse on input A, B, C, D ends; an input reads 1 before that instant. -/
  pulseEnd : Nat × Nat × Nat × Nat
  /-- The unfiltered output and the instant it last changed. -/
  level : Bool
  since : Nat
  /-- The filtered output (R295). -/
  out : Bool
  /-- With FF = 1: the instant 0.5 ns after an event at D, at which Q is still to be taken (R293). -/
  clock : Option Nat
deriving DecidableEq, Repr

/-- A logic cell after reset: no pulse, output 0. -/
def LogicCell.init : LogicCell := ⟨(0, 0, 0, 0), false, 0, false, none⟩

/-- What the Post fabric holds beside its registers. -/
structure PostState where
  /-- Fabric time in picoseconds: Post has no clock of its own, events carry their instant (R282, R284). -/
  ps : Nat
  /-- Producers that have fired and whose event has not yet reached its channels, oldest first (R286). -/
  fired : List Nat
  /-- Per channel: the instant of the last event it passed (R284). -/
  passed : Tab Nat (Option Nat)
  /-- Per group: the instant of the last disable at its latch, and of the last that came as a pulse, from an input or the group itself
  (R285, R291). -/
  shut : Tab Nat (Option Nat)
  pulsed : Tab Nat (Option Nat)
  /-- Per sampled task input: the instants, in picoseconds of device time, of events that reached it and have not yet acted, oldest first
  (R290). -/
  arrived : Tab Nat (List Nat)
  /-- Per task input: executions since the last write of POST_CSEL (R288). -/
  execs : Tab Nat Nat
  /-- The logic cells. -/
  cells : Tab Nat LogicCell
  /-- The instant of fabric time at which the present tick began. -/
  base : Nat
  /-- The tick and instant of fabric time at which latches last fired producers, and those they fired there (R287). -/
  latched : (Nat × Nat) × List Nat
deriving DecidableEq, Repr

/-! ### Sequencers, playout queues, players and streams (chapter 03) -/

/-- One channel of one quire. -/
structure Chan where
  q : Nat
  kind : ChanKind
  n : Nat
deriving DecidableEq, Repr

/-- What a queued command does when it plays (R81, R94). -/
inductive CmdBody where
  /-- PLAY or FLUX mode 0: a segment, its amplitude scale in Q1.15 and, for a stream command, its position in the stream (R105). -/
  | segment (seg : Nat) (amp : Int) (spos : Nat)
  /-- FLUX mode 1: the slow ladder to a code. -/
  | ladder (code : Int)
  /-- MEAS: weight descriptor, length in ticks, ARM mask. -/
  | meas (wgt len arm : Nat)
  /-- FRAME: replace or add, and the value. -/
  | frame (replace : Bool) (val : Nat)
deriving DecidableEq, Repr

/-- The condition of a set member (R95): negation and subscription. -/
structure Cond where
  neg : Bool
  sub : Nat
deriving DecidableEq, Repr

/-- A command, or a whole alternate set, on its way to or in a playout queue. A command outside a set has one member without a
condition. -/
structure Entry where
  t : Nat
  tick : Nat
  sub : Nat
  members : List (Option Cond × CmdBody)
deriving DecidableEq, Repr

/-- An alternate set a thread is building (R90). -/
inductive SetState where
  | none
  | building (chan : Chan) (e : Entry)
  /-- The set failed: its members up to the closing one place nothing. -/
  | failed
deriving DecidableEq, Repr

/-- What a thread in WAIT waits for (R76); `room`: a thread in STALL waits for an entry of this channel's queue (R82). -/
inductive Wait where
  | event (ev : Nat) (clr : Bool) (gap : Nat)
  | sub (s : Nat) (reb wr : Bool) (sd : Fin 16) (gap tmo : Nat)
  | branch (s : Nat) (neg reb : Bool) (gap tgt : Nat)
  | barrier (scope bar gap : Nat)
  | shot (gap : Nat)
  | room (c : Chan)
deriving DecidableEq, Repr

/-- An active hardware loop (R98): the first and last address of its body and the iterations still to run, the present one included. -/
structure LoopFrame where
  first : Nat
  last : Nat
  left : Nat
deriving DecidableEq, Repr

/-- What a sequencer thread holds beside its registers (R71, R78, R98, R100). State and causes are fields of THR_STAT. -/
structure Thread where
  tt : Nat
  pc : Nat
  /-- The thread has been started since reset: THR_PC then reads the next instruction address. -/
  started : Bool
  s : Vector Word 16
  /-- Innermost loop first. -/
  loops : List LoopFrame
  set : SetState
  wait : Option Wait
  /-- The tick the wait began. -/
  since : Nat
deriving DecidableEq, Repr

/-- A thread after reset. -/
def Thread.init : Thread := ⟨0, 0, false, Vector.replicate 16 0, [], .none, none, 0⟩

/-- A jump request that has reached a player (R102): arrival tick, target descriptor, requesting thread. -/
structure Jump where
  tick : Nat
  seg : Nat
  t : Nat
deriving DecidableEq, Repr

/-- A part of a player's chain that a jump has followed (R102): its segment and stream position, the output sample and the read point it
began at, the chain index of its last iteration, the output sample after its last one, and the tick from which it is released (R103). -/
structure PlayPart where
  seg : Nat
  spos : Nat
  n0 : Nat
  x0 : Nat
  c0 : Nat
  upto : Nat
  rel : Nat
deriving DecidableEq, Repr

/-- An envelope player at work (R101, R102). Output samples are counted from the play time of the chain; the read point is counted in
2^-32 samples of the segment chain. -/
structure Player where
  t : Nat
  /-- Play tick and sub-tick of the chain; for a flux channel the play time after rounding (R86). -/
  tick : Nat
  sub : Nat
  seg : Nat
  amp : Int
  /-- Output sample at which the present iteration (or the present rate) began, and the read point there. -/
  n0 : Nat
  x0 : Nat
  /-- Chain index of the first sample of the present iteration. -/
  c0 : Nat
  /-- Iterations that still follow the present one; none: until a jump. -/
  left : Option Nat
  jumps : List Jump
  /-- For a stream segment: the stream position of the iteration's first sample. -/
  spos : Nat
  /-- The player still has samples to play. -/
  active : Bool
  /-- The last iteration's tick F has passed: no request is honoured any more (R102). -/
  closed : Bool
  /-- The command has been counted as a late command (R143, R186). -/
  late : Bool
  /-- Commands that have just ended without having been late: thread, play tick, the tick of the last sample (R143). -/
  ended : List (Nat × Nat × Nat)
  /-- Segments that jumps have followed and whose last sample has not left the player yet, oldest first (R102, R103). -/
  past : List PlayPart
  /-- A request that reaches the player before this tick came after F of the last iteration of the segment before (R102). -/
  deafTo : Nat
deriving DecidableEq, Repr

/-- A player after reset: idle. -/
def Player.init : Player := ⟨0, 0, 0, 0, 0, 0, 0, 0, some 0, [], 0, false, false, false, [], [], 0⟩

/-- A stream of a quire (R105 to R109). Positions count samples from the start of the stream. -/
structure Stream where
  /-- The consume cursor and the write position. -/
  consume : Nat
  write : Nat
  /-- Positions passed over by underruns, as ranges [from, to): they hold no written data (R108). -/
  holes : List (Nat × Nat)
  /-- Rewind marks of looped stream commands: their positions (R106). -/
  marks : List Nat
  /-- Stream commands entered and not yet ended, by the position of each, oldest first (R109). -/
  outstanding : List Nat
  /-- The writer stands at a rewind mark, and the halt has been counted (R106). -/
  halted : Bool
  /-- The player has run past the written data and outputs zero (R108). -/
  under : Bool
deriving DecidableEq, Repr

/-- A stream after reset. -/
def Stream.init : Stream := ⟨0, 0, [], [], [], false, false⟩

/-- What the sequencers hold beside their registers. Keys: (quire, thread), channels, (quire, stream), (quire, descriptor). -/
structure SeqState where
  threads : Tab (Nat × Nat) Thread
  /-- Commands issued and still in transit: the tick they reach their queue (R77), channel, command. -/
  transit : List (Nat × Chan × Entry)
  /-- Jump requests in transit: arrival tick, channel, descriptor, thread. -/
  jumps : List (Nat × Chan × Nat × Nat)
  queues : Tab Chan (List Entry)
  /-- The last command or set of the channel that reached the selector: tick, sub-tick, whether a FRAME (R83). -/
  lastSel : Tab Chan (Option (Nat × Nat × Bool))
  players : Tab Chan Player
  streams : Tab (Nat × Nat) Stream
  /-- Subscriptions: the value delivered last (R87); the valid flag is THR_SUB.VALID. -/
  subVal : Tab (Nat × Nat × Nat) Nat
  /-- Threads of the quire issue nothing: a restore or a core substitution is under way (R111). -/
  held : Tab Nat Bool
  /-- Shot boundaries announced and not yet past (R341, R342). -/
  announced : List Nat
  /-- Event flags Post has set in a CORE cycle in which a WAIT or BRE still to issue clears them (R97): quire, flag. -/
  evKeep : List (Nat × Nat)
deriving DecidableEq, Repr

/-! ### Tones, drive outputs, flux channels, bias sources (chapters 04 and 05) -/

/-- What a tone generator holds beside its registers (R51, R118 to R123, R142). -/
structure Tone where
  /-- The frequency word in force. -/
  ftw : Nat
  /-- A committed word not yet in force, and its effect tick. -/
  pend : Option (Nat × Nat)
  /-- The low half written and held until the high half commits. -/
  heldLo : Nat
  /-- The frame phase in force. -/
  frame : Nat
  /-- The sign bit the command in the player latched at its play tick (R123). -/
  pfHeld : Bool
  /-- The contribution is zero from this entry tick (R142), until the spare serves the tone. -/
  zeroFrom : Option Nat
  /-- The word and frame phase in force from each tick on, the latest first: (tick, word, frame) (R53, R199). -/
  hist : List (Nat × Nat × Nat)
  /-- The generator has passed its self-check since it failed (R144). -/
  checked : Bool
deriving DecidableEq, Repr

/-- A tone after reset. -/
def Tone.init : Tone := ⟨0, none, 0, 0, false, none, [], false⟩

/-- What the quire keeps of a tone beside the tone, under ECC (R140, R219): frequency word, frame phase, SLOT, sign-bit settings, gain. -/
structure Shadow where
  ftw : Nat
  frame : Nat
  slot : Nat
  latch : Bool
  en : Bool
  gain : Nat
deriving DecidableEq, Repr

/-- The shadow of tone c after reset: the reset values of its registers. -/
def Shadow.init (c : Nat) : Shadow := ⟨0, 0, if c < 16 then c else 0, true, decide (c < 16), 0x7FFF⟩

/-- One tone in one entry tick (R113): its frequency word, frame phase and gain in force, the sign bit in force and the one its command
latched (R123), whether it contributes zero for a fault (R142), the sub-tick shift, and the four complex samples its player put out, times
AMP, in fractions of full scale. -/
structure ToneSlice where
  c : Nat
  ftw : Nat
  frame : Nat
  gain : Int
  pf : Bool
  held : Option Bool
  dead : Bool
  sub : Nat
  env : List (Rat × Rat)
deriving DecidableEq, Repr

/-- What entered the pipeline of an output in one tick: its tones, and in CW mode the amplitude and the tone that gives the phase
(R137). -/
structure Slice where
  tick : Nat
  tones : List ToneSlice
  cw : Option (Int × Nat)
deriving DecidableEq, Repr

/-- A linear CW amplitude ramp (R139). -/
structure CwRamp where
  start : Nat
  len : Nat
  source : Int
  target : Int
deriving DecidableEq, Repr

/-- What a drive or probe output holds beside its registers. -/
structure Output where
  /-- The software mute in effect (R135: 4 ticks after its write). -/
  swMute : Bool
  /-- The tick from whose start the ball carries the present muted or unmuted state. -/
  onset : Nat
  /-- The CW amplitude where no ramp runs. -/
  cwAmp : Int
  ramp : Option CwRamp
  /-- Range settling ends no later than this tick (R130). -/
  settleBy : Nat
  /-- The release of the last trip reaches the ball at this tick (R185). -/
  tripTo : Nat
  /-- Muted for want of a spare: of its bridge lane (R21) or of its quire's sequencer core (R26). -/
  dead : Bool
  /-- The pipeline: what entered in the latest ticks, the latest first; the DAC codes formed, by entry tick, of those not all zero
  (R113 to R126). -/
  wave : List Slice
  codes : List (Nat × List Int)
  /-- DACW words, by their number in entry positions, that the converter die plays as zero words (R20). -/
  zeroed : List Nat
deriving DecidableEq, Repr

/-- An output after reset. -/
def Output.init : Output := ⟨false, 0, 0, none, 0, 0, false, [], [], []⟩

/-- Why the slow ladder of a channel, or a bias source, moves toward a target step by step. -/
inductive RampKind where
  /-- FLX_SLOW_RAMP.STEP or BIAS_RAMP.STEP codes per update (R161, R170). -/
  | steps
  /-- Linear from a code over a time, in ticks (R165, R168, R184). -/
  | linear (source : Int) (start len : Nat)
deriving DecidableEq, Repr

/-- A ramp in progress: its kind, its target and the tick of its next update. -/
structure Ramp where
  kind : RampKind
  target : Int
  next : Nat
deriving DecidableEq, Repr

/-- What a flux channel holds beside its registers (R151 to R168). -/
structure Flux where
  swMute : Bool
  onset : Nat
  ramp : Option Ramp
  /-- The deglitcher holds the slow path until this tick (R162); the code held at the output. -/
  holdEnd : Option (Nat × Int)
  /-- The switch closes at this tick (R165). -/
  closeAt : Option Nat
  /-- Disabled, and the switch opens when the ladder reaches zero (R165). -/
  opening : Bool
  rangeBy : Nat
  /-- A trip holds the ladder, with this action: 0 zero, 1 hold, 2 ramp (R163, R184). -/
  tripAct : Option Nat
  /-- The channel is faulty: the ladder holds and updates are discarded (R168). -/
  faulty : Bool
  /-- Press state of the sections enabled: x_k[n-1] and x_(k+1)[n-1], in 2^-30 (R156, R157). -/
  iir : List (Int × Int)
  /-- The FIR delay line, latest sample first (x_8, in 2^-30). -/
  fir : List Int
  /-- The last four inputs of the Press (x_0, in 2^-30), latest first, each with whether a section saturated on it: the delay that the FIR's
  reference tap gives, which the bypass has too (R154, R156). -/
  line : List (Int × Bool)
  /-- The code the fast path put out last (R153). -/
  fastCode : Int
  /-- The FLX sample, by its number in device time, that the Press takes next; the FLX word being put out has a saturated sample
  (R155). -/
  cursor : Nat
  clipped : Bool
  /-- Muted for want of a spare, as a drive output (R21, R26). -/
  dead : Bool
  /-- The release of the last trip reaches the ball at this tick (R185). -/
  tripTo : Nat
  /-- The codes put out lately, latest first, by FLX sample, and the FLX words that arrived with a parity error, which play as zero
  (R20, R153). -/
  put : List (Nat × Int)
  zeroed : List Nat
deriving DecidableEq, Repr

/-- A flux channel after reset. -/
def Flux.init : Flux :=
  ⟨false, 0, none, none, none, false, 0, none, false, List.replicate 8 (0, 0), List.replicate 32 0, List.replicate 4 (0, false), 0, 0, false,
    false, 0, [], []⟩

/-- What a bias source holds beside its registers. -/
structure Bias where
  ramp : Option Ramp
  tripAct : Option Nat
  /-- The code a write of BIAS_SET will start toward is in BIAS_SET; this source ramps to 0 V to open (R172). -/
  opening : Bool
  /-- The source is faulty and muted as unsparable (R23): it starts no ramp. -/
  faulty : Bool
  /-- Its voltage and current as the housekeeping ADC measured them last (R171, R447), in the ADC's codes. -/
  volt : Nat
  curr : Nat
deriving DecidableEq, Repr

/-- A bias source after reset. -/
def Bias.init : Bias := ⟨none, none, false, false, 0, 0⟩

/-- A bias sequence of a pair (R172): up or down, which of its two sources it is at, and the end of the DWELL pause if in it. -/
structure BiasSeq where
  up : Bool
  second : Bool
  dwell : Option Nat
deriving DecidableEq, Repr

/-- What the drive, flux and bias units hold beside their registers. Keys: (quire, tone), (quire, output), (quire, channel),
(quire, source); coefficients in force: (quire, output, tap), (quire, channel, coefficient register). -/
structure OutState where
  tones : Tab (Nat × Nat) Tone
  /-- The shadows of the tones (R140, R219). -/
  shadows : Tab (Nat × Nat) Shadow
  outs : Tab (Nat × Nat) Output
  pd : Tab (Nat × Nat × Nat) Nat
  flux : Tab (Nat × Nat) Flux
  /-- Press values in force: register offset in words from FLX_IIR_C0[0] (C0, C1, D of each section), then 64 + k for FIR tap k,
  then 128 for SEC_EN. -/
  press : Tab (Nat × Nat × Nat) Nat
  /-- Sizing's values waiting for the next commit or boundary: (quire, channel) to a gain match; they travel with R158. -/
  xgain : Tab (Nat × Nat) (Option Nat)
  bias : Tab (Nat × Nat) Bias
  seqs : Tab Nat (Option BiasSeq)
  /-- Fault substitution of a drive tone under way in a quire: the tone and the tick it was found faulty (R142). -/
  subst : Tab Nat (Option (Nat × Nat))
  /-- A move to or from the spare under way: true to the spare, and the tone (R145). -/
  move : Tab Nat (Option (Bool × Nat))
deriving DecidableEq, Repr

/-! ### Deckle (chapter 06) -/

/-- What a Deckle window holds beside its registers (R176 to R181). State and latch are bits of DK_STAT and DK_LATCH. -/
structure Window where
  /-- The input level, in threshold codes. -/
  level : Int
  /-- When the latch is armed next, if it is to be (R178). -/
  armAt : Option Nat
  armed : Bool
deriving DecidableEq, Repr

/-- A window after reset: its input in the middle of its band. A rail window is enabled at reset and is armed 2 µs later (R178, R179). -/
def Window.init (w : Nat) : Window := ⟨512, if 432 ≤ w ∧ w ≠ 453 then some 1000 else none, false⟩

/-- What the Deckle holds beside its registers. -/
structure DeckleState where
  wins : Tab Nat Window
  /-- The nominal of VDDQ has been taken from the fitted parts since reset (R179). -/
  vddq : Bool
  /-- A threshold read-back under way: window and side (R188). -/
  rb : Option (Nat × Nat)
deriving DecidableEq, Repr

/-! ### Headbox and result path (chapter 07) -/

/-- The discriminator values of a cell (R202): mode, C, S, offsets and thresholds, as signed values. -/
structure Disc where
  mode : Nat
  c : Int
  s : Int
  ofsI : Int
  ofsQ : Int
  thr0 : Int
  thr1 : Int
deriving DecidableEq, Repr

/-- The discriminator values in force after reset: those of the shadows' reset values. -/
def Disc.init : Disc := ⟨0, 32767, 0, 0, 0, 0, 0⟩

/-- An integration window that has opened and whose result is not yet formed (R197). -/
structure OpenWin where
  t : Nat
  wgt : Nat
  p : Nat
  sub : Nat
  len : Nat
  disc : Disc
  ovl : Bool
  /-- ADCW words of the input that arrived with a parity error (R205). -/
  bad : List Nat
  /-- The window is served by the spare read-out unit. -/
  spare : Bool
deriving DecidableEq, Repr

/-- What a demodulation cell holds beside its registers. Frequency words as in a tone; the phase term in force; the history of
frequency word and phase for windows still open: (effect tick, word, phase), latest first (R199). -/
structure Cell where
  ftw : Nat
  pend : Option (Nat × Nat)
  heldLo : Nat
  phase : Nat
  hist : List (Nat × Nat × Nat)
  disc : Disc
  wins : List OpenWin
  /-- I and Q of the last window formed; HB_CELL_LAST_Q returns the value latched by a read of LAST_I. -/
  lastQ : Nat
  checked : Bool
deriving DecidableEq, Repr

/-- A cell after reset. -/
def Cell.init : Cell := ⟨0, none, 0, 0, [], Disc.init, [], 0, false⟩

/-- A packet that waits to enter the result queue (R207, R209, R245): what its words are made of when it is written. -/
inductive Packet where
  /-- A measurement record: cell, thread, descriptor, sub-tick, P, LEN, I, Q, and SUBST, FLUSHED, OVL, CORRUPT, LATE, SVALID, STATE; `fed`: the
  Beater has had the entry of its MEAS (R242). -/
  | meas (j t wgt sub p len : Nat) (i q : Int) (subst flushed ovl corrupt late svalid : Bool) (state : Nat) (fed : Bool)
  /-- A shot record: boundary, length, REVISED. -/
  | shot (b len : Nat) (revised : Bool)
  /-- A Beater packet: its context, its shot's tick and its words after the header. -/
  | beater (ctx ch tick : Nat) (words : List Nat)
deriving DecidableEq, Repr

/-- A packet in the result queue: its words, and the tick it was written in (R211). -/
structure Queued where
  words : List Nat
  tick : Nat
deriving DecidableEq, Repr

/-- A shot a quire has reported (R209): boundary, length, and the cause mask last reported. -/
structure Reported where
  b : Nat
  len : Nat
  mask : Nat
deriving DecidableEq, Repr

/-- The result path of a quire. -/
structure ResultPath where
  /-- Packets ready to enter the queue, with the tick from which they are, in the order they became ready. -/
  ready : List (Nat × Packet)
  queue : List Queued
  /-- The sequence number of the next packet (R208). -/
  seq : Nat
  /-- Shot records that wait for a credit (R212). -/
  wantCredit : List Packet
  /-- The mover is stopped at a full ring (R214). -/
  stopped : Bool
  /-- Play ticks of the measurement records written since the last shot record. -/
  recs : List Nat
  reported : List Reported
deriving DecidableEq, Repr

/-- A result path after reset. -/
def ResultPath.init : ResultPath := ⟨[], [], 0, [], false, [], []⟩

/-- What the quire keeps of a demodulation cell for its spare (R219): frequency word, phase term, LINK, PTONE, discriminator values in
force. -/
structure CellShadow where
  ftw : Nat
  phase : Nat
  link : Bool
  ptone : Nat
  disc : Disc
deriving DecidableEq, Repr

/-- The shadow of a cell after reset. -/
def CellShadow.init : CellShadow := ⟨0, 0, false, 0, Disc.init⟩

/-- What the Headbox holds beside its registers. Keys: (quire, cell), quire. -/
structure HeadState where
  cells : Tab (Nat × Nat) Cell
  /-- The shadows of the cells (R219). -/
  shadows : Tab (Nat × Nat) CellShadow
  results : Tab Nat ResultPath
  /-- The ADC is ready no later than this tick (R193). -/
  adcBy : Tab Nat (Option Nat)
  /-- The last ADCW word with an overloaded sample (R195). -/
  ovlWord : Tab Nat (Option Nat)
  /-- Quires whose input a bridge lane without a spare has cut off (R21). -/
  cut : List Nat
  /-- Fault substitution under way: KIND, item, tick D (R220, R221). -/
  subst : Tab Nat (Option (Nat × Nat × Nat))
  /-- A forced move or hand-back under way: true to the unit, KIND and item (R221). -/
  move : Tab Nat (Option (Bool × Nat × Nat))
deriving DecidableEq, Repr

/-! ### Beater (chapter 08) -/

/-- An entry of a context's input queue (R242): local channel, I, Q, the flags of the tag, the tick it entered, and the play tick of its
MEAS. -/
structure InEntry where
  ch : Nat
  i : Int
  q : Int
  ovl : Bool
  corrupt : Bool
  late : Bool
  flushed : Bool
  subst : Bool
  tick : Nat
  p : Nat
deriving DecidableEq, Repr

/-- An active loop of a context (R237): body, runs of the body still to come (the present one included), and, for ROT = 1, the
iteration, the count and the number of stages. -/
structure CtxLoop where
  first : Nat
  last : Nat
  left : Nat
  rot : Bool
  iter : Nat
  count : Nat
  stages : Nat
deriving DecidableEq, Repr

/-- A packet being built (R248): the tick and the tag of its first OUTR, and its data words in order. -/
structure PacketBuf where
  tick : Nat
  tag : Nat
  words : List Nat
deriving DecidableEq, Repr

/-- What a Beater context holds beside its registers (R223). IX, RRB, N, Z, SAT are fields of CTX_IX and CTX_STAT; P0 to P7 are
CTX_PTR_A and CTX_PTR_B. -/
structure Ctx where
  pc : Nat
  started : Bool
  /-- The physical V registers. -/
  v : Vector VWord 32
  a : Vector Int 4
  loops : List CtxLoop
  inq : List InEntry
  pkt : Option PacketBuf
  /-- In WAIT: first register, timeout and the tick the wait began. -/
  wait : Option (Nat × Nat × Nat)
  /-- The entry last taken by WAITIN carried LATE, FLUSHED, CORRUPT or TIMEOUT (R246). -/
  bad : Bool
  /-- The first CORE cycle in which its next instruction may issue (R230). -/
  ready : Nat
  /-- A credit is reserved for a packet not yet begun (R248). -/
  credit : Bool
  /-- A START written while the engine was paused, which takes effect when it resumes (R250). -/
  startReq : Bool
deriving DecidableEq, Repr

/-- A context after reset. -/
def Ctx.init : Ctx := ⟨0, false, Vector.replicate 32 0, Vector.replicate 4 0, [], [], none, none, false, 0, false, false⟩

/-- The issue slot of an engine (R229): the first CORE cycle whose slot is not taken, and the context last served round robin. -/
structure EngineSlot where
  next : Nat
  served : Nat
deriving DecidableEq, Repr

/-- The slot of an engine after reset: context 15 counts as served last (R229). -/
def EngineSlot.init : EngineSlot := ⟨0, 15⟩

/-- A store of an engine on its way to its bank (R230): the CORE cycle that writes it, the memory key, the word. -/
structure BankStore where
  cycle : Nat
  key : Nat
  word : Nat
deriving DecidableEq, Repr

/-- What the Beater engines hold beside their registers. Keys: (quire, context), (quire, output), region. -/
structure BeaterState where
  ctxs : Tab (Nat × Nat) Ctx
  /-- OUTPs on their way to a Couch source: (quire, output), delivery tick, value (R245). -/
  outs : List (Nat × Nat × Nat × Nat)
  /-- The quire the regional spare engine serves, and whether by FORCE (R251, R252). -/
  spare : Tab Nat (Option (Nat × Bool))
  /-- A substitution or move under way in a region: the quire, and whether a hand-back. -/
  pending : Tab Nat (Option (Nat × Bool))
  checked : Tab Nat Bool
  /-- The tick in which what is pending in a region was begun (R26). -/
  since : Tab Nat Nat
  /-- The issue slots of the engines, by quire (R229). -/
  slots : Tab Nat EngineSlot
  /-- Stores not yet written to their bank, in the order they issued (R225, R230). -/
  stores : List BankStore
deriving DecidableEq, Repr

/-! ### Couch and syndrome engine (chapter 09) -/

/-- What waits for delivery in the Couch. -/
inductive Deliver where
  /-- A delivery made at a source reaches subscriptions two ticks later (R254). -/
  | subs (src val : Nat)
  /-- An external input delivers a value, or acts as an ARM (R257). -/
  | xin (n val : Nat)
  | xarm (n : Nat)
  /-- A discriminator state delivers at its source (R204). -/
  | state (src val : Nat)
  /-- A frame change made by a register write (R262): clear, or word and XOR mask. -/
  | pfClr
  | pfXor (w mask : Nat)
  /-- COUCH_SLOT of a slot takes effect (R264). -/
  | slot (k axis rc : Nat)
  /-- A correction edge of the syndrome engine XORs its mask into a slot's frame, or sends a boundary entry (R273, R275). -/
  | seXor (k mask : Nat)
  | seBnd (p index round : Nat)
deriving DecidableEq, Repr

/-- A decode pass waiting to end: the round, the close tick, and what its log entry will hold (R280). -/
structure PassLog where
  /-- The tick in which the pass ends. -/
  done : Nat
  r : Nat
  t : Nat
  missing : Bool
  forced : Bool
  lateBnd : Bool
  pushed : Bool
  events : Nat
  corr : Nat
deriving DecidableEq, Repr

/-- A closed round waiting for its pass: number, close tick, missing flag, detector bits by check. -/
structure Round where
  r : Nat
  t : Nat
  missing : Bool
  det : List Nat
deriving DecidableEq, Repr

/-- The syndrome engine (R271 to R280). -/
structure Syndrome where
  /-- The round that gathers now, and the tick of its first delivery. -/
  round : Nat
  first : Option Nat
  /-- The round closes in this tick: its last check, or a repeated one, has delivered. -/
  closeAt : Option Nat
  /-- Values delivered in the present round: (check, value); and the previous values of the checks with value 1. -/
  got : List (Nat × Nat)
  prev : List Nat
  /-- Deliveries for the next round, from the one that repeats a check and opens it (R272): (check, value, tick). -/
  next : List (Nat × Nat × Nat)
  waiting : List Round
  /-- Nodes of the window that hold an event: (check, round). -/
  events : List (Nat × Nat)
  /-- Units of growth of edges, by (check, round, edge); an edge seen from its other end has its own entry under the lower end. -/
  growth : Tab (Nat × Nat × Nat) Nat
  /-- The last round whose pass has run, if any. -/
  passed : Option Nat
  pass : Option PassLog
  /-- The tick in which the latest pass ended (R281). -/
  passEnded : Option Nat
  /-- Boundary entries received and not yet applied: (boundary index, round, tick of arrival) (R277, R281). -/
  bnd : List (Nat × Nat × Nat)
  /-- Rounds discarded under overload. -/
  discarded : List Nat
  /-- The oldest round the window may hold: the one after the latest overload (R278). -/
  floor : Nat
deriving DecidableEq, Repr

/-- The syndrome engine after reset. -/
def Syndrome.init : Syndrome := ⟨0, none, none, [], [], [], [], [], [], none, none, none, [], [], 0⟩

/-- What the Couch holds beside its registers. -/
structure CouchState where
  /-- The value delivered last at a source, by source number. -/
  vals : Tab Nat Nat
  /-- Deliveries waiting for their tick. -/
  due : List (Nat × Deliver)
  /-- The Pauli frame in force: bit 0 x, bit 1 z, by slot (R262), and the drive sign bits at the tones (R263). -/
  frame : Tab Nat Nat
  sign : Tab Nat Bool
  /-- AXIS and RC_SLOT in force, by slot (R264). -/
  axis : Tab Nat Nat
  rcSlot : Tab Nat (Option Nat)
  /-- Frame changes seen later: COUCH_PF and the frame sources from U + 1, the sign bits from U + 2 (R263): (tick, slot, frame). -/
  seen : List (Nat × Nat × Nat)
  signDue : List (Nat × Nat × Bool)
  /-- The frame as the sources 640 to 895 and COUCH_PF show it. -/
  shown : Tab Nat Nat
  /-- Decision entries waiting at the transmitter of a port, with the tick from which they wait (R260). -/
  tx : Tab Nat (List (Nat × Sys2Proof.DecEntry))
  /-- Boundary entries waiting at the transmitter of a port: (remote boundary index, round) (R277). -/
  bndTx : Tab Nat (List (Nat × Nat × Nat))
  /-- The tick of the latest clear of the frames (R262). -/
  cleared : Option Nat
  /-- The Post flags as the sources 896 to 927 deliver them, and those whose set input has acted in this tick (R255). -/
  psrc : Nat
  flagSet : List Nat
  se : Syndrome
deriving DecidableEq, Repr

/-! ### Time (chapter 02) -/

/-- A delay measurement under way on a port (R57): valid exchanges, sums of 2θ and of 2d in fine units, and the user asymmetry read at its
start. -/
structure PortMeas where
  count : Nat
  theta2 : Int
  d2 : Int
  asym : Int
  /-- Every exchange so far came while the peer reported MASTER, LOCKED or HOLD (R61). -/
  usable : Bool
deriving DecidableEq, Repr

/-- The last timing cell received on a port (R325): the cell and its arrival tick. -/
structure TimingPeer where
  cell : Sys2Proof.TimingCell
  arr : Nat
deriving DecidableEq, Repr

/-- A root-trim move waiting (R60, R61): θ to take off, the first tick it may be made, whether it ends HOLD. -/
structure TrimMove where
  theta : Int
  ready : Nat
  lock : Bool
deriving DecidableEq, Repr

/-- What the timebase holds beside its registers. -/
structure TimeState where
  /-- The dividers have been started since reset or wake: device time runs (R45, R48). -/
  started : Bool
  /-- A 64 ns gap fell in the present frequency window (R42). -/
  gap : Bool
  meas : Tab Nat PortMeas
  peers : Tab Nat (Option TimingPeer)
  /-- First-synchronisation steps made (R59). -/
  steps : Nat
  trim : Option TrimMove
  /-- The wall clock in 2^-32 ns, once set (R64). -/
  wall : Option Nat
  /-- PTP: the last Sync's origin (none until Follow_Up) and arrival; the departure of the last Delay_Req (in ns). -/
  sync : Option (Option Nat × Nat)
  reqAt : Option Nat
  /-- Consecutive Sync intervals with |offset| below 10 µs (R65), and messages ignored for their interval (R63). -/
  quiet : Nat
  ignored : Nat
  /-- Outputs are muted for a step of first synchronisation (R59). -/
  stepMute : Bool
deriving DecidableEq, Repr

/-! ### Capture units (chapter 11) -/

/-- What a capture unit holds beside its registers. Stored samples are named by the number of their first tap sample (R302). -/
structure CapUnit where
  /-- The first stored sample of the present PREFILL, and of the present ARMED. -/
  start : Nat
  armed : Nat
  /-- CAP_TT, CAP_TPER and the tick the auto timeout expires, as read at the entry to ARMED (R306, R310). -/
  tt : Nat
  tper : Nat
  autoAt : Nat
  /-- The device-time condition is met in the first sample evaluated (R311). -/
  ttLate : Bool
  /-- The ADCW word in which a Post trigger acted; the tick whose first word a software trigger takes (R307). -/
  postAt : Option Nat
  swAt : Option Nat
  /-- The trigger sample, its MASK (bits from level up) and its CAUSE. -/
  trig : Nat
  mask : Nat
  cause : Nat
  /-- The tick the header was written. -/
  header : Nat
  /-- The present run of PREFILL was re-entered from REARM or FULL (R311). -/
  again : Bool
  /-- The state the unit was in before its present PREFILL, as a code of R304. -/
  came : Nat
  /-- The stored sample evaluated last, and whether the samples have fallen below HI − HYST, or risen above LO + HYST, since the last edge:
  kept in every state (R307). -/
  last : Option Int
  fell : Bool
deriving DecidableEq, Repr

/-- A capture unit after reset. -/
def CapUnit.init : CapUnit := ⟨0, 0, 0, 0, 0, false, none, none, 0, 0, 0, 0, false, 0, none, false⟩

/-! ### Chain and cluster (chapter 12) -/

/-- What leaves on a lane in one cell slot (R319, R321). -/
inductive Cell320 where
  | idle
  | decision (entries : List Sys2Proof.DecEntry) (bounds : List (Nat × Nat))
  | timing (c : Sys2Proof.TimingCell)
  | control (c : Sys2Proof.Ctrl)
  | link (c : Sys2Proof.LinkCell)
deriving DecidableEq, Repr

/-- What a chain port holds beside its registers. -/
structure PortLink where
  /-- The tick its present state began, and the tick TRAIN was entered without RUN since (R330). -/
  since : Nat
  train : Nat
  /-- The skew measured when RX_OK was set, in fine units. -/
  skew : Int
  /-- Own RX_OK; a peer link cell with RX_OK received on lane 0, lane 1. -/
  rxOk : Bool
  peerOk : Bool × Bool
  /-- Consecutive cells failing CRC on lane 0, lane 1. -/
  fails : Nat × Nat
  /-- Consecutive lane-1 cells sent and received announcing the state of REQ, the state received last, and answers of Run seen (R332). -/
  sent : Nat
  got : Nat
  gotState : Nat
  refusals : Nat
  /-- When the next link cell is due in Run (R328). -/
  linkDue : Nat
  /-- Control cells waiting, oldest first, each with the tick it came to wait. -/
  ctrl : List (Nat × Sys2Proof.Ctrl)
  /-- The slot each lane served last. -/
  slots : Option Nat × Option Nat
  /-- The last heartbeat received on the port. -/
  hb : Option Sys2Proof.Heartbeat
  /-- The scrambler of lane 0, lane 1: the last 58 bits sent, the latest at bit 0 (R320). -/
  scram : Nat × Nat
deriving DecidableEq, Repr

/-- A port after reset. -/
def PortLink.init : PortLink := ⟨0, 0, 0, false, (false, false), (0, 0), 0, 0, 0, 0, 0, [], (none, none), none, (0, 0)⟩

/-- A round of a cluster barrier at the master (R344): the set in force at its first arrival, the devices that have arrived, the largest TT. -/
structure BarRound where
  devs : List Nat
  arrived : List Nat
  tt : Nat
deriving DecidableEq, Repr

/-- An agreement at the master (R345, R346): epoch, change ID, the tick of PREPARE, the devices asked and those that have accepted,
and the tick T once committed. -/
structure Agreement where
  epoch : Nat
  id : Nat
  opened : Nat
  asked : List Nat
  accepted : List Nat
  t : Option Nat
  /-- The tick of the last acceptance, once all have accepted and T is still to be chosen. -/
  done : Option Nat
deriving DecidableEq, Repr

/-- What the cluster logic holds beside its registers. -/
structure ClusterState where
  ports : Tab Nat PortLink
  /-- At the master: device numbers by UID, and participation reported by each device (R339, R344). -/
  devs : List (Nat × Nat)
  rounds : Tab Nat (Option BarRound)
  agree : Option Agreement
  /-- The epoch prepared, and the tick T learned for it (R347); the tick T of a commit the device was not prepared for (R349). -/
  prepared : Option Nat
  learned : Option Nat
  missed : Option Nat
  /-- The last boundary announced by the generator since CL_CFG.EN was set, the written boundary not yet announced, the tick committed
  in CL_SHOT_NEXT, and the last boundary announced since MODE 1 was set or NEXT written in it (R341). -/
  lastAnn : Option Nat
  written : Option Nat
  next : Nat
  phase : Option Nat
  /-- The end of the REG cycle in which MODE 1 was set or NEXT written in it last (R341). -/
  genFrom : Nat
  /-- The tick the last heartbeat naming the master arrived, and the master's UID (R340). -/
  heard : Nat
  masterUid : Option Nat
  /-- A JOIN has been sent on this port and not answered (R339). -/
  joining : Option Nat
  /-- The participation last reported to the master, and the barriers for which BAR_ARRIVE has been sent in this round (R344). -/
  reported : Nat
  sentArrive : List Nat
  /-- The tick the last heartbeat was sent in. -/
  beat : Option Nat
  /-- The eye scan under way: its port, and the tick its bits have been compared. -/
  eye : Option (Nat × Nat)
  /-- A lower UID claims to be master: out of epoch until reset (R337). -/
  dual : Bool
deriving DecidableEq, Repr

/-! ### Memory system (chapter 13) -/

/-- What a Ream store record holds (R366). -/
inductive StoreItem where
  | values
  | user (index : Nat)
  | fieldSet (q : Nat)
  | factorySet (q : Nat)
  | image (s : Sys2Proof.Slot)
  | boot
  | log
deriving DecidableEq, Repr

/-- What a record holds (R366). -/
inductive StoreData where
  /-- Stored dictionary values, by index and subindex, as bytes. -/
  | values (l : List ((Nat × Nat) × List Nat))
  | bytes (l : List Nat)
  | points (l : List Sys2Proof.SzPoint)
  /-- A firmware image: its SVN and whether it verifies. -/
  | image (svn : Nat) (ok : Bool)
  | empty
deriving DecidableEq, Repr

/-- A record of the Ream store (R367): valid or not, its sequence number, and its content. -/
structure Record where
  valid : Bool
  seq : Nat
  content : StoreData
deriving DecidableEq, Repr

/-- A store command (R368). -/
structure StoreCmd where
  item : StoreItem
  content : StoreData
deriving DecidableEq, Repr

/-- What the memory system holds beside its registers and memories. -/
structure MemState where
  /-- Store commands waiting, oldest first, and the one that runs. -/
  stores : List StoreCmd
  running : Option StoreCmd
  records : Tab StoreItem (Option Record)
  /-- Corrected words waiting to be written back (R355): class and address. -/
  writeback : List (Nat × Nat)
  /-- A written NOC_ARB value waits for the next arbitration frame; the value in force (R39). -/
  arbWaits : Bool
  arb : Nat
  /-- LPDDR6 channels suspended by recalibration and banks by refresh: channel, bank, and the tick each suspension ends (R363). -/
  suspended : List (Nat × Option Nat × Nat)
  /-- The tick of each channel's last recalibration, once it has had one (R363). -/
  recalAt : Tab Nat (Option Nat)
  /-- Words known to hold an uncorrectable error, by key, which their reader has still to meet (R356, R357). -/
  bad : List Nat
  /-- Accesses to a region whose Vatman or router slice is down, which wait for it, oldest first (R25, R463). -/
  stalled : List Instr
  /-- The tick from which the MEM_DWIN base written last is in force, and the base in force before it (R360). -/
  dwin : Nat × Nat
deriving DecidableEq, Repr

/-! ### Host interfaces (chapter 14) -/

/-- A Felt response (R384): TYPE, STATUS, body. -/
structure FeltRsp where
  type : Nat
  status : Nat
  body : List Nat
deriving DecidableEq, Repr

/-- An unacknowledged NOTIFY of a session (R390): its device SEQ, COUNT, the time of the latest event, the tick it was sent last, and the
events that came since. -/
structure Notify where
  n : Nat
  seq : Nat
  count : Nat
  time : Nat
  sent : Nat
  more : Nat
  /-- The tick of the latest pending event. -/
  moreTime : Nat
deriving DecidableEq, Repr

/-- A Felt session (R385 to R388). -/
structure Session where
  id : Nat
  via : Sys2Proof.Via
  key : Nat
  priv : Nat
  isOpen : Bool
  /-- The tick of its CHALLENGE. -/
  asked : Nat
  /-- The highest request SEQ accepted and its response, if it has one. -/
  last : Option (Nat × Option FeltRsp)
  /-- The tick of its last valid request. -/
  heard : Nat
  subs : Nat
  notes : List Notify
deriving DecidableEq, Repr

/-- A staged write (R397): the session that made it, entry, subindex, value bytes. -/
structure Staged where
  session : Nat
  index : Nat
  sub : Nat
  value : List Nat
deriving DecidableEq, Repr

/-- A transmit descriptor taken from a ring (R382): the memory key it lies at, its buffer's LPDDR6 address, launch tick if timed, and
length. -/
structure TxDesc where
  slot : Nat
  addr : Nat
  launch : Option Nat
  len : Nat
deriving DecidableEq, Repr

/-- An Ethernet port's queues (R67 to R70, R383): normal, timed, the launch tick queued last, and the frame on the wire with the tick it
has left it. -/
structure EthPort where
  normal : List TxDesc
  timed : List TxDesc
  lastLaunch : Option Nat
  wire : Option (TxDesc × Nat)
  /-- Frames discarded for want of a supported service (R381). -/
  discarded : Nat
deriving DecidableEq, Repr

/-- A port after reset. -/
def EthPort.init : EthPort := ⟨[], [], none, none, 0⟩

/-- A PMBus sequence under way (R402, R403): up or down, the entry it is at, the tick it came to it, whether VOUT_MODE and VOUT_COMMAND of
the entry have been read, consecutive readings in the window, the end of its DELAY if in it. -/
structure PmbSeq where
  up : Bool
  entry : Nat
  since : Nat
  begun : Bool
  good : Nat
  delay : Option Nat
deriving DecidableEq, Repr

/-- What the host interfaces hold beside their registers. -/
structure HostState where
  sessions : List Session
  /-- The next session identifier and device SEQ. -/
  nextId : Nat
  nextSeq : Nat
  /-- Messages discarded under R386 and R387; stored values refused at the last boot (R395). -/
  discarded : Nat
  refused : Nat
  /-- Dictionary values of entries that map onto no register, by index and subindex. -/
  dict : Tab (Nat × Nat) (Option Nat)
  /-- Segments of a BLOB or STRING received so far: session, index, subindex, bytes (R389). -/
  partials : Tab (Nat × Nat × Nat) (List Nat)
  /-- The staged set (R397): change ID and its writes. -/
  changeId : Nat
  staged : List Staged
  /-- The set in shadow state (R345, R398). -/
  shadow : List Staged
  /-- The response to the mailbox request in progress. -/
  mbx : Option (Nat × Nat × FeltRsp)
  eth : Tab Nat EthPort
  /-- The code of the first word each DMA copy under way has met rejected; 0 none (R380). -/
  dma : Tab Nat Nat
  pmb : Option PmbSeq
  /-- VOUT_COMMAND of each entry as read, in mV; the tick of the last monitoring round. -/
  vcmd : Tab Nat Nat
  round : Nat
deriving DecidableEq, Repr

/-! ### Security (chapter 15) -/

/-- An entry of the client key table (R408). -/
structure ClientKey where
  id : Nat
  priv : Nat
deriving DecidableEq, Repr

/-- What the security functions hold beside their registers. Fuses, key store and boot record survive every reset. -/
structure SecState where
  /-- The firmware images: SVN, and whether the image verifies; absent: none (R409). -/
  images : Tab Sys2Proof.Slot (Option (Nat × Bool))
  /-- The boot record: preferred image, whether in trial, trial count (R410). -/
  preferred : Sys2Proof.Slot
  trial : Bool
  count : Nat
  /-- The fuse counter, the ZEROIZED, root and revoke fuses, the customer root's hash. -/
  fuse : Nat
  zeroized : Bool
  rootProv : Bool
  rootRevoked : Bool
  rootHash : Nat
  /-- The wrap secret is all ones and the key store zero (R416). -/
  erased : Bool
  keys : List ClientKey
  /-- Counters of signed bundles and factory sets (R411). -/
  bundleSvn : Nat
  factorySvn : Nat
  /-- The quote held: its content and signature as bytes (R413). -/
  quote : Option (List Nat)
  /-- The debug nonce given out, and the tick until which no new one is (R414). -/
  nonce : Option Nat
  lockUntil : Nat
  /-- A firmware image runs on the management cores. -/
  running : Bool
  /-- The boundary-scan instruction in force, and the levels it drives at digital I/O balls, by ball (R415). -/
  scan : Option (Sys2Proof.ScanOp × List (Nat × Bool))
deriving DecidableEq, Repr

/-! ### Sizing (chapter 16) -/

/-- Sizing of one quire beside its registers. -/
structure Sizing where
  /-- The set: factory points and field points, by temperature (R429). -/
  factory : List Sys2Proof.SzPoint
  field : List Sys2Proof.SzPoint
  /-- The Press block of the field set (R433, R434). -/
  block : List Sys2Proof.SzValue
  /-- S and L procedures of the run still to complete, in order, the present one first; the background procedure runs. -/
  todo : List Nat
  active : Bool
  background : Bool
  /-- The run is a Press fit of this channel (R434). -/
  press : Option Nat
  /-- A Press fit waits for idle. -/
  wanted : Option Nat
  /-- In this run: a procedure was rejected, abandoned; a value was placed; the values measured so far. -/
  rejected : Bool
  abandoned : Bool
  placed : Bool
  got : List Sys2Proof.SzValue
  /-- The tick since which the quire has been idle. -/
  idleSince : Option Nat
  /-- The temperature of the last evaluation (R430). -/
  evalAt : Option Int
  /-- Values ready and not yet placed: the tick they became ready, whether a run measured them, and the values (R426). -/
  ready : List (Nat × Bool × List Sys2Proof.SzValue)
  /-- The capture unit held, with the registers' state to return (R423). -/
  held : Option Nat
deriving DecidableEq, Repr

/-- Sizing of a quire after reset. -/
def Sizing.init : Sizing := ⟨[], [], [], [], false, false, none, none, false, false, false, [], none, none, [], none⟩

/-- What Sizing holds beside its registers: by quire, and the internal trims in force by quire, procedure and index. -/
structure SizingState where
  quires : Tab Nat Sizing
  trims : Tab (Nat × Nat × Nat) Int
deriving DecidableEq, Repr

/-! ### Power, thermal management, the Loft, fault containment (chapter 17) -/

/-- The kinds of event in the event log (R465). -/
inductive EventCode where
  | orderlyStop | trip | brownOut | supplyWarning | railLoss | fault | substitution | unsparable
deriving DecidableEq, Repr

/-- An entry of the event log (R465): code, source, device time, wall clock. -/
structure LogEntry where
  code : EventCode
  source : Nat
  time : Nat
  wall : Option Nat
deriving DecidableEq, Repr

/-- A sequencer-core substitution (R462): the quire and tick D. -/
structure CoreSubst where
  q : Nat
  d : Nat
deriving DecidableEq, Repr

/-- What power, thermal and fault logic hold beside their registers. -/
structure PowerState where
  /-- RESET_N is low: the device is held in reset (R474). -/
  inReset : Bool
  /-- The always-on domain is powered; VDD_IO is in range (R442, R476). -/
  loftOn : Bool
  /-- The boot ROM runs or holds: no image has taken over yet (R409). -/
  booting : Bool
  /-- A power-state change under way: its target and the tick it began (R439, R440). -/
  moving : Option (Nat × Nat)
  /-- A wake waits for removed rails to return (R441). -/
  waking : Bool
  /-- Quires restored: the tick the restore began (R24). -/
  restore : Tab Nat (Option Nat)
  /-- Thermal: entry tick of REQUEST; the stop tick S and how far the stop has come (0 to come, 1 begun, 2 converters off); when bias ramps
  must have ended; the last eight values of each zone, latest first (R454, R455, R458). -/
  requested : Nat
  stop : Option (Nat × Nat)
  biasDue : Option Nat
  zones : Tab Nat (List Int)
  tripped : Bool
  /-- After a trip, the boot ROM holds the converter domains off until every zone is below 92 °C (R460). -/
  hot : Bool
  /-- Regions whose converter domains a rail loss switched off (R446). -/
  railOff : List Nat
  /-- The Loft: consecutive results of each decision unit outside, inside; filters that restart at their next result (R448, R449). -/
  outside : Tab Nat Nat
  inside : Tab Nat Nat
  fresh : Tab Nat Bool
  /-- Spare cores: the quire each region's spare serves, and the substitution under way (R462). -/
  spareCore : Tab Nat (Option Nat)
  coreSubst : Tab Nat (Option CoreSubst)
  /-- Quires without a working sequencer core (R26). -/
  noCore : List Nat
  /-- Regions whose Vatman or router slice is down: bit 0 Vatman, bit 1 router; a substitution abandoned at the Vatman's fault. -/
  vatman : Tab Nat Nat
  /-- Bridge lanes: spares left by region and direction; lanes being switched; error counts by region (R20, R21). -/
  spareLanes : Tab (Nat × Bool) Nat
  /-- Regions with a bridge lane that no spare was left for. -/
  lostLanes : List Nat
  switching : List (Nat × Sys2Proof.BridgeLane)
  bridgeErrs : Tab Nat Nat
  /-- The event log in the Ream store, the Loft's ring, and entries lost (R465). -/
  log : List LogEntry
  ring : List LogEntry
  lost : Nat
  /-- Management cores being restarted (R464). -/
  restarting : List Nat
deriving DecidableEq, Repr

/-! ### Delayed effects -/

/-- An effect that a command places at a later tick and that has no row of its own in the table: it takes place in
DEVICE_TIME_TICK at the start of that tick (R488). -/
inductive Act where
  /-- The software mute of a drive or probe output takes the value written (R135). -/
  | drvMute (q o : Nat) (mute : Bool)
  /-- The software mute of a flux channel takes the value written (R168). -/
  | flxMute (q i : Nat) (mute : Bool)
  /-- A CW amplitude ramp begins (R139): target and length. -/
  | cwRamp (q o : Nat) (amp : Int) (len : Nat)
  /-- HB_CELL_PHASE takes effect (R199). -/
  | cellPhase (q j val : Nat)
  /-- A freed result credit counts and may be reserved (R211). -/
  | credit (q : Nat)
  /-- A FLX_LADDER write takes effect (R161). -/
  | ladder (q i : Nat) (code : Int)
  /-- A BIAS_SET write takes effect (R170). -/
  | bias (q b code : Nat)
  /-- A software trigger reaches its capture unit (R307). -/
  | capForce (u : Nat)
  /-- A register arm takes effect (R305). -/
  | capArm (u : Nat)
  /-- A completed record counts in CAP_WR (R314). -/
  | capCount (u : Nat)
  /-- The subscriptions of a quire's MEAS ARM mask clear, after the selectors of the play tick (R89): thread and mask. -/
  | armClear (q t mask : Nat)
  /-- Every subscription of the device that watches a source clears (R257). -/
  | armSource (src : Nat) (again : Bool)
  /-- HB_RQ_PEAK follows the largest count from here (R216). -/
  | peak (q : Nat)
  /-- The deglitcher's hold of a FLUX mode 1 step begins at the ball (R162). -/
  | hold (q i : Nat) (code : Int)
  /-- The settling of a range change begins, at the start of the second tick after the write (R130, R167): a drive or probe output, a flux
  channel. -/
  | settle (q o : Nat)
  | ranging (q i : Nat)
  /-- A move of a drive tone to or from the spare generator, or of an item to or from the spare read-out unit, takes place (R145,
  R221). -/
  | toneMove (q : Nat)
  | unitMove (q : Nat)
  /-- The last sample of a segment that a jump has followed has left its player: its descriptor is released (R103). -/
  | segRel (c : Chan)
  /-- The last iteration of a looped stream command begins: its rewind mark is released (R106). -/
  | unmark (q n pos : Nat)
  /-- A player's last sample has left it (R103): the play tick identifies the command. -/
  | playEnd (c : Chan) (tick : Nat)
  /-- A boundary whose SHOT message came late is reached: the device goes out of epoch (R342, R348). -/
  | outEpoch (tick : Nat)
  /-- Drive and probe outputs are muted two ticks after the tick of an orderly stop (R458). -/
  | stopMute
  /-- A chain port enters Idle at the end of the slot in which its peer agreed (R332). -/
  | portIdle (p : Nat)
  /-- A network write of CTX_PTR_A (else CTX_PTR_B) takes effect (R234): context, address register, and the values of the register's upper
  and lower field. -/
  | ctxPtr (q c p : Nat) (a : Bool) (hi lo : Nat)
  /-- The mute of a step of first synchronisation ends (R59). -/
  | stepEnd
  /-- A procedure of Sizing is abandoned by a register write (R422). -/
  | szAbort (q : Nat)
deriving DecidableEq, Repr

/-! ### The machine -/

/-- What leaves the device: the model's own record of it, latest last. No command reads it. -/
inductive Emitted where
  /-- A register or window access ended with this code (R376; 0: without error). Of a PCIe write, which is posted, no completion leaves: the
  entry is the model's record of the code alone. -/
  | response (m : Master) (code : Nat)
  /-- An MSI-X message of a vector was sent. -/
  | msix (vector : Nat)
  /-- A cell left on a lane of a chain port, announcing a state (R321), as these 256 scrambled bits, the first at bit 255 (R320). -/
  | cell (p lane st : Nat) (c : Cell320) (line : Nat)
  /-- A Felt message left: session, SEQ, message. -/
  | felt (session seq : Nat) (r : FeltRsp)
  /-- A NOTIFY left: session, device SEQ, notification, count, time. -/
  | notify (session seq n count time : Nat)
  /-- A frame left an Ethernet port: from the timed queue or not, and its buffer; or an answer to a frame received. -/
  | frame (e : Nat) (timed : Bool) (addr len : Nat)
  | reply (e : Nat) (f : Sys2Proof.RxFrame)
  /-- A PTP Delay_Req left. -/
  | delayReq (e : Nat)
  /-- A PMBus write left for a regulator, by its address and page (R402, R403): PAGE and CLEAR_FAULTS; OPERATION with its value. -/
  | clearFaults (addr page : Nat)
  | operation (addr page value : Nat)
  /-- A DMA channel wrote host memory (R380): channel, host address, words. -/
  | hostWrite (d addr : Nat) (words : List Nat)
  /-- The debug port answered with a nonce. -/
  | debugNonce (v : Nat)
deriving DecidableEq, Repr

/-- The state of the device. -/
structure State where
  /-- Register fields that hold another value than their reset value, and any others written. -/
  regs : Tab FKey Nat
  /-- Memory: BAR2 offsets for the on-chip memories, 2^40 + byte for LPDDR6; a byte not listed reads as 0. -/
  mem : List Host.Cell
  /-- Device time (R47), as a count that a read takes modulo 2^64. -/
  now : Nat
  /-- The model's own counter of free values taken. -/
  free : Nat
  /-- Effects placed at later ticks. -/
  sched : List (Nat × Act)
  /-- Past shot boundaries, the latest first (R110). -/
  bounds : List Nat
  taints : List Taint
  post : PostState
  seq : SeqState
  out : OutState
  deckle : DeckleState
  head : HeadState
  beater : BeaterState
  couch : CouchState
  /-- The capture units, by number. -/
  capture : Tab Nat CapUnit
  time : TimeState
  chain : ClusterState
  store : MemState
  host : HostState
  sec : SecState
  sizing : SizingState
  power : PowerState
  emitted : List Emitted
  /-- The commands that wait, first in, first out. -/
  pending : List Instr
deriving DecidableEq, Repr

/-- The machine right after reset. -/
def State.reset : State where
  regs := []
  mem := []
  now := 0
  free := 0
  sched := []
  bounds := []
  taints := []
  post := ⟨0, [], [], [], [], [], [], [], 0, ((0, 0), [])⟩
  seq := ⟨[], [], [], [], [], [], [], [], [], [], []⟩
  out := ⟨[], [], [], [], [], [], [], [], [], [], []⟩
  deckle := ⟨[], false, none⟩
  head := ⟨[], [], [], [], [], [], [], []⟩
  beater := ⟨[], [], [], [], [], [], [], []⟩
  couch := ⟨[], [], [], [], [], [], [], [], [], [], [], none, 0, [], Syndrome.init⟩
  capture := []
  time := ⟨false, false, [], [], 0, none, none, none, none, 0, 0, false⟩
  chain := ⟨[], [], [], none, none, none, none, none, none, 0, none, 0, 0, none, none, 0, [], none, none, false⟩
  store := ⟨[], none, [], [], false, 0x12480, [], [], [], [], (0, 0)⟩
  host := ⟨[], 1, 0, 0, 0, [], [], 0, [], [], none, [], [], none, [], 0⟩
  sec := ⟨[], .a, false, 0, 0, false, false, false, 0, false, [], 0, 0, none, none, 0, false, none⟩
  sizing := ⟨[], []⟩
  power := ⟨false, true, true, none, false, [], 0, none, none, [], false, false, [], [], [], [], [], [], [], [], [], [], [], [], [], [], 0, []⟩
  emitted := []
  pending := []

end Sys2Proof.Machine
end

