-- ==== Sys2Proof/Machine/Ops.lean ====
section
/-! DEFINITION. The named operations over the state that every chapter uses: reading and writing register fields, latches and
counters, Post producers, memory, delayed effects, free values and taints. -/

namespace Sys2Proof.Machine

/-! ### Register fields -/

/-- The value of a register field. -/
def getF (s : State) (f : Fld) : Nat := tget s.regs f.rst f.key

/-- The state with a register field set; a field holds no more than its width. -/
def setF (s : State) (f : Fld) (v : Nat) : State := { s with regs := tset s.regs f.key (v % 2 ^ f.width) }

/-- A one-bit field as a Boolean (any field: it is not zero). -/
def flagF (s : State) (f : Fld) : Bool := getF s f != 0

/-- The state with a one-bit field set or cleared. -/
def setB (s : State) (f : Fld) (b : Bool) : State := setF s f b.toNat

/-- The value of a field read as a two's complement number. -/
def toSigned (w v : Nat) : Int := if v < 2 ^ (w - 1) then (v : Int) else (v : Int) - 2 ^ w

/-- A number as a two's complement field of a width. -/
def ofSigned (w : Nat) (v : Int) : Nat := (v % 2 ^ w).toNat

/-- The value of a signed field. -/
def getS (s : State) (f : Fld) : Int := toSigned f.width (getF s f)

/-- The state with a signed field set. -/
def setS (s : State) (f : Fld) (v : Int) : State := setF s f (ofSigned f.width v)

/-- A counter counts up and wraps from its maximum to zero (R12). -/
def incF (s : State) (f : Fld) : State := setF s f (getF s f + 1)

/-- A counter counts up by a number. -/
def addF (s : State) (f : Fld) (n : Nat) : State := setF s f (getF s f + n)

/-- One bit of a field. -/
def bitF (s : State) (f : Fld) (n : Nat) : Bool := (getF s f).testBit n

/-- A number with one bit set or cleared. -/
def putBit (v n : Nat) (b : Bool) : Nat := if v.testBit n then (if b then v else v - 2 ^ n) else (if b then v + 2 ^ n else v)

/-- The state with one bit of a field set or cleared. -/
def setBitF (s : State) (f : Fld) (n : Nat) (b : Bool) : State := setF s f (putBit (getF s f) n b)

/-- Bits [hi:lo] of a number. -/
def bits (v hi lo : Nat) : Nat := v / 2 ^ lo % 2 ^ (hi + 1 - lo)

/-! ### Post producers and latches -/

/-- A producer fires (R286): its event is now on its way to its channels. -/
def fire (s : State) (p : Nat) : State := { s with post := { s.post with fired := s.post.fired ++ [p] } }

/-- The producer of event e of quire q (R286). -/
def quireEvent (q e : Nat) : Nat := 32 + 24 * q + e

/-- A latch has fired producer p in this cycle: in this tick, at this instant of fabric time; before device time runs, in the event just
before. -/
def latchedNow (s : State) (p : Nat) : Bool :=
  s.post.latched.1 == (s.now, s.post.ps) && s.post.latched.2.contains p && (s.time.started || s.post.fired.getLast? == some p)

/-- The latches that have fired in this cycle, with one more producer. -/
def latchedWith (s : State) (p : Nat) : (Nat × Nat) × List Nat :=
  ((s.now, s.post.ps), if s.post.latched.1 = (s.now, s.post.ps) then p :: s.post.latched.2 else [p])

/-- A latch goes from 0 to 1: its producer fires, once for each cycle in which latches that share it do (R287). -/
def latchFire (s : State) (p : Nat) : State :=
  if latchedNow s p then s else fire { s with post := { s.post with latched := latchedWith s p } } p

/-- A latch bit sets; only its going from 0 to 1 is an event (R287). -/
def latch (s : State) (f : Fld) (p : Nat) : State := if flagF s f then s else latchFire (setB s f true) p

/-- Bit n of a latch field sets, with producer p on its going from 0 to 1 (R287). -/
def latchBit (s : State) (f : Fld) (n p : Nat) : State := if bitF s f n then s else latchFire (setBitF s f n true) p

/-! ### Time, delayed effects, free values -/

/-- An effect placed at a later tick. -/
def after (s : State) (tick : Nat) (a : Act) : State := { s with sched := s.sched ++ [(tick, a)] }

/-- The first tick at least n ticks after the REG cycle of a write made now (R488). -/
def regDelay (now n : Nat) : Nat := now / 4 * 4 + 4 + n

/-- The present instant of device time, in picoseconds: that of the tick, and what fabric time has gone on in it. -/
def instantNow (s : State) : Nat := 2000 * s.now + (s.post.ps - s.post.base)

/-- The state with one more free value taken. -/
def takeFree (s : State) : State := { s with free := s.free + 1 }

/-- What leaves the device. -/
def emit (s : State) (e : Emitted) : State := { s with emitted := s.emitted ++ [e] }

/-! ### Memory -/

/-- The LPDDR6 byte b as a memory key; the on-chip memories are keyed by their BAR2 offset (R358). -/
def ddrKey (b : Nat) : Nat := 2 ^ 40 + b

/-- The byte at a memory key; a byte nothing has written reads as 0. -/
def cellAt : List Host.Cell → Nat → Byte
  | [], _ => 0
  | (k, b) :: r, a => if k = a then b else if a < k then 0 else cellAt r a

/-- A list of cells with one byte written, in canonical form: keys rising, no cell equal to what an unlisted byte reads as. -/
def cellPut : List Host.Cell → Nat → Byte → List Host.Cell
  | [], a, v => if v = 0 then [] else [(a, v)]
  | (k, b) :: r, a, v =>
    if k = a then (if v = 0 then r else (a, v) :: r)
    else if a < k then (if v = 0 then (k, b) :: r else (a, v) :: (k, b) :: r)
    else (k, b) :: cellPut r a v

/-- The canonical form of memory: keys strictly rising from a bound, no cell of value 0. -/
def cellsWf : Nat → List Host.Cell → Bool
  | _, [] => true
  | lo, (k, b) :: r => decide (lo ≤ k) && decide (b ≠ 0) && cellsWf (k + 1) r

/-- Memory is in canonical form. -/
def Memory.wf (m : List Host.Cell) : Bool := cellsWf 0 m

/-- The byte of memory at a key. -/
def memByte (s : State) (a : Nat) : Byte := cellAt s.mem a

/-- The state with one byte of memory written. -/
def setByte (s : State) (a : Nat) (v : Byte) : State := { s with mem := cellPut s.mem a v }

/-- n bytes of memory from a key, little-endian. -/
def memRead (s : State) (a : Nat) : Nat → Nat
  | 0 => 0
  | n + 1 => (memByte s a).toNat + 256 * memRead s (a + 1) n

/-- The state with n bytes written from a key, little-endian. -/
def memWrite (s : State) (a : Nat) : Nat → Nat → State
  | 0, _ => s
  | n + 1, v => memWrite (setByte s a (BitVec.ofNat 8 v)) (a + 1) n (v / 256)

/-- The 32-bit word at a memory key. -/
def memWord (s : State) (a : Nat) : Nat := memRead s a 4

/-- The state with a 32-bit word written. -/
def setWord (s : State) (a v : Nat) : State := memWrite s a 4 v

/-- Where Vat word w of quire q lies (R358). -/
def vatKey (q w : Nat) : Nat := q * 0x400000 + 4 * w

/-- Where word w of the weight and result memory of quire q lies (R358). -/
def wgtKey (q w : Nat) : Nat := 0x5000000 + q * 0x100000 + 4 * w

/-- Where instruction a of the program memory of quire q lies (R358). -/
def progKey (q a : Nat) : Nat := 0x4000000 + q * 0x100000 + 8 * a

/-- Where word w of the X or Y bank of Beater engine q lies (R358). -/
def beaterKey (q : Nat) (y : Bool) (w : Nat) : Nat := 0x6000000 + q * 0x80000 + (if y then 0x40000 else 0x10000) + 4 * w

/-- Where byte b of the Couch SRAM lies (R358). -/
def couchKey (b : Nat) : Nat := 0x8800000 + b

/-- Where byte b of the capture memory of unit u lies (R358). -/
def capKey (u b : Nat) : Nat := 0x6800000 + u * 0x200000 + b

/-! ### Shots and taints -/

/-- The shot boundaries the device knows: past ones, those announced (R342), the tick of a commit learned (R347). -/
def allBounds (s : State) : List Nat := s.chain.learned.toList ++ s.seq.announced ++ s.bounds

/-- The boundary of the shot that holds a tick: the last boundary at or before it (R110). -/
def shotOf (s : State) (tick : Nat) : Option Nat :=
  (allBounds s).foldl (fun b x => if x ≤ tick then some (max (b.getD x) x) else b) none

/-- The bit of a taint cause in a mask (R207). -/
def Cause.bit : Cause → Nat
  | .late => 0
  | .underrun => 1
  | .bridge => 2
  | .restore => 3
  | .dip => 4
  | .fenced => 5

/-- The causes that mark a quire's records of the shot that holds a tick, as a mask (R31, R110). -/
def taintMask (s : State) (q tick : Nat) : Nat :=
  s.taints.foldl (fun m t =>
    if (t.q = none ∨ t.q = some q) ∧ shotOf s t.tick = shotOf s tick then m ||| 2 ^ t.cause.bit else m) 0

/-- The result path of a quire. -/
def results (s : State) (q : Nat) : ResultPath := tget s.head.results ResultPath.init q

/-- The state with the result path of a quire. -/
def setResults (s : State) (q : Nat) (r : ResultPath) : State := { s with head := { s.head with results := tset s.head.results q r } }

/-- A packet becomes ready to enter the queue of its quire (R210). -/
def ready (s : State) (q tick : Nat) (p : Packet) : State :=
  let r := results s q
  setResults s q { r with ready := r.ready ++ [(tick, p)] }

/-- A shot record reserves a credit, or waits for the first one freed (R212). -/
def wantShotRecord (s : State) (q : Nat) (p : Packet) : State :=
  if getF s (F.HB_RQ_CREDIT_FREE q) = 0 then
    let r := results s q
    setResults s q { r with wantCredit := r.wantCredit ++ [p] }
  else
    ready (setF s (F.HB_RQ_CREDIT_FREE q) (getF s (F.HB_RQ_CREDIT_FREE q) - 1)) q s.now p

/-- A shot record of this boundary still waits to be written: it will carry the mask as it then is. -/
def shotWaits (s : State) (q b : Nat) : Bool :=
  let is : Packet → Bool := fun p => match p with
    | .shot b' _ _ => b' == b
    | _ => false
  (results s q).ready.any (fun x => is x.2) || (results s q).wantCredit.any is

/-- The shot records a quire has written whose mask a taint has changed are written again with REVISED set (R209). -/
def reviseQuire (s : State) (q : Nat) : State :=
  (results s q).reported.foldl (fun s r =>
    if taintMask s q r.b = r.mask || shotWaits s q r.b then s
    else incF (wantShotRecord s q (.shot r.b r.len true)) (F.HB_RQ_CNT_REVISED q)) s

/-- The shot that holds a tick is tainted for a quire, or for every quire, and shot records already written are revised (R110, R209). -/
def addTaint (s : State) (t : Taint) : State :=
  let s := { s with taints := s.taints ++ [t] }
  match t.q with
  | some q => reviseQuire s q
  | none => (List.range 16).foldl reviseQuire s

/-- A taint of a quire's shot, in the scope its SEQ_CTRL.TAINT_SCOPE gives (R110). -/
def taintQuire (s : State) (q tick : Nat) (c : Cause) : State :=
  addTaint s ⟨tick, if flagF s (F.SEQ_CTRL_TAINT_SCOPE q) then none else some q, c⟩

/-- A late command of a thread (R33): latch, counters, and the taint of the shot of its play tick. -/
def lateCommand (s : State) (q t tick : Nat) : State :=
  let s := latch s (F.THR_LATCH_LATE q t) (quireEvent q 0)
  let s := incF (incF s (F.THR_CNT_LATE q t)) (F.SEQ_CNT_LATE_LATE q)
  taintQuire s q tick .late

/-- A freed credit may be reserved two ticks later (R211). -/
def freeCredit (s : State) (q : Nat) : State := after s (s.now + 2) (.credit q)

/-- The credit freed two ticks before counts: a waiting shot record takes it, or it is free (R211, R212, R248). -/
def creditArrives (s : State) (q : Nat) : State :=
  let r := results s q
  match r.wantCredit with
  | p :: rest => ready (setResults s q { r with wantCredit := rest }) q s.now p
  | [] => incF s (F.HB_RQ_CREDIT_FREE q)

/-! ### Event log and power domains (chapter 17) -/

/-- An entry for the event log (R465): stored, or held in the Loft's ring of 32 while a supply warning keeps stores from running, the
oldest lost. -/
def logEvent (s : State) (code : EventCode) (source : Nat) : State :=
  let e : LogEntry := ⟨code, source, s.now, s.time.wall⟩
  let p := s.power
  if flagF s F.PWR_STAT_CORE_WARN then
    if 32 ≤ p.ring.length then { s with power := { p with ring := p.ring.drop 1 ++ [e], lost := p.lost + 1 } }
    else { s with power := { p with ring := p.ring ++ [e] } }
  else { s with power := { p with log := p.log ++ [e] } }

/-- A power domain is switched on or off (R436, R437). -/
def setDomain (s : State) (d : Nat) (b : Bool) : State := setBitF s (F.PWR_DOM_ON (d / 32)) (d % 32) b

/-- Domains from one number on, so many, are switched. -/
def setDomains (s : State) (d n : Nat) (b : Bool) : State := (List.range n).foldl (fun s k => setDomain s (d + k) b) s

/-! ### Fault summary (chapter 01) -/

/-- A fault reaches the error handler of a quire: its latch bit and event (R22, R286). -/
def quireFault (s : State) (q : Nat) : State := latchBit s F.CHIP_FAULT_LATCH_QUIRE q q

/-- A fault reaches a region (R22, R286, R465). -/
def regionFault (s : State) (g : Nat) : State := latchBit (logEvent s .fault (16 + g)) F.CHIP_FAULT_LATCH_REGION g (16 + g)

/-- A fault reaches the chip level (R22, R286, R465). -/
def chipFault (s : State) : State := latch (logEvent s .fault 20) F.CHIP_FAULT_LATCH_CHIP 20

/-- A cell of a quire stays muted as unsparable (R23): the quire is marked, the region reports it, and the chip level hears of it. -/
def unsparable (s : State) (q : Nat) : State :=
  let s := setB (setBitF (logEvent s .unsparable q) F.CHIP_FAULT_STAT_QUIRE q true) (F.QERR_STAT_UNSPARABLE q) true
  let s := setBitF s (F.QERR_LATCH_EVENT q) 2 true
  fire (regionFault (quireFault s q) (q / 4)) (416 + 4 * (q / 4) + 3)

/-- A substitution in a region starts or completes (R22, R286, R465). -/
def substEvent (s : State) (g : Nat) (done : Bool) : State :=
  fire (if done then logEvent s .substitution g else s) (416 + 4 * g + (if done then 2 else 1))

/-- The Vatman of a region works: it carries out substitutions (R23, R26). -/
def vatmanUp (s : State) (g : Nat) : Bool := !(tget s.power.vatman 0 g).testBit 0

/-- Configuration, streaming and result traffic of a region moves (R25, R463). -/
def regionUp (s : State) (g : Nat) : Bool := tget s.power.vatman 0 g == 0

/-! ### Uncorrectable words (chapter 13) -/

/-- The memory class of a BAR2 offset of an on-chip memory (R353, R358). -/
def memClass (a : Nat) : Nat :=
  if a < 0x4000000 then 0 else if a < 0x5000000 then 1 else if a < 0x6000000 then 2 else if a < 0x6800000 then 3
  else if a < 0x8800000 then 4 else 5

/-- The 64-bit word that holds a byte is known to be uncorrectable. -/
def wordBad (s : State) (key : Nat) : Bool := s.store.bad.contains (key / 8 * 8)

/-- The quire whose memory a BAR2 offset below 0x680_0000 lies in (R358). -/
def memQuire (a : Nat) : Nat :=
  if a < 0x4000000 then a / 0x400000
  else if a < 0x5000000 then (a - 0x4000000) / 0x100000
  else if a < 0x6000000 then (a - 0x5000000) / 0x100000
  else (a - 0x6000000) / 0x80000

/-- An uncorrectable error reaches the level its memory belongs to (R22, R353): the quire of classes 0 to 3, the region of a capture
memory, else the chip. -/
def eccLevel (s : State) (cls addr : Nat) : State :=
  if cls < 4 then quireFault s (memQuire addr)
  else if cls = 4 then
    let g := (addr - 0x6800000) / 0x200000 / 4
    latchBit s F.CHIP_FAULT_LATCH_REGION g (16 + g)
  else latch s F.CHIP_FAULT_LATCH_CHIP 20

/-- An uncorrectable error is latched, counted and its address recorded (R356); it reaches Post through CHIP_FAULT_LATCH. -/
def uncorrectable (s : State) (cls addr : Nat) : State :=
  let s := eccLevel (setBitF s F.MEM_ECC_LATCH_UE cls true) cls addr
  setF (incF s (F.MEM_ECC_CNT_UE cls)) F.MEM_UE_ADDR_ADDR addr

end Sys2Proof.Machine
end

