-- ==== Sys2Proof/Machine/RegMap.lean ====
section
/-! DEFINITION. The register map of BAR0: the fields of each register with their access codes (R1), and where each register
lies (R7, R8 and the offset tables of the chapters). -/

namespace Sys2Proof.Machine

/-- The fields of a register, with their access codes, from the chapters' register tables. -/
def fieldsOf (r : Reg) : List (Fld × Acc) :=
  match r.name with
  | .CHIP_IDENT => [(F.CHIP_IDENT_PART, .ro), (F.CHIP_IDENT_DIE_REV, .ro), (F.CHIP_IDENT_ORDER, .ro)]
  | .CHIP_PERS => [(F.CHIP_PERS_MASTER, .ro), (F.CHIP_PERS_FUSED, .ro), (F.CHIP_PERS_ACTIVE, .ro), (F.CHIP_PERS_STRAP, .ro)]
  | .CHIP_FAULT_STAT => [(F.CHIP_FAULT_STAT_CHIP, .ro), (F.CHIP_FAULT_STAT_REGION, .ro), (F.CHIP_FAULT_STAT_QUIRE, .ro)]
  | .CHIP_FAULT_LATCH => [(F.CHIP_FAULT_LATCH_CHIP, .w1c), (F.CHIP_FAULT_LATCH_REGION, .w1c), (F.CHIP_FAULT_LATCH_QUIRE, .w1c)]
  | .NOC_ARB => [(F.NOC_ARB_W_TC3, .rw), (F.NOC_ARB_W_TC2, .rw), (F.NOC_ARB_W_TC1, .rw), (F.NOC_ARB_TC0_RES, .rw)]
  | .TB_REF_STAT => [(F.TB_REF_STAT_LOCK_LOSS, .w1c), (F.TB_REF_STAT_REF_LOSS, .w1c), (F.TB_REF_STAT_DANDY_LOCK, .ro), (F.TB_REF_STAT_REF_PRESENT, .ro)]
  | .TB_TIME_LO => [(F.TB_TIME_LO_TIME, .ro)]
  | .TB_TIME_HI => [(F.TB_TIME_HI_TIME, .ro)]
  | .TB_TSTAT => [(F.TB_TSTAT_PARENT_HOLD, .ro), (F.TB_TSTAT_MEAS_BUSY, .ro), (F.TB_TSTAT_PARENT_VALID, .ro), (F.TB_TSTAT_PARENT, .ro), (F.TB_TSTAT_STATE, .ro)]
  | .TB_TLATCH => [(F.TB_TLATCH_FENCE, .w1c), (F.TB_TLATCH_RANGE, .w1c), (F.TB_TLATCH_SYNC_FAIL, .w1c), (F.TB_TLATCH_ADJUST, .w1c), (F.TB_TLATCH_HOLD, .w1c)]
  | .TB_OFFSET => [(F.TB_OFFSET_THETA, .ro)]
  | .TB_PHASE => [(F.TB_PHASE_DIV_PHASE, .ro), (F.TB_PHASE_TRIM, .ro)]
  | .TB_EVCNT => [(F.TB_EVCNT_HOLDS, .cnt), (F.TB_EVCNT_ADJUSTS, .cnt)]
  | .TB_WCT_NS => [(F.TB_WCT_NS_VALUE, .ro)]
  | .TB_WCT_SEC_LO => [(F.TB_WCT_SEC_LO_VALUE, .ro)]
  | .TB_WCT_SEC_HI => [(F.TB_WCT_SEC_HI_VALUE, .ro)]
  | .TB_WCT_DT_LO => [(F.TB_WCT_DT_LO_TIME, .ro)]
  | .TB_WCT_DT_HI => [(F.TB_WCT_DT_HI_TIME, .ro)]
  | .TB_WCT_STAT => [(F.TB_WCT_STAT_PORT, .ro), (F.TB_WCT_STAT_TIME_SUSPECT, .ro), (F.TB_WCT_STAT_SET, .ro)]
  | .TB_WCT_OFFSET => [(F.TB_WCT_OFFSET_VALUE, .ro)]
  | .TB_WCT_RATE => [(F.TB_WCT_RATE_VALUE, .ro)]
  | .TB_LAUNCH_CNT => [(F.TB_LAUNCH_CNT_LATE1, .cnt), (F.TB_LAUNCH_CNT_LATE0, .cnt)]
  | .TB_PORT_DELAY => [(F.TB_PORT_DELAY_DELAY r.i, .ro)]
  | .TB_PORT_ASYM => [(F.TB_PORT_ASYM_ASYM r.i, .rw)]
  | .SEQ_CTRL => [(F.SEQ_CTRL_EVCLR_SHOT r.i, .rw), (F.SEQ_CTRL_TAINT_SCOPE r.i, .rw), (F.SEQ_CTRL_RUN r.i, .rw)]
  | .SEQ_STAT => [(F.SEQ_STAT_ACTIVE r.i, .ro), (F.SEQ_STAT_FAULT r.i, .ro)]
  | .SEQ_LAH => [(F.SEQ_LAH_LAH_MAX r.i, .rw), (F.SEQ_LAH_START_GAP r.i, .rw)]
  | .SEQ_SYNC => [(F.SEQ_SYNC_CL_MARGIN r.i, .rw), (F.SEQ_SYNC_DEV_MARGIN r.i, .rw)]
  | .SEQ_SYNC_TMO => [(F.SEQ_SYNC_TMO_TMO r.i, .rw)]
  | .SEQ_EVFLAG => [(F.SEQ_EVFLAG_FLAG r.i, .w1c)]
  | .SEQ_CNT_LATE => [(F.SEQ_CNT_LATE_PRED r.i, .cnt), (F.SEQ_CNT_LATE_LATE r.i, .cnt)]
  | .SEQ_CNT_SEG => [(F.SEQ_CNT_SEG_JMISS r.i, .cnt), (F.SEQ_CNT_SEG_SEGCONF r.i, .cnt)]
  | .SEQ_CNT_STALL => [(F.SEQ_CNT_STALL_CREDIT r.i, .cnt), (F.SEQ_CNT_STALL_QFULL r.i, .cnt)]
  | .SEQ_BAR => [(F.SEQ_BAR_CLUSTER r.i r.j, .rw), (F.SEQ_BAR_MASK r.i r.j, .rw)]
  | .STRM_CTRL => [(F.STRM_CTRL_EN r.i r.j, .rw), (F.STRM_CTRL_CH r.i r.j, .rw)]
  | .STRM_RING => [(F.STRM_RING_LEN r.i r.j, .rw), (F.STRM_RING_BASE r.i r.j, .rw)]
  | .STRM_SRC_LO => [(F.STRM_SRC_LO_VALUE r.i r.j, .rw)]
  | .STRM_SRC_HI => [(F.STRM_SRC_HI_VALUE r.i r.j, .rw)]
  | .STRM_SRC_LEN => [(F.STRM_SRC_LEN_VALUE r.i r.j, .rw)]
  | .STRM_LEVEL => [(F.STRM_LEVEL_LEVEL r.i r.j, .ro)]
  | .STRM_STAT => [(F.STRM_STAT_DONE r.i r.j, .ro), (F.STRM_STAT_FENCED r.i r.j, .ro), (F.STRM_STAT_UNDERRUN r.i r.j, .w1c)]
  | .STRM_CNT => [(F.STRM_CNT_FENCE r.i r.j, .cnt), (F.STRM_CNT_UNDERRUN r.i r.j, .cnt)]
  | .THR_CTRL => [(F.THR_CTRL_AT r.i r.j, .rw), (F.THR_CTRL_FLUSH r.i r.j, .wo), (F.THR_CTRL_STOP r.i r.j, .wo), (F.THR_CTRL_START r.i r.j, .wo)]
  | .THR_PC => [(F.THR_PC_PC r.i r.j, .rw)]
  | .THR_WIN => [(F.THR_WIN_LIMIT r.i r.j, .rw), (F.THR_WIN_BASE r.i r.j, .rw)]
  | .THR_STAT => [(F.THR_STAT_FCAUSE r.i r.j, .ro), (F.THR_STAT_WCAUSE r.i r.j, .ro), (F.THR_STAT_STATE r.i r.j, .ro)]
  | .THR_LATCH => [(F.THR_LATCH_SETERR r.i r.j, .w1c), (F.THR_LATCH_ORDER r.i r.j, .w1c), (F.THR_LATCH_PRED r.i r.j, .w1c), (F.THR_LATCH_LATE r.i r.j, .w1c), (F.THR_LATCH_FAULT r.i r.j, .w1c), (F.THR_LATCH_SYNC_TMO r.i r.j, .w1c), (F.THR_LATCH_START_REF r.i r.j, .w1c)]
  | .THR_TT_LO => [(F.THR_TT_LO_TT r.i r.j, .ro)]
  | .THR_TT_HI => [(F.THR_TT_HI_TT r.i r.j, .ro)]
  | .THR_START_LO => [(F.THR_START_LO_START r.i r.j, .rw)]
  | .THR_START_HI => [(F.THR_START_HI_START r.i r.j, .rw)]
  | .THR_CNT => [(F.THR_CNT_STALL r.i r.j, .cnt), (F.THR_CNT_LATE r.i r.j, .cnt)]
  | .THR_SUB => [(F.THR_SUB_VALID r.i r.j r.k, .ro), (F.THR_SUB_VAL r.i r.j r.k, .rw), (F.THR_SUB_TEST r.i r.j r.k, .rw), (F.THR_SUB_SRC r.i r.j r.k, .rw)]
  | .SEG_W0 => [(F.SEG_W0_START r.i r.j, .rw)]
  | .SEG_W1 => [(F.SEG_W1_STREAM r.i r.j, .rw), (F.SEG_W1_FMT r.i r.j, .rw), (F.SEG_W1_LOOPS r.i r.j, .rw), (F.SEG_W1_LENGTH r.i r.j, .rw)]
  | .SEG_W2 => [(F.SEG_W2_RATE r.i r.j, .rw)]
  | .SEG_W3 => [(F.SEG_W3_ACTIVE r.i r.j, .ro)]
  | .TONE_SPARE_STAT => [(F.TONE_SPARE_STAT_SPARE_FAIL r.i, .ro), (F.TONE_SPARE_STAT_BUSY r.i, .ro), (F.TONE_SPARE_STAT_FORCED r.i, .ro), (F.TONE_SPARE_STAT_IN_USE r.i, .ro), (F.TONE_SPARE_STAT_TARGET r.i, .ro)]
  | .TONE_SPARE_CTRL => [(F.TONE_SPARE_CTRL_TGT r.i, .rw), (F.TONE_SPARE_CTRL_RELEASE r.i, .wo), (F.TONE_SPARE_CTRL_FORCE r.i, .wo)]
  | .TONE_SPARE_CNT => [(F.TONE_SPARE_CNT_AUDIT r.i, .cnt), (F.TONE_SPARE_CNT_SUBST r.i, .cnt)]
  | .TONE_CTRL => [(F.TONE_CTRL_SLOT r.i r.j, .rw), (F.TONE_CTRL_FRAME_CLR r.i r.j, .wo), (F.TONE_CTRL_PF_LATCH r.i r.j, .rw), (F.TONE_CTRL_PF_EN r.i r.j, .rw), (F.TONE_CTRL_FTW_TIMED r.i r.j, .rw)]
  | .TONE_FTW_LO => [(F.TONE_FTW_LO_FTW r.i r.j, .rw)]
  | .TONE_FTW_HI => [(F.TONE_FTW_HI_FTW r.i r.j, .rw)]
  | .TONE_AT_LO => [(F.TONE_AT_LO_TICK r.i r.j, .rw)]
  | .TONE_AT_HI => [(F.TONE_AT_HI_TICK r.i r.j, .rw)]
  | .TONE_FRAME => [(F.TONE_FRAME_FRAME r.i r.j, .ro)]
  | .TONE_GAIN => [(F.TONE_GAIN_ACTIVE r.i r.j, .ro), (F.TONE_GAIN_GAIN r.i r.j, .rw)]
  | .TONE_STAT => [(F.TONE_STAT_FAILED r.i r.j, .ro), (F.TONE_STAT_SUBST r.i r.j, .ro), (F.TONE_STAT_PF r.i r.j, .ro), (F.TONE_STAT_FTW_PEND r.i r.j, .ro), (F.TONE_STAT_PLAYING r.i r.j, .ro)]
  | .TONE_LATCH => [(F.TONE_LATCH_FAULT r.i r.j, .w1c), (F.TONE_LATCH_FTW_REPL r.i r.j, .w1c), (F.TONE_LATCH_FTW_LATE r.i r.j, .w1c)]
  | .TONE_CNT => [(F.TONE_CNT_CORR r.i r.j, .cnt), (F.TONE_CNT_AUDIT r.i r.j, .cnt)]
  | .DRV_CFG => [(F.DRV_CFG_PD_BYP r.i r.j, .rw), (F.DRV_CFG_CW_SRC r.i r.j, .rw), (F.DRV_CFG_TONE_SCALE r.i r.j, .rw), (F.DRV_CFG_MODE r.i r.j, .rw), (F.DRV_CFG_RANGE r.i r.j, .rw), (F.DRV_CFG_EN r.i r.j, .rw)]
  | .DRV_DELAY => [(F.DRV_DELAY_TRIM r.i r.j, .ro), (F.DRV_DELAY_CAL_SUB r.i r.j, .ro), (F.DRV_DELAY_FINE r.i r.j, .rw)]
  | .DRV_STAT => [(F.DRV_STAT_CW_RAMPING r.i r.j, .ro), (F.DRV_STAT_STOP r.i r.j, .ro), (F.DRV_STAT_SETTLING r.i r.j, .ro), (F.DRV_STAT_SW_MUTE r.i r.j, .ro), (F.DRV_STAT_TRIP r.i r.j, .ro), (F.DRV_STAT_FENCE r.i r.j, .ro), (F.DRV_STAT_RESTORE r.i r.j, .ro), (F.DRV_STAT_MUTED r.i r.j, .ro)]
  | .DRV_LATCH => [(F.DRV_LATCH_SETTLE_LATE r.i r.j, .w1c), (F.DRV_LATCH_MUTE r.i r.j, .w1c), (F.DRV_LATCH_CLIP r.i r.j, .w1c)]
  | .DRV_CNT => [(F.DRV_CNT_MUTES r.i r.j, .cnt), (F.DRV_CNT_CLIP r.i r.j, .cnt)]
  | .DRV_MUTE => [(F.DRV_MUTE_MUTE r.i r.j, .rw)]
  | .DRV_CW => [(F.DRV_CW_RAMP r.i r.j, .rw), (F.DRV_CW_AMP r.i r.j, .rw)]
  | .DRV_PD_CTRL => [(F.DRV_PD_CTRL_PENDING r.i r.j, .ro), (F.DRV_PD_CTRL_COMMIT r.i r.j, .wo)]
  | .DRV_PD_COEF => [(F.DRV_PD_COEF_COEF r.i r.j r.k, .rw)]
  | .DRV_QSTAT => [(F.DRV_QSTAT_IDLE r.i, .ro)]
  | .FLX_CFG => [(F.FLX_CFG_HOLD r.i r.j, .rw), (F.FLX_CFG_MON_EXT r.i r.j, .rw), (F.FLX_CFG_PRESS_BYP r.i r.j, .rw), (F.FLX_CFG_SRANGE r.i r.j, .rw), (F.FLX_CFG_FRANGE r.i r.j, .rw), (F.FLX_CFG_EN r.i r.j, .rw)]
  | .FLX_LADDER => [(F.FLX_LADDER_CODE r.i r.j, .rw)]
  | .FLX_LADDER_NOW => [(F.FLX_LADDER_NOW_RAMPING r.i r.j, .ro), (F.FLX_LADDER_NOW_HOLDING r.i r.j, .ro), (F.FLX_LADDER_NOW_CODE r.i r.j, .ro)]
  | .FLX_SLOW_RAMP => [(F.FLX_SLOW_RAMP_TRIP_RAMP r.i r.j, .rw), (F.FLX_SLOW_RAMP_STEP r.i r.j, .rw)]
  | .FLX_STAT => [(F.FLX_STAT_SWITCH r.i r.j, .ro), (F.FLX_STAT_RANGING r.i r.j, .ro), (F.FLX_STAT_STOP r.i r.j, .ro), (F.FLX_STAT_SW_MUTE r.i r.j, .ro), (F.FLX_STAT_TRIP r.i r.j, .ro), (F.FLX_STAT_FENCE r.i r.j, .ro), (F.FLX_STAT_RESTORE r.i r.j, .ro), (F.FLX_STAT_MUTED r.i r.j, .ro)]
  | .FLX_LATCH => [(F.FLX_LATCH_FAULT r.i r.j, .w1c), (F.FLX_LATCH_TRIP_DROP r.i r.j, .w1c), (F.FLX_LATCH_MUTE r.i r.j, .w1c), (F.FLX_LATCH_SUM_CLIP r.i r.j, .w1c), (F.FLX_LATCH_CLIP r.i r.j, .w1c)]
  | .FLX_CNT => [(F.FLX_CNT_MUTES r.i r.j, .cnt), (F.FLX_CNT_HOLDS r.i r.j, .cnt), (F.FLX_CNT_CLIP r.i r.j, .cnt)]
  | .FLX_MUTE => [(F.FLX_MUTE_MUTE r.i r.j, .rw)]
  | .FLX_XGAIN => [(F.FLX_XGAIN_GAIN r.i r.j, .ro)]
  | .FLX_PRESS_CTRL => [(F.FLX_PRESS_CTRL_SEC_EN r.i r.j, .rw), (F.FLX_PRESS_CTRL_PENDING r.i r.j, .ro), (F.FLX_PRESS_CTRL_CLR r.i r.j, .wo), (F.FLX_PRESS_CTRL_COMMIT r.i r.j, .wo)]
  | .FLX_IIR_C0 => [(F.FLX_IIR_C0_COEF r.i r.j r.k, .rw)]
  | .FLX_IIR_C1 => [(F.FLX_IIR_C1_COEF r.i r.j r.k, .rw)]
  | .FLX_IIR_D => [(F.FLX_IIR_D_COEF r.i r.j r.k, .rw)]
  | .FLX_FIR => [(F.FLX_FIR_COEF r.i r.j r.k, .rw)]
  | .BIAS_CFG => [(F.BIAS_CFG_ILIM r.i r.j, .rw), (F.BIAS_CFG_SENSE r.i r.j, .rw), (F.BIAS_CFG_RANGE r.i r.j, .rw), (F.BIAS_CFG_EN r.i r.j, .rw)]
  | .BIAS_SET => [(F.BIAS_SET_CODE r.i r.j, .rw)]
  | .BIAS_NOW => [(F.BIAS_NOW_RAMPING r.i r.j, .ro), (F.BIAS_NOW_CODE r.i r.j, .ro)]
  | .BIAS_RAMP => [(F.BIAS_RAMP_PERIOD r.i r.j, .rw), (F.BIAS_RAMP_STEP r.i r.j, .rw)]
  | .BIAS_STAT => [(F.BIAS_STAT_TRIP r.i r.j, .ro), (F.BIAS_STAT_SWITCH r.i r.j, .ro), (F.BIAS_STAT_ILIM r.i r.j, .ro)]
  | .BIAS_LATCH => [(F.BIAS_LATCH_SEQ_ABORT r.i r.j, .w1c), (F.BIAS_LATCH_MUTE r.i r.j, .w1c), (F.BIAS_LATCH_ILIM r.i r.j, .w1c)]
  | .BIAS_SEQ => [(F.BIAS_SEQ_DWELL r.i, .rw), (F.BIAS_SEQ_BUSY r.i, .ro), (F.BIAS_SEQ_ORDER r.i, .rw), (F.BIAS_SEQ_DOWN r.i, .wo), (F.BIAS_SEQ_UP r.i, .wo)]
  | .DK_WIN_CFG => [(F.DK_WIN_CFG_GROUP r.i, .rw), (F.DK_WIN_CFG_TRIP_EN r.i, .rw), (F.DK_WIN_CFG_HYST r.i, .rw), (F.DK_WIN_CFG_CLR_SHOT r.i, .rw), (F.DK_WIN_CFG_EN r.i, .rw)]
  | .DK_WIN_THR => [(F.DK_WIN_THR_UPPER r.i, .rw), (F.DK_WIN_THR_LOWER r.i, .rw)]
  | .DK_WIN_CNT => [(F.DK_WIN_CNT_CROSS r.i, .cnt), (F.DK_WIN_CNT_TRIPS r.i, .cnt), (F.DK_WIN_CNT_HELD r.i, .cnt)]
  | .DK_GRP_CFG => [(F.DK_GRP_CFG_BIAS_RAMP r.i, .rw), (F.DK_GRP_CFG_ASSERTED r.i, .ro), (F.DK_GRP_CFG_LINE r.i, .rw), (F.DK_GRP_CFG_ACTION r.i, .rw)]
  | .DK_GRP_QMASK => [(F.DK_GRP_QMASK_QMASK r.i, .rw)]
  | .DK_STAT => [(F.DK_STAT_STATE r.i, .ro)]
  | .DK_LATCH => [(F.DK_LATCH_LATCH r.i, .w1c)]
  | .DK_EXT => [(F.DK_EXT_GMASK, .rw)]
  | .DK_EXT_CTRL => [(F.DK_EXT_CTRL_COUNT, .cnt), (F.DK_EXT_CTRL_CLR_SHOT, .rw), (F.DK_EXT_CTRL_PIN, .ro), (F.DK_EXT_CTRL_LATCH, .w1c)]
  | .DK_RB => [(F.DK_RB_BUSY, .ro), (F.DK_RB_SIDE, .rw), (F.DK_RB_WIN, .rw)]
  | .DK_RB_DATA => [(F.DK_RB_DATA_ERR, .ro), (F.DK_RB_DATA_RESULT, .ro)]
  | .DK_QMAP => [(F.DK_QMAP_MAP r.i r.j, .rw)]
  | .HB_CTRL => [(F.HB_CTRL_LOOP r.i, .rw), (F.HB_CTRL_ACQ_EN r.i, .rw), (F.HB_CTRL_PENDING r.i, .ro), (F.HB_CTRL_COMMIT r.i, .wo)]
  | .HB_STAT => [(F.HB_STAT_SUBST r.i, .ro), (F.HB_STAT_OVL r.i, .ro), (F.HB_STAT_ADC_READY r.i, .ro)]
  | .HB_LATCH => [(F.HB_LATCH_CELL_FAULT r.i, .w1c), (F.HB_LATCH_WCONF r.i, .w1c), (F.HB_LATCH_DEST_FULL r.i, .w1c), (F.HB_LATCH_LATE_MEAS r.i, .w1c), (F.HB_LATCH_CORRUPT r.i, .w1c), (F.HB_LATCH_OVL r.i, .w1c)]
  | .HB_CNT_A => [(F.HB_CNT_A_OVL r.i, .cnt), (F.HB_CNT_A_CORRUPT r.i, .cnt)]
  | .HB_CNT_B => [(F.HB_CNT_B_WCONF r.i, .cnt), (F.HB_CNT_B_LATE r.i, .cnt)]
  | .HB_RQ_CFG => [(F.HB_RQ_CFG_EN r.i, .rw), (F.HB_RQ_CFG_SHOTREC r.i, .rw), (F.HB_RQ_CFG_DEST r.i, .rw), (F.HB_RQ_CFG_DEPTH r.i, .rw)]
  | .HB_RQ_CREDIT => [(F.HB_RQ_CREDIT_FREE r.i, .ro)]
  | .HB_RQ_COUNT => [(F.HB_RQ_COUNT_COUNT r.i, .ro)]
  | .HB_RQ_PEAK => [(F.HB_RQ_PEAK_PEAK r.i, .rw)]
  | .HB_RQ_STAT => [(F.HB_RQ_STAT_STARVED r.i, .ro), (F.HB_RQ_STAT_DEST_FULL r.i, .ro), (F.HB_RQ_STAT_EMPTY r.i, .ro)]
  | .HB_RQ_CNT => [(F.HB_RQ_CNT_DEST_FULL r.i, .cnt), (F.HB_RQ_CNT_REVISED r.i, .cnt)]
  | .HB_RQ_DST_LO => [(F.HB_RQ_DST_LO_VALUE r.i, .rw)]
  | .HB_RQ_DST_HI => [(F.HB_RQ_DST_HI_VALUE r.i, .rw)]
  | .HB_RQ_DST_SIZE => [(F.HB_RQ_DST_SIZE_VALUE r.i, .rw)]
  | .HB_RQ_DST_WR => [(F.HB_RQ_DST_WR_SLOT r.i, .ro)]
  | .HB_RQ_DST_RD => [(F.HB_RQ_DST_RD_SLOT r.i, .rw)]
  | .HB_RQ_HEAD => [(F.HB_RQ_HEAD_VALID r.i, .ro), (F.HB_RQ_HEAD_LEN r.i, .ro)]
  | .HB_RQ_POP => [(F.HB_RQ_POP_POP r.i, .wo)]
  | .HB_SPARE_STAT => [(F.HB_SPARE_STAT_SPARE_FAIL r.i, .ro), (F.HB_SPARE_STAT_BUSY r.i, .ro), (F.HB_SPARE_STAT_FORCED r.i, .ro), (F.HB_SPARE_STAT_IN_USE r.i, .ro), (F.HB_SPARE_STAT_KIND r.i, .ro), (F.HB_SPARE_STAT_TARGET r.i, .ro)]
  | .HB_SPARE_CTRL => [(F.HB_SPARE_CTRL_KIND r.i, .rw), (F.HB_SPARE_CTRL_TGT r.i, .rw), (F.HB_SPARE_CTRL_RELEASE r.i, .wo), (F.HB_SPARE_CTRL_FORCE r.i, .wo)]
  | .HB_SPARE_CNT => [(F.HB_SPARE_CNT_AUDIT r.i, .cnt), (F.HB_SPARE_CNT_SUBST r.i, .cnt)]
  | .HB_RQ_DATA => [(F.HB_RQ_DATA_WORD r.i r.j, .ro)]
  | .HB_CELL_CFG => [(F.HB_CELL_CFG_PTONE r.i r.j, .rw), (F.HB_CELL_CFG_LINK r.i r.j, .rw), (F.HB_CELL_CFG_EN r.i r.j, .rw)]
  | .HB_CELL_FTW_LO => [(F.HB_CELL_FTW_LO_FTW r.i r.j, .rw)]
  | .HB_CELL_FTW_HI => [(F.HB_CELL_FTW_HI_FTW r.i r.j, .rw)]
  | .HB_CELL_PHASE => [(F.HB_CELL_PHASE_PHASE r.i r.j, .rw)]
  | .HB_DISC_CFG => [(F.HB_DISC_CFG_MODE r.i r.j, .rw)]
  | .HB_DISC_ROT => [(F.HB_DISC_ROT_SIN r.i r.j, .rw), (F.HB_DISC_ROT_COS r.i r.j, .rw)]
  | .HB_DISC_OFS_I => [(F.HB_DISC_OFS_I_VALUE r.i r.j, .rw)]
  | .HB_DISC_OFS_Q => [(F.HB_DISC_OFS_Q_VALUE r.i r.j, .rw)]
  | .HB_DISC_THR0 => [(F.HB_DISC_THR0_VALUE r.i r.j, .rw)]
  | .HB_DISC_THR1 => [(F.HB_DISC_THR1_VALUE r.i r.j, .rw)]
  | .HB_CELL_STAT => [(F.HB_CELL_STAT_FAILED r.i r.j, .ro), (F.HB_CELL_STAT_SUBST r.i r.j, .ro), (F.HB_CELL_STAT_FTW_PEND r.i r.j, .ro), (F.HB_CELL_STAT_BUSY r.i r.j, .ro), (F.HB_CELL_STAT_LAST_VALID r.i r.j, .ro), (F.HB_CELL_STAT_LAST_STATE r.i r.j, .ro)]
  | .HB_CELL_LAST_I => [(F.HB_CELL_LAST_I_VALUE r.i r.j, .ro)]
  | .HB_CELL_LAST_Q => [(F.HB_CELL_LAST_Q_VALUE r.i r.j, .ro)]
  | .HB_CELL_LATCH => [(F.HB_CELL_LATCH_OVL r.i r.j, .w1c), (F.HB_CELL_LATCH_FAULT r.i r.j, .w1c), (F.HB_CELL_LATCH_FTW_REPL r.i r.j, .w1c), (F.HB_CELL_LATCH_FTW_LATE r.i r.j, .w1c)]
  | .HB_CELL_CNT => [(F.HB_CELL_CNT_WINDOWS r.i r.j, .cnt), (F.HB_CELL_CNT_CORR r.i r.j, .cnt)]
  | .WGT_W0 => [(F.WGT_W0_MODE r.i r.j, .rw), (F.WGT_W0_START r.i r.j, .rw)]
  | .WGT_W1 => [(F.WGT_W1_WLEN r.i r.j, .rw)]
  | .WGT_W2 => [(F.WGT_W2_CONST_Q r.i r.j, .rw), (F.WGT_W2_CONST_I r.i r.j, .rw)]
  | .WGT_W3 => [(F.WGT_W3_ACTIVE r.i r.j, .ro)]
  | .BT_CTRL => [(F.BT_CTRL_RELEASE r.i, .wo), (F.BT_CTRL_FORCE r.i, .wo), (F.BT_CTRL_EN r.i, .rw)]
  | .BT_STAT => [(F.BT_STAT_ACTIVE r.i, .ro), (F.BT_STAT_FAULT r.i, .ro)]
  | .BT_ESTAT => [(F.BT_ESTAT_SUBST r.i, .ro), (F.BT_ESTAT_FAILED r.i, .ro), (F.BT_ESTAT_PAUSED r.i, .ro)]
  | .BT_LATCH => [(F.BT_LATCH_OVERWRITE r.i, .w1c), (F.BT_LATCH_RESIDUE r.i, .w1c)]
  | .BT_CNT => [(F.BT_CNT_RESIDUE r.i, .cnt), (F.BT_CNT_OVERWRITE r.i, .cnt)]
  | .BT_OUT => [(F.BT_OUT_DELIVERED r.i r.j, .ro), (F.BT_OUT_VALUE r.i r.j, .ro)]
  | .CTX_CTRL => [(F.CTX_CTRL_PHASE_EN r.i r.j, .rw), (F.CTX_CTRL_PHASE r.i r.j, .rw), (F.CTX_CTRL_STOP r.i r.j, .wo), (F.CTX_CTRL_START r.i r.j, .wo)]
  | .CTX_PC => [(F.CTX_PC_PC r.i r.j, .rw)]
  | .CTX_WIN => [(F.CTX_WIN_LIMIT r.i r.j, .rw), (F.CTX_WIN_BASE r.i r.j, .rw)]
  | .CTX_STAT => [(F.CTX_STAT_SAT r.i r.j, .ro), (F.CTX_STAT_N r.i r.j, .ro), (F.CTX_STAT_Z r.i r.j, .ro), (F.CTX_STAT_FCAUSE r.i r.j, .ro), (F.CTX_STAT_WCAUSE r.i r.j, .ro), (F.CTX_STAT_STATE r.i r.j, .ro)]
  | .CTX_LATCH => [(F.CTX_LATCH_IN_DROP r.i r.j, .w1c), (F.CTX_LATCH_SAT r.i r.j, .w1c), (F.CTX_LATCH_FAULT r.i r.j, .w1c), (F.CTX_LATCH_START_REF r.i r.j, .w1c)]
  | .CTX_CNT => [(F.CTX_CNT_STALL r.i r.j, .cnt), (F.CTX_CNT_SAT r.i r.j, .cnt), (F.CTX_CNT_IN_DROP r.i r.j, .cnt)]
  | .CTX_IN => [(F.CTX_IN_MASK r.i r.j, .rw), (F.CTX_IN_SHIFT r.i r.j, .rw), (F.CTX_IN_LEVEL r.i r.j, .ro)]
  | .CTX_IX => [(F.CTX_IX_RRB r.i r.j, .ro), (F.CTX_IX_IX r.i r.j, .ro)]
  | .CTX_PTR_A => [(F.CTX_PTR_A_LEN r.i r.j r.k, .rw), (F.CTX_PTR_A_BASE r.i r.j r.k, .rw)]
  | .CTX_PTR_B => [(F.CTX_PTR_B_STEP r.i r.j r.k, .rw), (F.CTX_PTR_B_OFS r.i r.j r.k, .rw)]
  | .COUCH_CTRL => [(F.COUCH_CTRL_PF_CLR_SHOT, .rw), (F.COUCH_CTRL_PF_CLR, .wo)]
  | .COUCH_LATCH => [(F.COUCH_LATCH_XLATE, .w1c)]
  | .COUCH_CNT => [(F.COUCH_CNT_XDROP, .cnt), (F.COUCH_CNT_XLATE, .cnt)]
  | .COUCH_PSRC => [(F.COUCH_PSRC_FLAG, .ro)]
  | .SE_CTRL => [(F.SE_CTRL_STOP, .wo), (F.SE_CTRL_START, .wo)]
  | .SE_GEOM => [(F.SE_GEOM_C, .rw), (F.SE_GEOM_W, .rw), (F.SE_GEOM_HOLD, .rw)]
  | .SE_RWIN => [(F.SE_RWIN_TICKS, .rw)]
  | .SE_STAT => [(F.SE_STAT_ODD, .ro), (F.SE_STAT_WAITING, .ro), (F.SE_STAT_ARMED, .ro), (F.SE_STAT_RUN, .ro)]
  | .SE_LATCH => [(F.SE_LATCH_GRAPH_ERR, .w1c), (F.SE_LATCH_LATE_BND, .w1c), (F.SE_LATCH_MISSING, .w1c), (F.SE_LATCH_FORCED, .w1c), (F.SE_LATCH_OVERLOAD, .w1c)]
  | .SE_CNT_A => [(F.SE_CNT_A_OVERLOAD, .cnt), (F.SE_CNT_A_FORCED, .cnt)]
  | .SE_CNT_B => [(F.SE_CNT_B_MISSING, .cnt), (F.SE_CNT_B_LATE_BND, .cnt)]
  | .SE_CNT_C => [(F.SE_CNT_C_GBUSY, .cnt), (F.SE_CNT_C_BND_TX, .cnt)]
  | .SE_ROUND => [(F.SE_ROUND_LAST, .ro)]
  | .SE_LOG => [(F.SE_LOG_WR, .ro)]
  | .SE_GERR => [(F.SE_GERR_CODE, .ro), (F.SE_GERR_CHECK, .ro), (F.SE_GERR_INDEX, .ro)]
  | .COUCH_PORT => [(F.COUCH_PORT_CDLY r.i, .rw)]
  | .SE_PORT => [(F.SE_PORT_PEER_PULL r.i, .ro), (F.SE_PORT_ROLE r.i, .rw)]
  | .DX_CFG => [(F.DX_CFG_EN r.i, .rw), (F.DX_CFG_ARM_EN r.i, .rw), (F.DX_CFG_ARM_CH r.i, .rw), (F.DX_CFG_PORTS r.i, .rw), (F.DX_CFG_SRC r.i, .rw)]
  | .XIN_CFG => [(F.XIN_CFG_EN r.i, .rw), (F.XIN_CFG_DELIVERED r.i, .ro), (F.XIN_CFG_VALUE r.i, .ro), (F.XIN_CFG_PORT r.i, .rw), (F.XIN_CFG_EXPORT r.i, .rw)]
  | .FRULE_A => [(F.FRULE_A_EN r.i, .rw), (F.FRULE_A_VAL r.i, .rw), (F.FRULE_A_TEST r.i, .rw), (F.FRULE_A_SRC r.i, .rw)]
  | .FRULE_B => [(F.FRULE_B_XMASK r.i, .rw), (F.FRULE_B_SLOT r.i, .rw)]
  | .COUCH_SLOT => [(F.COUCH_SLOT_RC_SLOT r.i, .rw), (F.COUCH_SLOT_AXIS r.i, .rw)]
  | .COUCH_PF => [(F.COUCH_PF_FRAME r.i, .ro)]
  | .COUCH_PF_XOR => [(F.COUCH_PF_XOR_FRAME r.i, .wo)]
  | .POST_CTRL => [(F.POST_CTRL_CELL_CLR, .wo)]
  | .POST_SWFIRE => [(F.POST_SWFIRE_FIRE, .wo)]
  | .POST_GRP => [(F.POST_GRP_EN, .rw)]
  | .POST_GRP_ONCE => [(F.POST_GRP_ONCE_ONCE, .rw)]
  | .POST_CH => [(F.POST_CH_EN r.i, .rw), (F.POST_CH_MERGE r.i, .rw), (F.POST_CH_PROD2 r.i, .rw), (F.POST_CH_PROD r.i, .rw)]
  | .POST_CHCNT => [(F.POST_CHCNT_DROP r.i, .cnt), (F.POST_CHCNT_PASS r.i, .cnt)]
  | .POST_CELL => [(F.POST_CELL_LUT r.i, .rw), (F.POST_CELL_FF r.i, .rw), (F.POST_CELL_FILT r.i, .rw), (F.POST_CELL_F r.i, .ro), (F.POST_CELL_Q r.i, .ro)]
  | .POST_GCNT => [(F.POST_GCNT_BLOCK r.i, .cnt)]
  | .POST_CSEL => [(F.POST_CSEL_EN r.i, .rw), (F.POST_CSEL_EVERY r.i, .rw), (F.POST_CSEL_SRC r.i, .rw)]
  | .POST_CCNT => [(F.POST_CCNT_EXEC r.i, .cnt), (F.POST_CCNT_COINC r.i, .cnt), (F.POST_CCNT_OFF r.i, .cnt)]
  | .CAP_CFG => [(F.CAP_CFG_SRC r.i, .rw), (F.CAP_CFG_DEC r.i, .rw), (F.CAP_CFG_AUTO r.i, .rw), (F.CAP_CFG_MODE r.i, .rw)]
  | .CAP_TRIG => [(F.CAP_TRIG_HYST r.i, .rw), (F.CAP_TRIG_WIN_IN r.i, .rw), (F.CAP_TRIG_POL r.i, .rw), (F.CAP_TRIG_TIME r.i, .rw), (F.CAP_TRIG_POST r.i, .rw), (F.CAP_TRIG_WINDOW r.i, .rw), (F.CAP_TRIG_EDGE r.i, .rw), (F.CAP_TRIG_LEVEL r.i, .rw)]
  | .CAP_THR => [(F.CAP_THR_HI r.i, .rw), (F.CAP_THR_LO r.i, .rw)]
  | .CAP_PRE => [(F.CAP_PRE_COUNT r.i, .rw)]
  | .CAP_POST => [(F.CAP_POST_COUNT r.i, .rw)]
  | .CAP_SEG => [(F.CAP_SEG_NLOG r.i, .rw)]
  | .CAP_AUTO => [(F.CAP_AUTO_VALUE r.i, .rw)]
  | .CAP_TT_LO => [(F.CAP_TT_LO_VALUE r.i, .rw)]
  | .CAP_TT_HI => [(F.CAP_TT_HI_VALUE r.i, .rw)]
  | .CAP_TPER => [(F.CAP_TPER_VALUE r.i, .rw)]
  | .CAP_CTRL => [(F.CAP_CTRL_CNT_CLR r.i, .wo), (F.CAP_CTRL_FORCE r.i, .wo), (F.CAP_CTRL_STOP r.i, .wo), (F.CAP_CTRL_ARM r.i, .wo)]
  | .CAP_STAT => [(F.CAP_STAT_STATE r.i, .ro)]
  | .CAP_WR => [(F.CAP_WR_COUNT r.i, .ro)]
  | .CAP_RD => [(F.CAP_RD_COUNT r.i, .rw)]
  | .CAP_LATCH => [(F.CAP_LATCH_TT_LATE r.i, .w1c), (F.CAP_LATCH_ABORT r.i, .w1c), (F.CAP_LATCH_FULL r.i, .w1c), (F.CAP_LATCH_CORRUPT r.i, .w1c), (F.CAP_LATCH_OVL r.i, .w1c)]
  | .CAP_IGN_A => [(F.CAP_IGN_A_REARM r.i, .cnt), (F.CAP_IGN_A_PRE r.i, .cnt)]
  | .CAP_IGN_B => [(F.CAP_IGN_B_FULL r.i, .cnt), (F.CAP_IGN_B_AUTO r.i, .cnt)]
  | .CL_CFG => [(F.CL_CFG_EN, .rw)]
  | .CL_CID => [(F.CL_CID_VALUE, .rw)]
  | .CL_UID_LO => [(F.CL_UID_LO_VALUE, .ro)]
  | .CL_UID_HI => [(F.CL_UID_HI_VALUE, .ro)]
  | .CL_STAT => [(F.CL_STAT_LAG, .ro), (F.CL_STAT_HOPS, .ro), (F.CL_STAT_DEVNUM, .ro), (F.CL_STAT_MASTER_LOST, .ro), (F.CL_STAT_PREPARED, .ro), (F.CL_STAT_OUT_EPOCH, .ro), (F.CL_STAT_MEMBER, .ro), (F.CL_STAT_MASTER, .ro)]
  | .CL_EPOCH => [(F.CL_EPOCH_EPOCH, .ro)]
  | .CL_LATCH => [(F.CL_LATCH_NAK, .w1c), (F.CL_LATCH_MASTER_LOST, .w1c), (F.CL_LATCH_REFUSED, .w1c), (F.CL_LATCH_DUAL_MASTER, .w1c), (F.CL_LATCH_LATE_SHOT, .w1c), (F.CL_LATCH_COMMITTED, .w1c), (F.CL_LATCH_EPOCH, .w1c)]
  | .CL_CMD => [(F.CL_CMD_PREPARE, .wo), (F.CL_CMD_RESYNC, .wo), (F.CL_CMD_TARGET, .wo), (F.CL_CMD_ID, .wo)]
  | .CL_AGREE => [(F.CL_AGREE_CODE, .ro), (F.CL_AGREE_DEV, .ro), (F.CL_AGREE_STATE, .ro)]
  | .CL_PREP_TMO => [(F.CL_PREP_TMO_TICKS, .rw)]
  | .CL_MTMO => [(F.CL_MTMO_TICKS, .rw)]
  | .CL_EXCL_LO => [(F.CL_EXCL_LO_MASK, .rw)]
  | .CL_EXCL_HI => [(F.CL_EXCL_HI_MASK, .rw)]
  | .CL_MEMB_LO => [(F.CL_MEMB_LO_MASK, .ro)]
  | .CL_MEMB_HI => [(F.CL_MEMB_HI_MASK, .ro)]
  | .CL_SHOT_CTRL => [(F.CL_SHOT_CTRL_LEAD, .rw), (F.CL_SHOT_CTRL_MODE, .rw)]
  | .CL_SHOT_PER => [(F.CL_SHOT_PER_VALUE, .rw)]
  | .CL_SHOT_NEXT_LO => [(F.CL_SHOT_NEXT_LO_VALUE, .rw)]
  | .CL_SHOT_NEXT_HI => [(F.CL_SHOT_NEXT_HI_VALUE, .rw)]
  | .CHN_EYE_CTRL => [(F.CHN_EYE_CTRL_START, .wo), (F.CHN_EYE_CTRL_DWELL, .rw), (F.CHN_EYE_CTRL_VOFS, .rw), (F.CHN_EYE_CTRL_PHASE, .rw), (F.CHN_EYE_CTRL_LANE, .rw), (F.CHN_EYE_CTRL_PORT, .rw)]
  | .CHN_EYE_RES => [(F.CHN_EYE_RES_COUNT, .ro)]
  | .CHN_EYE_STAT => [(F.CHN_EYE_STAT_BUSY, .ro), (F.CHN_EYE_STAT_DONE, .ro), (F.CHN_EYE_STAT_INVALID, .ro)]
  | .CL_BARPART_LO => [(F.CL_BARPART_LO_MASK r.i, .ro)]
  | .CL_BARPART_HI => [(F.CL_BARPART_HI_MASK r.i, .ro)]
  | .CHN_PORT_CFG => [(F.CHN_PORT_CFG_INV r.i, .rw), (F.CHN_PORT_CFG_REQ r.i, .rw), (F.CHN_PORT_CFG_ROLE r.i, .rw)]
  | .CHN_PORT_STAT => [(F.CHN_PORT_STAT_PEER_PORT r.i, .ro), (F.CHN_PORT_STAT_PEER_DEV r.i, .ro), (F.CHN_PORT_STAT_PEER_ROLE r.i, .ro), (F.CHN_PORT_STAT_CID_OK r.i, .ro), (F.CHN_PORT_STAT_CHILD r.i, .ro), (F.CHN_PORT_STAT_PARENT r.i, .ro), (F.CHN_PORT_STAT_LOCK r.i, .ro), (F.CHN_PORT_STAT_STATE r.i, .ro)]
  | .CHN_PORT_LATCH => [(F.CHN_PORT_LATCH_REQ_REFUSED r.i, .w1c), (F.CHN_PORT_LATCH_CID_MISMATCH r.i, .w1c), (F.CHN_PORT_LATCH_ROLE_MISMATCH r.i, .w1c), (F.CHN_PORT_LATCH_CRC r.i, .w1c), (F.CHN_PORT_LATCH_DOWN r.i, .w1c)]
  | .CHN_PORT_CNT_A => [(F.CHN_PORT_CNT_A_LOST1 r.i, .cnt), (F.CHN_PORT_CNT_A_LOST0 r.i, .cnt)]
  | .CHN_PORT_CNT_B => [(F.CHN_PORT_CNT_B_TRAIN r.i, .cnt), (F.CHN_PORT_CNT_B_DOWN r.i, .cnt)]
  | .CHN_PORT_SKEW => [(F.CHN_PORT_SKEW_SKEW r.i, .ro)]
  | .CHN_PEER_UID_LO => [(F.CHN_PEER_UID_LO_UID r.i, .ro)]
  | .CHN_PEER_UID_HI => [(F.CHN_PEER_UID_HI_UID r.i, .ro)]
  | .MEM_ECC_CNT => [(F.MEM_ECC_CNT_UE r.i, .cnt), (F.MEM_ECC_CNT_CE r.i, .cnt)]
  | .MEM_ECC_LATCH => [(F.MEM_ECC_LATCH_UE, .w1c)]
  | .MEM_UE_ADDR => [(F.MEM_UE_ADDR_ADDR, .ro)]
  | .MEM_SCRUB => [(F.MEM_SCRUB_PASSES, .cnt), (F.MEM_SCRUB_PERIOD, .rw)]
  | .MEM_DWIN => [(F.MEM_DWIN_BASE, .rw)]
  | .MEM_DDR_STAT => [(F.MEM_DDR_STAT_READY, .ro), (F.MEM_DDR_STAT_TRAIN, .ro), (F.MEM_DDR_STAT_CAP, .ro), (F.MEM_DDR_STAT_RATE, .ro)]
  | .MEM_DDR_CNT => [(F.MEM_DDR_CNT_TRAIN_FAIL, .cnt), (F.MEM_DDR_CNT_RECAL, .cnt)]
  | .REAM_STAT => [(F.REAM_STAT_QUEUED, .ro), (F.REAM_STAT_INVALID, .ro), (F.REAM_STAT_ABORT, .w1c), (F.REAM_STAT_BUSY, .ro)]
  | .REAM_CNT => [(F.REAM_CNT_ABORTS, .cnt), (F.REAM_CNT_STORES, .cnt)]
  | .BUS_ERR_STAT => [(F.BUS_ERR_STAT_VALID, .w1c), (F.BUS_ERR_STAT_MASTER, .ro), (F.BUS_ERR_STAT_WRITE, .ro), (F.BUS_ERR_STAT_SIZE, .ro), (F.BUS_ERR_STAT_CODE, .ro)]
  | .BUS_ERR_ADDR => [(F.BUS_ERR_ADDR_BAR2, .ro), (F.BUS_ERR_ADDR_ADDR, .ro)]
  | .BUS_CNT => [(F.BUS_CNT_LOCKVIO, .cnt), (F.BUS_CNT_ERR, .cnt)]
  | .BUS_LOCK_ADDR => [(F.BUS_LOCK_ADDR_ADDR, .ro)]
  | .MBX_CTRL => [(F.MBX_CTRL_GO, .wo), (F.MBX_CTRL_LEN, .rw)]
  | .MBX_STAT => [(F.MBX_STAT_RSP_LEN, .ro), (F.MBX_STAT_RSP_VALID, .ro), (F.MBX_STAT_BUSY, .ro)]
  | .MBX_REQ => [(F.MBX_REQ_DATA r.i, .rw)]
  | .MBX_RSP => [(F.MBX_RSP_DATA r.i, .ro)]
  | .ETH_STAT => [(F.ETH_STAT_FEC r.i, .ro), (F.ETH_STAT_SPEED r.i, .ro), (F.ETH_STAT_LINK r.i, .ro)]
  | .ETH_TXR_LO => [(F.ETH_TXR_LO_VALUE r.i, .rw)]
  | .ETH_TXR_HI => [(F.ETH_TXR_HI_VALUE r.i, .rw)]
  | .ETH_TXR_SIZE => [(F.ETH_TXR_SIZE_VALUE r.i, .rw)]
  | .ETH_TXR_WR => [(F.ETH_TXR_WR_COUNT r.i, .rw)]
  | .ETH_TXR_RD => [(F.ETH_TXR_RD_COUNT r.i, .ro)]
  | .ETH_TXCNT => [(F.ETH_TXCNT_TIMED r.i, .cnt), (F.ETH_TXCNT_NORMAL r.i, .cnt)]
  | .PCI_LINK => [(F.PCI_LINK_WIDTH, .ro), (F.PCI_LINK_SPEED, .ro)]
  | .PCI_NOTIFY_EN => [(F.PCI_NOTIFY_EN_EN, .rw)]
  | .MSIX_TABLE => [(F.MSIX_TABLE_DATA r.i, .rw)]
  | .MSIX_PBA => [(F.MSIX_PBA_PENDING r.i, .ro)]
  | .DMA_HOST_LO => [(F.DMA_HOST_LO_VALUE r.i, .rw)]
  | .DMA_HOST_HI => [(F.DMA_HOST_HI_VALUE r.i, .rw)]
  | .DMA_DEV => [(F.DMA_DEV_VALUE r.i, .rw)]
  | .DMA_LEN => [(F.DMA_LEN_VALUE r.i, .rw)]
  | .DMA_CTRL => [(F.DMA_CTRL_START r.i, .wo), (F.DMA_CTRL_DIR r.i, .rw)]
  | .DMA_STAT => [(F.DMA_STAT_CODE r.i, .ro), (F.DMA_STAT_ERR r.i, .w1c), (F.DMA_STAT_DONE r.i, .w1c), (F.DMA_STAT_BUSY r.i, .ro)]
  | .PMB_CFG => [(F.PMB_CFG_PERIOD, .rw), (F.PMB_CFG_SPEED, .rw), (F.PMB_CFG_EN, .rw)]
  | .PMB_CMD => [(F.PMB_CMD_DOWN, .wo), (F.PMB_CMD_UP, .wo)]
  | .PMB_STAT => [(F.PMB_STAT_UP, .ro), (F.PMB_STAT_SALERT, .ro), (F.PMB_STAT_ALL_UP, .ro), (F.PMB_STAT_BUSY, .ro)]
  | .PMB_LATCH => [(F.PMB_LATCH_FAULT, .w1c), (F.PMB_LATCH_SEQ_FAIL, .w1c), (F.PMB_LATCH_SALERT, .w1c)]
  | .PMB_ENT_A => [(F.PMB_ENT_A_EN r.i, .rw), (F.PMB_ENT_A_ACTION r.i, .rw), (F.PMB_ENT_A_WIN r.i, .rw), (F.PMB_ENT_A_ORDER r.i, .rw), (F.PMB_ENT_A_PAGE r.i, .rw), (F.PMB_ENT_A_ADDR r.i, .rw)]
  | .PMB_ENT_B => [(F.PMB_ENT_B_TMO r.i, .rw), (F.PMB_ENT_B_DELAY r.i, .rw)]
  | .PMB_ENT_STAT => [(F.PMB_ENT_STAT_STATUS r.i, .ro), (F.PMB_ENT_STAT_VOUT r.i, .ro)]
  | .PMB_ENT_MEAS => [(F.PMB_ENT_MEAS_IOUT r.i, .ro), (F.PMB_ENT_MEAS_TEMP r.i, .ro)]
  | .SEC_STAT => [(F.SEC_STAT_KS_CLOSED, .ro), (F.SEC_STAT_DBG_LEVEL, .ro), (F.SEC_STAT_ZEROIZED, .ro), (F.SEC_STAT_ROOT_REVOKED, .ro), (F.SEC_STAT_ROOT_PROV, .ro), (F.SEC_STAT_UNSIGNED_CODE, .ro), (F.SEC_STAT_TRIAL, .ro), (F.SEC_STAT_BOOT_SRC, .ro)]
  | .SEC_SVN => [(F.SEC_SVN_IMAGE, .ro), (F.SEC_SVN_FUSE, .ro)]
  | .SEC_CNT => [(F.SEC_CNT_DBG_FAIL, .cnt), (F.SEC_CNT_VERIFY_FAIL, .cnt)]
  | .SZ_CTRL => [(F.SZ_CTRL_DT, .rw), (F.SZ_CTRL_AUTO, .rw)]
  | .SZ_Q_CFG => [(F.SZ_Q_CFG_PRESS_SEC r.i, .rw), (F.SZ_Q_CFG_OWN_PD r.i, .rw), (F.SZ_Q_CFG_LINE_EN r.i, .rw), (F.SZ_Q_CFG_EN r.i, .rw)]
  | .SZ_Q_CMD => [(F.SZ_Q_CMD_CH r.i, .wo), (F.SZ_Q_CMD_ABORT r.i, .wo), (F.SZ_Q_CMD_PRESS r.i, .wo), (F.SZ_Q_CMD_RUN r.i, .wo)]
  | .SZ_Q_STAT => [(F.SZ_Q_STAT_PROC r.i, .ro), (F.SZ_Q_STAT_POINTS r.i, .ro), (F.SZ_Q_STAT_TFAIL r.i, .ro), (F.SZ_Q_STAT_WAIT_IDLE r.i, .ro), (F.SZ_Q_STAT_RUNNING r.i, .ro), (F.SZ_Q_STAT_DUE r.i, .ro)]
  | .SZ_Q_TEMP => [(F.SZ_Q_TEMP_LAST r.i, .ro), (F.SZ_Q_TEMP_NOW r.i, .ro)]
  | .SZ_Q_LATCH => [(F.SZ_Q_LATCH_STORE_FAIL r.i, .w1c), (F.SZ_Q_LATCH_ABANDON r.i, .w1c), (F.SZ_Q_LATCH_REJECT r.i, .w1c), (F.SZ_Q_LATCH_APPLIED r.i, .w1c)]
  | .SZ_Q_REJ => [(F.SZ_Q_REJ_PROC r.i, .ro), (F.SZ_Q_REJ_INDEX r.i, .ro)]
  | .SZ_Q_CNT => [(F.SZ_Q_CNT_REJECT r.i, .cnt), (F.SZ_Q_CNT_ABANDON r.i, .cnt), (F.SZ_Q_CNT_RUNS r.i, .cnt)]
  | .PWR_CTRL => [(F.PWR_CTRL_RETAIN_VAT, .rw), (F.PWR_CTRL_STOP, .wo), (F.PWR_CTRL_RESTART, .wo), (F.PWR_CTRL_REQ, .rw)]
  | .PWR_STAT => [(F.PWR_STAT_RGOOD, .ro), (F.PWR_STAT_CORE_WARN, .ro), (F.PWR_STAT_STATE, .ro)]
  | .PWR_LATCH => [(F.PWR_LATCH_STOP, .w1c), (F.PWR_LATCH_RAIL_LOSS, .w1c), (F.PWR_LATCH_CORE_WARN, .w1c)]
  | .PWR_CNT => [(F.PWR_CNT_DIPS, .cnt), (F.PWR_CNT_RAIL_LOSS, .cnt)]
  | .PWR_RST_CAUSE => [(F.PWR_RST_CAUSE_CAUSE, .ro)]
  | .PWR_SHOTCAP => [(F.PWR_SHOTCAP_PER, .rw)]
  | .PWR_SHOTEFF => [(F.PWR_SHOTEFF_PER, .ro)]
  | .PWR_STOP => [(F.PWR_STOP_BIAS_TMO, .rw), (F.PWR_STOP_CAUSE, .ro)]
  | .THM_CFG => [(F.THM_CFG_GRACE, .rw)]
  | .THM_STAT => [(F.THM_STAT_WARN, .ro), (F.THM_STAT_STATE, .ro)]
  | .THM_LATCH => [(F.THM_LATCH_SENSOR, .w1c), (F.THM_LATCH_CRIT, .w1c), (F.THM_LATCH_ENFORCE, .w1c), (F.THM_LATCH_WARN, .w1c)]
  | .THM_CNT => [(F.THM_CNT_ENFORCE, .cnt), (F.THM_CNT_WARN, .cnt)]
  | .PWR_DOM => [(F.PWR_DOM_ON r.i, .ro)]
  | .THM_ZONE => [(F.THM_ZONE_FAILED r.i, .ro), (F.THM_ZONE_LEVEL r.i, .ro), (F.THM_ZONE_TEMP r.i, .ro)]
  | .LOFT_WAKE => [(F.LOFT_WAKE_CHAIN, .rw), (F.LOFT_WAKE_POST, .rw), (F.LOFT_WAKE_DEC, .rw), (F.LOFT_WAKE_PIN, .rw)]
  | .LOFT_WAKE_SRC => [(F.LOFT_WAKE_SRC_CHAIN, .ro), (F.LOFT_WAKE_SRC_POST, .ro), (F.LOFT_WAKE_SRC_DEC, .ro), (F.LOFT_WAKE_SRC_PIN, .ro)]
  | .LOFT_SCAN => [(F.LOFT_SCAN_EN r.i, .rw), (F.LOFT_SCAN_SUB r.i, .rw), (F.LOFT_SCAN_INPUT r.i, .rw)]
  | .LOFT_DATA => [(F.LOFT_DATA_VALID r.i, .ro), (F.LOFT_DATA_RESULT r.i, .ro)]
  | .LOFT_FILT => [(F.LOFT_FILT_EN r.i, .rw), (F.LOFT_FILT_K r.i, .rw), (F.LOFT_FILT_SLOT r.i, .rw)]
  | .LOFT_FOUT => [(F.LOFT_FOUT_Y r.i, .ro)]
  | .LOFT_DEC_A => [(F.LOFT_DEC_A_HI r.i, .rw), (F.LOFT_DEC_A_LO r.i, .rw)]
  | .LOFT_DEC_B => [(F.LOFT_DEC_B_EN r.i, .rw), (F.LOFT_DEC_B_WAKE r.i, .rw), (F.LOFT_DEC_B_ALERT r.i, .rw), (F.LOFT_DEC_B_OUT r.i, .ro), (F.LOFT_DEC_B_PERSIST r.i, .rw), (F.LOFT_DEC_B_HYST r.i, .rw), (F.LOFT_DEC_B_FILT r.i, .rw)]
  | .QERR_STAT => [(F.QERR_STAT_GATED r.i, .ro), (F.QERR_STAT_CORE_SUBST r.i, .ro), (F.QERR_STAT_UNSPARABLE r.i, .ro), (F.QERR_STAT_RESTORE r.i, .ro)]
  | .QERR_LATCH => [(F.QERR_LATCH_EVENT r.i, .w1c)]
  | .QERR_CNT => [(F.QERR_CNT_RESTORES r.i, .cnt), (F.QERR_CNT_SUBST r.i, .cnt)]

/-- A family of registers in BAR0: the byte offset of its first register, and per index the number of registers and the
distance in bytes between them, outermost first. -/
structure Lay where
  name : RegName
  base : Nat
  dims : List (Nat × Nat)
deriving DecidableEq, Repr

/-- The layout of the chapters' offset tables, part 0. -/
def layPart0 : List Lay := [
  ⟨.CHIP_IDENT, 0x0, []⟩,
  ⟨.CHIP_PERS, 0x4, []⟩,
  ⟨.CHIP_FAULT_STAT, 0x10, []⟩,
  ⟨.CHIP_FAULT_LATCH, 0x14, []⟩,
  ⟨.NOC_ARB, 0x40, []⟩,
  ⟨.TB_REF_STAT, 0x100000, []⟩,
  ⟨.TB_TIME_LO, 0x100008, []⟩,
  ⟨.TB_TIME_HI, 0x10000C, []⟩,
  ⟨.TB_TSTAT, 0x100010, []⟩,
  ⟨.TB_TLATCH, 0x100014, []⟩,
  ⟨.TB_OFFSET, 0x100018, []⟩,
  ⟨.TB_PHASE, 0x10001C, []⟩,
  ⟨.TB_EVCNT, 0x100020, []⟩,
  ⟨.TB_WCT_NS, 0x100080, []⟩,
  ⟨.TB_WCT_SEC_LO, 0x100084, []⟩,
  ⟨.TB_WCT_SEC_HI, 0x100088, []⟩,
  ⟨.TB_WCT_DT_LO, 0x10008C, []⟩,
  ⟨.TB_WCT_DT_HI, 0x100090, []⟩,
  ⟨.TB_WCT_STAT, 0x100094, []⟩,
  ⟨.TB_WCT_OFFSET, 0x100098, []⟩,
  ⟨.TB_WCT_RATE, 0x10009C, []⟩,
  ⟨.TB_LAUNCH_CNT, 0x1000A0, []⟩,
  ⟨.TB_PORT_DELAY, 0x100040, [(8, 0x4)]⟩,
  ⟨.TB_PORT_ASYM, 0x100060, [(8, 0x4)]⟩,
  ⟨.SEQ_CTRL, 0x1000000, [(16, 0x100000)]⟩,
  ⟨.SEQ_STAT, 0x1000004, [(16, 0x100000)]⟩,
  ⟨.SEQ_LAH, 0x1000008, [(16, 0x100000)]⟩,
  ⟨.SEQ_SYNC, 0x100000C, [(16, 0x100000)]⟩,
  ⟨.SEQ_SYNC_TMO, 0x1000010, [(16, 0x100000)]⟩,
  ⟨.SEQ_EVFLAG, 0x1000014, [(16, 0x100000)]⟩,
  ⟨.SEQ_CNT_LATE, 0x1000080, [(16, 0x100000)]⟩,
  ⟨.SEQ_CNT_SEG, 0x1000084, [(16, 0x100000)]⟩,
  ⟨.SEQ_CNT_STALL, 0x1000088, [(16, 0x100000)]⟩,
  ⟨.SEQ_BAR, 0x1000040, [(16, 0x100000), (16, 0x4)]⟩,
  ⟨.STRM_CTRL, 0x1000100, [(16, 0x100000), (4, 0x20)]⟩,
  ⟨.STRM_RING, 0x1000104, [(16, 0x100000), (4, 0x20)]⟩,
  ⟨.STRM_SRC_LO, 0x1000108, [(16, 0x100000), (4, 0x20)]⟩,
  ⟨.STRM_SRC_HI, 0x100010C, [(16, 0x100000), (4, 0x20)]⟩,
  ⟨.STRM_SRC_LEN, 0x1000110, [(16, 0x100000), (4, 0x20)]⟩,
  ⟨.STRM_LEVEL, 0x1000114, [(16, 0x100000), (4, 0x20)]⟩]

/-- The layout of the chapters' offset tables, part 1. -/
def layPart1 : List Lay := [
  ⟨.STRM_STAT, 0x1000118, [(16, 0x100000), (4, 0x20)]⟩,
  ⟨.STRM_CNT, 0x100011C, [(16, 0x100000), (4, 0x20)]⟩,
  ⟨.THR_CTRL, 0x1000400, [(16, 0x100000), (16, 0x40)]⟩,
  ⟨.THR_PC, 0x1000404, [(16, 0x100000), (16, 0x40)]⟩,
  ⟨.THR_WIN, 0x1000408, [(16, 0x100000), (16, 0x40)]⟩,
  ⟨.THR_STAT, 0x100040C, [(16, 0x100000), (16, 0x40)]⟩,
  ⟨.THR_LATCH, 0x1000410, [(16, 0x100000), (16, 0x40)]⟩,
  ⟨.THR_TT_LO, 0x1000414, [(16, 0x100000), (16, 0x40)]⟩,
  ⟨.THR_TT_HI, 0x1000418, [(16, 0x100000), (16, 0x40)]⟩,
  ⟨.THR_START_LO, 0x100041C, [(16, 0x100000), (16, 0x40)]⟩,
  ⟨.THR_START_HI, 0x1000420, [(16, 0x100000), (16, 0x40)]⟩,
  ⟨.THR_CNT, 0x1000424, [(16, 0x100000), (16, 0x40)]⟩,
  ⟨.THR_SUB, 0x1000800, [(16, 0x100000), (16, 0x20), (8, 0x4)]⟩,
  ⟨.SEG_W0, 0x1010000, [(16, 0x100000), (1024, 0x10)]⟩,
  ⟨.SEG_W1, 0x1010004, [(16, 0x100000), (1024, 0x10)]⟩,
  ⟨.SEG_W2, 0x1010008, [(16, 0x100000), (1024, 0x10)]⟩,
  ⟨.SEG_W3, 0x101000C, [(16, 0x100000), (1024, 0x10)]⟩,
  ⟨.TONE_SPARE_STAT, 0x1020000, [(16, 0x100000)]⟩,
  ⟨.TONE_SPARE_CTRL, 0x1020004, [(16, 0x100000)]⟩,
  ⟨.TONE_SPARE_CNT, 0x1020008, [(16, 0x100000)]⟩,
  ⟨.TONE_CTRL, 0x1020100, [(16, 0x100000), (33, 0x40)]⟩,
  ⟨.TONE_FTW_LO, 0x1020104, [(16, 0x100000), (33, 0x40)]⟩,
  ⟨.TONE_FTW_HI, 0x1020108, [(16, 0x100000), (33, 0x40)]⟩,
  ⟨.TONE_AT_LO, 0x102010C, [(16, 0x100000), (33, 0x40)]⟩,
  ⟨.TONE_AT_HI, 0x1020110, [(16, 0x100000), (33, 0x40)]⟩,
  ⟨.TONE_FRAME, 0x1020114, [(16, 0x100000), (33, 0x40)]⟩,
  ⟨.TONE_GAIN, 0x1020118, [(16, 0x100000), (33, 0x40)]⟩,
  ⟨.TONE_STAT, 0x102011C, [(16, 0x100000), (33, 0x40)]⟩,
  ⟨.TONE_LATCH, 0x1020120, [(16, 0x100000), (33, 0x40)]⟩,
  ⟨.TONE_CNT, 0x1020124, [(16, 0x100000), (33, 0x40)]⟩,
  ⟨.DRV_CFG, 0x1030000, [(16, 0x100000), (5, 0x100)]⟩,
  ⟨.DRV_DELAY, 0x1030004, [(16, 0x100000), (5, 0x100)]⟩,
  ⟨.DRV_STAT, 0x1030008, [(16, 0x100000), (5, 0x100)]⟩,
  ⟨.DRV_LATCH, 0x103000C, [(16, 0x100000), (5, 0x100)]⟩,
  ⟨.DRV_CNT, 0x1030010, [(16, 0x100000), (5, 0x100)]⟩,
  ⟨.DRV_MUTE, 0x1030014, [(16, 0x100000), (5, 0x100)]⟩,
  ⟨.DRV_CW, 0x1030018, [(16, 0x100000), (5, 0x100)]⟩,
  ⟨.DRV_PD_CTRL, 0x103001C, [(16, 0x100000), (5, 0x100)]⟩,
  ⟨.DRV_PD_COEF, 0x1030040, [(16, 0x100000), (5, 0x100), (24, 0x4)]⟩,
  ⟨.DRV_QSTAT, 0x1030800, [(16, 0x100000)]⟩]

/-- The layout of the chapters' offset tables, part 2. -/
def layPart2 : List Lay := [
  ⟨.FLX_CFG, 0x1040000, [(16, 0x100000), (24, 0x200)]⟩,
  ⟨.FLX_LADDER, 0x1040004, [(16, 0x100000), (24, 0x200)]⟩,
  ⟨.FLX_LADDER_NOW, 0x1040008, [(16, 0x100000), (24, 0x200)]⟩,
  ⟨.FLX_SLOW_RAMP, 0x104000C, [(16, 0x100000), (24, 0x200)]⟩,
  ⟨.FLX_STAT, 0x1040010, [(16, 0x100000), (24, 0x200)]⟩,
  ⟨.FLX_LATCH, 0x1040014, [(16, 0x100000), (24, 0x200)]⟩,
  ⟨.FLX_CNT, 0x1040018, [(16, 0x100000), (24, 0x200)]⟩,
  ⟨.FLX_MUTE, 0x104001C, [(16, 0x100000), (24, 0x200)]⟩,
  ⟨.FLX_XGAIN, 0x1040020, [(16, 0x100000), (24, 0x200)]⟩,
  ⟨.FLX_PRESS_CTRL, 0x1040024, [(16, 0x100000), (24, 0x200)]⟩,
  ⟨.FLX_IIR_C0, 0x1040040, [(16, 0x100000), (24, 0x200), (8, 0xC)]⟩,
  ⟨.FLX_IIR_C1, 0x1040044, [(16, 0x100000), (24, 0x200), (8, 0xC)]⟩,
  ⟨.FLX_IIR_D, 0x1040048, [(16, 0x100000), (24, 0x200), (8, 0xC)]⟩,
  ⟨.FLX_FIR, 0x1040100, [(16, 0x100000), (24, 0x200), (32, 0x4)]⟩,
  ⟨.BIAS_CFG, 0x1043C00, [(16, 0x100000), (2, 0x40)]⟩,
  ⟨.BIAS_SET, 0x1043C04, [(16, 0x100000), (2, 0x40)]⟩,
  ⟨.BIAS_NOW, 0x1043C08, [(16, 0x100000), (2, 0x40)]⟩,
  ⟨.BIAS_RAMP, 0x1043C0C, [(16, 0x100000), (2, 0x40)]⟩,
  ⟨.BIAS_STAT, 0x1043C10, [(16, 0x100000), (2, 0x40)]⟩,
  ⟨.BIAS_LATCH, 0x1043C14, [(16, 0x100000), (2, 0x40)]⟩,
  ⟨.BIAS_SEQ, 0x1043C80, [(16, 0x100000)]⟩,
  ⟨.DK_GRP_CFG, 0x410180, [(32, 0x8)]⟩,
  ⟨.DK_GRP_QMASK, 0x410184, [(32, 0x8)]⟩,
  ⟨.DK_STAT, 0x410280, [(15, 0x4)]⟩,
  ⟨.DK_LATCH, 0x4102C0, [(15, 0x4)]⟩,
  ⟨.DK_EXT, 0x410300, []⟩,
  ⟨.DK_EXT_CTRL, 0x410304, []⟩,
  ⟨.DK_RB, 0x410310, []⟩,
  ⟨.DK_RB_DATA, 0x410314, []⟩,
  ⟨.DK_QMAP, 0x10F0100, [(16, 0x100000), (4, 0x4)]⟩,
  ⟨.HB_CTRL, 0x1060000, [(16, 0x100000)]⟩,
  ⟨.HB_STAT, 0x1060004, [(16, 0x100000)]⟩,
  ⟨.HB_LATCH, 0x1060008, [(16, 0x100000)]⟩,
  ⟨.HB_CNT_A, 0x106000C, [(16, 0x100000)]⟩,
  ⟨.HB_CNT_B, 0x1060010, [(16, 0x100000)]⟩,
  ⟨.HB_RQ_CFG, 0x1060040, [(16, 0x100000)]⟩,
  ⟨.HB_RQ_CREDIT, 0x1060044, [(16, 0x100000)]⟩,
  ⟨.HB_RQ_COUNT, 0x1060048, [(16, 0x100000)]⟩,
  ⟨.HB_RQ_PEAK, 0x106004C, [(16, 0x100000)]⟩,
  ⟨.HB_RQ_STAT, 0x1060050, [(16, 0x100000)]⟩]

/-- The layout of the chapters' offset tables, part 3. -/
def layPart3 : List Lay := [
  ⟨.HB_RQ_CNT, 0x1060054, [(16, 0x100000)]⟩,
  ⟨.HB_RQ_DST_LO, 0x1060058, [(16, 0x100000)]⟩,
  ⟨.HB_RQ_DST_HI, 0x106005C, [(16, 0x100000)]⟩,
  ⟨.HB_RQ_DST_SIZE, 0x1060060, [(16, 0x100000)]⟩,
  ⟨.HB_RQ_DST_WR, 0x1060064, [(16, 0x100000)]⟩,
  ⟨.HB_RQ_DST_RD, 0x1060068, [(16, 0x100000)]⟩,
  ⟨.HB_RQ_HEAD, 0x1060070, [(16, 0x100000)]⟩,
  ⟨.HB_RQ_POP, 0x1060074, [(16, 0x100000)]⟩,
  ⟨.HB_SPARE_STAT, 0x10600C0, [(16, 0x100000)]⟩,
  ⟨.HB_SPARE_CTRL, 0x10600C4, [(16, 0x100000)]⟩,
  ⟨.HB_SPARE_CNT, 0x10600C8, [(16, 0x100000)]⟩,
  ⟨.HB_RQ_DATA, 0x1060080, [(16, 0x100000), (8, 0x4)]⟩,
  ⟨.HB_CELL_CFG, 0x1060100, [(16, 0x100000), (17, 0x40)]⟩,
  ⟨.HB_CELL_FTW_LO, 0x1060104, [(16, 0x100000), (17, 0x40)]⟩,
  ⟨.HB_CELL_FTW_HI, 0x1060108, [(16, 0x100000), (17, 0x40)]⟩,
  ⟨.HB_CELL_PHASE, 0x106010C, [(16, 0x100000), (17, 0x40)]⟩,
  ⟨.HB_DISC_CFG, 0x1060110, [(16, 0x100000), (17, 0x40)]⟩,
  ⟨.HB_DISC_ROT, 0x1060114, [(16, 0x100000), (17, 0x40)]⟩,
  ⟨.HB_DISC_OFS_I, 0x1060118, [(16, 0x100000), (17, 0x40)]⟩,
  ⟨.HB_DISC_OFS_Q, 0x106011C, [(16, 0x100000), (17, 0x40)]⟩,
  ⟨.HB_DISC_THR0, 0x1060120, [(16, 0x100000), (17, 0x40)]⟩,
  ⟨.HB_DISC_THR1, 0x1060124, [(16, 0x100000), (17, 0x40)]⟩,
  ⟨.HB_CELL_STAT, 0x1060128, [(16, 0x100000), (17, 0x40)]⟩,
  ⟨.HB_CELL_LAST_I, 0x106012C, [(16, 0x100000), (17, 0x40)]⟩,
  ⟨.HB_CELL_LAST_Q, 0x1060130, [(16, 0x100000), (17, 0x40)]⟩,
  ⟨.HB_CELL_LATCH, 0x1060134, [(16, 0x100000), (17, 0x40)]⟩,
  ⟨.HB_CELL_CNT, 0x1060138, [(16, 0x100000), (17, 0x40)]⟩,
  ⟨.WGT_W0, 0x1061000, [(16, 0x100000), (256, 0x10)]⟩,
  ⟨.WGT_W1, 0x1061004, [(16, 0x100000), (256, 0x10)]⟩,
  ⟨.WGT_W2, 0x1061008, [(16, 0x100000), (256, 0x10)]⟩,
  ⟨.WGT_W3, 0x106100C, [(16, 0x100000), (256, 0x10)]⟩,
  ⟨.BT_CTRL, 0x1080000, [(16, 0x100000)]⟩,
  ⟨.BT_STAT, 0x1080004, [(16, 0x100000)]⟩,
  ⟨.BT_ESTAT, 0x1080008, [(16, 0x100000)]⟩,
  ⟨.BT_LATCH, 0x108000C, [(16, 0x100000)]⟩,
  ⟨.BT_CNT, 0x1080010, [(16, 0x100000)]⟩,
  ⟨.BT_OUT, 0x1080020, [(16, 0x100000), (4, 0x4)]⟩,
  ⟨.CTX_CTRL, 0x1080100, [(16, 0x100000), (16, 0x80)]⟩,
  ⟨.CTX_PC, 0x1080104, [(16, 0x100000), (16, 0x80)]⟩,
  ⟨.CTX_WIN, 0x1080108, [(16, 0x100000), (16, 0x80)]⟩]

/-- The layout of the chapters' offset tables, part 4. -/
def layPart4 : List Lay := [
  ⟨.CTX_STAT, 0x108010C, [(16, 0x100000), (16, 0x80)]⟩,
  ⟨.CTX_LATCH, 0x1080110, [(16, 0x100000), (16, 0x80)]⟩,
  ⟨.CTX_CNT, 0x1080114, [(16, 0x100000), (16, 0x80)]⟩,
  ⟨.CTX_IN, 0x1080118, [(16, 0x100000), (16, 0x80)]⟩,
  ⟨.CTX_IX, 0x108011C, [(16, 0x100000), (16, 0x80)]⟩,
  ⟨.CTX_PTR_A, 0x1080140, [(16, 0x100000), (16, 0x80), (8, 0x8)]⟩,
  ⟨.CTX_PTR_B, 0x1080144, [(16, 0x100000), (16, 0x80), (8, 0x8)]⟩,
  ⟨.COUCH_CTRL, 0x700000, []⟩,
  ⟨.COUCH_LATCH, 0x700008, []⟩,
  ⟨.COUCH_CNT, 0x70000C, []⟩,
  ⟨.COUCH_PSRC, 0x700880, []⟩,
  ⟨.SE_CTRL, 0x700900, []⟩,
  ⟨.SE_GEOM, 0x700904, []⟩,
  ⟨.SE_RWIN, 0x700908, []⟩,
  ⟨.SE_STAT, 0x70090C, []⟩,
  ⟨.SE_LATCH, 0x700910, []⟩,
  ⟨.SE_CNT_A, 0x700914, []⟩,
  ⟨.SE_CNT_B, 0x700918, []⟩,
  ⟨.SE_CNT_C, 0x70091C, []⟩,
  ⟨.SE_ROUND, 0x700920, []⟩,
  ⟨.SE_LOG, 0x700924, []⟩,
  ⟨.SE_GERR, 0x700928, []⟩,
  ⟨.COUCH_PORT, 0x700020, [(8, 0x4)]⟩,
  ⟨.SE_PORT, 0x700940, [(8, 0x4)]⟩,
  ⟨.DX_CFG, 0x700040, [(64, 0x4)]⟩,
  ⟨.XIN_CFG, 0x700140, [(64, 0x4)]⟩,
  ⟨.FRULE_A, 0x700300, [(32, 0x8)]⟩,
  ⟨.FRULE_B, 0x700304, [(32, 0x8)]⟩,
  ⟨.COUCH_SLOT, 0x700400, [(256, 0x4)]⟩,
  ⟨.COUCH_PF, 0x700800, [(16, 0x4)]⟩,
  ⟨.COUCH_PF_XOR, 0x700840, [(16, 0x4)]⟩,
  ⟨.POST_CTRL, 0x300000, []⟩,
  ⟨.POST_SWFIRE, 0x300010, []⟩,
  ⟨.POST_GRP, 0x300020, []⟩,
  ⟨.POST_GRP_ONCE, 0x300024, []⟩,
  ⟨.POST_CH, 0x300100, [(256, 0x4)]⟩,
  ⟨.POST_CHCNT, 0x300500, [(256, 0x4)]⟩,
  ⟨.POST_CELL, 0x300900, [(32, 0x4)]⟩,
  ⟨.POST_GCNT, 0x300B00, [(16, 0x4)]⟩,
  ⟨.POST_CSEL, 0x301000, [(593, 0x4)]⟩]

/-- The layout of the chapters' offset tables, part 5. -/
def layPart5 : List Lay := [
  ⟨.POST_CCNT, 0x302000, [(593, 0x4)]⟩,
  ⟨.CAP_CFG, 0x600100, [(16, 0x80)]⟩,
  ⟨.CAP_TRIG, 0x600104, [(16, 0x80)]⟩,
  ⟨.CAP_THR, 0x600108, [(16, 0x80)]⟩,
  ⟨.CAP_PRE, 0x60010C, [(16, 0x80)]⟩,
  ⟨.CAP_POST, 0x600110, [(16, 0x80)]⟩,
  ⟨.CAP_SEG, 0x600114, [(16, 0x80)]⟩,
  ⟨.CAP_AUTO, 0x600118, [(16, 0x80)]⟩,
  ⟨.CAP_TT_LO, 0x60011C, [(16, 0x80)]⟩,
  ⟨.CAP_TT_HI, 0x600120, [(16, 0x80)]⟩,
  ⟨.CAP_TPER, 0x600124, [(16, 0x80)]⟩,
  ⟨.CAP_CTRL, 0x600128, [(16, 0x80)]⟩,
  ⟨.CAP_STAT, 0x60012C, [(16, 0x80)]⟩,
  ⟨.CAP_WR, 0x600130, [(16, 0x80)]⟩,
  ⟨.CAP_RD, 0x600134, [(16, 0x80)]⟩,
  ⟨.CAP_LATCH, 0x600138, [(16, 0x80)]⟩,
  ⟨.CAP_IGN_A, 0x60013C, [(16, 0x80)]⟩,
  ⟨.CAP_IGN_B, 0x600140, [(16, 0x80)]⟩,
  ⟨.CL_CFG, 0x200000, []⟩,
  ⟨.CL_CID, 0x200004, []⟩,
  ⟨.CL_UID_LO, 0x200008, []⟩,
  ⟨.CL_UID_HI, 0x20000C, []⟩,
  ⟨.CL_STAT, 0x200010, []⟩,
  ⟨.CL_EPOCH, 0x200014, []⟩,
  ⟨.CL_LATCH, 0x200018, []⟩,
  ⟨.CL_CMD, 0x20001C, []⟩,
  ⟨.CL_AGREE, 0x200020, []⟩,
  ⟨.CL_PREP_TMO, 0x200024, []⟩,
  ⟨.CL_MTMO, 0x200028, []⟩,
  ⟨.CL_EXCL_LO, 0x200030, []⟩,
  ⟨.CL_EXCL_HI, 0x200034, []⟩,
  ⟨.CL_MEMB_LO, 0x200038, []⟩,
  ⟨.CL_MEMB_HI, 0x20003C, []⟩,
  ⟨.CL_SHOT_CTRL, 0x200040, []⟩,
  ⟨.CL_SHOT_PER, 0x200044, []⟩,
  ⟨.CL_SHOT_NEXT_LO, 0x200048, []⟩,
  ⟨.CL_SHOT_NEXT_HI, 0x20004C, []⟩,
  ⟨.CHN_EYE_CTRL, 0x200060, []⟩,
  ⟨.CHN_EYE_RES, 0x200064, []⟩,
  ⟨.CHN_EYE_STAT, 0x200068, []⟩]

/-- The layout of the chapters' offset tables, part 6. -/
def layPart6 : List Lay := [
  ⟨.CL_BARPART_LO, 0x200080, [(16, 0x8)]⟩,
  ⟨.CL_BARPART_HI, 0x200084, [(16, 0x8)]⟩,
  ⟨.CHN_PORT_CFG, 0x200100, [(8, 0x40)]⟩,
  ⟨.CHN_PORT_STAT, 0x200104, [(8, 0x40)]⟩,
  ⟨.CHN_PORT_LATCH, 0x200108, [(8, 0x40)]⟩,
  ⟨.CHN_PORT_CNT_A, 0x20010C, [(8, 0x40)]⟩,
  ⟨.CHN_PORT_CNT_B, 0x200110, [(8, 0x40)]⟩,
  ⟨.CHN_PORT_SKEW, 0x200114, [(8, 0x40)]⟩,
  ⟨.CHN_PEER_UID_LO, 0x200118, [(8, 0x40)]⟩,
  ⟨.CHN_PEER_UID_HI, 0x20011C, [(8, 0x40)]⟩,
  ⟨.MEM_ECC_CNT, 0x100, [(7, 0x4)]⟩,
  ⟨.MEM_ECC_LATCH, 0x120, []⟩,
  ⟨.MEM_UE_ADDR, 0x124, []⟩,
  ⟨.MEM_SCRUB, 0x128, []⟩,
  ⟨.MEM_DWIN, 0x130, []⟩,
  ⟨.MEM_DDR_STAT, 0x134, []⟩,
  ⟨.MEM_DDR_CNT, 0x138, []⟩,
  ⟨.REAM_STAT, 0x140, []⟩,
  ⟨.REAM_CNT, 0x144, []⟩,
  ⟨.BUS_ERR_STAT, 0x200, []⟩,
  ⟨.BUS_ERR_ADDR, 0x204, []⟩,
  ⟨.BUS_CNT, 0x208, []⟩,
  ⟨.BUS_LOCK_ADDR, 0x20C, []⟩,
  ⟨.MBX_CTRL, 0x3000000, []⟩,
  ⟨.MBX_STAT, 0x3000004, []⟩,
  ⟨.MBX_REQ, 0x3001000, [(1024, 0x4)]⟩,
  ⟨.MBX_RSP, 0x3002000, [(1024, 0x4)]⟩,
  ⟨.ETH_STAT, 0x3010100, [(2, 0x40)]⟩,
  ⟨.ETH_TXR_LO, 0x3010104, [(2, 0x40)]⟩,
  ⟨.ETH_TXR_HI, 0x3010108, [(2, 0x40)]⟩,
  ⟨.ETH_TXR_SIZE, 0x301010C, [(2, 0x40)]⟩,
  ⟨.ETH_TXR_WR, 0x3010110, [(2, 0x40)]⟩,
  ⟨.ETH_TXR_RD, 0x3010114, [(2, 0x40)]⟩,
  ⟨.ETH_TXCNT, 0x3010118, [(2, 0x40)]⟩,
  ⟨.PCI_LINK, 0x3020000, []⟩,
  ⟨.PCI_NOTIFY_EN, 0x3020004, []⟩,
  ⟨.MSIX_TABLE, 0x3021000, [(1024, 0x4)]⟩,
  ⟨.MSIX_PBA, 0x3023000, [(8, 0x4)]⟩,
  ⟨.DMA_HOST_LO, 0x3020100, [(4, 0x20)]⟩,
  ⟨.DMA_HOST_HI, 0x3020104, [(4, 0x20)]⟩]

/-- The layout of the chapters' offset tables, part 7. -/
def layPart7 : List Lay := [
  ⟨.DMA_DEV, 0x3020108, [(4, 0x20)]⟩,
  ⟨.DMA_LEN, 0x302010C, [(4, 0x20)]⟩,
  ⟨.DMA_CTRL, 0x3020110, [(4, 0x20)]⟩,
  ⟨.DMA_STAT, 0x3020114, [(4, 0x20)]⟩,
  ⟨.PMB_CFG, 0x3030000, []⟩,
  ⟨.PMB_CMD, 0x3030004, []⟩,
  ⟨.PMB_STAT, 0x3030008, []⟩,
  ⟨.PMB_LATCH, 0x303000C, []⟩,
  ⟨.PMB_ENT_A, 0x3030100, [(16, 0x10)]⟩,
  ⟨.PMB_ENT_B, 0x3030104, [(16, 0x10)]⟩,
  ⟨.PMB_ENT_STAT, 0x3030108, [(16, 0x10)]⟩,
  ⟨.PMB_ENT_MEAS, 0x303010C, [(16, 0x10)]⟩,
  ⟨.SEC_STAT, 0x3040000, []⟩,
  ⟨.SEC_SVN, 0x3040004, []⟩,
  ⟨.SEC_CNT, 0x3040008, []⟩,
  ⟨.SZ_CTRL, 0x500000, []⟩,
  ⟨.SZ_Q_CFG, 0x500100, [(16, 0x20)]⟩,
  ⟨.SZ_Q_CMD, 0x500104, [(16, 0x20)]⟩,
  ⟨.SZ_Q_STAT, 0x500108, [(16, 0x20)]⟩,
  ⟨.SZ_Q_TEMP, 0x50010C, [(16, 0x20)]⟩,
  ⟨.SZ_Q_LATCH, 0x500110, [(16, 0x20)]⟩,
  ⟨.SZ_Q_REJ, 0x500114, [(16, 0x20)]⟩,
  ⟨.SZ_Q_CNT, 0x500118, [(16, 0x20)]⟩,
  ⟨.PWR_CTRL, 0x400000, []⟩,
  ⟨.PWR_STAT, 0x400004, []⟩,
  ⟨.PWR_LATCH, 0x400008, []⟩,
  ⟨.PWR_CNT, 0x40000C, []⟩,
  ⟨.PWR_RST_CAUSE, 0x400010, []⟩,
  ⟨.PWR_SHOTCAP, 0x400040, []⟩,
  ⟨.PWR_SHOTEFF, 0x400044, []⟩,
  ⟨.PWR_STOP, 0x400048, []⟩,
  ⟨.THM_CFG, 0x400100, []⟩,
  ⟨.THM_STAT, 0x400104, []⟩,
  ⟨.THM_LATCH, 0x400108, []⟩,
  ⟨.THM_CNT, 0x40010C, []⟩,
  ⟨.PWR_DOM, 0x400020, [(5, 0x4)]⟩,
  ⟨.THM_ZONE, 0x400140, [(16, 0x4)]⟩,
  ⟨.LOFT_WAKE, 0x420010, []⟩,
  ⟨.LOFT_WAKE_SRC, 0x420014, []⟩,
  ⟨.LOFT_SCAN, 0x420100, [(64, 0x4)]⟩]

/-- The layout of the chapters' offset tables, part 8. -/
def layPart8 : List Lay := [
  ⟨.LOFT_DATA, 0x420200, [(64, 0x4)]⟩,
  ⟨.LOFT_FILT, 0x420300, [(16, 0x4)]⟩,
  ⟨.LOFT_FOUT, 0x420340, [(16, 0x4)]⟩,
  ⟨.LOFT_DEC_A, 0x420400, [(8, 0x8)]⟩,
  ⟨.LOFT_DEC_B, 0x420404, [(8, 0x8)]⟩,
  ⟨.QERR_STAT, 0x10F0000, [(16, 0x100000)]⟩,
  ⟨.QERR_LATCH, 0x10F0004, [(16, 0x100000)]⟩,
  ⟨.QERR_CNT, 0x10F0008, [(16, 0x100000)]⟩]

/-- The layout of every register but the Deckle window registers. -/
def layout : List Lay :=
  layPart0 ++ layPart1 ++ layPart2 ++ layPart3 ++ layPart4 ++ layPart5 ++ layPart6 ++ layPart7 ++ layPart8

/-- The indices of the register at distance `d` from the first of a family with dimensions `dims`, or none. -/
def indexIn : List (Nat × Nat) → Nat → Option (List Nat)
  | [], d => if d = 0 then some [] else none
  | (c, s) :: r, d => if d / s < c then (indexIn r (d % s)).map (fun l => d / s :: l) else none

/-- A register name with the list of its indices. -/
def Reg.of (n : RegName) (l : List Nat) : Reg := ⟨n, l.getD 0 0, l.getD 1 0, l.getD 2 0⟩

/-- The register of one family at a byte offset, if it has one there. -/
def Lay.at (l : Lay) (a : Nat) : Option Reg :=
  if l.base ≤ a then (indexIn l.dims (a - l.base)).map (Reg.of l.name) else none

/-- Where the Deckle windows' register sets lie (chapter 06): first byte, dimensions, and how the global window number is made
of the indices: `ofs + m * first + second`. -/
structure WinLay where
  base : Nat
  dims : List (Nat × Nat)
  ofs : Nat
  m : Nat
deriving DecidableEq, Repr

/-- Flux, bias, read-out and supply windows, in the order of their numbers (chapter 06). -/
def winLayout : List WinLay := [
  ⟨0x1040180, [(16, 0x100000), (24, 0x200)], 0, 24⟩,
  ⟨0x1043C20, [(16, 0x100000), (2, 0x40)], 384, 2⟩,
  ⟨0x1063F00, [(16, 0x100000)], 416, 1⟩,
  ⟨0x410000, [(24, 0x10)], 432, 1⟩]

/-- The register of a Deckle window set at byte `d` of the set: CFG, THR, CNT. -/
def winReg (w d : Nat) : Option Reg :=
  match d with
  | 0 => some ⟨.DK_WIN_CFG, w, 0, 0⟩
  | 4 => some ⟨.DK_WIN_THR, w, 0, 0⟩
  | 8 => some ⟨.DK_WIN_CNT, w, 0, 0⟩
  | _ => none

/-- The Deckle window register of one placement at a byte offset. -/
def WinLay.at (l : WinLay) (a : Nat) : Option Reg :=
  if l.base ≤ a then
    [0, 4, 8].findSome? (fun o =>
      if o ≤ a - l.base then
        match indexIn l.dims (a - l.base - o) with
        | some [x] => winReg (l.ofs + l.m * x) o
        | some [x, y] => winReg (l.ofs + l.m * x + y) o
        | _ => none
      else none)
  else none

/-- The first byte of the register set of a Deckle window (chapter 06). -/
def winBase (w : Nat) : Nat :=
  if w < 384 then 0x1040180 + w / 24 * 0x100000 + w % 24 * 0x200
  else if w < 416 then 0x1043C20 + (w - 384) / 2 * 0x100000 + (w - 384) % 2 * 0x40
  else if w < 432 then 0x1063F00 + (w - 416) * 0x100000
  else 0x410000 + (w - 432) * 0x10

/-- The register at a byte offset of BAR0, in its normal view. -/
def regAtNormal (a : Nat) : Option Reg :=
  match winLayout.findSome? (fun l => l.at a) with
  | some r => some r
  | none => layout.findSome? (fun l => l.at a)

/-- The four views of a register block (R11). -/
inductive View where
  | normal | toggle | set | clear
deriving DecidableEq, Repr

/-- The view a byte offset of BAR0 lies in (R11): the 16 KiB quarter of its 64 KiB block. -/
def viewAt (a : Nat) : View :=
  match a / 0x4000 % 4 with
  | 0 => .normal
  | 1 => .toggle
  | 2 => .set
  | _ => .clear

/-- The same place in the normal view. -/
def normalOffset (a : Nat) : Nat := a - a / 0x4000 % 4 * 0x4000

/-- The register a byte offset of BAR0 reaches, through any view. -/
def regAt (a : Nat) : Option Reg := regAtNormal (normalOffset a)

/-- The byte offset of a register in the normal view. -/
def regAddr (r : Reg) : Nat :=
  match r.name with
  | .DK_WIN_CFG => winBase r.i
  | .DK_WIN_THR => winBase r.i + 4
  | .DK_WIN_CNT => winBase r.i + 8
  | n =>
    match layout.find? (fun l => l.name = n) with
    | some l => l.base + ((l.dims.zip [r.i, r.j, r.k]).map (fun x => x.1.2 * x.2)).sum
    | none => 0

end Sys2Proof.Machine
end

