-- ==== Sys2Proof/Machine/Bus.lean ====
section
/-! DEFINITION. How a register access ends (R370 to R377): its codes, the record of a failed access, the power domain a register
lies in, and the frame in which a register write with behaviour of its own is carried out. -/

namespace Sys2Proof.Machine

/-- The codes of R370 that an access can fail with. -/
inductive Err where
  | refused | segBusy | progBusy | narrow | misaligned | noObject | uncorrectable | accessDenied | config | busy | type | auth
  | readOnly | poweredOff | stageFull
deriving DecidableEq, Repr

/-- The code of R370. -/
def Err.code : Err → Nat
  | .refused => 1
  | .segBusy => 2
  | .progBusy => 3
  | .narrow => 4
  | .misaligned => 5
  | .noObject => 6
  | .uncorrectable => 7
  | .accessDenied => 8
  | .config => 9
  | .busy => 10
  | .type => 11
  | .auth => 12
  | .readOnly => 13
  | .poweredOff => 14
  | .stageFull => 15

/-- The number of a master in BUS_ERR_STAT.MASTER (R374, R376). -/
def masterCode : Master → Nat
  | .pcie => 0
  | .core n => 1 + n
  | .dma => 5
  | .sizing => 6

/-- The SIZE code of an access of so many bits (R376). -/
def sizeCode (size : Nat) : Nat :=
  if size = 8 then 0 else if size = 16 then 1 else if size = 32 then 2 else if size = 64 then 3 else 4

/-- An MSI-X message of a vector (R378): sent while its table entry is not masked, else held pending. -/
def msix (s : State) (v : Nat) : State :=
  if bitF s (F.MSIX_TABLE_DATA (4 * v + 3)) 0 then setBitF s (F.MSIX_PBA_PENDING (v / 32)) (v % 32) true
  else emit s (.msix v)

/-- A failed access is counted and, while no failure is recorded, recorded and signalled (R376). -/
def busError (s : State) (m : Master) (write : Bool) (size : Nat) (bar2 : Bool) (addr : Nat) (e : Err) : State :=
  let s := incF s F.BUS_CNT_ERR
  let s := if flagF s F.BUS_ERR_STAT_VALID then s else
    let s := setF (setB s F.BUS_ERR_STAT_VALID true) F.BUS_ERR_STAT_MASTER (masterCode m)
    let s := setF (setB s F.BUS_ERR_STAT_WRITE write) F.BUS_ERR_STAT_SIZE (sizeCode size)
    let s := setF s F.BUS_ERR_STAT_CODE e.code
    msix (setF (setB s F.BUS_ERR_ADDR_BAR2 bar2) F.BUS_ERR_ADDR_ADDR addr) 33
  emit s (.response m e.code)

/-- The domain of the registers of a Deckle window (R40, R436): its quire's block, or none for a rail window. -/
def winDomain (w : Nat) : Option Nat :=
  if w < 384 then some (5 * (w / 24) + 1)
  else if w < 416 then some (5 * ((w - 384) / 2) + 1)
  else if w < 432 then some (5 * (w - 416) + 2)
  else none

/-- The switched power domain of the block that holds a register (R436, R437); none: the always-on domain or the management
complex that makes the access. -/
def domainOf (r : Reg) : Option Nat :=
  match r.name with
  | .NOC_ARB => some 131
  | .TB_REF_STAT | .TB_TIME_LO | .TB_TIME_HI | .TB_TSTAT | .TB_TLATCH | .TB_OFFSET | .TB_PHASE | .TB_EVCNT
  | .TB_WCT_NS | .TB_WCT_SEC_LO | .TB_WCT_SEC_HI | .TB_WCT_DT_LO | .TB_WCT_DT_HI | .TB_WCT_STAT | .TB_WCT_OFFSET
  | .TB_WCT_RATE | .TB_LAUNCH_CNT | .TB_PORT_DELAY | .TB_PORT_ASYM => some 133
  | .SEQ_CTRL | .SEQ_STAT | .SEQ_LAH | .SEQ_SYNC | .SEQ_SYNC_TMO | .SEQ_EVFLAG | .SEQ_CNT_LATE | .SEQ_CNT_SEG
  | .SEQ_CNT_STALL | .SEQ_BAR | .STRM_CTRL | .STRM_RING | .STRM_SRC_LO | .STRM_SRC_HI | .STRM_SRC_LEN
  | .STRM_LEVEL | .STRM_STAT | .STRM_CNT | .THR_CTRL | .THR_PC | .THR_WIN | .THR_STAT | .THR_LATCH | .THR_TT_LO
  | .THR_TT_HI | .THR_START_LO | .THR_START_HI | .THR_CNT | .THR_SUB | .SEG_W0 | .SEG_W1 | .SEG_W2 | .SEG_W3 => some (5 * r.i)
  | .TONE_SPARE_STAT | .TONE_SPARE_CTRL | .TONE_SPARE_CNT | .TONE_CTRL | .TONE_FTW_LO | .TONE_FTW_HI | .TONE_AT_LO
  | .TONE_AT_HI | .TONE_FRAME | .TONE_GAIN | .TONE_STAT | .TONE_LATCH | .TONE_CNT | .DRV_CFG | .DRV_DELAY
  | .DRV_STAT | .DRV_LATCH | .DRV_CNT | .DRV_MUTE | .DRV_CW | .DRV_PD_CTRL | .DRV_PD_COEF | .DRV_QSTAT | .FLX_CFG
  | .FLX_LADDER | .FLX_LADDER_NOW | .FLX_SLOW_RAMP | .FLX_STAT | .FLX_LATCH | .FLX_CNT | .FLX_MUTE | .FLX_XGAIN
  | .FLX_PRESS_CTRL | .FLX_IIR_C0 | .FLX_IIR_C1 | .FLX_IIR_D | .FLX_FIR | .BIAS_CFG | .BIAS_SET | .BIAS_NOW
  | .BIAS_RAMP | .BIAS_STAT | .BIAS_LATCH | .BIAS_SEQ | .DK_QMAP | .QERR_STAT | .QERR_LATCH | .QERR_CNT => some (5 * r.i + 1)
  | .DK_WIN_CFG | .DK_WIN_THR | .DK_WIN_CNT => winDomain r.i
  | .HB_CTRL | .HB_STAT | .HB_LATCH | .HB_CNT_A | .HB_CNT_B | .HB_RQ_CFG | .HB_RQ_CREDIT | .HB_RQ_COUNT
  | .HB_RQ_PEAK | .HB_RQ_STAT | .HB_RQ_CNT | .HB_RQ_DST_LO | .HB_RQ_DST_HI | .HB_RQ_DST_SIZE | .HB_RQ_DST_WR
  | .HB_RQ_DST_RD | .HB_RQ_HEAD | .HB_RQ_POP | .HB_SPARE_STAT | .HB_SPARE_CTRL | .HB_SPARE_CNT | .HB_RQ_DATA
  | .HB_CELL_CFG | .HB_CELL_FTW_LO | .HB_CELL_FTW_HI | .HB_CELL_PHASE | .HB_DISC_CFG | .HB_DISC_ROT
  | .HB_DISC_OFS_I | .HB_DISC_OFS_Q | .HB_DISC_THR0 | .HB_DISC_THR1 | .HB_CELL_STAT | .HB_CELL_LAST_I
  | .HB_CELL_LAST_Q | .HB_CELL_LATCH | .HB_CELL_CNT | .WGT_W0 | .WGT_W1 | .WGT_W2 | .WGT_W3 => some (5 * r.i + 2)
  | .BT_CTRL | .BT_STAT | .BT_ESTAT | .BT_LATCH | .BT_CNT | .BT_OUT | .CTX_CTRL | .CTX_PC | .CTX_WIN | .CTX_STAT
  | .CTX_LATCH | .CTX_CNT | .CTX_IN | .CTX_IX | .CTX_PTR_A | .CTX_PTR_B => some (5 * r.i + 3)
  | .COUCH_CTRL | .COUCH_LATCH | .COUCH_CNT | .COUCH_PSRC | .COUCH_PORT | .DX_CFG | .XIN_CFG | .FRULE_A | .FRULE_B
  | .COUCH_SLOT | .COUCH_PF | .COUCH_PF_XOR => some 129
  | .SE_CTRL | .SE_GEOM | .SE_RWIN | .SE_STAT | .SE_LATCH | .SE_CNT_A | .SE_CNT_B | .SE_CNT_C | .SE_ROUND
  | .SE_LOG | .SE_GERR | .SE_PORT => some 130
  | .CAP_CFG | .CAP_TRIG | .CAP_THR | .CAP_PRE | .CAP_POST | .CAP_SEG | .CAP_AUTO | .CAP_TT_LO | .CAP_TT_HI
  | .CAP_TPER | .CAP_CTRL | .CAP_STAT | .CAP_WR | .CAP_RD | .CAP_LATCH | .CAP_IGN_A | .CAP_IGN_B => some (112 + 3 * (r.i / 4) + 2)
  | .CHN_PORT_CFG | .CHN_PORT_STAT | .CHN_PORT_LATCH | .CHN_PORT_CNT_A | .CHN_PORT_CNT_B | .CHN_PORT_SKEW
  | .CHN_PEER_UID_LO | .CHN_PEER_UID_HI => some (134 + r.i)
  | .MEM_DWIN | .MEM_DDR_STAT | .MEM_DDR_CNT => some 132
  | .ETH_STAT | .ETH_TXR_LO | .ETH_TXR_HI | .ETH_TXR_SIZE | .ETH_TXR_WR | .ETH_TXR_RD | .ETH_TXCNT => some 143
  | .PCI_LINK | .PCI_NOTIFY_EN | .MSIX_TABLE | .MSIX_PBA | .DMA_HOST_LO | .DMA_HOST_HI | .DMA_DEV | .DMA_LEN
  | .DMA_CTRL | .DMA_STAT => some 142
  | _ => none

/-- A power domain is on (R437). -/
def domainOn (s : State) (d : Nat) : Bool := bitF s (F.PWR_DOM_ON (d / 32)) (d % 32)

/-- The block that holds a register is powered (R375), and so is the network that accesses cross (R436): in reset, in Dormant and after
a trip no access reaches a register. -/
def regPowered (s : State) (r : Reg) : Bool :=
  match domainOf r with
  | some d => domainOn s d
  | none => domainOn s 131

/-- The region a switched power domain lies in, if any (R436). -/
def domainRegion (d : Nat) : Option Nat :=
  if d < 80 then some (d / 20) else if d < 112 then some ((d - 80) / 8) else if d < 124 then some ((d - 112) / 3) else none

/-- Traffic to a power domain stalls: its region's Vatman or router slice is down (R25, R463). -/
def domainStalls (s : State) (d : Nat) : Bool :=
  match domainRegion d with
  | some g => !regionUp s g
  | none => false

/-- An access to a register stalls. -/
def accessStalls (s : State) (r : Reg) : Bool :=
  match domainOf r with
  | some d => domainStalls s d
  | none => false

/-- A command that accesses a region that is down waits for it (R25). -/
def holdAccess (s : State) (c : Instr) : State := { s with store := { s.store with stalled := s.store.stalled ++ [c] } }

/-- A command that accesses a register: carried out, or held while its region is down. -/
def access (c : Instr) (r : Reg) (s t : State) : State := if accessStalls s r then holdAccess s c else t

/-- A write of a register whose rule may end it with any code (R370): POWERED_OFF where its block is off. -/
def regWriteE (m : Master) (r : Reg) (s : State) (effect : State → Except Err State) : State :=
  if regPowered s r then
    match effect s with
    | .ok s' => emit s' (.response m 0)
    | .error e => busError s m true 32 false (regAddr r) e
  else busError s m true 32 false (regAddr r) .poweredOff

/-- A write of a register with behaviour of its own: POWERED_OFF where its block is off; REFUSED where its rule refuses it (`none`),
which has no effect; otherwise its effect (R375, R376). -/
def regWrite (m : Master) (r : Reg) (s : State) (effect : State → Option State) : State :=
  if regPowered s r then
    match effect s with
    | some s' => emit s' (.response m 0)
    | none => busError s m true 32 false (regAddr r) .refused
  else busError s m true 32 false (regAddr r) .poweredOff

/-- A row that writes one register: carried out, or held while the register's region is down (R25). -/
def rowWrite (c : Instr) (m : Master) (r : Reg) (s : State) (effect : State → Option State) : State :=
  access c r s (regWrite m r s effect)

/-- Such a row whose rule may end it with any code. -/
def rowWriteE (c : Instr) (m : Master) (r : Reg) (s : State) (effect : State → Except Err State) : State :=
  access c r s (regWriteE m r s effect)

end Sys2Proof.Machine
end

