-- ==== Sys2Proof/Machine/PortOps.lean ====
section
/-! DEFINITION. What a chain port holds (R329, R330): accessors, its state, its receiver's count of failed cells, and the queue of control
cells of its transmitter. -/

namespace Sys2Proof.Machine

/-- Chain port p. -/
def portOf (s : State) (p : Nat) : PortLink := tget s.chain.ports PortLink.init p

/-- The state with a chain port. -/
def setPort (s : State) (p : Nat) (l : PortLink) : State := { s with chain := { s.chain with ports := tset s.chain.ports p l } }

/-- Port states (R329). -/
def psOff : Nat := 0
def psTrain : Nat := 1
def psAlign : Nat := 2
def psRun : Nat := 3
def psIdle : Nat := 4
def psDeep : Nat := 5

/-- The state of a port (R329). -/
def portState (s : State) (p : Nat) : Nat := getF s (F.CHN_PORT_STAT_STATE p)

/-- A port is in Run. -/
def portRuns (s : State) (p : Nat) : Bool := portState s p == psRun

/-- A lane's value of a pair. -/
def laneOf {α : Type} (x : α × α) (lane : Nat) : α := if lane = 0 then x.1 else x.2

/-- A pair with a lane's value replaced. -/
def withLane {α : Type} (x : α × α) (lane : Nat) (v : α) : α × α := if lane = 0 then (v, x.2) else (x.1, v)

/-- A cell passes its CRC on a lane: failures are consecutive no more (R330). -/
def cellPassed (s : State) (p lane : Nat) : State :=
  setPort s p { portOf s p with fails := withLane (portOf s p).fails lane 0 }

/-- A control cell joins the queue of a port's transmitter (R319). -/
def sendControl (s : State) (p : Nat) (c : Sys2Proof.Ctrl) : State :=
  setPort s p { portOf s p with ctrl := (portOf s p).ctrl ++ [(s.now, c)] }

/-- The ports a list of numbers names that satisfy a condition each send a control cell. -/
def sendControls (s : State) (c : Sys2Proof.Ctrl) (ok : Nat → Bool) : State :=
  (List.range 8).foldl (fun s p => if ok p then sendControl s p c else s) s

/-- A child port in Run (R338). -/
def isChild (s : State) (p : Nat) : Bool := flagF s (F.CHN_PORT_STAT_CHILD p) && portRuns s p

/-- The parent port (TB_TSTAT). -/
def isParent (s : State) (p : Nat) : Bool := flagF s F.TB_TSTAT_PARENT_VALID && getF s F.TB_TSTAT_PARENT == p

/-- A control cell goes down the tree: to every child port (R327). -/
def sendDown (s : State) (c : Sys2Proof.Ctrl) : State := sendControls s c (isChild s)

/-- A control cell goes up the tree: to the parent port (R327). -/
def sendUp (s : State) (c : Sys2Proof.Ctrl) : State := sendControls s c (fun p => isParent s p && portRuns s p)

/-- A broadcast of this device down the tree. -/
def broadcast (s : State) (m : Sys2Proof.Msg) : State := sendDown s ⟨getF s F.CL_STAT_DEVNUM, none, m⟩

end Sys2Proof.Machine
end

