-- ==== Sys2Proof/Machine/Quire.lean ====
section
/-! DEFINITION. Accessors of what a quire holds (threads, queues, players, tones, outputs, flux channels, bias sources, cells,
contexts), and when a quire is idle (R128). -/

namespace Sys2Proof.Machine

/-! ### Accessors -/

/-- Thread t of quire q. -/
def thread (s : State) (q t : Nat) : Thread := tget s.seq.threads Thread.init (q, t)

/-- The state with a thread. -/
def setThread (s : State) (q t : Nat) (v : Thread) : State := { s with seq := { s.seq with threads := tset s.seq.threads (q, t) v } }

/-- The playout queue of a channel, oldest entry first. -/
def queueOf (s : State) (c : Chan) : List Entry := tget s.seq.queues [] c

/-- The state with a playout queue. -/
def setQueue (s : State) (c : Chan) (l : List Entry) : State := { s with seq := { s.seq with queues := tset s.seq.queues c l } }

/-- The envelope player of a channel. -/
def playerOf (s : State) (c : Chan) : Player := tget s.seq.players Player.init c

/-- The state with an envelope player. -/
def setPlayer (s : State) (c : Chan) (p : Player) : State := { s with seq := { s.seq with players := tset s.seq.players c p } }

/-- Stream n of quire q. -/
def streamOf (s : State) (q n : Nat) : Stream := tget s.seq.streams Stream.init (q, n)

/-- The state with a stream. -/
def setStream (s : State) (q n : Nat) (v : Stream) : State := { s with seq := { s.seq with streams := tset s.seq.streams (q, n) v } }

/-- Tone c of quire q. -/
def toneOf (s : State) (q c : Nat) : Tone := tget s.out.tones Tone.init (q, c)

/-- The state with a tone. -/
def setTone (s : State) (q c : Nat) (v : Tone) : State := { s with out := { s.out with tones := tset s.out.tones (q, c) v } }

/-- The shadow of tone c of quire q (R140). -/
def shadowOf (s : State) (q c : Nat) : Shadow := tget s.out.shadows (Shadow.init c) (q, c)

/-- Every change that reaches a tone reaches its shadow in the same tick (R140). -/
def keepShadow (s : State) (q c : Nat) : State :=
  let t := toneOf s q c
  let v : Shadow := ⟨t.ftw, t.frame, getF s (F.TONE_CTRL_SLOT q c), flagF s (F.TONE_CTRL_PF_LATCH q c), flagF s (F.TONE_CTRL_PF_EN q c),
    getF s (F.TONE_GAIN_ACTIVE q c)⟩
  { s with out := { s.out with shadows := tset s.out.shadows (q, c) v } }

/-- Drive or probe output o of quire q. -/
def outputOf (s : State) (q o : Nat) : Output := tget s.out.outs Output.init (q, o)

/-- The state with an output. -/
def setOutput (s : State) (q o : Nat) (v : Output) : State := { s with out := { s.out with outs := tset s.out.outs (q, o) v } }

/-- Flux channel i of quire q. -/
def fluxOf (s : State) (q i : Nat) : Flux := tget s.out.flux Flux.init (q, i)

/-- The state with a flux channel. -/
def setFlux (s : State) (q i : Nat) (v : Flux) : State := { s with out := { s.out with flux := tset s.out.flux (q, i) v } }

/-- Bias source b of quire q. -/
def biasOf (s : State) (q b : Nat) : Bias := tget s.out.bias Bias.init (q, b)

/-- The state with a bias source. -/
def setBias (s : State) (q b : Nat) (v : Bias) : State := { s with out := { s.out with bias := tset s.out.bias (q, b) v } }

/-- Demodulation cell j of quire q. -/
def cellOf (s : State) (q j : Nat) : Cell := tget s.head.cells Cell.init (q, j)

/-- The state with a demodulation cell. -/
def setCell (s : State) (q j : Nat) (v : Cell) : State := { s with head := { s.head with cells := tset s.head.cells (q, j) v } }

/-- Every change that reaches a cell reaches its shadow (R219). -/
def keepCellShadow (s : State) (q j : Nat) : State :=
  let c := cellOf s q j
  let v : CellShadow := ⟨c.ftw, c.phase, flagF s (F.HB_CELL_CFG_LINK q j), getF s (F.HB_CELL_CFG_PTONE q j), c.disc⟩
  { s with head := { s.head with shadows := tset s.head.shadows (q, j) v } }

/-- Context c of Beater engine q. -/
def ctxOf (s : State) (q c : Nat) : Ctx := tget s.beater.ctxs Ctx.init (q, c)

/-- The state with a Beater context. -/
def setCtx (s : State) (q c : Nat) (v : Ctx) : State := { s with beater := { s.beater with ctxs := tset s.beater.ctxs (q, c) v } }

/-- Deckle window w. -/
def windowOf (s : State) (w : Nat) : Window := tget s.deckle.wins (Window.init w) w

/-- The state with a Deckle window. -/
def setWindow (s : State) (w : Nat) (v : Window) : State := { s with deckle := { s.deckle with wins := tset s.deckle.wins w v } }

/-! ### Thread states and idleness -/

/-- Thread and context states (R78, R227). -/
def stIdle : Nat := 0
def stRun : Nat := 1
def stStall : Nat := 2
def stWait : Nat := 3
def stDone : Nat := 4
def stFault : Nat := 5

/-- The state of a thread (R78). -/
def thrState (s : State) (q t : Nat) : Nat := getF s (F.THR_STAT_STATE q t)

/-- A state is RUN, STALL or WAIT. -/
def isActive (st : Nat) : Bool := st == stRun || st == stStall || st == stWait

/-- Some thread of the quire is in RUN, STALL or WAIT. -/
def anyThreadActive (s : State) (q : Nat) : Bool := (List.range 16).any (fun t => isActive (thrState s q t))

/-- Every playout queue of the quire is empty. -/
def queuesEmpty (s : State) (q : Nat) : Bool := s.seq.queues.all (fun x => x.1.q != q || (queueOf s x.1).isEmpty)

/-- No segment of the quire is in a player. -/
def playersIdle (s : State) (q : Nat) : Bool := s.seq.players.all (fun x => x.1.q != q || !(playerOf s x.1).active)

/-- A quire is idle (R128): no thread in RUN, STALL or WAIT, every playout queue empty, no segment active. -/
def quireIdle (s : State) (q : Nat) : Bool := !anyThreadActive s q && queuesEmpty s q && playersIdle s q

/-- The power state (R438). -/
def powerState (s : State) : Nat := getF s F.PWR_STAT_STATE

/-- A quire is being restored (R24). -/
def restoring (s : State) (q : Nat) : Bool := (tget s.power.restore none q).isSome

/-- The restore of a quire began in this very tick: a cell's fault flag yields to it, and the cell's self-check decides after it (R26). -/
def resetNow (s : State) (q : Nat) : Bool := tget s.power.restore none q == some s.now

/-- Every quire is idle. -/
def allIdle (s : State) : Bool := (List.range 16).all (quireIdle s)

/-- A rule that accepts a write only while the quire is idle: refused otherwise (R129, R166). -/
def whenIdle (q : Nat) (f : State → State) (s : State) : Option State := if quireIdle s q then some (f s) else none

/-- The LPDDR6 installed, in bytes (MEM_DDR_STAT.CAP). -/
def ddrBytes (s : State) : Nat := getF s F.MEM_DDR_STAT_CAP * 2 ^ 30

end Sys2Proof.Machine
end

