-- ==== Sys2Proof/Machine/Outputs.lean ====
section
/-! DEFINITION. Mutes of the drive, probe and flux outputs (R135, R136, R168) and continuous-wave amplitude (R137, R139): one
operation each brings an output's muted state in line with its causes. -/

namespace Sys2Proof.Machine

/-! ### Continuous-wave amplitude -/

/-- The CW amplitude of an output at a tick (R139): linear over the ramp. -/
def cwAmpAt (o : Output) (tick : Nat) : Int :=
  match o.ramp with
  | none => o.cwAmp
  | some r => if r.start + r.len ≤ tick then r.target else r.source + (r.target - r.source) * (tick - r.start : Nat) / (r.len : Int)

/-- A CW ramp begins now from an amplitude to a target over so many ticks; no length: a step (R139). -/
def cwRampFrom (s : State) (q o : Nat) (source target : Int) (len : Nat) : State :=
  let v := outputOf s q o
  if len = 0 then setB (setOutput s q o { v with cwAmp := target, ramp := none }) (F.DRV_STAT_CW_RAMPING q o) false
  else setB (setOutput s q o { v with cwAmp := source, ramp := some ⟨s.now, len, source, target⟩ }) (F.DRV_STAT_CW_RAMPING q o) true

/-! ### Drive and probe outputs -/

/-- Some mute cause of R135 is present on a drive or probe output. -/
def drvCause (s : State) (q o : Nat) : Bool :=
  flagF s (F.DRV_STAT_STOP q o) || flagF s (F.DRV_STAT_SETTLING q o) || (outputOf s q o).swMute || flagF s (F.DRV_STAT_TRIP q o)
    || flagF s (F.DRV_STAT_FENCE q o) || flagF s (F.DRV_STAT_RESTORE q o) || (outputOf s q o).dead || s.time.stepMute

/-- A drive or probe output enters the muted state: counted, latched, its CW amplitude cut (R136, R139). -/
def drvMuteEnter (s : State) (q o onset : Nat) : State :=
  let s := setOutput s q o { outputOf s q o with onset := onset, cwAmp := 0, ramp := none }
  let s := setB (setB s (F.DRV_STAT_MUTED q o) true) (F.DRV_STAT_CW_RAMPING q o) false
  latch (incF s (F.DRV_CNT_MUTES q o)) (F.DRV_LATCH_MUTE q o) (quireEvent q 8)

/-- What is in the pipeline of an output in CW mode carries no amplitude any more: a ramp starts from zero (R139). -/
def cwFlush (v : Output) : Output :=
  if v.wave.any (fun x => x.cw.isSome) then
    { v with wave := v.wave.map (fun x => { x with cw := x.cw.map (fun a => (0, a.2)) }), codes := [] }
  else v

/-- A drive or probe output leaves the muted state and resumes its timeline; its CW amplitude climbs from zero, whatever the mode (R136,
R139). -/
def drvMuteLeave (s : State) (q o onset : Nat) : State :=
  let s := setB (setOutput s q o (cwFlush { outputOf s q o with onset := onset })) (F.DRV_STAT_MUTED q o) false
  cwRampFrom s q o 0 (getS s (F.DRV_CW_AMP q o)) (getF s (F.DRV_CW_RAMP q o))

/-- The muted state of a drive or probe output follows its causes; the ball follows at tick `onset`. -/
def drvUpdate (s : State) (q o onset : Nat) : State :=
  if drvCause s q o = flagF s (F.DRV_STAT_MUTED q o) then s
  else if drvCause s q o then drvMuteEnter s q o onset else drvMuteLeave s q o onset

/-! ### Flux outputs -/

/-- The fast flux DACs and the flux ladders of a quire's converter die are powered (R164, R436). -/
def fluxPowered (s : State) (q : Nat) : Bool := domainOn s (80 + 8 * (q / 4) + 3) && domainOn s (80 + 8 * (q / 4) + 4)

/-- The bias sources of a quire's converter die are powered (R164, R436). -/
def biasPowered (s : State) (q : Nat) : Bool := domainOn s (80 + 8 * (q / 4) + 5)

/-- Some mute cause of R168 is present on a flux channel. -/
def flxCause (s : State) (q i : Nat) : Bool :=
  flagF s (F.FLX_STAT_STOP q i) || (fluxOf s q i).swMute || flagF s (F.FLX_STAT_TRIP q i) || flagF s (F.FLX_STAT_FENCE q i)
    || flagF s (F.FLX_STAT_RESTORE q i) || (fluxOf s q i).faulty || (fluxOf s q i).dead || s.time.stepMute

/-- The muted state of a flux channel follows its causes (R168). -/
def flxUpdate (s : State) (q i onset : Nat) : State :=
  if flxCause s q i = flagF s (F.FLX_STAT_MUTED q i) then s
  else
    let s' := setFlux s q i { fluxOf s q i with onset := onset }
    if flxCause s q i then
      latch (incF (setB s' (F.FLX_STAT_MUTED q i) true) (F.FLX_CNT_MUTES q i)) (F.FLX_LATCH_MUTE q i) (quireEvent q 11)
    else setB s' (F.FLX_STAT_MUTED q i) false

/-! ### Causes that strike a whole quire or the whole device -/

/-- A cause bit of every output of a quire is set or cleared, and the mutes follow from tick V + 2 (R135). -/
def quireCause (s : State) (q : Nat) (drv flx : Nat → Nat → Fld) (b : Bool) : State :=
  let onset := if b then s.now + 2 else s.now
  let s := (List.range 5).foldl (fun s o => drvUpdate (setB s (drv q o) b) q o onset) s
  (List.range 24).foldl (fun s i => flxUpdate (setB s (flx q i) b) q i onset) s

/-- The mute of FENCED on every output of the device, on or off (R56, R135). -/
def fenceMute (s : State) (b : Bool) : State :=
  (List.range 16).foldl (fun s q => quireCause s q F.DRV_STAT_FENCE F.FLX_STAT_FENCE b) s

/-- The mute of a quire restore on the quire's outputs, on or off (R24, R135). -/
def restoreMute (s : State) (q : Nat) (b : Bool) : State := quireCause s q F.DRV_STAT_RESTORE F.FLX_STAT_RESTORE b

/-- The software mute of a drive or probe output takes the value written (R135, R488). -/
def drvSwMute (s : State) (q o : Nat) (mute : Bool) : State :=
  drvUpdate (setOutput s q o { outputOf s q o with swMute := mute }) q o s.now

/-- The software mute of a flux channel takes the value written (R168, R488). -/
def flxSwMute (s : State) (q i : Nat) (mute : Bool) : State :=
  flxUpdate (setFlux s q i { fluxOf s q i with swMute := mute }) q i s.now

end Sys2Proof.Machine
end

