-- ==== Sys2Proof/Machine/Flux.lean ====
section
/-! DEFINITION. The slow ladder of a flux channel, its deglitcher, enable and ranges (R160 to R168), and the rows of the flux
channels. -/

namespace Sys2Proof.Machine

/-! ### Ladder and deglitcher -/

/-- The ladder code in force (R160). -/
def ladderCode (s : State) (q i : Nat) : Int := getS s (F.FLX_LADDER_NOW_CODE q i)

/-- The level of the segmented bits of a ladder code: bits [19:14] of the offset code (R160). -/
def segLevel (code : Int) : Int := (code + 2 ^ 19) / 2 ^ 14

/-- The deglitcher hold in ticks (R162). -/
def holdTicks (s : State) (q i : Nat) : Nat := max 8 (getF s (F.FLX_CFG_HOLD q i))

/-- The deglitcher holds the slow path at a code, or its hold is extended (R162). -/
def deglitch (s : State) (q i : Nat) (held : Int) : State :=
  let f := fluxOf s q i
  match f.holdEnd with
  | some (_, c) => setFlux s q i { f with holdEnd := some (s.now + holdTicks s q i, c) }
  | none =>
    let s := incF (setB s (F.FLX_LADDER_NOW_HOLDING q i) true) (F.FLX_CNT_HOLDS q i)
    setFlux s q i { f with holdEnd := some (s.now + holdTicks s q i, held) }

/-- The ladder moves to a code; if a segmented bit changes, the hold begins when the update reaches the ball, `delay` ticks on
(R162). DESIGN CHOICE: the update of a FLX_LADDER write or of a ramp reaches the ball in its effect tick, that of a FLUX mode 1 step
12 ticks later (R154); the spec gives no delay for the first two (log entry 89). -/
def ladderTo (s : State) (q i delay : Nat) (code : Int) : State :=
  let old := ladderCode s q i
  let s := setS s (F.FLX_LADDER_NOW_CODE q i) code
  if segLevel old = segLevel code then s
  else if delay = 0 then deglitch s q i old else after s (s.now + delay) (.hold q i old)

/-- No ramp of the ladder is in progress. -/
def ladderNoRamp (s : State) (q i : Nat) : State :=
  setB (setFlux s q i { fluxOf s q i with ramp := none }) (F.FLX_LADDER_NOW_RAMPING q i) false

/-- A ramp of the ladder begins now. -/
def ladderRamp (s : State) (q i : Nat) (k : RampKind) (target : Int) : State :=
  setB (setFlux s q i { fluxOf s q i with ramp := some ⟨k, target, s.now⟩ }) (F.FLX_LADDER_NOW_RAMPING q i) true

/-- The ladder steps to a target, or begins a ramp toward it at the channel's ramp setting (R161). -/
def ladderGo (s : State) (q i : Nat) (target : Int) : State :=
  if getF s (F.FLX_SLOW_RAMP_STEP q i) = 0 then ladderTo (ladderNoRamp s q i) q i 0 target
  else ladderRamp s q i .steps target

/-- An update of the ladder is discarded while a trip holds it (R163) or while the channel is faulty (R168). -/
def ladderBlocked (s : State) (q i : Nat) : Bool := (fluxOf s q i).tripAct.isSome || (fluxOf s q i).faulty

/-- A discarded update: TRIP_DROP where a trip is the reason (R163). -/
def ladderDrop (s : State) (q i : Nat) : State :=
  if (fluxOf s q i).tripAct.isSome then latch s (F.FLX_LATCH_TRIP_DROP q i) (quireEvent q 11) else s

/-- A FLX_LADDER write takes effect (R161): discarded under a trip or a fault; without effect while the switch is open (R165). -/
def ladderEffect (s : State) (q i : Nat) (code : Int) : State :=
  if ladderBlocked s q i then ladderDrop s q i
  else if flagF s (F.FLX_STAT_SWITCH q i) && !(fluxOf s q i).opening then ladderGo s q i code
  else s

/-- A FLUX mode 1 command takes effect at its play time: a step, the ramp ends, at the ball 12 ticks later (R154, R161, R163). -/
def ladderStep (s : State) (q i : Nat) (code : Int) : State :=
  if ladderBlocked s q i then ladderDrop s q i
  else if flagF s (F.FLX_STAT_SWITCH q i) && !(fluxOf s q i).opening then ladderTo (ladderNoRamp s q i) q i 12 code
  else s

/-- A code one ramp update nearer its target (R161, R170). -/
def rampMove (code target : Int) (step : Nat) : Int :=
  if code ≤ target then min target (code + step) else max target (code - step)

/-- The code of a linear ramp at a tick. DESIGN CHOICE: a linear ramp moves at its updates, every 256 ticks on a ladder and every 500 on a
bias source, to the code on the line, rounded down toward minus infinity (log entry 89). -/
def rampLinear (source target : Int) (start len now : Nat) : Int :=
  if start + len ≤ now then target else source + (target - source) * (now - start : Nat) / (len : Int)

/-- One update of a ramping ladder (R161): by at most STEP codes, or along the line of a linear ramp; the last one lands on the
target and ends the ramp. -/
def ladderUpdate (s : State) (q i : Nat) (r : Ramp) : State :=
  let code := match r.kind with
    | .steps => rampMove (ladderCode s q i) r.target (getF s (F.FLX_SLOW_RAMP_STEP q i))
    | .linear source start len => rampLinear source r.target start len s.now
  let next := match r.kind with
    | .steps => r.next + 256
    | .linear _ start len => min (r.next + 256) (max (start + len) (r.next + 1))
  let s := ladderTo s q i 0 code
  if code = r.target then ladderNoRamp s q i
  else setFlux s q i { fluxOf s q i with ramp := some { r with next := next } }

/-! ### Enabling and disabling -/

/-- The output stage of an enabled channel is driven to 0 V and its switch closes 2 µs later (R165), where the converter die is powered; else
it stays in its off state (R164). -/
def fluxClosing (q i : Nat) (s : State) : State :=
  setFlux (setS (ladderNoRamp s q i) (F.FLX_LADDER_NOW_CODE q i) 0) q i
    { fluxOf (ladderNoRamp s q i) q i with closeAt := if fluxPowered s q then some (s.now + 1000) else none, opening := false }

/-- A flux channel is enabled: 0 V behind the open switch, which closes 2 µs later (R165). DESIGN CHOICE: enabled again while the ramp of
its disable still runs, its code goes to zero at once and the switch stays closed (log entry 89). -/
def fluxEnableOp (q i : Nat) (s : State) : State :=
  if flagF s (F.FLX_CFG_EN q i) then s else fluxClosing q i (setB s (F.FLX_CFG_EN q i) true)

/-- The output stage begins to close its switch again after a power state in which it was off (R440, R459). -/
def fluxReopen (q i : Nat) (s : State) : State := fluxClosing q i s

/-- The ladder of a channel that opens ramps to zero (R165): at the ramp setting, or over 1 µs if STEP = 0. -/
def openRamp (q i : Nat) (s : State) : State :=
  if getF s (F.FLX_SLOW_RAMP_STEP q i) = 0 then ladderRamp s q i (.linear (ladderCode s q i) s.now 500) 0
  else ladderRamp s q i .steps 0

/-- The ladder begins to ramp to zero, after which the switch opens (R165). DESIGN CHOICE: while a trip holds the ladder the ramp waits for
its release (log entry 89). -/
def fluxOpenOp (q i : Nat) (s : State) : State :=
  let s := setFlux s q i { fluxOf s q i with closeAt := none, opening := true }
  if flagF s (F.FLX_STAT_SWITCH q i) && (fluxOf s q i).tripAct.isNone then openRamp q i s else s

/-- A flux channel is disabled (R165), a faulty one too, whose ladder then ramps to zero; it stays muted as unsparable (R25, R168). -/
def fluxDisableOp (q i : Nat) (s : State) : State :=
  if flagF s (F.FLX_CFG_EN q i) then fluxOpenOp q i (setB s (F.FLX_CFG_EN q i) false) else s

/-- The switch closes, and the ladder goes to FLX_LADDER (R165), unless a trip or a fault holds it (R163, R168); it stays open with the
converter die off (R164) and in an orderly stop (R458). -/
def switchCloseOp (q i : Nat) (s : State) : State :=
  let s := setFlux s q i { fluxOf s q i with closeAt := none }
  if !fluxPowered s q || flagF s (F.FLX_STAT_STOP q i) then s
  else
    let s := setB s (F.FLX_STAT_SWITCH q i) true
    if getS s (F.FLX_LADDER_CODE q i) = 0 || ladderBlocked s q i then s else ladderGo s q i (getS s (F.FLX_LADDER_CODE q i))

/-- The switch opens. -/
def switchOpenOp (q i : Nat) (s : State) : State :=
  ladderNoRamp (setB (setFlux s q i { fluxOf s q i with opening := false, closeAt := none }) (F.FLX_STAT_SWITCH q i) false) q i

/-! ### Trips (R168, R184, R185) -/

/-- How severe an action is: zero before ramp before hold (R184). -/
def severity (act : Nat) : Nat := if act = 0 then 3 else if act = 2 then 2 else 1

/-- An effect is the start of a hold of a channel's deglitcher. -/
def Act.isHold (q i : Nat) : Act → Bool
  | .hold q' i' _ => q' == q && i' == i
  | _ => false

/-- A hold of the deglitcher ends where a trip governs (R163, R184): the code becomes that of the output as it is held, and a hold still on
its way to the ball does not begin. -/
def slowTake (s : State) (q i : Nat) : State :=
  let s := match (fluxOf s q i).holdEnd with
    | some (_, c) => setS s (F.FLX_LADDER_NOW_CODE q i) c
    | none => s
  let s := { s with sched := s.sched.filter (fun x => !x.2.isHold q i) }
  setB (setFlux s q i { fluxOf s q i with holdEnd := none }) (F.FLX_LADDER_NOW_HOLDING q i) false

/-- A trip acts on a flux channel with an action (R184): the fast path mutes, the ladder follows the action. -/
def fluxTrip (s : State) (q i act : Nat) : State :=
  let s := flxUpdate (setB s (F.FLX_STAT_TRIP q i) true) q i s.now
  if (fluxOf s q i).tripAct = some act then s
  else
    let s := slowTake s q i
    let s := setFlux s q i { fluxOf s q i with tripAct := some act }
    if act = 0 then setS (ladderNoRamp s q i) (F.FLX_LADDER_NOW_CODE q i) 0
    else if act = 2 then
      ladderRamp s q i (.linear (ladderCode s q i) s.now (500 * max 1 (getF s (F.FLX_SLOW_RAMP_TRIP_RAMP q i)))) 0
    else ladderNoRamp s q i

/-- No asserted group reaches a flux channel any longer (R185): a ramp of the trip stops at the value reached, the fast path resumes once
the release has reached it. A channel being disabled then ramps to zero. -/
def fluxRelease (s : State) (q i : Nat) : State :=
  let s := setFlux s q i { fluxOf s q i with tripAct := none, tripTo := s.now + 10 }
  let s := flxUpdate (setB (ladderNoRamp s q i) (F.FLX_STAT_TRIP q i) false) q i (s.now + 10)
  if (fluxOf s q i).opening && flagF s (F.FLX_STAT_SWITCH q i) then openRamp q i s else s

/-! ### The rows -/

/-- FLX_LADDER is written: the target is held, and takes effect at the first tick at least 8 ticks after the write (R161). -/
def ladderWriteOp (q i code : Nat) (s : State) : State :=
  after (setF s (F.FLX_LADDER_CODE q i) code) (regDelay s.now 8) (.ladder q i (toSigned 20 code))

/-- LADDER_WRITE (R161). -/
def execLadderWrite (m : Master) (q : Fin 16) (i : Fin 24) (code : BitVec 20) (s : State) : Host.Outcome State Fault Refusal :=
  .next (rowWrite (.ladderWrite m q i code) m ⟨.FLX_LADDER, q, i, 0⟩ s (fun s => some (ladderWriteOp q i code.toNat s)))

/-- LADDER_RAMP_UPDATE (R161): when an update is due. -/
def execLadderRampUpdate (q : Fin 16) (i : Fin 24) (s : State) : Host.Outcome State Fault Refusal :=
  match (fluxOf s q i).ramp with
  | some r => if r.next ≤ s.now then .next (ladderUpdate s q i r) else .next s
  | none => .next s

/-- DEGLITCH_HOLD_END (R162): the slow path settles to the latest code. -/
def execDeglitchHoldEnd (q : Fin 16) (i : Fin 24) (s : State) : Host.Outcome State Fault Refusal :=
  match (fluxOf s q i).holdEnd with
  | some (t, _) =>
    if t ≤ s.now then .next (setB (setFlux s q i { fluxOf s q i with holdEnd := none }) (F.FLX_LADDER_NOW_HOLDING q i) false)
    else .next s
  | none => .next s

/-- FLUX_ENABLE (R165, R166). -/
def execFluxEnable (m : Master) (q : Fin 16) (i : Fin 24) (s : State) : Host.Outcome State Fault Refusal :=
  .next (rowWrite (.fluxEnable m q i) m ⟨.FLX_CFG, q, i, 0⟩ s
    (fun s => if flagF s (F.FLX_CFG_EN q i) then some s else whenIdle q (fluxEnableOp q i) s))

/-- FLUX_SWITCH_CLOSE (R165): when the 2 µs have passed. -/
def execFluxSwitchClose (q : Fin 16) (i : Fin 24) (s : State) : Host.Outcome State Fault Refusal :=
  match (fluxOf s q i).closeAt with
  | some t => if t ≤ s.now then .next (switchCloseOp q i s) else .next s
  | none => .next s

/-- FLUX_DISABLE (R165, R166). -/
def execFluxDisable (m : Master) (q : Fin 16) (i : Fin 24) (s : State) : Host.Outcome State Fault Refusal :=
  .next (rowWrite (.fluxDisable m q i) m ⟨.FLX_CFG, q, i, 0⟩ s
    (fun s => if flagF s (F.FLX_CFG_EN q i) then whenIdle q (fluxDisableOp q i) s else some s))

/-- FLUX_SWITCH_OPEN (R165): when the ladder of a channel that opens has reached zero; in an orderly stop the switches open together
(R458). -/
def execFluxSwitchOpen (q : Fin 16) (i : Fin 24) (s : State) : Host.Outcome State Fault Refusal :=
  if (fluxOf s q i).opening ∧ ladderCode s q i = 0 ∧ s.power.stop = none then .next (switchOpenOp q i s) else .next s

/-- A range change of a flux channel (R166, R167): refused for SRANGE 3, while the quire is not idle, or while the ladder code in
force is not zero; else the channel is held at 0 V from the start of the second tick after the write until the range has settled. -/
def fluxRangeOp (q i srange frange : Nat) (s : State) : Option State :=
  if getF s (F.FLX_CFG_SRANGE q i) = srange ∧ getF s (F.FLX_CFG_FRANGE q i) = frange then some s
  else if srange = 3 ∨ quireIdle s q = false ∨ ladderCode s q i ≠ 0 then none
  else
    let s := setF (setF s (F.FLX_CFG_SRANGE q i) srange) (F.FLX_CFG_FRANGE q i) frange
    let s := setFlux s q i { fluxOf s q i with rangeBy := regDelay s.now 1 + 5000 }
    some (after s (regDelay s.now 1) (.ranging q i))

/-- The range change holds the channel at 0 V from now until the range has settled (R167). -/
def rangingOn (s : State) (q i : Nat) : State := setB s (F.FLX_STAT_RANGING q i) true

/-- FLUX_RANGE_CHANGE (R166, R167). -/
def execFluxRangeChange (m : Master) (q : Fin 16) (i : Fin 24) (srange : Fin 4) (frange : Bool) (s : State) :
    Host.Outcome State Fault Refusal :=
  .next (rowWrite (.fluxRangeChange m q i srange frange) m ⟨.FLX_CFG, q, i, 0⟩ s (fluxRangeOp q i srange frange.toNat))

/-- The code the slow path puts out (R160, R162, R167): zero while the range settles or the switch is open, the held one in a hold. -/
def slowOut (s : State) (q i : Nat) : Int :=
  if flagF s (F.FLX_STAT_RANGING q i) || !flagF s (F.FLX_STAT_SWITCH q i) then 0
  else match (fluxOf s q i).holdEnd with
    | some (_, c) => c
    | none => ladderCode s q i

/-- The code the fast path puts out (R153, R167, R168): zero while the channel is muted or its range settles. -/
def fastOut (s : State) (q i : Nat) (code : Int) : Int :=
  if flagF s (F.FLX_STAT_MUTED q i) || flagF s (F.FLX_STAT_RANGING q i) then 0 else code

/-- FLUX_RANGE_SETTLED (R167): the range has settled, at most 10 µs after the change. -/
def execFluxRangeSettled (q : Fin 16) (i : Fin 24) (s : State) : Host.Outcome State Fault Refusal :=
  .next (setB s (F.FLX_STAT_RANGING q i) false)

end Sys2Proof.Machine
end

