-- ==== Sys2Proof/Machine/Tones.lean ====
section
/-! DEFINITION. Frequency words, frame phase and the NCO accumulator of tones and demodulation cells (R51 to R53, R117 to R123,
R199), and the gain and predistortion shadows (R127). -/

namespace Sys2Proof.Machine

/-! ### The NCO -/

/-- The accumulator of an NCO (R51) at a DACS position given in half positions (R52): frequency word, frame phase, sign bit. -/
def ncoAcc (ftw frame : Nat) (pf : Bool) (halfN : Nat) : Nat := (ftw * halfN / 2 + frame * 2 ^ 16 + pf.toNat * 2 ^ 47) % 2 ^ 48

/-- The entry of a history that is in force at a tick, the latest entry first. -/
def histAt : List (Nat × Nat × Nat) → Nat → Nat × Nat
  | [], _ => (0, 0)
  | (t, a, b) :: r, tick => if t ≤ tick then (a, b) else histAt r tick

/-- A history with an entry added, keeping those a window of 8,000 ticks can still need (R197). -/
def histPush (h : List (Nat × Nat × Nat)) (tick a b : Nat) : List (Nat × Nat × Nat) :=
  (tick, a, b) :: (h.takeWhile (fun x => tick < x.1 + 10000) ++ (h.dropWhile (fun x => tick < x.1 + 10000)).take 1)

/-- A tone takes a frame phase from a tick on (R85, R122). -/
def toneFrame (s : State) (q c tick frame : Nat) : State :=
  let t := toneOf s q c
  let s := setTone s q c { t with frame := frame % 2 ^ 32, hist := histPush t.hist tick t.ftw (frame % 2 ^ 32) }
  keepShadow (setF s (F.TONE_FRAME_FRAME q c) frame) q c

/-- cos φ and sin φ of an accumulator value (R113, R198): the bits below 22 take no part in the lookup. -/
def ncoCosAt (acc : Nat) : Rat := Config.ncoCos (acc / 2 ^ 22)
def ncoSinAt (acc : Nat) : Rat := Config.ncoSin (acc / 2 ^ 22)

/-! ### Frequency words -/

/-- The low half of a pair is written: held until the high half commits (R118). -/
def ftwHold (s : State) (q : Nat) (u : FtwUnit) (lo : Nat) : State :=
  match u with
  | .tone c => setTone s q c { toneOf s q c with heldLo := lo }
  | .cell j => setCell s q j { cellOf s q j with heldLo := lo }

/-- The tick a committed word takes effect, and whether a timed commit came too late (R119). A cell has no timed commit (R199). -/
def ftwEffectTick (s : State) (q : Nat) (u : FtwUnit) : Nat × Bool :=
  let untimed := regDelay s.now 8
  match u with
  | .tone c =>
    let at_ := getF s (F.TONE_AT_LO_TICK q c) + 2 ^ 32 * getF s (F.TONE_AT_HI_TICK q c)
    if flagF s (F.TONE_CTRL_FTW_TIMED q c) then (if at_ < untimed then (untimed, true) else (at_, false)) else (untimed, false)
  | .cell _ => (untimed, false)

/-- The high half of a pair is written (R118 to R120): the word is committed; a pending word is replaced. -/
def ftwCommitOp (q : Nat) (u : FtwUnit) (hi : Nat) (s : State) : State :=
  let e := ftwEffectTick s q u
  match u with
  | .tone c =>
    let t := toneOf s q c
    let w := t.heldLo + 2 ^ 32 * hi
    let s := if t.pend.isSome then latch s (F.TONE_LATCH_FTW_REPL q c) (quireEvent q 6) else s
    let s := if e.2 then latch s (F.TONE_LATCH_FTW_LATE q c) (quireEvent q 6) else s
    let s := setF (setF s (F.TONE_FTW_LO_FTW q c) w) (F.TONE_FTW_HI_FTW q c) hi
    setB (setTone s q c { t with pend := some (w, e.1) }) (F.TONE_STAT_FTW_PEND q c) true
  | .cell j =>
    let t := cellOf s q j
    let w := t.heldLo + 2 ^ 32 * hi
    let s := if t.pend.isSome then latch s (F.HB_CELL_LATCH_FTW_REPL q j) (quireEvent q 6) else s
    let s := setF (setF s (F.HB_CELL_FTW_LO_FTW q j) w) (F.HB_CELL_FTW_HI_FTW q j) hi
    setB (setCell s q j { t with pend := some (w, e.1) }) (F.HB_CELL_STAT_FTW_PEND q j) true

/-- A pending word takes effect at its tick, if that has come (R53, R120). -/
def ftwEffectOp (q : Nat) (u : FtwUnit) (s : State) : State :=
  match u with
  | .tone c =>
    let t := toneOf s q c
    match t.pend with
    | some (w, tick) =>
      if tick ≤ s.now then
        keepShadow (setB (setTone s q c { t with ftw := w, pend := none, hist := histPush t.hist tick w t.frame })
          (F.TONE_STAT_FTW_PEND q c) false) q c
      else s
    | none => s
  | .cell j =>
    let t := cellOf s q j
    match t.pend with
    | some (w, tick) =>
      if tick ≤ s.now then
        keepCellShadow (setB (setCell s q j { t with ftw := w, pend := none, hist := histPush t.hist tick w t.phase })
          (F.HB_CELL_STAT_FTW_PEND q j) false) q j
      else s
    | none => s

/-- A cell takes a phase term from now on (R199). -/
def cellPhaseEffect (s : State) (q j phase : Nat) : State :=
  let c := cellOf s q j
  keepCellShadow (setCell s q j { c with phase := phase, hist := histPush c.hist s.now c.ftw phase }) q j

/-- The unit's register that commits its word. -/
def ftwReg (q : Nat) : FtwUnit → Reg
  | .tone c => ⟨.TONE_FTW_HI, q, c, 0⟩
  | .cell j => ⟨.HB_CELL_FTW_HI, q, j, 0⟩

/-! ### Gain and predistortion shadows (R127) -/

/-- The output a tone feeds: four drive tones each, the probe output for the probe tones (R7, R81). -/
def toneOutput (c : Nat) : Nat := if c < 16 then c / 4 else 4

/-- The tones that feed an output. -/
def outputTones (o : Nat) : List Nat := if o < 4 then [4 * o, 4 * o + 1, 4 * o + 2, 4 * o + 3] else (List.range 16).map (· + 16)

/-- The coefficient shadow of an output and the gain shadows of its tones come into force together (R127). -/
def pdApply (s : State) (q o : Nat) : State :=
  let s := { s with out := { s.out with pd := (List.range 24).foldl (fun t k => tset t (q, o, k) (getF s (F.DRV_PD_COEF_COEF q o k))) s.out.pd } }
  let s := (outputTones o).foldl (fun s c => keepShadow (setF s (F.TONE_GAIN_ACTIVE q c) (getF s (F.TONE_GAIN_GAIN q c))) q c) s
  setB s (F.DRV_PD_CTRL_PENDING q o) false

/-- DRV_PD_CTRL.COMMIT: at once if the quire is idle, else at the next shot boundary (R127). -/
def pdCommitOp (q o : Nat) (s : State) : State :=
  if quireIdle s q then pdApply s q o else setB s (F.DRV_PD_CTRL_PENDING q o) true

/-! ### The rows -/

/-- FTW_COMMIT (R118): a write of TONE_FTW_HI or HB_CELL_FTW_HI. -/
def execFtwCommit (m : Master) (q : Fin 16) (u : FtwUnit) (hi : Fin 65536) (s : State) : Host.Outcome State Fault Refusal :=
  .next (rowWrite (.ftwCommit m q u hi) m (ftwReg q u) s (fun s => some (ftwCommitOp q u hi s)))

/-- FTW_EFFECT (R119). -/
def execFtwEffect (q : Fin 16) (u : FtwUnit) (s : State) : Host.Outcome State Fault Refusal := .next (ftwEffectOp q u s)

/-- FRAME_CLR (R122): the frame phase becomes zero; accepted only while the quire is idle. -/
def execFrameClr (m : Master) (q : Fin 16) (c : Fin 32) (s : State) : Host.Outcome State Fault Refusal :=
  .next (rowWrite (.frameClr m q c) m ⟨.TONE_CTRL, q, c, 0⟩ s (whenIdle q (fun s => toneFrame s q c s.now 0)))

/-- PD_COMMIT (R127). -/
def execPdCommit (m : Master) (q : Fin 16) (o : Fin 5) (s : State) : Host.Outcome State Fault Refusal :=
  .next (rowWrite (.pdCommit m q o) m ⟨.DRV_PD_CTRL, q, o, 0⟩ s (fun s => some (pdCommitOp q o s)))

end Sys2Proof.Machine
end

