-- ==== Sys2Proof/Machine/Drive.lean ====
section
/-! DEFINITION. Drive and probe outputs (R128 to R139) and the quire's spare tone generator (R140 to R146): the rows of chapter 04. -/

namespace Sys2Proof.Machine

/-! ### Late commands of a player (R143, R186) -/

/-- The command playing on a channel counts as a late command of its thread, once. -/
def markLate (s : State) (c : Chan) : State :=
  let p := playerOf s c
  if p.active && !p.late then lateCommand (setPlayer s c { p with late := true }) c.q p.t p.tick else s

/-- Commands of a channel that ended in the two ticks before the present one count as late (R143). -/
def markEnded (s : State) (c : Chan) : State :=
  let p := playerOf s c
  let hit := p.ended.filter (fun e => decide (s.now ≤ e.2.2 + 2))
  hit.foldl (fun s e => lateCommand s c.q e.1 e.2.1) (setPlayer s c { p with ended := p.ended.filter (fun e => decide (e.2.2 + 2 < s.now)) })

/-- The samples of a tone that entered the pipeline from a tick on contribute zero (R142). -/
def deadFrom (s : State) (q c tick : Nat) : State :=
  let o := outputOf s q (toneOutput c)
  let dead := fun (x : Slice) =>
    if tick ≤ x.tick then { x with tones := x.tones.map (fun z => if z.c = c then { z with dead := true } else z) } else x
  setOutput s q (toneOutput c) { o with wave := o.wave.map dead }

/-- A tone is found faulty now (R142, R143): from entry tick D − 2 it contributes zero, and its commands with such a tick count as late. -/
def toneFails (s : State) (q c : Nat) : State :=
  let s := setTone s q c { toneOf s q c with zeroFrom := some (s.now - 2), checked := false }
  markEnded (markLate (deadFrom s q c (s.now - 2)) ⟨q, .tone, c⟩) ⟨q, .tone, c⟩

/-- The commands playing on an output's tones count as late. -/
def markOutputLate (s : State) (q o : Nat) : State := (outputTones o).foldl (fun s c => markLate s ⟨q, .tone, c⟩) s

/-! ### Outputs -/

/-- DRV_CFG.EN is set (R133), while the quire is idle (R129). -/
def execDrvEnable (m : Master) (q : Fin 16) (o : Fin 5) (s : State) : Host.Outcome State Fault Refusal :=
  .next (rowWrite (.drvEnable m q o) m ⟨.DRV_CFG, q, o, 0⟩ s (fun s =>
    if flagF s (F.DRV_CFG_EN q o) then some s else whenIdle q (fun s => setB s (F.DRV_CFG_EN q o) true) s))

/-- A change of RANGE mutes the output from the start of the second tick after the write until the reference has settled, at most 2 µs
(R130). -/
def rangeOp (q o range : Nat) (s : State) : State :=
  let s := setF s (F.DRV_CFG_RANGE q o) range
  after (setOutput s q o { outputOf s q o with settleBy := regDelay s.now 1 + 1000 }) (regDelay s.now 1) (.settle q o)

/-- The settling of a RANGE change begins: the output is muted at the ball (R130). -/
def settleOn (s : State) (q o : Nat) : State := drvUpdate (setB s (F.DRV_STAT_SETTLING q o) true) q o s.now

/-- RANGE_CHANGE (R129, R130). -/
def execRangeChange (m : Master) (q : Fin 16) (o : Fin 5) (range : Fin 4) (s : State) : Host.Outcome State Fault Refusal :=
  .next (rowWrite (.rangeChange m q o range) m ⟨.DRV_CFG, q, o, 0⟩ s (fun s =>
    if getF s (F.DRV_CFG_RANGE q o) = range.val then some s else whenIdle q (rangeOp q o range) s))

/-- The reference has settled (R130). -/
def rangeSettledOp (q o : Nat) (s : State) : State := drvUpdate (setB s (F.DRV_STAT_SETTLING q o) false) q o s.now

/-- RANGE_SETTLED (R130). -/
def execRangeSettled (q : Fin 16) (o : Fin 5) (s : State) : Host.Outcome State Fault Refusal := .next (rangeSettledOp q o s)

/-- A mute register is written: the mute follows at the first tick at least 4 ticks after the write (R135, R168). -/
def softMuteOp (q : Nat) (o : OutRef) (mute : Bool) (s : State) : State :=
  match o with
  | .drive o => after (setB (setB s (F.DRV_MUTE_MUTE q o) mute) (F.DRV_STAT_SW_MUTE q o) mute) (regDelay s.now 4) (.drvMute q o mute)
  | .flux i => after (setB (setB s (F.FLX_MUTE_MUTE q i) mute) (F.FLX_STAT_SW_MUTE q i) mute) (regDelay s.now 4) (.flxMute q i mute)

/-- The register a mute is written to. -/
def muteReg (q : Nat) : OutRef → Reg
  | .drive o => ⟨.DRV_MUTE, q, o, 0⟩
  | .flux i => ⟨.FLX_MUTE, q, i, 0⟩

/-- SOFTWARE_MUTE (R135). -/
def execSoftwareMute (m : Master) (q : Fin 16) (o : OutRef) (mute : Bool) (s : State) : Host.Outcome State Fault Refusal :=
  .next (rowWrite (.softwareMute m q o mute) m (muteReg q o) s (fun s => some (softMuteOp q o mute s)))

/-- DRV_CW.AMP is written: a ramp from the present amplitude begins at the first tick at least 4 ticks after the write (R139). -/
def cwAmpOp (q o amp : Nat) (s : State) : State :=
  let s := setF s (F.DRV_CW_AMP q o) amp
  after s (regDelay s.now 4) (.cwRamp q o (getS s (F.DRV_CW_AMP q o)) (getF s (F.DRV_CW_RAMP q o)))

/-- A CW ramp placed by a write begins (R139); while the output is muted its amplitude stays zero. -/
def cwRampEffect (s : State) (q o : Nat) (amp : Int) (len : Nat) : State :=
  if flagF s (F.DRV_STAT_MUTED q o) then s else cwRampFrom s q o (cwAmpAt (outputOf s q o) s.now) amp len

/-- CW_AMP_WRITE (R139). -/
def execCwAmpWrite (m : Master) (q : Fin 16) (o : Fin 5) (amp : BitVec 16) (s : State) : Host.Outcome State Fault Refusal :=
  .next (rowWrite (.cwAmpWrite m q o amp) m ⟨.DRV_CW, q, o, 0⟩ s (fun s => some (cwAmpOp q o amp.toNat s)))

/-- CW_RAMP_END (R139): the ramp has reached its target. -/
def execCwRampEnd (q : Fin 16) (o : Fin 5) (s : State) : Host.Outcome State Fault Refusal :=
  match (outputOf s q o).ramp with
  | some r =>
    if r.start + r.len ≤ s.now then
      .next (setB (setOutput s q o { outputOf s q o with cwAmp := r.target, ramp := none }) (F.DRV_STAT_CW_RAMPING q o) false)
    else .next s
  | none => .next s

/-! ### The spare tone generator -/

/-- The spare is free (R142, R145): it serves no tone, has not failed, and no substitution or move is under way. -/
def toneSpareFree (s : State) (q : Nat) : Bool :=
  !flagF s (F.TONE_SPARE_STAT_IN_USE q) && !flagF s (F.TONE_SPARE_STAT_SPARE_FAIL q) && (tget s.out.subst none q).isNone
    && (tget s.out.move none q).isNone

/-- A tone takes the word and frame phase of its shadow (R142). -/
def loadShadow (s : State) (q c : Nat) : State :=
  setTone s q c { toneOf s q c with ftw := (shadowOf s q c).ftw, frame := (shadowOf s q c).frame }

/-- The spare serves a tone from now on, loaded with its shadow (R142, R145). -/
def toneSpareServe (s : State) (q c : Nat) (forced : Bool) : State :=
  let s := setF (setB s (F.TONE_SPARE_STAT_IN_USE q) true) (F.TONE_SPARE_STAT_TARGET q) c
  let s := setB (setB s (F.TONE_SPARE_STAT_FORCED q) forced) (F.TONE_SPARE_STAT_BUSY q) false
  let s := loadShadow (setB s (F.TONE_STAT_SUBST q c) true) q c
  setTone s q c { toneOf s q c with zeroFrom := none }

/-- The spare serves no tone from now on: the tone's own generator takes over (R144). -/
def toneSpareHandBack (s : State) (q : Nat) : State :=
  let c := getF s (F.TONE_SPARE_STAT_TARGET q)
  let s := setB (setB (setB s (F.TONE_SPARE_STAT_IN_USE q) false) (F.TONE_SPARE_STAT_FORCED q) false) (F.TONE_SPARE_STAT_BUSY q) false
  let s := setB (setB s (F.TONE_STAT_SUBST q c) false) (F.TONE_STAT_FAILED q c) false
  setTone (setF s (F.TONE_SPARE_STAT_TARGET q) 0) q c { toneOf s q c with checked := false }

/-- A substitution of a drive tone by the spare starts (R142); the region reports it (R286). -/
def toneSubstStart (s : State) (q c : Nat) : State :=
  let s := { s with out := { s.out with subst := tset s.out.subst q (some (c, s.now)) } }
  substEvent (regionFault (setB s (F.TONE_SPARE_STAT_BUSY q) true) (q / 4)) (q / 4) false

/-- A pending move to or from the spare is dropped (R146). -/
def toneMoveDrop (s : State) (q : Nat) : State :=
  if (tget s.out.move none q).isSome then
    setB { s with out := { s.out with move := tset s.out.move q none } } (F.TONE_SPARE_STAT_BUSY q) false
  else s

/-- The spare is found failed (R141): unsparable, what was under way on it dropped; a tone it serves is muted as unsparable and the chip
level hears of it (R146). -/
def toneSpareFail (s : State) (q : Nat) : State :=
  let s := toneMoveDrop (unsparable (setB s (F.TONE_SPARE_STAT_SPARE_FAIL q) true) q) q
  let s := setB { s with out := { s.out with subst := tset s.out.subst q none } } (F.TONE_SPARE_STAT_BUSY q) false
  if flagF s (F.TONE_SPARE_STAT_IN_USE q) then
    let c := getF s (F.TONE_SPARE_STAT_TARGET q)
    let s := setB (setB s (F.TONE_SPARE_STAT_IN_USE q) false) (F.TONE_SPARE_STAT_FORCED q) false
    chipFault (toneFails (setB s (F.TONE_STAT_SUBST q c) false) q c)
  else s

/-- The spare serves this tone. -/
def toneServed (s : State) (q c : Nat) : Bool :=
  flagF s (F.TONE_SPARE_STAT_IN_USE q) && getF s (F.TONE_SPARE_STAT_TARGET q) == c

/-- The spare serves a tone that needs it no longer: forced onto it, or to be handed back (R145, R146). -/
def toneSpareLent (s : State) (q : Nat) : Bool :=
  flagF s (F.TONE_SPARE_STAT_IN_USE q) && (flagF s (F.TONE_SPARE_STAT_FORCED q) || (tget s.out.move none q).isSome)

/-- A substitution of a higher-numbered tone that started in this very tick yields to tone c (R26). -/
def toneYields (s : State) (q c : Nat) : Bool :=
  match tget s.out.subst none q with
  | some (d, t) => t == s.now && decide (c < d)
  | none => false

/-- The spare is sent for: where it is free, where it serves a tone that needs it no longer (handed back at once), or where a
higher-numbered tone's flag came in the same tick; else the tone stays muted as unsparable (R26, R142, R146). -/
def toneCall (s : State) (q c : Nat) : State :=
  if toneSpareLent s q then toneSubstStart (toneSpareHandBack (toneMoveDrop s q) q) q c
  else if toneSpareFree (toneMoveDrop s q) q then toneSubstStart (toneMoveDrop s q) q c
  else if toneYields s q c then toneSubstStart (unsparable s q) q c
  else unsparable s q

/-- A drive tone is found faulty (R141 to R146): one the spare serves stays with it; any other contributes zero from entry tick D − 2, its
commands count as late, and the spare is sent for. -/
def driveToneFault (s : State) (q c : Nat) : State :=
  let s := latch (setB s (F.TONE_STAT_FAILED q c) true) (F.TONE_LATCH_FAULT q c) (quireEvent q 5)
  let s := quireFault s q
  if toneServed s q c then
    let s := toneMoveDrop (setB s (F.TONE_SPARE_STAT_FORCED q) false) q
    setTone s q c { toneOf s q c with checked := false }
  else toneCall (toneFails s q c) q c

/-- An audit of a drive tone takes place (R141): tone c in ticks c mod 16, while the spare is free. -/
def toneAudited (s : State) (q c : Nat) : Bool := s.now % 16 == c && toneSpareFree s q

/-- A drive tone is found faulty by an audit, counted (R141), or by its own check bits; a corrected error is only counted (R23). -/
def driveToneFound (s : State) (q c : Nat) (why : FaultCause) : State :=
  match why with
  | .audit =>
    if toneAudited s q c then driveToneFault (incF (incF s (F.TONE_SPARE_CNT_AUDIT q)) (F.TONE_CNT_AUDIT q c)) q c else s
  | .halvesDisagree => toneSpareFail s q
  | .corrected => incF s (F.TONE_CNT_CORR q c)
  | _ => driveToneFault s q c

/-- TONE_SUBSTITUTION (R142): the spare is switched in, or its self-check fails and the tone stays muted as unsparable. -/
def toneSubstDone (s : State) (q : Nat) (pass : Bool) : State :=
  if !vatmanUp s (q / 4) then s else
  match tget s.out.subst none q with
  | none => s
  | some (c, _) =>
    let s := { s with out := { s.out with subst := tset s.out.subst q none } }
    if pass then
      let s := incF (toneSpareServe s q c false) (F.TONE_SPARE_CNT_SUBST q)
      substEvent s (q / 4) true
    else toneSpareFail (setB s (F.TONE_SPARE_STAT_BUSY q) false) q

/-- TONE_SUBSTITUTION (R142). -/
def execToneSubstitution (q : Fin 16) (pass : Bool) (s : State) : Host.Outcome State Fault Refusal := .next (toneSubstDone s q pass)

/-- A move to or from the spare is placed, at the first tick at least 64 ticks after the write (R145). -/
def toneMoveStart (s : State) (q c : Nat) (toSpare : Bool) : State :=
  let s := { s with out := { s.out with move := tset s.out.move q (some (toSpare, c)) } }
  after (setB s (F.TONE_SPARE_STAT_BUSY q) true) (regDelay s.now 64) (.toneMove q)

/-- The move takes place (R144, R145). -/
def toneMoveDone (s : State) (q : Nat) : State :=
  match tget s.out.move none q with
  | none => s
  | some (toSpare, c) =>
    let s := { s with out := { s.out with move := tset s.out.move q none } }
    if toSpare then toneSpareServe s q c true else toneSpareHandBack s q

/-- TONE_SPARE_FORCE (R145): ignored while the spare is not free. -/
def toneForceOp (q c : Nat) (s : State) : State :=
  let s := setF s (F.TONE_SPARE_CTRL_TGT q) c
  if toneSpareFree s q && !flagF s (F.TONE_STAT_FAILED q c) then toneMoveStart s q c true else s

/-- TONE_SPARE_FORCE (R145). -/
def execToneSpareForce (m : Master) (q : Fin 16) (c : Fin 16) (s : State) : Host.Outcome State Fault Refusal :=
  .next (rowWrite (.toneSpareForce m q c) m ⟨.TONE_SPARE_CTRL, q, 0, 0⟩ s (fun s => some (toneForceOp q c s)))

/-- TONE_SPARE_RELEASE (R144, R145): a forced tone is handed back; a failed one only once its generator has passed its self-check. -/
def toneReleaseOp (q : Nat) (s : State) : State :=
  let c := getF s (F.TONE_SPARE_STAT_TARGET q)
  if flagF s (F.TONE_SPARE_STAT_IN_USE q) && (tget s.out.move none q).isNone
      && (flagF s (F.TONE_SPARE_STAT_FORCED q) || (toneOf s q c).checked) then toneMoveStart s q c false
  else s

/-- TONE_SPARE_RELEASE (R144). -/
def execToneSpareRelease (m : Master) (q : Fin 16) (s : State) : Host.Outcome State Fault Refusal :=
  .next (rowWrite (.toneSpareRelease m q) m ⟨.TONE_SPARE_CTRL, q, 0, 0⟩ s (fun s => some (toneReleaseOp q s)))

end Sys2Proof.Machine
end

