-- ==== Sys2Proof/Machine/Results.lean ====
section
/-! DEFINITION. The result path of a quire (R207 to R217): records, the result queue, its credits, the mover and the pop registers;
and the input entries a MEAS gives to Beater contexts (R242, R244). -/

namespace Sys2Proof.Machine

/-! ### Beater input entries (R242, R244) -/

/-- A queue takes an entry: entries that enter in one tick stand lowest channel first (R242). -/
def queueEntry (e : InEntry) : List InEntry → List InEntry
  | [] => [e]
  | x :: r => if x.tick = e.tick ∧ e.ch < x.ch then e :: x :: r else x :: queueEntry e r

/-- One context receives an entry of a channel; of what then stands beyond the sixteenth place it keeps nothing, and the shot of that MEAS
is tainted (R242, R244). -/
def ctxEntry (s : State) (q c : Nat) (e : InEntry) : State :=
  if isActive (getF s (F.CTX_STAT_STATE q c)) && bitF s (F.CTX_IN_MASK q c) e.ch then
    let x := ctxOf s q c
    let l := queueEntry e x.inq
    let s := setF (setCtx s q c { x with inq := l.take 16 }) (F.CTX_IN_LEVEL q c) (min 16 l.length)
    match l.drop 16 with
    | [] => s
    | d :: _ =>
      let s := latch (incF s (F.CTX_CNT_IN_DROP q c)) (F.CTX_LATCH_IN_DROP q c) (quireEvent q 20)
      taintQuire s q d.p .late
  else s

/-- Every context of the quire that selects the channel receives the entry (R242). -/
def beaterEntry (s : State) (q : Nat) (e : InEntry) : State :=
  (List.range 16).foldl (fun s c => ctxEntry s q c e) s

/-! ### The words of a packet (R207, R209, R249) -/

/-- The boundary of the shot of a tick in two words, all ones before the first boundary (R207). -/
def shotWords (s : State) (tick : Nat) : Nat × Nat :=
  match shotOf s tick with
  | some b => (b % 2 ^ 32, b / 2 ^ 32 % 2 ^ 32)
  | none => (2 ^ 32 - 1, 2 ^ 32 - 1)

/-- The offset of a tick in its shot (R207). -/
def shotOffset (s : State) (tick : Nat) : Nat :=
  match shotOf s tick with
  | some b => min (tick - b) (2 ^ 32 - 1)
  | none => 2 ^ 32 - 1

/-- CAUSE and TAINT of a first word (R207). -/
def causeBits (mask : Nat) : Nat := mask % 64 * 2 ^ 10 + (if mask = 0 then 0 else 2 ^ 9)

/-- The words of a packet as it is written, with its sequence number. -/
def packetWords (s : State) (q seq : Nat) : Packet → List Nat
  | .meas j t wgt sub p len i qv subst flushed ovl corrupt late svalid st _ =>
    let sw := shotWords s p
    [2 ^ 28 + 8 * 2 ^ 24 + (16 * q + j) * 2 ^ 16 + causeBits (taintMask s q p) + subst.toNat * 2 ^ 7 + flushed.toNat * 2 ^ 6
        + ovl.toNat * 2 ^ 5 + corrupt.toNat * 2 ^ 4 + late.toNat * 2 ^ 3 + svalid.toNat * 2 ^ 2 + st % 4,
      seq * 2 ^ 24 + t * 2 ^ 20 + wgt * 2 ^ 12 + sub * 2 ^ 6, sw.1, sw.2, shotOffset s p, ofSigned 32 i, ofSigned 32 qv, len]
  | .shot b len revised =>
    [3 * 2 ^ 28 + 8 * 2 ^ 24 + 16 * q * 2 ^ 16 + causeBits (taintMask s q b) + revised.toNat * 2 ^ 8, seq * 2 ^ 24, b % 2 ^ 32,
      b / 2 ^ 32 % 2 ^ 32, min len (2 ^ 32 - 1), ((results s q).recs.filter (fun p => shotOf s p = some b)).length % 2 ^ 16, 0, 0]
  | .beater c tag tick words =>
    (2 * 2 ^ 28 + (2 + words.length) * 2 ^ 24 + (16 * q + c) * 2 ^ 16 + causeBits (taintMask s q tick)
        + (flagF s (F.BT_ESTAT_SUBST q)).toNat * 2 ^ 7 + tag % 128)
      :: (seq * 2 ^ 24 + (shotWords s tick).1 % 2 ^ 24) :: words

/-- The order in which ready packets enter the queue (R210): shot records, measurement records by cell, Beater packets. -/
def packetRank : Packet → Nat
  | .shot _ _ _ => 0
  | .meas j _ _ _ _ _ _ _ _ _ _ _ _ _ _ _ => 1 + j
  | .beater c _ _ _ => 32 + c

/-- The packet of the list that enters first: the lowest rank, the earliest of those. -/
def firstPacket : List (Nat × Packet) → Option (Nat × Packet)
  | [] => none
  | x :: r =>
    match firstPacket r with
    | none => some x
    | some y => if packetRank y.2 < packetRank x.2 then some y else some x

/-- What follows when a packet is written: the counters, latches and Beater entries of a measurement record (R205, R213, R242); a shot
record's mask is the one reported (R209). -/
def afterWrite (s : State) (q : Nat) : Packet → State
  | .meas j _ _ _ p _ _ _ subst flushed _ corrupt late _ _ fed =>
    let r := results s q
    let s := setResults s q { r with recs := r.recs ++ [p] }
    let s := if late then latch (incF s (F.HB_CNT_B_LATE q)) (F.HB_LATCH_LATE_MEAS q) (quireEvent q 16) else s
    let s := if corrupt then latch (incF s (F.HB_CNT_A_CORRUPT q)) (F.HB_LATCH_CORRUPT q) (quireEvent q 16) else s
    if (late || flushed) && !fed then beaterEntry s q ⟨j, 0, 0, false, false, late, flushed, subst, s.now, p⟩ else s
  | .shot b len _ =>
    let r := results s q
    setResults s q { r with reported := r.reported.filter (fun x => x.b != b) ++ [⟨b, len, taintMask s q b⟩] }
  | .beater _ _ _ _ => s

/-- A packet may be written: a Beater packet not while its engine is paused (R252). -/
def mayWrite (s : State) (q : Nat) : Packet → Bool
  | .beater _ _ _ _ => !flagF s (F.BT_ESTAT_PAUSED q)
  | _ => true

/-- The waiting packet that comes first enters the queue (R208, R210). -/
def enqueueOp (q : Nat) (s : State) : State :=
  let r := results s q
  match firstPacket (r.ready.filter (fun x => decide (x.1 ≤ s.now) && mayWrite s q x.2)) with
  | none => s
  | some x =>
    let s := afterWrite s q x.2
    let r := results s q
    setResults s q { r with
      ready := r.ready.erase x, queue := r.queue ++ [⟨packetWords s q r.seq x.2, s.now⟩], seq := (r.seq + 1) % 256 }

/-- RECORD_ENQUEUE (R210). -/
def execRecordEnqueue (q : Fin 16) (s : State) : Host.Outcome State Fault Refusal := .next (enqueueOp q s)

/-! ### The consumer's side (R211, R214 to R217) -/

/-- The packets the consumer's side counts: from the third tick after the tick they were written in (R211). -/
def countOf (s : State) (q : Nat) : Nat := ((results s q).queue.filter (fun x => x.tick + 3 ≤ s.now)).length

/-- The head packet, where the consumer's side counts it. -/
def headOf (s : State) (q : Nat) : Option Queued :=
  match (results s q).queue with
  | x :: _ => if x.tick + 3 ≤ s.now then some x else none
  | [] => none

/-- HB_RQ_PEAK holds the largest count since it was written (R216). -/
def peakUpdate (s : State) (q : Nat) : State := setF s (F.HB_RQ_PEAK_PEAK q) (max (getF s (F.HB_RQ_PEAK_PEAK q)) (countOf s q))

/-- The head packet leaves the queue, and its credit returns (R212, R214). -/
def removeHead (s : State) (q : Nat) : State :=
  let r := results s q
  freeCredit (setResults s q { r with queue := r.queue.tail }) q

/-- Slots of the ring that hold packets not yet consumed (R214). -/
def ringUsed (s : State) (q : Nat) : Nat :=
  (getF s (F.HB_RQ_DST_WR_SLOT q) + 2 ^ 32 - getF s (F.HB_RQ_DST_RD_SLOT q)) % 2 ^ 32

/-- The ring is full (R214). -/
def ringFull (s : State) (q : Nat) : Bool := ringUsed s q == getF s (F.HB_RQ_DST_SIZE_VALUE q)

/-- The memory key of the ring slot that is written next (R214). -/
def ringKey (s : State) (q : Nat) : Nat :=
  let slot := getF s (F.HB_RQ_DST_WR_SLOT q) % max 1 (getF s (F.HB_RQ_DST_SIZE_VALUE q))
  if getF s (F.HB_RQ_CFG_DEST q) = 1 then wgtKey q (getF s (F.HB_RQ_DST_LO_VALUE q) + 8 * slot)
  else ddrKey (getF s (F.HB_RQ_DST_HI_VALUE q) * 2 ^ 32 + getF s (F.HB_RQ_DST_LO_VALUE q) + 32 * slot)

/-- Eight words written from a key; words beyond the packet's end are zero (R214). -/
def writeSlot (s : State) (key : Nat) (words : List Nat) : State :=
  (List.range 8).foldl (fun s k => setWord s (key + 4 * k) (words.getD k 0)) s

/-- The mover takes the head packet to its ring, or stops at a full ring (R214); its traffic waits while the region is down (R463). -/
def moveOp (q : Nat) (s : State) : State :=
  if getF s (F.HB_RQ_CFG_DEST q) = 0 ∨ flagF s (F.HB_RQ_CFG_EN q) = false ∨ regionUp s (q / 4) = false
      ∨ (getF s (F.HB_RQ_CFG_DEST q) = 2 ∧ flagF s F.MEM_DDR_STAT_READY = false) then s
  else
    match headOf s q with
    | none => s
    | some x =>
      let r := results s q
      if ringFull s q then
        if r.stopped then s
        else latch (incF (setResults s q { r with stopped := true }) (F.HB_RQ_CNT_DEST_FULL q)) (F.HB_LATCH_DEST_FULL q) (quireEvent q 17)
      else
        let s := removeHead (writeSlot s (ringKey s q) x.words) q
        incF (setResults s q { results s q with stopped := false }) (F.HB_RQ_DST_WR_SLOT q)

/-- RESULT_MOVE (R214). -/
def execResultMove (q : Fin 16) (s : State) : Host.Outcome State Fault Refusal := .next (moveOp q s)

/-- HB_RQ_DST_RD is written (R214): refused where DST_WR − DST_RD would exceed DST_SIZE or become negative. -/
def dstRdOp (q slot : Nat) (s : State) : Option State :=
  let s' := setF s (F.HB_RQ_DST_RD_SLOT q) slot
  if getF s (F.HB_RQ_DST_SIZE_VALUE q) < ringUsed s' q then none
  else some (if ringFull s' q then s' else setResults s' q { results s' q with stopped := false })

/-- DST_RD_WRITE (R214). -/
def execDstRdWrite (m : Master) (q : Fin 16) (slot : BitVec 32) (s : State) : Host.Outcome State Fault Refusal :=
  .next (rowWrite (.dstRdWrite m q slot) m ⟨.HB_RQ_DST_RD, q, 0, 0⟩ s (dstRdOp q slot.toNat))

/-- HB_RQ_POP.POP removes the head packet and frees its credit; without a head packet it has no effect (R215). -/
def popOp (q : Nat) (s : State) : State :=
  if getF s (F.HB_RQ_CFG_DEST q) = 0 ∧ (headOf s q).isSome then removeHead s q else s

/-- RESULT_POP (R215). -/
def execResultPop (m : Master) (q : Fin 16) (s : State) : Host.Outcome State Fault Refusal :=
  .next (rowWrite (.resultPop m q) m ⟨.HB_RQ_POP, q, 0, 0⟩ s (fun s => some (popOp q s)))

/-- Whether the result registers may be written (R217): quire idle, queue empty, every credit free. -/
def resultWritable (s : State) (q : Nat) : Bool :=
  quireIdle s q && (results s q).queue.isEmpty && (results s q).ready.isEmpty
    && (!flagF s (F.HB_RQ_CFG_EN q) || getF s (F.HB_RQ_CREDIT_FREE q) == getF s (F.HB_RQ_CFG_DEPTH q))

/-- A word range of a table-mode descriptor with weights overlaps a word range (R201, R217). -/
def tableOverlaps (s : State) (q d lo hi : Nat) : Bool :=
  !flagF s (F.WGT_W0_MODE q d) && getF s (F.WGT_W1_WLEN q d) != 0 && decide (getF s (F.WGT_W0_START q d) < hi)
    && decide (lo < getF s (F.WGT_W0_START q d) + getF s (F.WGT_W1_WLEN q d))

/-- The settings of the result path are within what R214, R217 and R362 allow together. -/
def resultCfgOk (s : State) (q : Nat) (en : Bool) (dest depth : Nat) : Bool :=
  let size := getF s (F.HB_RQ_DST_SIZE_VALUE q)
  let lo := getF s (F.HB_RQ_DST_LO_VALUE q)
  decide (dest ≠ 3) && decide (1 ≤ depth) && decide (depth ≤ 512)
    && (!en || dest == 0 || (decide (size ≠ 0) && decide (lo % (if dest = 1 then 8 else 32) = 0)))
    && (!en || dest != 2 || decide (lo + 2 ^ 32 * getF s (F.HB_RQ_DST_HI_VALUE q) + 32 * size ≤ ddrBytes s))
    && (!en || dest != 1 || (decide (lo + 8 * size ≤ 258048)
        && (List.range 256).all (fun d => !tableOverlaps s q d lo (lo + 8 * size))))

/-- HB_RQ_CFG is written (R212, R217): with EN = 1, DEPTH credits, empty ring counters, sequence numbers from zero; in a state that
does not allow it, only a write that changes nothing is accepted (R489). -/
def resultCfgOp (q : Nat) (en shotrec : Bool) (dest depth : Nat) (s : State) : Option State :=
  if resultWritable s q && resultCfgOk s q en dest depth then
    let s := setB (setB s (F.HB_RQ_CFG_EN q) en) (F.HB_RQ_CFG_SHOTREC q) shotrec
    let s := setF (setF s (F.HB_RQ_CFG_DEST q) dest) (F.HB_RQ_CFG_DEPTH q) depth
    if en then
      let s := setF (setF (setF s (F.HB_RQ_CREDIT_FREE q) depth) (F.HB_RQ_DST_WR_SLOT q) 0) (F.HB_RQ_DST_RD_SLOT q) 0
      some (setResults s q { results s q with seq := 0, stopped := false })
    else some (setF s (F.HB_RQ_CREDIT_FREE q) 0)
  else if en = flagF s (F.HB_RQ_CFG_EN q) ∧ shotrec = flagF s (F.HB_RQ_CFG_SHOTREC q) ∧ dest = getF s (F.HB_RQ_CFG_DEST q)
      ∧ depth = getF s (F.HB_RQ_CFG_DEPTH q) then some s
  else none

/-- RESULT_QUEUE_ENABLE (R212). -/
def execResultQueueEnable (m : Master) (q : Fin 16) (shotrec : Bool) (dest : Fin 4) (depth : Fin 1024) (s : State) :
    Host.Outcome State Fault Refusal :=
  .next (rowWrite (.resultQueueEnable m q shotrec dest depth) m ⟨.HB_RQ_CFG, q, 0, 0⟩ s (resultCfgOp q true shotrec dest depth))

end Sys2Proof.Machine
end

