-- ==== Sys2Proof/Machine/SizingOps.lean ====
section
/-! DEFINITION. What other blocks ask of Sizing (R422, R423): whether it holds a capture unit, and abandoning a procedure. -/

namespace Sys2Proof.Machine

/-- Sizing of a quire. -/
def szOf (s : State) (q : Nat) : Sizing := tget s.sizing.quires Sizing.init q

/-- The state with Sizing of a quire. -/
def setSz (s : State) (q : Nat) (x : Sizing) : State := { s with sizing := { s.sizing with quires := tset s.sizing.quires q x } }

/-- Procedures that hold a capture unit (R423). -/
def procHolds (p : Nat) : Bool := p == 2 || p == 3 || p == 4 || p == 6 || p == 8

/-- The procedure whose turn it is waits for a capture unit (R423). -/
def szWaits (x : Sizing) : Bool := x.active && procHolds (x.todo.headD 15) && x.held.isNone

/-- An S or L procedure runs. -/
def szRuns (x : Sizing) : Bool := x.active && !szWaits x

/-- The procedure that runs, by number; 15 none. -/
def szProc (x : Sizing) : Nat := if szRuns x then x.todo.headD 15 else if x.background then 1 else 15

/-- SZ_Q_STAT shows what runs and what waits. -/
def szShow (s : State) (q : Nat) : State :=
  let x := szOf s q
  let s := setF s (F.SZ_Q_STAT_PROC q) (szProc x)
  let s := setB s (F.SZ_Q_STAT_RUNNING q) (szRuns x || x.background)
  setB s (F.SZ_Q_STAT_WAIT_IDLE q) (!x.todo.isEmpty && !x.active)

/-- An S or L procedure that runs is abandoned (R422): its values are discarded, and the run stays due at this procedure. One that waits for
a capture unit waits for idle again: waiting is not an abandonment (R423). -/
def szAbandon (s : State) (q : Nat) : State :=
  let x := szOf s q
  if szRuns x then
    let s := setSz s q { x with active := false, abandoned := true, held := none, idleSince := none }
    szShow (latch (incF s (F.SZ_Q_CNT_ABANDON q)) (F.SZ_Q_LATCH_ABANDON q) (658 + q)) q
  else if x.active then szShow (setSz s q { x with active := false, idleSince := none }) q
  else s

/-- Sizing holds a capture unit (R423). -/
def capHeldBySizing (s : State) (u : Nat) : Bool := (List.range 16).any (fun q => (szOf s q).held == some u)

end Sys2Proof.Machine
end

