-- ==== Sys2Proof/Machine/Threads.lean ====
section
/-! DEFINITION. Sequencer threads: their states and faults (R78 to R80), control flow and hardware loops (R75, R98), rebase (R76), and
alternate sets that fail (R90). -/

namespace Sys2Proof.Machine

/-! ### States -/

/-- A thread enters a state, with a wait cause (THR_STAT). -/
def setThrState (s : State) (q t st wcause : Nat) : State := setF (setF s (F.THR_STAT_STATE q t) st) (F.THR_STAT_WCAUSE q t) wcause

/-- A quire is power-gated into retention: domains 5q to 5q + 3 switch off (R456). -/
def gateQuire (s : State) (q : Nat) : State :=
  setB (setDomains (szAbandon s q) (5 * q) 4 false) (F.QERR_STAT_GATED q) true

/-- In ENFORCE, an idle quire is power-gated (R456). -/
def quireGate (s : State) (q : Nat) : State :=
  if getF s F.THM_STAT_STATE = 2 ∧ quireIdle s q ∧ flagF s (F.QERR_STAT_GATED q) = false then gateQuire s q else s

/-- The alternate set a thread is building fails in this tick (R90): one late command, SETERR, the shot of its play time tainted. -/
def failSet (s : State) (q t : Nat) : State :=
  match (thread s q t).set with
  | .building _ e => latch (lateCommand s q t e.tick) (F.THR_LATCH_SETERR q t) (quireEvent q 4)
  | _ => s

/-- A thread leaves RUN, STALL or WAIT: any set it is building fails, its wait ends. -/
def threadEnd (s : State) (q t st : Nat) : State :=
  let s := failSet s q t
  setThrState (setThread s q t { thread s q t with set := .none, wait := none }) q t st 0

/-- A thread faults (R80): FAULT with its cause; the LATE latch; the shot of this tick tainted. -/
def threadFault (s : State) (q t cause : Nat) : State :=
  let s := setF (threadEnd s q t stFault) (F.THR_STAT_FCAUSE q t) cause
  let s := latch s (F.THR_LATCH_FAULT q t) (quireEvent q 1)
  taintQuire (latch s (F.THR_LATCH_LATE q t) (quireEvent q 0)) q s.now .late

/-- STOP (R79): a thread in RUN, STALL or WAIT enters DONE. -/
def threadStop (s : State) (q t : Nat) : State := if isActive (thrState s q t) then quireGate (threadEnd s q t stDone) q else s

/-! ### Control flow -/

/-- The address after `a`, and the loops still active (R98): at the END of the innermost loop its back-edge is taken until its count
is exhausted, then that of the loop enclosing it. -/
def stepLoops (a : Nat) : List LoopFrame → Nat × List LoopFrame
  | [] => (a + 1, [])
  | l :: r =>
    if a = l.last then (if 1 < l.left then (l.first, { l with left := l.left - 1 } :: r) else stepLoops a r)
    else (a + 1, l :: r)

/-- A thread goes on to the next instruction. -/
def Thread.next (x : Thread) : Thread := { x with pc := (stepLoops x.pc x.loops).1, loops := (stepLoops x.pc x.loops).2 }

/-- A thread takes a branch (R98): loops whose body the target lies outside end, the innermost first. -/
def Thread.branch (x : Thread) (tgt : Nat) : Thread :=
  { x with pc := tgt, loops := x.loops.dropWhile (fun l => decide (tgt < l.first) || decide (l.last < tgt)) }

/-- Rebase (R76): TT becomes at least the waking tick plus the margin. -/
def Thread.rebase (x : Thread) (reb : Bool) (w gap : Nat) : Thread := if reb then { x with tt := max x.tt (w + gap) } else x

/-- A scalar register written. -/
def Thread.setReg (x : Thread) (r : Fin 16) (v : Word) : Thread := { x with s := x.s.set r.val v }

/-! ### Subscriptions (R87, R88) -/

/-- The test of a subscription, frame rule or condition on a value (R87). -/
def testHolds (test val v : Nat) : Bool :=
  match test with
  | 0 => v == val
  | 1 => v != val
  | 2 => v % 2 == 1
  | _ => decide (val ≤ v)

/-- The predicate of a subscription, from the value delivered last (R87). -/
def predicate (s : State) (q t n : Nat) : Bool :=
  testHolds (getF s (F.THR_SUB_TEST q t n)) (getF s (F.THR_SUB_VAL q t n)) (tget s.seq.subVal 0 (q, t, n))

/-- A subscription is valid (R88). -/
def subValid (s : State) (q t n : Nat) : Bool := flagF s (F.THR_SUB_VALID q t n)

/-- A set member's condition holds (R95). -/
def condHolds (s : State) (q t : Nat) (c : Cond) : Bool := predicate s q t c.sub != c.neg

/-- The thread's subscriptions named in a mask clear (R88). -/
def armClear (s : State) (q t mask : Nat) : State :=
  (List.range 8).foldl (fun s n => if mask.testBit n then setB s (F.THR_SUB_VALID q t n) false else s) s

/-- A thread that waits for subscription n wakes in tick w (R76): with its predicate, or timed out. -/
def wakeSub (s : State) (q t n w : Nat) (timedOut : Bool) : State :=
  let x := thread s q t
  let p := predicate s q t n
  match x.wait with
  | some (.sub n' reb wr sd gap _) =>
    if n' = n then
      let x := { x with wait := none }.rebase reb w gap
      let x := if wr then x.setReg sd (if timedOut then BitVec.ofNat 32 (2 ^ 31) else BitVec.ofNat 32 p.toNat) else x
      setThrState (setThread s q t x) q t stRun 0
    else s
  | some (.branch n' neg reb gap tgt) =>
    if n' = n then
      let x := { x with wait := none }.rebase reb w gap
      setThrState (setThread s q t (if p != neg then x.branch tgt else x.next)) q t stRun 0
    else s
  | _ => s

/-- A value reaches a subscription (R88): it becomes valid, and a thread waiting for it wakes, unless its core is down (R462). -/
def subDeliver (s : State) (q t n v : Nat) : State :=
  let s := setB { s with seq := { s.seq with subVal := tset s.seq.subVal (q, t, n) v } } (F.THR_SUB_VALID q t n) true
  if tget s.seq.held false q then s else wakeSub s q t n s.now false

/-- Every subscription of the device that names a source: quire, thread, subscription. -/
def subsOf (s : State) (src : Nat) : List (Nat × Nat × Nat) :=
  (List.range 16).flatMap (fun q => (List.range 16).flatMap (fun t =>
    ((List.range 8).filter (fun n => getF s (F.THR_SUB_SRC q t n) == src)).map (fun n => (q, t, n))))

/-- A value reaches every subscription that names its source (R254). -/
def deliverSubs (s : State) (src v : Nat) : State := (subsOf s src).foldl (fun s x => subDeliver s x.1 x.2.1 x.2.2 v) s

/-- WAIT or BRE clears an event flag; one that Post sets in the same CORE cycle stays set (R97). -/
def clearEvent (s : State) (q ev : Nat) : State :=
  if s.seq.evKeep.contains (q, ev) then { s with seq := { s.seq with evKeep := s.seq.evKeep.erase (q, ev) } }
  else setBitF s (F.SEQ_EVFLAG_FLAG q) ev false

/-- Post sets an event flag of a quire (R97). With `same`, the WAIT or BRE of the same CORE cycle that clears it has still to issue. -/
def setEventFlag (s : State) (q ev : Nat) (same : Bool) : State :=
  let s := setBitF s (F.SEQ_EVFLAG_FLAG q) ev true
  if same then { s with seq := { s.seq with evKeep := (q, ev) :: s.seq.evKeep } } else s

/-- A thread that waits for an event flag wakes at the start of this tick if the flag is 1 there (R76): it rebases on this tick, and
clears the flag if its CLR is 1. -/
def wakeEvent (s : State) (q t flags : Nat) : State :=
  let x := thread s q t
  match x.wait with
  | some (.event ev clr gap) =>
    if flags.testBit ev then
      let s := setThrState (setThread s q t ({ x with wait := none }.rebase true s.now gap)) q t stRun 0
      if clr then setBitF s (F.SEQ_EVFLAG_FLAG q) ev false else s
    else s
  | _ => s

/-- The threads of a quire that wait for an event flag are served at the start of a tick, each with the flags as they are there (R76). -/
def eventWakes (s : State) (q : Nat) : State :=
  let flags := getF s (F.SEQ_EVFLAG_FLAG q)
  if tget s.seq.held false q then s else (List.range 16).foldl (fun s t => wakeEvent s q t flags) s

end Sys2Proof.Machine
end

