-- ==== Sys2Proof/Machine/Couch.lean ====
section
/-! DEFINITION. The Couch (R253 to R266): deliveries from sources to subscriptions, exports, frame rules and the syndrome engine; the
Pauli frame and the drive sign bits; decisions from other devices. -/

namespace Sys2Proof.Machine

/-! ### The Pauli frame (R262 to R265) -/

/-- The frame of a slot: bit 0 x, bit 1 z. -/
def frameOf (s : State) (k : Nat) : Nat := tget s.couch.frame 0 k

/-- The frame of a slot as the frame sources, COUCH_PF and corrected states see it (R263). -/
def frameShown (s : State) (k : Nat) : Nat := tget s.couch.shown 0 k

/-- AXIS of a slot, as in force (R264). -/
def axisOf (s : State) (k : Nat) : Nat := tget s.couch.axis 0 k

/-- RC_SLOT of a read-out channel, as in force (R264): its reset value until a write takes effect. -/
def rcSlotOf (s : State) (k : Nat) : Nat := (tget s.couch.rcSlot none k).getD (k % 16)

/-- The drive sign bit a frame and an axis give: z XOR (x AND AXIS) (R264). -/
def signOf (frame axis : Nat) : Bool := (frame.testBit 1) != (frame.testBit 0 && axis.testBit 0)

/-- The frame of a slot becomes a value in this tick U: seen at the sources from U + 1, in the sign bit from U + 2 (R263). -/
def setFrame (s : State) (k v : Nat) : State :=
  { s with couch := { s.couch with
      frame := tset s.couch.frame k v
      seen := s.couch.seen ++ [(s.now + 1, k, v)]
      signDue := s.couch.signDue ++ [(s.now + 2, k, signOf v (axisOf s k))] } }

/-- A mask is XORed into the frame of a slot in this tick (R262). -/
def xorFrame (s : State) (k mask : Nat) : State := if mask % 4 = 0 then s else setFrame s k (frameOf s k ^^^ mask % 4)

/-- Every frame is cleared in this tick (R262). -/
def clearFrames (s : State) : State :=
  let s := { s with couch := { s.couch with cleared := some s.now } }
  s.couch.frame.foldl (fun s x => if frameOf s x.1 = 0 then s else setFrame s x.1 0) s

/-- This tick is a shot boundary that the device has still to act on (R342, R347): announced, while its master is not lost (R343), or the
tick of a commit it has learned. -/
def boundaryDue (s : State) : Bool :=
  s.bounds.head? != some s.now
    && ((s.seq.announced.contains s.now && !flagF s F.CL_STAT_MASTER_LOST) || s.chain.learned == some s.now)

/-- PF_CLR_SHOT at a boundary (R262, R281): before any XOR of the tick. -/
def shotClear (s : State) : State :=
  if flagF s F.COUCH_CTRL_PF_CLR_SHOT && s.couch.cleared != some s.now then clearFrames s else s

/-- A word of COUCH_PF_XOR is applied: bits [2i+1:2i] are z and x of slot 16w + i (R262). -/
def xorFrameWord (s : State) (w mask : Nat) : State :=
  (List.range 16).foldl (fun s i => xorFrame s (16 * w + i) (bits mask (2 * i + 1) (2 * i))) s

/-- AXIS and RC_SLOT of a slot take effect in this tick U (R264). -/
def slotEffect (s : State) (k axis rc : Nat) : State :=
  { s with couch := { s.couch with
      axis := tset s.couch.axis k axis
      rcSlot := tset s.couch.rcSlot k (some rc)
      signDue := s.couch.signDue ++ [(s.now + 2, k, signOf (frameOf s k) axis)] } }

/-- The sign bit in force at the tones of a slot (R263). -/
def signInForce (s : State) (k : Nat) : Bool := tget s.couch.sign false k

/-! ### Deliveries (R254) -/

/-- A delivery placed at a later tick. -/
def couchAt (s : State) (tick : Nat) (d : Deliver) : State := { s with couch := { s.couch with due := s.couch.due ++ [(tick, d)] } }

/-- A decision entry reaches the transmitter of every port of an export, with its departure tick (R254, R256); a port not in Run carries
none (R333). -/
def exportEntry (s : State) (x : Nat) (arm : Bool) (v tick : Nat) : State :=
  let e : Sys2Proof.DecEntry := ⟨Fin.ofNat 64 x, arm, Fin.ofNat 4 v, Fin.ofNat 256 tick⟩
  (List.range 8).foldl (fun s p =>
    if bitF s (F.DX_CFG_PORTS x) p && portRuns s p then
      { s with couch := { s.couch with tx := tset s.couch.tx p (tget s.couch.tx [] p ++ [(tick, e)]) } }
    else s) s

/-- Every enabled export of a source sends a VALUE entry (R256). -/
def exportValue (s : State) (src v : Nat) : State :=
  (List.range 64).foldl (fun s x =>
    if flagF s (F.DX_CFG_EN x) && getF s (F.DX_CFG_SRC x) == src then exportEntry s x false v (s.now + 2) else s) s

/-- Every export of a read-out channel with ARM_EN sends an ARM entry at the play tick of a MEAS (R256), or in the tick in which the MEAS
is found late, as its own ARM acts there (R96). -/
def exportArm (s : State) (k : Nat) : State :=
  (List.range 64).foldl (fun s x =>
    if flagF s (F.DX_CFG_EN x) && flagF s (F.DX_CFG_ARM_EN x) && getF s (F.DX_CFG_ARM_CH x) == k then exportEntry s x true 0 (s.now + 2)
    else s) s

/-- Frame rules that watch a source act in the delivery tick (R266). -/
def frameRules (s : State) (src v : Nat) : State :=
  (List.range 32).foldl (fun s r =>
    if flagF s (F.FRULE_A_EN r) && getF s (F.FRULE_A_SRC r) == src && testHolds (getF s (F.FRULE_A_TEST r)) (getF s (F.FRULE_A_VAL r)) v
    then xorFrame s (getF s (F.FRULE_B_SLOT r)) (getF s (F.FRULE_B_XMASK r))
    else s) s

/-! ### The syndrome engine's inputs (R267, R268, R272) -/

/-- Word 0 of check entry c (R268). -/
def checkWord (s : State) (c : Nat) : Nat := memWord s (couchKey (8 * c))

/-- The value a check takes from a source value: bit 0, inverted by INV (R268). -/
def checkValue (s : State) (c v : Nat) : Nat := (v % 2 + bits (checkWord s c) 13 13) % 2

/-- The round that gathers has closed by tick t, with a window of `rwin` ticks (R272). -/
def roundOver (e : Syndrome) (rwin t : Nat) : Bool :=
  (match e.closeAt with | some c => decide (c ≤ t) | none => false)
    || (match e.first with | some f => decide (f + rwin < t) | none => false)

/-- The round closes at tick t, unless it closes before. -/
def closeBy (e : Syndrome) (t : Nat) : Syndrome := { e with closeAt := some (e.closeAt.getD t) }

/-- A value reaches check c of n in tick t (R272): the check's first of the round, of which the last closes it in the tick after; or a
repeated one, which closes the round in the tick after and opens the next. -/
def gatherValue (n rwin : Nat) (e : Syndrome) (c v t : Nat) : Syndrome :=
  if roundOver e rwin t then { e with next := e.next ++ [(c, v, t)] }
  else if e.got.all (fun x => x.1 != c) then
    let e := { e with got := e.got ++ [(c, v)], first := some (e.first.getD t) }
    if n ≤ e.got.length then closeBy e (t + 1) else e
  else closeBy { e with next := e.next ++ [(c, v, t)] } (t + 1)

/-- One delivery reaches one check (R272). -/
def gatherCheck (s : State) (c v : Nat) : State :=
  { s with couch := { s.couch with
      se := gatherValue (getF s F.SE_GEOM_C) (getF s F.SE_RWIN_TICKS) s.couch.se c (checkValue s c v) s.now } }

/-- A delivery reaches the checks of the running engine that name its source (R254, R272). -/
def gather (s : State) (src v : Nat) : State :=
  if flagF s F.SE_STAT_RUN then
    (List.range (getF s F.SE_GEOM_C)).foldl (fun s c => if bits (checkWord s c) 11 0 = src then gatherCheck s c v else s) s
  else s

/-- An event source delivers a value in this tick (R254). -/
def deliver (s : State) (src v : Nat) : State :=
  let s := { s with couch := { s.couch with vals := tset s.couch.vals src v } }
  gather (frameRules (exportValue (couchAt s (s.now + 2) (.subs src v)) src v) src v) src v

/-- The corrected state of a read-out channel (R265): 0 and 1 XORed with the x bit of its slot. -/
def correctedState (s : State) (k v : Nat) : Nat :=
  if v < 2 then v ^^^ (frameShown s (k / 16 * 16 + rcSlotOf s k) % 2) else v

/-- A discriminator state is delivered at its source, and its corrected state beside it (R204, R265). -/
def deliverState (s : State) (k v : Nat) : State :=
  let w := correctedState s k v
  deliver (deliver s k v) (384 + k) w

/-- A continuous source changes its value: its exports send it, and its subscriptions see it two ticks on (R254, R256). -/
def contChange (s : State) (src v : Nat) : State := exportValue (couchAt s (s.now + 2) (.subs src v)) src v

/-- The subscriptions that name a continuous source: quire, thread, subscription, source (R253). -/
def contSubs (s : State) : List (Nat × Nat × Nat × Nat) :=
  s.regs.filterMap (fun x =>
    if x.1.reg.name = .THR_SUB ∧ x.1.lsb = 0 ∧ 640 ≤ x.2 then some (x.1.reg.i, x.1.reg.j, x.1.reg.k, x.2) else none)

/-- A subscription holds a value already: delivering it again would change nothing. -/
def subHolds (s : State) (q t n v : Nat) : Bool := subValid s q t n && tget s.seq.subVal 0 (q, t, n) == v

/-- Continuous sources deliver their present value at the start of every tick (R253): a subscription that an ARM cleared becomes
valid again, one that has come to name another source takes that source's value. -/
def contDeliver (s : State) : State :=
  (contSubs s).foldl (fun s x =>
    let v := tget s.couch.vals 0 x.2.2.2
    if subHolds s x.1 x.2.1 x.2.2.1 v then s else subDeliver s x.1 x.2.1 x.2.2.1 v) s

/-- The present value of a continuous source (R253). -/
def contValue (s : State) (src : Nat) : Nat := if src < 896 then frameShown s (src - 640) else (s.couch.psrc.testBit (src - 896)).toNat

/-- In every tick a continuous source delivers to the checks of the running engine that name it (R253, R254). -/
def contGather (s : State) : State :=
  if flagF s F.SE_STAT_RUN then
    (List.range (getF s F.SE_GEOM_C)).foldl (fun s c =>
      let src := bits (checkWord s c) 11 0
      if 640 ≤ src ∧ src < 928 then gatherCheck s c (contValue s src) else s) s
  else s

/-- One delivery that has come due takes place. -/
def couchEffect (s : State) : Deliver → State
  | .subs src v =>
    deliverSubs (if 640 ≤ src then { s with couch := { s.couch with vals := tset s.couch.vals src v } } else s) src v
  | .xin n v => deliver (setB (setF s (F.XIN_CFG_VALUE n) v) (F.XIN_CFG_DELIVERED n) true) (320 + n) v
  | .xarm n => after s (s.now + 1) (.armSource (320 + n) true)
  | .state src v => deliverState s src v
  | .pfClr => clearFrames s
  | .pfXor w mask => xorFrameWord s w mask
  | .slot k axis rc => slotEffect s k axis rc
  | .seXor k mask => xorFrame s k mask
  | .seBnd p index round =>
    if !portRuns s p then s else { s with couch := { s.couch with bndTx := tset s.couch.bndTx p (tget s.couch.bndTx [] p ++ [(index, round, s.now)]) } }

/-- The order of deliveries of one tick: a clear of the frames before any XOR (R262), and a new RC_SLOT after every corrected state, which
it governs from the next tick (R264, R265). -/
def Deliver.rank : Deliver → Nat
  | .pfClr => 0
  | .slot _ _ _ => 2
  | _ => 1

/-- The frame of a slot is seen with a value: its source changes only if the value does (R256, R263). -/
def showFrame (s : State) (k v : Nat) : State :=
  if frameShown s k = v then s else contChange { s with couch := { s.couch with shown := tset s.couch.shown k v } } (640 + k) v

/-- The frame values seen from this tick on (R263): the last of each slot, since all changes of a tick act together (R262). -/
def framesShown : List (Nat × Nat × Nat) → State → State
  | [], s => s
  | x :: r, s => framesShown r (if r.any (fun y => y.2.1 == x.2.1) then s else showFrame s x.2.1 x.2.2)

/-- Frame values and sign bits that are seen from this tick on (R263). -/
def couchSeen (s : State) : State :=
  let c := s.couch
  let now := s.now
  framesShown (c.seen.filter (fun x => decide (x.1 ≤ now))) { s with couch := { c with
    seen := c.seen.filter (fun x => decide (now < x.1)), signDue := c.signDue.filter (fun x => decide (now < x.1)),
    sign := (c.signDue.filter (fun x => decide (x.1 ≤ now))).foldl (fun t x => tset t x.2.1 x.2.2) c.sign } }

/-- The Post flags as they are at the start of this tick are delivered (R255): a changed one reaches exports and subscriptions. -/
def flagsSeen (s : State) : State :=
  let v := getF s F.COUCH_PSRC_FLAG
  let old := s.couch.psrc
  (List.range 32).foldl (fun s f => if v.testBit f = old.testBit f then s else contChange s (896 + f) (v.testBit f).toNat)
    { s with couch := { s.couch with psrc := v, flagSet := [] } }

/-- The deliveries of a rank take place, in the order they were placed. -/
def couchRank (due : List (Nat × Deliver)) (n : Nat) (s : State) : State :=
  (due.filter (fun x => x.2.rank == n)).foldl (fun s x => couchEffect s x.2) s

/-- The Couch at the start of a tick: what has come due takes place, and continuous sources deliver (R253, R254). -/
def couchTick (s : State) : State :=
  let s := contGather (flagsSeen (couchSeen s))
  let s := if boundaryDue s then shotClear s else s
  let now := s.now
  let due := s.couch.due.filter (fun x => decide (x.1 ≤ now))
  let s := { s with couch := { s.couch with due := s.couch.due.filter (fun x => decide (now < x.1)) } }
  contDeliver (couchRank due 2 (couchRank due 1 (couchRank due 0 s)))

/-- A value the source delivered in the tick before is still on its way to subscriptions. -/
def subsComing (s : State) (src : Nat) : Bool :=
  s.couch.due.any (fun x => match x.2 with | .subs k _ => k == src && x.1 == s.now + 1 | _ => false)

/-- Every subscription of the device that watches a source clears (R257). `again`: the clear of an ARM entry in the tick after its delivery
tick; a value of the same input delivered in that tick reaches the subscriptions first and is cleared after it (R281). -/
def armSourceEffect (s : State) (src : Nat) (again : Bool) : State :=
  let s := (subsOf s src).foldl (fun s x => setB s (F.THR_SUB_VALID x.1 x.2.1 x.2.2) false) s
  if again && subsComing s src then after s (s.now + 2) (.armSource src false) else s

/-! ### Decisions from other devices (R257, R258) -/

/-- The departure tick an entry names, from its low bits and its arrival tick (R256). -/
def departure (now l8 : Nat) : Nat := now - (now + 256 - l8) % 256

/-- An entry meets one external input: delivered at L + 16 + CDLY, or in the tick after its arrival if that has passed (R257, R258); one that
arrives in its delivery tick is delivered at once. -/
def xinEntry (s : State) (p n : Nat) (e : Sys2Proof.DecEntry) : State :=
  let d := departure s.now e.l8 + 16 + getF s (F.COUCH_PORT_CDLY p)
  let what : Deliver := if e.arm then .xarm n else .xin n e.val
  if d < s.now then couchAt (latch (incF s F.COUCH_CNT_XLATE) F.COUCH_LATCH_XLATE 544) (s.now + 1) what
  else if d = s.now then couchEffect s what
  else couchAt s d what

/-- An entry arrives on a port: every enabled input that accepts it delivers; one that no input accepts is discarded (R257). -/
def decisionEntry (s : State) (p : Nat) (e : Sys2Proof.DecEntry) : State :=
  let ns := (List.range 64).filter (fun n =>
    flagF s (F.XIN_CFG_EN n) && getF s (F.XIN_CFG_PORT n) == p && getF s (F.XIN_CFG_EXPORT n) == e.exp.val)
  if ns = [] then incF s F.COUCH_CNT_XDROP else ns.foldl (fun s n => xinEntry s p n e) s

/-- DECISION_CELL_RX (R257): the entries of a decision cell, in order, on a port in Run (R329). -/
def execDecisionCellRx (p : Fin 8) (entries : List Sys2Proof.DecEntry) (s : State) : Host.Outcome State Fault Refusal :=
  .next (if portRuns s p then entries.foldl (fun s e => decisionEntry s p e) (cellPassed s p 0) else s)

/-! ### Frame writes and Post flags (R255, R262) -/

/-- PF_XOR (R262): acts in the first tick at least 4 ticks after the write. -/
def execPfXor (m : Master) (w : Fin 16) (mask : BitVec 32) (s : State) : Host.Outcome State Fault Refusal :=
  .next (regWrite m ⟨.COUCH_PF_XOR, w, 0, 0⟩ s (fun s => some (couchAt s (regDelay s.now 4) (.pfXor w mask.toNat))))

/-- COUCH_CTRL.PF_CLR: accepted only while every quire is idle (R262). -/
def pfClrOp (s : State) : Option State := if allIdle s then some (couchAt s (regDelay s.now 4) .pfClr) else none

/-- PF_CLR (R262). -/
def execPfClr (m : Master) (s : State) : Host.Outcome State Fault Refusal :=
  .next (regWrite m ⟨.COUCH_CTRL, 0, 0, 0⟩ s pfClrOp)

/-- A Post flag is set or cleared (R255): both inputs acting in one tick leave it set. Its source delivers the new value from the start of
the next tick. -/
def couchFlag (s : State) (f : Nat) (b : Bool) : State :=
  if b then setBitF { s with couch := { s.couch with flagSet := f :: s.couch.flagSet } } F.COUCH_PSRC_FLAG f true
  else if s.couch.flagSet.contains f then s
  else setBitF s F.COUCH_PSRC_FLAG f false

end Sys2Proof.Machine
end

