-- ==== Sys2Proof/Machine/Player.lean ====
section
/-! DEFINITION. Segments and envelope players (R101 to R109): descriptors and their references, where a player's read point stands,
the ticks at which it fetches, the end of an iteration, jump requests, and the streams. -/

namespace Sys2Proof.Machine

/-! ### Descriptors -/

/-- RATE′ of a descriptor (R101). -/
def segRate (s : State) (q d : Nat) : Nat :=
  let r := getF s (F.SEG_W2_RATE q d)
  if r = 0 then 2 ^ 32 else if r < 2 ^ 16 then 2 ^ 16 else r

/-- LENGTH of a descriptor, in samples. -/
def segLen (s : State) (q d : Nat) : Nat := getF s (F.SEG_W1_LENGTH q d)

/-- Iterations that follow the first; none: until a jump or the next command. -/
def segLoops (s : State) (q d : Nat) : Option Nat :=
  if getF s (F.SEG_W1_LOOPS q d) = 1023 then none else some (getF s (F.SEG_W1_LOOPS q d))

/-- A descriptor plays from a stream, and the number of that stream (R105). -/
def segStream (s : State) (q d : Nat) : Bool := flagF s (F.SEG_W1_STREAM q d)
def streamNo (s : State) (q d : Nat) : Nat := getF s (F.SEG_W0_START q d) % 4

/-- A segment in the format of its channel's kind (R102, R105): complex for a tone, real for a flux channel. -/
def formatFits (s : State) (q d : Nat) (k : ChanKind) : Bool := flagF s (F.SEG_W1_FMT q d) == (k == .flux)

/-- Vat words of a descriptor's segment (R105). -/
def segWords (s : State) (q d : Nat) : Nat := if flagF s (F.SEG_W1_FMT q d) then (segLen s q d + 1) / 2 else segLen s q d

/-- The segment fits in the Vat (R105). -/
def segFits (s : State) (q d : Nat) : Bool := decide (getF s (F.SEG_W0_START q d) + segWords s q d ≤ 1048576)

/-- A reference to a segment more, or one less (R103). -/
def segRef (s : State) (q d : Nat) : State := incF s (F.SEG_W3_ACTIVE q d)
def segRel (s : State) (q d : Nat) : State := setF s (F.SEG_W3_ACTIVE q d) (getF s (F.SEG_W3_ACTIVE q d) - 1)

/-- A reference to a weight descriptor more, or one less (R201). -/
def wgtRef (s : State) (q d : Nat) : State := incF s (F.WGT_W3_ACTIVE q d)
def wgtRel (s : State) (q d : Nat) : State := setF s (F.WGT_W3_ACTIVE q d) (getF s (F.WGT_W3_ACTIVE q d) - 1)

/-- A stream command ends: it is no longer outstanding, and its rewind mark is released (R106, R109). -/
def streamEnd (s : State) (q d spos : Nat) : State :=
  if segStream s q d then
    let n := streamNo s q d
    let x := streamOf s q n
    setStream s q n { x with outstanding := x.outstanding.erase spos, marks := x.marks.erase spos }
  else s

/-- A command leaves its queue or its set without playing: what it referenced is released (R92, R103, R491). -/
def releaseBody (s : State) (q : Nat) : CmdBody → State
  | .segment d _ spos => streamEnd (segRel s q d) q d spos
  | .meas w _ _ => wgtRel s q w
  | _ => s

/-- Every member of an entry is released. -/
def releaseEntry (s : State) (q : Nat) (e : Entry) : State := e.members.foldl (fun s m => releaseBody s q m.2) s

/-! ### The read point -/

/-- The first tick in which sample n of a player's chain is put out (R86, R101): four complex samples a tick, sixteen flux samples in
three. -/
def sampleTick (k : ChanKind) (p : Player) (n : Nat) : Nat :=
  match k with
  | .flux => (64 * p.tick + p.sub + 12 * n) / 64
  | _ => p.tick + n / 4

/-- The first output sample at which the read point has reached a chain index (R101). -/
def reach (p : Player) (rate x : Nat) : Nat :=
  if x * 2 ^ 32 ≤ p.x0 then p.n0 else p.n0 + (x * 2 ^ 32 - p.x0 + rate - 1) / rate

/-- The output sample at which chain sample i is fetched (R102): at full rate the one that plays it, else the one whose read point
first reaches i − 4. -/
def fetchAt (p : Player) (rate i : Nat) : Nat := reach p rate (if rate = 2 ^ 32 then i else i - 4)

/-- Tick F of the present iteration (R102): the tick in which its last sample is fetched. -/
def fTick (s : State) (c : Chan) (p : Player) : Nat :=
  sampleTick c.kind p (fetchAt p (segRate s c.q p.seg) (p.c0 + segLen s c.q p.seg - 1))

/-- The output sample at which the iteration after the present one begins. -/
def iterationNext (s : State) (c : Chan) (p : Player) : Nat :=
  max (p.n0 + 1) (reach p (segRate s c.q p.seg) (p.c0 + segLen s c.q p.seg))

/-- The chain index of the next sample a player fetches, at the start of a tick, counted within the present iteration (R102, R106). -/
def fetchPos (s : State) (c : Chan) (p : Player) (tick : Nat) : Nat :=
  let rate := segRate s c.q p.seg
  let n := 4 * (tick - p.tick)
  let x := (p.x0 + (n - 1 - p.n0) * rate) / 2 ^ 32
  if n = 0 ∨ n ≤ p.n0 then 0
  else min (segLen s c.q p.seg) ((x + (if rate = 2 ^ 32 then 1 else 5)) - p.c0)

/-- The part of a player's chain that output sample n belongs to. -/
def partAt (p : Player) (n : Nat) : PlayPart :=
  (p.past.find? (fun a => decide (n < a.upto))).getD ⟨p.seg, p.spos, p.n0, p.x0, p.c0, 0, 0⟩

/-- The sample of its segment at which the read point stands at output sample n; iterations repeat the segment (R101). -/
def partIndex (s : State) (q : Nat) (a : PlayPart) (n : Nat) : Nat :=
  ((((a.x0 + (n - a.n0) * segRate s q a.seg) / 2 ^ 32 : Nat) - (a.c0 : Int)) % (max 1 (segLen s q a.seg) : Nat)).toNat

/-- A player whose output samples count from sample g0 plays at sample g: not before its command, nor past its last iteration. -/
def playsAt (s : State) (c : Chan) (p : Player) (g0 g : Nat) : Bool :=
  p.active && decide (g0 ≤ g) && !(p.closed && decide (iterationNext s c p ≤ g - g0))

/-! ### The end of a command -/

/-- The segment in a player ends now: what the chain references is released (R84, R103). -/
def playerEnd (s : State) (c : Chan) : State :=
  let p := playerOf s c
  if p.active then
    let s := streamEnd (segRel s c.q p.seg) c.q p.seg p.spos
    let s := p.jumps.foldl (fun s j => segRel s c.q j.seg) s
    let s := p.past.foldl (fun s x => segRel s c.q x.seg) s
    setPlayer s c { p with
      active := false, closed := false, jumps := [], past := [], deafTo := 0,
      ended := (if p.late then [] else [(p.t, p.tick, s.now - 1)]) ++ p.ended.filter (fun e => decide (s.now < e.2.2 + 4)) }
  else s

/-- A player's last sample leaves it in a tick: it is idle from the next one on (R103). -/
def playerEndAt (s : State) (c : Chan) (p : Player) (tick : Nat) : State :=
  if tick < s.now then playerEnd s c else after (setPlayer s c { p with closed := true }) (tick + 1) (.playEnd c p.tick)

/-- The player's last sample has left it, unless another command has taken the channel since (R103). -/
def playEndEffect (s : State) (c : Chan) (tick : Nat) : State :=
  if (playerOf s c).tick = tick ∧ (playerOf s c).closed then playerEnd s c else s

/-- Segments a jump has followed are released once their last sample has left the player (R103). -/
def segOut (s : State) (c : Chan) : State :=
  let p := playerOf s c
  let s := setPlayer s c { p with past := p.past.filter (fun x => decide (s.now < x.rel)) }
  (p.past.filter (fun x => decide (x.rel ≤ s.now))).foldl (fun s x => segRel s c.q x.seg) s

/-! ### Iterations and jumps -/

/-- The jump honoured at a boundary (R102): the latest request that had reached the player in tick F or before. -/
def honoured (p : Player) (f : Nat) : Option Jump := (p.jumps.filter (fun j => j.tick ≤ f)).getLast?

/-- The player continues with a jump's target, without a gap (R102): the fractional read position is kept. A request that arrives after F
of a last iteration, before its last sample has left the player, finds no segment. -/
def jumpTo (s : State) (c : Chan) (p : Player) (j : Jump) (f : Nat) : State :=
  let nb := iterationNext s c p
  let out := sampleTick c.kind p (nb - 1) + 1
  let s := streamEnd s c.q p.seg p.spos
  let s := setPlayer s c { p with
    seg := j.seg, n0 := nb, x0 := p.x0 + (nb - p.n0) * segRate s c.q p.seg, c0 := p.c0 + segLen s c.q p.seg,
    left := segLoops s c.q j.seg, jumps := p.jumps.filter (fun x => f < x.tick), spos := 0
    past := p.past ++ [⟨p.seg, p.spos, p.n0, p.x0, p.c0, nb, out⟩], deafTo := if p.left = some 0 then sampleTick c.kind p nb else p.deafTo }
  if out ≤ s.now then segOut s c else after s out (.segRel c)

/-- A looping segment goes on to its next iteration; a stream command entering its last one releases its rewind mark as that begins
(R106). -/
def iterateOn (s : State) (c : Chan) (p : Player) (left : Option Nat) : State :=
  let begins := sampleTick c.kind p (iterationNext s c p)
  let s := setPlayer s c { p with c0 := p.c0 + segLen s c.q p.seg, left := left }
  if left = some 0 ∧ segStream s c.q p.seg then after s begins (.unmark c.q (streamNo s c.q p.seg) p.spos) else s

/-- The player fetches the last sample of the present iteration (R102): a pending jump is honoured, or the segment loops, or it
ends. -/
def iterationEnd (s : State) (c : Chan) : State :=
  let p := playerOf s c
  let f := fTick s c p
  if !p.active || p.closed || decide (s.now < f) then s
  else
    match honoured p f, p.left with
    | some j, _ => jumpTo s c p j f
    | none, none => iterateOn s c p none
    | none, some (k + 1) => iterateOn s c p (some k)
    | none, some 0 => playerEndAt s c p (sampleTick c.kind p (iterationNext s c p - 1))

/-- SEGMENT_ITERATION_END (R102): when tick F has come. -/
def execSegmentIterationEnd (q : Fin 16) (k : ChanKind) (n : Fin 32) (s : State) : Host.Outcome State Fault Refusal :=
  .next (iterationEnd s ⟨q, k, n⟩)

/-- A discarded request is counted (R102). -/
def jumpMiss (s : State) (q : Nat) : State := incF s (F.SEQ_CNT_SEG_JMISS q)

/-- A jump's target may be played (R102): not empty, of the channel's format, no stream, inside the Vat. -/
def jumpTargetOk (s : State) (q d : Nat) (k : ChanKind) : Bool :=
  decide (segLen s q d ≠ 0) && formatFits s q d k && !segStream s q d && segFits s q d

/-- A jump request reaches its player now (R102). -/
def jumpArrives (s : State) (c : Chan) (d t : Nat) : State :=
  if !jumpTargetOk s c.q d c.kind then lateCommand (jumpMiss s c.q) c.q t s.now
  else
    let p := playerOf s c
    let f := fTick s c p
    if !p.active || p.closed || (p.left == some 0 && decide (f < s.now)) || decide (s.now < p.deafTo) then jumpMiss s c.q
    else
      let gone := p.jumps.filter (fun j => decide (f < j.tick) || decide (s.now ≤ f))
      let kept := p.jumps.filter (fun j => decide (j.tick ≤ f) && decide (f < s.now))
      segRef (setPlayer (gone.foldl (fun s j => segRel s c.q j.seg) s) c { p with jumps := kept ++ [⟨s.now, d, t⟩] }) c.q d

/-! ### Streams (R106 to R109) -/

/-- The read position of a stream (R102, R106): where its player fetches, or where its next command starts. -/
def readPos (s : State) (q n : Nat) : Nat :=
  let c : Chan := ⟨q, .tone, getF s (F.STRM_CTRL_CH q n)⟩
  let p := playerOf s c
  let x := streamOf s q n
  if p.active && segStream s q p.seg && streamNo s q p.seg == n then p.spos + fetchPos s c p s.now
  else x.outstanding.headD x.consume

/-- The ring of a stream, in samples. -/
def ringLen (s : State) (q n : Nat) : Nat := 64 * getF s (F.STRM_RING_LEN q n)

/-- The samples of the stream's source. -/
def sourceLen (s : State) (q n : Nat) : Nat := 64 * getF s (F.STRM_SRC_LEN_VALUE q n)

/-- The fence of the writer (R106): the lowest of the read position and the rewind marks. -/
def fencePos (s : State) (q n : Nat) : Nat := (streamOf s q n).marks.foldl min (readPos s q n)

/-- Where sample p of a stream lies in LPDDR6, and in the ring (R106). -/
def sourceKey (s : State) (q n p : Nat) : Nat :=
  ddrKey (getF s (F.STRM_SRC_HI_VALUE q n) * 2 ^ 32 + getF s (F.STRM_SRC_LO_VALUE q n) + 4 * p)
def streamKey (s : State) (q n p : Nat) : Nat :=
  vatKey q (64 * getF s (F.STRM_RING_BASE q n) + p % max 1 (ringLen s q n))

/-- The writer stores one sample at the write position. -/
def storeSample (s : State) (q n : Nat) : State :=
  let x := streamOf s q n
  setStream (setWord s (streamKey s q n x.write) (memWord s (sourceKey s q n x.write))) q n { x with write := x.write + 1 }

/-- STREAM_WRITE's work (R106): at most 64 samples, up to the fence and to the end of the source. -/
def streamStore (s : State) (q n room : Nat) : State :=
  let x := streamOf s q n
  let k := min 64 (min room (sourceLen s q n - x.write))
  let s := (List.range k).foldl (fun s _ => storeSample s q n) s
  setB s (F.STRM_STAT_DONE q n) (decide (sourceLen s q n ≤ (streamOf s q n).write))

/-- The writer stands at the fence: a halt at a rewind mark below the read position is counted once (R106). -/
def streamHalt (s : State) (q n : Nat) : State :=
  let x := streamOf s q n
  if x.halted || decide (readPos s q n ≤ fencePos s q n) then s
  else incF (setB (setStream s q n { x with halted := true }) (F.STRM_STAT_FENCED q n) true) (F.STRM_CNT_FENCE q n)

/-- A stream position holds written data. -/
def streamWritten (s : State) (q n p : Nat) : Bool :=
  decide (p < (streamOf s q n).write) && (streamOf s q n).holes.all (fun h => decide (p < h.1) || decide (h.2 ≤ p))

/-- After an underrun the writer passes over positions the player has already passed (R108). -/
def streamCatch (s : State) (q n : Nat) : State :=
  let x := streamOf s q n
  let r := readPos s q n
  if x.under ∧ x.write < r then setStream s q n { x with write := r, holes := x.holes ++ [(x.write, r)] } else s

/-- A player that reaches written data again after an underrun resumes (R108). -/
def streamResume (s : State) (q n : Nat) : State :=
  let x := streamOf s q n
  if x.under && streamWritten s q n (readPos s q n) then setStream s q n { x with under := false } else s

/-- An LPDDR6 byte address lies in a channel or bank that is suspended now (R362 to R364). -/
def ddrSuspended (s : State) (a : Nat) : Bool :=
  s.store.suspended.any (fun x => x.1 == a / 256 % 4 && decide (s.now < x.2.2) && (x.2.1 == none || x.2.1 == some (Config.ddrBank a % 16)))

/-- The streaming writer's traffic waits: its region's Vatman or router is down (R463), LPDDR6 is out of service (R360), or the channel
or bank it reads is suspended (R364). -/
def streamWaits (s : State) (q n : Nat) : Bool :=
  !regionUp s (q / 4) || !flagF s F.MEM_DDR_STAT_READY || ddrSuspended s (sourceKey s q n (streamOf s q n).write - 2 ^ 40)

/-- The streaming writer stores data up to its fence (R106). -/
def streamWriteOp (s : State) (q n : Nat) : State :=
  if streamWaits s q n then s else
  let s := streamCatch s q n
  let x := streamOf s q n
  let limit := fencePos s q n + ringLen s q n
  if !flagF s (F.STRM_CTRL_EN q n) || getF s (F.STRM_RING_LEN q n) == 0 || decide (sourceLen s q n ≤ x.write) then s
  else if limit ≤ x.write then streamHalt s q n
  else streamStore (setB (setStream s q n { x with halted := false }) (F.STRM_STAT_FENCED q n) false) q n (limit - x.write)

/-- STREAM_WRITE (R106): one burst of the streaming writer. -/
def execStreamWrite (q : Fin 16) (n : Fin 4) (s : State) : Host.Outcome State Fault Refusal := .next (streamWriteOp s q n)

/-- The player of a stream has reached an unwritten position (R108): the tone outputs zero, the writer resumes at the read position,
and the shot is tainted; once, until written data is reached again. -/
def streamUnderrunOp (s : State) (q n : Nat) : State :=
  let c : Chan := ⟨q, .tone, getF s (F.STRM_CTRL_CH q n)⟩
  let p := playerOf s c
  let x := streamOf s q n
  let r := readPos s q n
  if p.active && segStream s q p.seg && streamNo s q p.seg == n && !streamWritten s q n r && !x.under then
    let s := setStream s q n { x with
      under := true, write := max x.write r, holes := if x.write < r then x.holes ++ [(x.write, r)] else x.holes }
    let s := incF (latch s (F.STRM_STAT_UNDERRUN q n) (quireEvent q 18)) (F.STRM_CNT_UNDERRUN q n)
    taintQuire s q p.tick .underrun
  else s

/-- STREAM_UNDERRUN (R108). -/
def execStreamUnderrun (q : Fin 16) (n : Fin 4) (s : State) : Host.Outcome State Fault Refusal := .next (streamUnderrunOp s q n)

/-- The source of a stream lies within the installed LPDDR6 (R362). -/
def sourceFits (s : State) (q n : Nat) : Bool := decide (sourceKey s q n (sourceLen s q n) ≤ ddrKey (ddrBytes s))

/-- STRM_CTRL.EN is written 1 (R109): all positions zero, the writer starts; refused while a stream command is outstanding, or with a
source beyond the installed memory (R362), unless the write changes nothing (R489). -/
def streamEnableOp (q n ch : Nat) (s : State) : Option State :=
  if (streamOf s q n).outstanding = [] ∧ sourceFits s q n then
    let s := setF (setB s (F.STRM_CTRL_EN q n) true) (F.STRM_CTRL_CH q n) ch
    some (setB (setB (setStream s q n Stream.init) (F.STRM_STAT_DONE q n) false) (F.STRM_STAT_FENCED q n) false)
  else if flagF s (F.STRM_CTRL_EN q n) ∧ getF s (F.STRM_CTRL_CH q n) = ch then some s
  else none

/-- STREAM_ENABLE (R109). -/
def execStreamEnable (m : Master) (q : Fin 16) (n : Fin 4) (ch : Fin 32) (s : State) : Host.Outcome State Fault Refusal :=
  .next (rowWrite (.streamEnable m q n ch) m ⟨.STRM_CTRL, q, n, 0⟩ s (streamEnableOp q n ch))

end Sys2Proof.Machine
end

