-- ==== Sys2Proof/Machine/Press.lean ====
section
/-! DEFINITION. The flux fast path (R152 to R159): the samples a player puts out, the Press, the clip counts, and the rows that commit
and clear the Press. -/

namespace Sys2Proof.Machine

/-! ### Values in force -/

/-- A Press value in force (R158): section k's C0, C1, D at 3k, 3k + 1, 3k + 2; FIR tap k at 64 + k; the section enables at 128. -/
def pressVal (s : State) (q i rst off : Nat) : Nat := tget s.out.press rst (q, i, off)
def pressC0 (s : State) (q i k : Nat) : Int := toSigned 24 (pressVal s q i 0x400000 (3 * k))
def pressC1 (s : State) (q i k : Nat) : Int := toSigned 24 (pressVal s q i 0 (3 * k + 1))
def pressD (s : State) (q i k : Nat) : Int := toSigned 24 (pressVal s q i 0 (3 * k + 2))
def pressFir (s : State) (q i k : Nat) : Int := toSigned 18 (pressVal s q i (if k = 4 then 0x10000 else 0) (64 + k))
def pressEn (s : State) (q i k : Nat) : Bool := (pressVal s q i 0 128).testBit k

/-! ### The filter (R156, R157) -/

/-- A value saturated to w bits, and whether it had to be. -/
def satTo (w : Nat) (v : Int) : Int × Bool :=
  if v < -(2 ^ (w - 1)) then (-(2 ^ (w - 1)), true) else if 2 ^ (w - 1) - 1 < v then (2 ^ (w - 1) - 1, true) else (v, false)

/-- Truncation toward minus infinity by n bits. -/
def floorShift (v : Int) (n : Nat) : Int := v / 2 ^ n

/-- One section: input, its state, output, new state, whether it saturated (R156, R157). -/
def pressSection (c0 c1 d : Int) (en : Bool) (x : Int) (st : Int × Int) : Int × (Int × Int) × Bool :=
  if en then
    let y := satTo 40 (floorShift (c0 * x) 22 + floorShift (c1 * st.1) 22 + floorShift (d * st.2) 23)
    (y.1, (x, y.1), y.2)
  else (x, (0, 0), false)

/-- The cascade of sections from section k on: output, new states, saturation. -/
def pressCascade (s : State) (q i : Nat) : Nat → Int → List (Int × Int) → Int × List (Int × Int) × Bool
  | _, x, [] => (x, [], false)
  | k, x, st :: r =>
    let a := pressSection (pressC0 s q i k) (pressC1 s q i k) (pressD s q i k) (pressEn s q i k) x st
    let b := pressCascade s q i (k + 1) a.1 r
    (b.1, a.2.1 :: b.2.1, a.2.2 || b.2.2)

/-- The FIR sum of a delay line, latest sample first, in 2^-24 (R157). -/
def pressFirSum (s : State) (q i : Nat) : Nat → List Int → Int
  | _, [] => 0
  | k, x :: r => floorShift (pressFir s q i k * x) 22 + pressFirSum s q i (k + 1) r

/-! ### Samples -/

/-- The sixteen-bit flux sample j of a segment (R153): two to a Vat word, the earlier one low. -/
def vatFlux (s : State) (q d j : Nat) : Int :=
  let w := memWord s (vatKey q (getF s (F.SEG_W0_START q d) + j / 2))
  toSigned 16 (if j % 2 = 0 then w % 2 ^ 16 else w / 2 ^ 16)

/-- The sample of output number n of a player that plays (R101, R102): exact at full rate; below it the resampler's, a free value (R114). -/
def playerSample (s : State) (c : Chan) (p : Player) (n : Nat) : State × Int :=
  let a := partAt p n
  if segRate s c.q a.seg = 2 ^ 32 then (s, vatFlux s c.q a.seg (partIndex s c.q a n))
  else (takeFree s, Config.resampled s.free)

/-- The input of the Press at FLX sample g, in 2^-30: the sample of the player times AMP, or zero (R153, R157). -/
def pressInput (s : State) (c : Chan) (g : Nat) : State × Int :=
  let p := playerOf s c
  let g0 := (64 * p.tick + p.sub) / 12
  if playsAt s c p g0 g then
    let x := playerSample s c p (g - g0)
    (x.1, x.2 * p.amp)
  else (s, 0)

/-- The sum of the paths exceeds 4.3 V (R152), from the fast code and the ladder code in force (R153, R160). -/
def sumClips (s : State) (q i : Nat) (code : Int) : Bool :=
  let fast := fastOut s q i code * (1 + getF s (F.FLX_CFG_FRANGE q i)) * 2 ^ 25
  let slow := (if flagF s (F.FLX_STAT_RANGING q i) then 0 else ladderCode s q i) * 2 ^ getF s (F.FLX_CFG_SRANGE q i) * (2 ^ 22 + (getF s (F.FLX_XGAIN_GAIN q i) : Int) - 2 ^ 15)
  decide (43 * 2 ^ 41 < (10 * (fast + slow)).natAbs)

/-- The Press takes FLX sample g and puts out the code of sample g − 4, at the FIR's reference tap; with PRESS_BYP the code of that
sample itself (R153 to R157). -/
def pressStep (s : State) (q i : Nat) : State :=
  let g := (fluxOf s q i).cursor
  let a := pressInput s ⟨q, .flux, i⟩ g
  let s := a.1
  let f := fluxOf s q i
  let b := pressCascade s q i 0 a.2 f.iir
  let fir := (b.1 :: f.fir).take 32
  let y := satTo 36 (pressFirSum s q i 0 fir)
  let z := satTo 16 (floorShift (y.1 + 2 ^ 8) 9)
  let x := f.line.getD 3 (0, false)
  let w := satTo 16 (floorShift (x.1 + 2 ^ 14) 15)
  let byp := flagF s (F.FLX_CFG_PRESS_BYP q i)
  let code := if byp then w.1 else z.1
  let clip := if byp then w.2 else x.2 || y.2 || z.2
  let s := setFlux s q i { f with
    iir := b.2.1, fir := fir, line := ((a.2, b.2.2) :: f.line).take 4, fastCode := code, cursor := g + 1, clipped := f.clipped || clip,
    put := ((g - 4, code) :: f.put).take 96 }
  if sumClips s q i code then latch s (F.FLX_LATCH_SUM_CLIP q i) (quireEvent q 10) else s

/-- The channel puts out nothing and its Press is at rest: no step can change it. -/
def pressAtRest (s : State) (q i : Nat) : Bool :=
  let f := fluxOf s q i
  !(playerOf s ⟨q, .flux, i⟩).active && f.iir.all (fun x => x == (0, 0)) && f.fir.all (fun x => x == 0)
    && f.line.all (fun x => x == (0, false)) && f.fastCode == 0 && !f.clipped

/-- An FLX word has ended (R155): a word with a saturated sample is counted and latched. -/
def wordEnd (s : State) (q i : Nat) : State :=
  let f := fluxOf s q i
  if f.clipped then
    latch (incF (setFlux s q i { f with clipped := false }) (F.FLX_CNT_CLIP q i)) (F.FLX_LATCH_CLIP q i) (quireEvent q 10)
  else s

/-- One sample, and the end of its word with every sixteenth put out. -/
def pressSample (s : State) (q i : Nat) : State :=
  let s := pressStep s q i
  if (fluxOf s q i).cursor % 16 = 4 then wordEnd s q i else s

/-- The Press takes every sample before FLX sample g. -/
def pressTo (s : State) (q i g : Nat) : State :=
  if pressAtRest s q i then setFlux s q i { fluxOf s q i with cursor := g }
  else (List.range (g - (fluxOf s q i).cursor)).foldl (fun s _ => pressSample s q i) s

/-- Zero words that have left the ball are forgotten. -/
def wordsPast (s : State) (q i : Nat) : State :=
  let f := fluxOf s q i
  if f.zeroed.isEmpty then s else setFlux s q i { f with zeroed := f.zeroed.filter (fun w => decide (64 * s.now < 12 * (16 * w + 16) + 64 * 20)) }

/-- The fast paths at the start of a tick: every sample of the ticks before it has passed (R86: sample g lies at sub-tick 12 g). At
rest only the sum of the paths is checked (R152). -/
def pressTick (s : State) : State :=
  s.out.flux.foldl (fun s x =>
    let q := x.1.1
    let i := x.1.2
    let s := wordsPast (pressTo s q i ((64 * s.now + 11) / 12)) q i
    if pressAtRest s q i && sumClips s q i 0 then latch s (F.FLX_LATCH_SUM_CLIP q i) (quireEvent q 10) else s) s

/-! ### The rows (R158, R159) -/

/-- A shadow value with D = −1 in a section the shadow enables: the commit is refused (R158). -/
def pressRefused (s : State) (q i : Nat) : Bool :=
  (List.range 8).any (fun k => bitF s (F.FLX_PRESS_CTRL_SEC_EN q i) k && getF s (F.FLX_IIR_D_COEF q i k) == 0x800000)

/-- The shadow values of a channel, by their place in force. -/
def pressShadow (s : State) (q i : Nat) : List (Nat × Nat) :=
  (List.range 8).flatMap (fun k => [(3 * k, getF s (F.FLX_IIR_C0_COEF q i k)), (3 * k + 1, getF s (F.FLX_IIR_C1_COEF q i k)),
    (3 * k + 2, getF s (F.FLX_IIR_D_COEF q i k))])
  ++ (List.range 32).map (fun k => (64 + k, getF s (F.FLX_FIR_COEF q i k))) ++ [(128, getF s (F.FLX_PRESS_CTRL_SEC_EN q i))]

/-- The shadow comes into force, with Sizing's waiting gain match (R158): sections enabled before and after keep their state. DESIGN CHOICE:
what the shadow holds is not checked again, so that a D of −1.0 written after a COMMIT that waits comes into force (log entry 89). -/
def pressApply (s : State) (q i : Nat) : State :=
  let f := fluxOf s q i
  let old := s
  let s := { s with out := { s.out with press := (pressShadow s q i).foldl (fun t x => tset t (q, i, x.1) x.2) s.out.press } }
  let keep : List (Int × Int) :=
    f.iir.zipIdx.map (fun x => if pressEn old q i x.2 && pressEn s q i x.2 then x.1 else (0, 0))
  let s := setFlux s q i { f with iir := keep }
  let s := match tget s.out.xgain none (q, i) with
    | some g => setF { s with out := { s.out with xgain := tset s.out.xgain (q, i) none } } (F.FLX_XGAIN_GAIN q i) g
    | none => s
  setB s (F.FLX_PRESS_CTRL_PENDING q i) false

/-- FLX_PRESS_CTRL.COMMIT (R158). -/
def pressCommitOp (q i : Nat) (s : State) : Option State :=
  if pressRefused s q i then none
  else if quireIdle s q then some (pressApply s q i)
  else some (setB s (F.FLX_PRESS_CTRL_PENDING q i) true)

/-- PRESS_COMMIT (R158). -/
def execPressCommit (m : Master) (q : Fin 16) (i : Fin 24) (s : State) : Host.Outcome State Fault Refusal :=
  .next (rowWrite (.pressCommit m q i) m ⟨.FLX_PRESS_CTRL, q, i, 0⟩ s (pressCommitOp q i))

/-- FLX_PRESS_CTRL.CLR (R159): the state of all sections and the delay line become zero. -/
def pressClrOp (q i : Nat) (s : State) : State :=
  setFlux s q i { fluxOf s q i with iir := List.replicate 8 (0, 0), fir := List.replicate 32 0 }

/-- PRESS_CLR (R159): accepted only while the quire is idle. -/
def execPressClr (m : Master) (q : Fin 16) (i : Fin 24) (s : State) : Host.Outcome State Fault Refusal :=
  .next (rowWrite (.pressClr m q i) m ⟨.FLX_PRESS_CTRL, q, i, 0⟩ s (whenIdle q (pressClrOp q i)))

end Sys2Proof.Machine
end

