-- ==== Sys2Proof/Machine/Wave.lean ====
section
/-! DEFINITION. The sample path of the drive and probe outputs (R113 to R117, R125, R126, R131, R132, R137): what tones put into the
pipeline, the interpolator, the NCO multiply, the summer, static predistortion, the DAC codes, and what is at the ball. -/

namespace Sys2Proof.Machine

/-! ### What enters the pipeline in a tick (R113, R114) -/

/-- Sample j of a segment part as I and Q in 2^-15 (R113): I low, Q high; a stream position that holds no written data gives zero
(R108). -/
def complexSample (s : State) (q : Nat) (a : PlayPart) (j : Nat) : Int × Int :=
  let n := streamNo s q a.seg
  let stream := segStream s q a.seg
  let w := memWord s (if stream then streamKey s q n (a.spos + j) else vatKey q (getF s (F.SEG_W0_START q a.seg) + j))
  if stream && !streamWritten s q n (a.spos + j) then (0, 0) else (toSigned 16 (w % 2 ^ 16), toSigned 16 (w / 2 ^ 16))

/-- The complex sample of output number n of a player, in 2^-15 (R114): exact at full rate; below it the resampler's, a free value. -/
def envSample (s : State) (c : Chan) (p : Player) (n : Nat) : State × (Int × Int) :=
  let a := partAt p n
  if segRate s c.q a.seg = 2 ^ 32 then (s, complexSample s c.q a (partIndex s c.q a n))
  else (takeFree (takeFree s), (Config.resampled s.free, Config.resampled (s.free + 1)))

/-- Sample k of a tick of a player, times AMP, in fractions of full scale: zero where the player plays nothing (R113, R116). -/
def envAt (s : State) (c : Chan) (tick k : Nat) : State × (Rat × Rat) :=
  let p := playerOf s c
  if playsAt s c p (4 * p.tick) (4 * tick + k) then
    let x := envSample s c p (4 * tick + k - 4 * p.tick)
    (x.1, ((x.2.1 * p.amp : Int) / 2 ^ 30, (x.2.2 * p.amp : Int) / 2 ^ 30))
  else (s, (0, 0))

/-- The samples of a tick, from the k-th on. -/
def envFrom (s : State) (c : Chan) (tick : Nat) : Nat → State × List (Rat × Rat)
  | 0 => (s, [])
  | k + 1 =>
    let a := envFrom s c tick k
    let b := envAt a.1 c tick k
    (b.1, a.2 ++ [b.2])

/-- A tone of a quire in an entry tick. -/
def toneSlice (s : State) (q tick c : Nat) : State × ToneSlice :=
  let ch : Chan := ⟨q, .tone, c⟩
  let t := toneOf s q c
  let en := decide (c < 16) && flagF s (F.TONE_CTRL_PF_EN q c)
  let e := envFrom s ch tick 4
  let h := histAt t.hist tick
  (e.1, ⟨c, h.1, h.2, getS s (F.TONE_GAIN_ACTIVE q c), en && signInForce s (16 * q + getF s (F.TONE_CTRL_SLOT q c)),
    if flagF s (F.TONE_CTRL_PF_LATCH q c) then some (en && t.pfHeld) else none, t.zeroFrom.isSome, (playerOf s ch).sub, e.2⟩)

/-- The tones of an output in an entry tick. -/
def toneSlices (s : State) (q tick : Nat) : List Nat → State × List ToneSlice
  | [] => (s, [])
  | c :: r =>
    let a := toneSlice s q tick c
    let b := toneSlices a.1 q tick r
    (b.1, a.2 :: b.2)

/-- The output is in CW mode (R137). -/
def cwMode (s : State) (q o : Nat) : Bool := flagF s (F.DRV_CFG_MODE q o)

/-- The tone that gives a CW output its phase (R137). -/
def cwSource (s : State) (q o : Nat) : Nat :=
  if o < 4 then 4 * o + getF s (F.DRV_CFG_CW_SRC q o) % 4 else 16 + getF s (F.DRV_CFG_CW_SRC q o)

/-- What enters the pipeline of an output in a tick. -/
def outSlice (s : State) (q o tick : Nat) : State × Slice :=
  let z := toneSlices s q tick (outputTones o)
  (z.1, ⟨tick, z.2, if cwMode s q o then some (cwAmpAt (outputOf s q o) tick, cwSource s q o) else none⟩)

/-! ### The contribution of a tone at a DACS position (R113, R115, R117) -/

/-- The interpolator's response at an offset from a sample's nominal position, in DACS samples (R115): linear-phase, 48 on each side. -/
def interpAt (d : Int) : Rat := if d.natAbs ≤ 48 then Config.interp d.natAbs else 0

/-- One tone among the slice's. -/
def sliceTone (x : Slice) (c : Nat) : Option ToneSlice := x.tones.find? (fun z => z.c == c)

/-- The pipeline's slice of an entry tick. -/
def sliceAt (w : List Slice) (tick : Nat) : Option Slice := w.find? (fun x => x.tick == tick)

/-- One sample of a tone's envelope at position n: shifted by SUB, interpolated, on the carrier that the word and frame phase of n's entry
tick give, with the sign its command latched or the one in force there (R113, R115 to R117, R123). -/
def envPart (z u : ToneSlice) (tick k n : Nat) : Rat :=
  let e := u.env.getD k (0, 0)
  let acc := ncoAcc z.ftw z.frame (u.held.getD z.pf) (2 * n)
  (e.1 * ncoCosAt acc - e.2 * ncoSinAt acc) * interpAt (n - (64 * tick + 16 * k + u.sub : Nat))

/-- The samples of a tick's envelope of a tone at position n. -/
def envParts (z u : ToneSlice) (tick n : Nat) : Rat := ((List.range 4).map (fun k => envPart z u tick k n)).sum

/-- The contribution of a tone at position n before the output's scale (R113): zero where the tone has failed (R142). -/
def toneAt (w : List Slice) (z : ToneSlice) (n : Nat) : Rat :=
  if z.dead then 0
  else (w.map (fun x => match sliceTone x z.c with
    | some u => envParts z u x.tick n
    | none => 0)).sum * z.gain / 2 ^ 15

/-- The factor 2^-TONE_SCALE of an output; above 4 acts as 4 (R113). -/
def toneScale (s : State) (q o : Nat) : Rat := 1 / 2 ^ min 4 (getF s (F.DRV_CFG_TONE_SCALE q o))

/-- The CW sample of a slice at position n: AMP_CW times the cosine of its tone's phase (R137). -/
def cwSample (x : Slice) (amp : Int) (c n : Nat) : Rat :=
  match sliceTone x c with
  | some z => amp / 2 ^ 15 * ncoCosAt (ncoAcc z.ftw z.frame z.pf (2 * n))
  | none => 0

/-- The sum of an output at position n, in fractions of full scale: its tones, or its CW sample (R113, R125, R137). -/
def sumAt (s : State) (q o : Nat) (w : List Slice) (n : Nat) : Rat :=
  match sliceAt w (n / 64) with
  | none => 0
  | some x =>
    match x.cw with
    | some (amp, c) => cwSample x amp c n
    | none => (x.tones.map (fun z => toneAt w z n)).sum * toneScale s q o

/-! ### Static predistortion and the DAC codes (R125, R126) -/

/-- Tap k in force, in Q2.16: 1.0 at tap 8 after reset (R126). -/
def pdCoef (s : State) (q o k : Nat) : Int := toSigned 18 (tget s.out.pd (if k = 8 then 0x10000 else 0) (q, o, k))

/-- The predistorted value at position n (R126): the pipeline counts from tap 8, whose delay is the bypass's too. -/
def pdValue (s : State) (q o : Nat) (w : List Slice) (n : Nat) : Rat :=
  if flagF s (F.DRV_CFG_PD_BYP q o) then sumAt s q o w n
  else ((List.range 24).map (fun k => (pdCoef s q o k : Rat) / 2 ^ 16 * sumAt s q o w (n + 8 - k))).sum

/-- The DAC code of a value, and whether it had to be saturated (R125, R487): full scale is 2^13 codes. -/
def dacCode (y : Rat) : Int × Bool := satTo 14 (y * 2 ^ 13 + 1 / 2).floor

/-- A slice carries something: an envelope sample that is not zero, or a CW amplitude. -/
def sliceLive (x : Slice) : Bool :=
  x.tones.any (fun z => z.env.any (fun e => e.1 != 0 || e.2 != 0)) || (match x.cw with | some a => a.1 != 0 | none => false)

/-- The codes of an entry tick are formed (R125): kept until they reach the ball; a DACW word of sixteen with a saturated sample is
counted. -/
def formCodes (s : State) (q o tick : Nat) : State :=
  let v := outputOf s q o
  let codes := (List.range 64).map (fun i => dacCode (pdValue s q o v.wave (64 * tick + i)))
  let n := ((List.range 4).filter (fun k => (List.range 16).any (fun i => (codes.getD (16 * k + i) (0, false)).2))).length
  let s := setOutput s q o { v with codes := (tick, codes.map (·.1)) :: v.codes }
  if n = 0 then s else latch (addF s (F.DRV_CNT_CLIP q o) n) (F.DRV_LATCH_CLIP q o) (quireEvent q 7)

/-- An output has a pipeline to follow: a command has come to one of its tones, or it is in CW mode. -/
def outWarm (s : State) (q o : Nat) : Bool :=
  cwMode s q o || s.seq.queues.any (fun x => x.1.q == q && x.1.kind == .tone && toneOutput x.1.n == o)

/-- The pipeline of an output at the start of a tick: the tick before has entered, the codes of entry tick P have been formed by P + 7
(R113), and what has left the ball is forgotten. -/
def waveTick (s : State) (q o : Nat) : State :=
  let v := outputOf s q o
  if !outWarm s q o && v.wave.isEmpty && v.codes.isEmpty then s
  else
    let a := outSlice s q o (s.now - 1)
    let w := (a.2 :: v.wave).filter (fun x => decide (s.now < x.tick + 14))
    let v := { v with wave := w, codes := v.codes.filter (fun x => decide (s.now < x.1 + 18))
                      zeroed := v.zeroed.filter (fun x => decide (s.now < x / 4 + 18)) }
    let s := setOutput a.1 q o v
    if w.any (fun x => decide (s.now ≤ x.tick + 10) && decide (x.tick + 5 ≤ s.now) && sliceLive x) then formCodes s q o (s.now - 7) else s

/-! ### At the ball (R117, R131, R132) -/

/-- The states of a drive or probe output (R132). -/
inductive BallState where
  /-- The converter has no supply or is powered down: no current in either leg. -/
  | unpowered
  /-- RESET_N is low: equal current in both legs. -/
  | balanced
  /-- Until EN = 1: balanced zero. -/
  | held
  /-- Muted: balanced zero (R135). -/
  | muted
  /-- Enabled, nothing playing: zero code. -/
  | zero
  /-- The sum of the output's tones, or CW. -/
  | playing
deriving DecidableEq, Repr

/-- The power domain of an output's converter (R436): drive DACs, probe DACs. -/
def dacDomain (q o : Nat) : Nat := 80 + 8 * (q / 4) + (if o < 4 then 0 else 1)

/-- The state of an output at the start of the present tick (R132): a mute acts from its onset at the ball (R135). -/
def ballState (s : State) (q o : Nat) : BallState :=
  let v := outputOf s q o
  if !domainOn s (dacDomain q o) then .unpowered
  else if s.power.inReset then .balanced
  else if !flagF s (F.DRV_CFG_EN q o) then .held
  else if flagF s (F.DRV_STAT_MUTED q o) == decide (v.onset ≤ s.now) then .muted
  else if v.codes.any (fun x => decide (s.now ≤ x.1 + 16)) && (powerState s == 0 || cwMode s q o) then .playing
  else .zero

/-- A bridge lane that carries a channel is being switched (R21). -/
def laneOpen (s : State) (q : Nat) (e : Sys2Proof.LaneEnd → Bool) : Bool :=
  s.power.switching.any (fun x => x.2.feeds.any (fun y => y.1.val == q && e y.2))

/-- The lane end of an output, and of a flux channel. -/
def driveEnd (o : Nat) : Sys2Proof.LaneEnd → Bool
  | .drive p => p.val == o
  | _ => false
def fluxEnd (i : Nat) : Sys2Proof.LaneEnd → Bool
  | .flux k => k.val == i
  | _ => false

/-- The code at the ball at a DACS position of device time (R117, R131): the sample of entry position n reaches it at n + 768 + FINE; zero
while the output does not play, and for zero words (R20, R21). -/
def ballCode (s : State) (q o pos : Nat) : Int :=
  let n := pos - 768 - getF s (F.DRV_DELAY_FINE q o)
  if ballState s q o != .playing || laneOpen s q (driveEnd o) || (outputOf s q o).zeroed.contains (n / 16) then 0
  else match (outputOf s q o).codes.find? (fun x => x.1 == n / 64) with
    | some x => x.2.getD (n % 64) 0
    | none => 0

/-- The fast code of a flux channel at its ball when FLX sample n reaches it, 12 ticks after its nominal time (R153, R154): zero for zero
words (R20, R21) and while the channel is muted or its range settles. -/
def fluxBallCode (s : State) (q i n : Nat) : Int :=
  let f := fluxOf s q i
  if laneOpen s q (fluxEnd i) || f.zeroed.contains (n / 16) then 0
  else match f.put.find? (fun x => x.1 == n) with
    | some x => fastOut s q i x.2
    | none => 0

end Sys2Proof.Machine
end

