-- ==== Sys2Proof/Machine/Playout.lean ====
section
/-! DEFINITION. Playout queues (R81 to R93): commands that arrive, late commands, the selector at a play tick, measurement windows that
open, and flushing. -/

namespace Sys2Proof.Machine

/-! ### Late measurements (R96, R213) -/

/-- A MEAS that opens no window still gives its record and its ARM (R96): LATE or FLUSHED, without I, Q and state. -/
def lostMeas (s : State) (q j : Nat) (e : Entry) (wgt len : Nat) (late flushed : Bool) : State :=
  ready s q s.now (.meas j e.t wgt e.sub e.tick len 0 0 (flagF s (F.HB_CELL_STAT_SUBST q j)) flushed false false late false 0 false)

/-- The ARM mask of a MEAS clears subscriptions after the selectors of this tick (R89). -/
def armAfter (s : State) (q t mask : Nat) : State := if mask = 0 then s else after s (s.now + 1) (.armClear q t mask)

/-- A MEAS is late (R96): a late command, its record, and its ARM in the tick in which it is found late. -/
def lateMeas (s : State) (q j : Nat) (e : Entry) (wgt len arm : Nat) : State :=
  armAfter (exportArm (lostMeas (lateCommand s q e.t e.tick) q j e wgt len true false) (16 * q + j)) q e.t arm

/-- A command or set on its way to its queue is late (R33): one late command. -/
def lateEntry (s : State) (c : Chan) (e : Entry) : State :=
  match e.members with
  | [(_, .meas w len arm)] => lateMeas s c.q c.n e w len arm
  | _ => lateCommand s c.q e.t e.tick

/-! ### Arrival (R33, R83, R105, R107, R138, R200) -/

/-- Where a command stands in the order of its queue (R83): a MEAS lets nothing in before its window has closed. -/
def orderMark (e : Entry) : Nat × Nat × Bool :=
  match e.members with
  | [(_, .meas _ len _)] => (e.tick + len, 0, true)
  | [(_, .frame _ _)] => (e.tick, e.sub, true)
  | _ => (e.tick, e.sub, false)

/-- The command a new one is compared with (R83). -/
def orderRef (s : State) (c : Chan) : Option (Nat × Nat × Bool) :=
  match (queueOf s c).getLast? with
  | some e => some (orderMark e)
  | none => tget s.seq.lastSel none c

/-- The order of play times holds (R83): later, or equal after FRAME commands only. -/
def orderOk (r : Option (Nat × Nat × Bool)) (e : Entry) : Bool :=
  match r with
  | none => true
  | some (tick, sub, again) =>
    decide (tick < e.tick) || (decide (tick = e.tick) && (decide (sub < e.sub) || (decide (sub = e.sub) && again)))

/-- A stream command may enter (R105, R107): its stream enabled, with a ring, on its own tone, a loop no longer than the ring. -/
def streamOk (s : State) (c : Chan) (d : Nat) : Bool :=
  let n := streamNo s c.q d
  flagF s (F.STRM_CTRL_EN c.q n) && getF s (F.STRM_RING_LEN c.q n) != 0 && c.kind == .tone
    && getF s (F.STRM_CTRL_CH c.q n) == c.n && decide (getF s (F.SEG_W0_START c.q d) < 4)
    && (getF s (F.SEG_W1_LOOPS c.q d) == 0 || decide (segLen s c.q d ≤ ringLen s c.q n))

/-- The tone of a channel belongs to an output in CW mode (R138). -/
def cwTone (s : State) (c : Chan) : Bool := c.kind == .tone && cwMode s c.q (toneOutput c.n)

/-- What a command names may be played or measured (R105, R107, R138, R200); a faulty flux channel accepts no segment (R23). -/
def bodyOk (s : State) (c : Chan) : CmdBody → Bool
  | .segment d _ _ =>
    decide (segLen s c.q d ≠ 0) && formatFits s c.q d c.kind && !cwTone s c
      && (if segStream s c.q d then streamOk s c d else segFits s c.q d) && !(c.kind == .flux && (fluxOf s c.q c.n).faulty)
  | .meas w _ _ => getF s (F.WGT_W1_WLEN c.q w) != 0 && flagF s (F.HB_CELL_CFG_EN c.q c.n)
  | _ => true

/-- A member enters its queue: what it names becomes active, a stream's consume cursor advances (R103, R105, R106, R201). -/
def enterBody (s : State) (c : Chan) : CmdBody → State × CmdBody
  | .segment d amp _ =>
    let s := segRef s c.q d
    if segStream s c.q d then
      let n := streamNo s c.q d
      let x := streamOf s c.q n
      (setStream s c.q n { x with
        consume := x.consume + segLen s c.q d, outstanding := x.outstanding ++ [x.consume],
        marks := if getF s (F.SEG_W1_LOOPS c.q d) = 0 then x.marks else x.marks ++ [x.consume] }, .segment d amp x.consume)
    else (s, .segment d amp 0)
  | .meas w len arm => (wgtRef s c.q w, .meas w len arm)
  | b => (s, b)

/-- The members of an entry enter, in order. -/
def enterMembers (s : State) (c : Chan) : List (Option Cond × CmdBody) → State × List (Option Cond × CmdBody)
  | [] => (s, [])
  | m :: r =>
    let a := enterBody s c m.2
    let b := enterMembers a.1 c r
    (b.1, (m.1, a.2) :: b.2)

/-- A command or set reaches its playout queue now (R33, R77, R83, R91, R105). -/
def arrives (s : State) (c : Chan) (e : Entry) : State :=
  if e.tick ≤ s.now then lateEntry s c e
  else if !orderOk (orderRef s c) e then latch (lateEntry s c e) (F.THR_LATCH_ORDER c.q e.t) (quireEvent c.q 4)
  else if !e.members.all (fun m => bodyOk s c m.2) then lateEntry s c e
  else
    let a := enterMembers s c e.members
    setQueue a.1 c (queueOf a.1 c ++ [{ e with members := a.2 }])

/-- What has been in transit to queues and players arrives at the start of tick X + 2 (R77, R102). -/
def transitTick (s : State) : State :=
  let now := s.now
  let due := s.seq.transit.filter (fun x => decide (x.1 ≤ now))
  let jumps := s.seq.jumps.filter (fun x => decide (x.1 ≤ now))
  let s := { s with seq := { s.seq with
    transit := s.seq.transit.filter (fun x => decide (now < x.1)), jumps := s.seq.jumps.filter (fun x => decide (now < x.1)) } }
  jumps.foldl (fun s x => jumpArrives s x.2.1 x.2.2.1 x.2.2.2) (due.foldl (fun s x => arrives s x.2.1 x.2.2) s)

/-! ### The selector (R84, R92, R93) -/

/-- Every subscription a set names is valid (R93). -/
def resolved (s : State) (q t : Nat) (ms : List (Option Cond × CmdBody)) : Bool :=
  ms.all (fun m => match m.1 with | some c => subValid s q t c.sub | none => true)

/-- The first member whose condition holds (R92). -/
def selected (s : State) (q t : Nat) : List (Option Cond × CmdBody) → Option CmdBody
  | [] => none
  | m :: r =>
    match m.1 with
    | none => some m.2
    | some c => if condHolds s q t c then some m.2 else selected s q t r

/-- An unresolved set (R35, R93): one late command, with the records of its cause. -/
def unresolvedSet (s : State) (q t tick : Nat) : State :=
  let s := lateCommand s q t tick
  latch (incF s (F.SEQ_CNT_LATE_PRED q)) (F.THR_LATCH_PRED q t) (quireEvent q 3)

/-- The output of a channel is held or muted by a trip, whose release has not reached the ball yet (R185, R186). -/
def tripHeld (s : State) (c : Chan) : Bool :=
  match c.kind with
  | .tone => flagF s (F.DRV_STAT_TRIP c.q (toneOutput c.n)) || decide (s.now < (outputOf s c.q (toneOutput c.n)).tripTo)
  | .flux => flagF s (F.FLX_STAT_TRIP c.q c.n) || decide (s.now < (fluxOf s c.q c.n).tripTo)
  | .readout => false

/-- The tone contributes zero because its generator has failed and nothing serves it (R142, R143). -/
def toneDead (s : State) (c : Chan) : Bool := c.kind == .tone && (toneOf s c.q c.n).zeroFrom.isSome

/-- The tone's sign bit at the start of its command's play tick (R123). -/
def latchSign (s : State) (c : Chan) : State :=
  if c.kind = .tone then
    setTone s c.q c.n { toneOf s c.q c.n with pfHeld := signInForce s (16 * c.q + getF s (F.TONE_CTRL_SLOT c.q c.n)) }
  else s

/-- A segment begins to play on its channel (R32, R84, R101). -/
def startSegment (s : State) (c : Chan) (e : Entry) (d : Nat) (amp : Int) (spos : Nat) : State :=
  let s := setPlayer s c { Player.init with
    t := e.t, tick := e.tick, sub := e.sub, seg := d, amp := amp, left := segLoops s c.q d, spos := spos, active := true,
    ended := (playerOf s c).ended }
  let s := latchSign s c
  if tripHeld s c || toneDead s c then markLate s c else s

/-- The segment that plays when a new command takes the channel ends before it (R84); a flux channel's samples up to here pass. -/
def channelCut (s : State) (c : Chan) (e : Entry) : State :=
  playerEnd (if c.kind = .flux then pressTo s c.q c.n ((64 * e.tick + e.sub) / 12) else s) c

/-- The command is late because its output's range settles (R130). -/
def settleLate (s : State) (c : Chan) (e : Entry) : State :=
  latch (lateCommand s c.q e.t e.tick) (F.DRV_LATCH_SETTLE_LATE c.q (toneOutput c.n)) (quireEvent c.q 9)

/-- The output of a tone channel is settling (R130). -/
def settling (s : State) (c : Chan) : Bool := c.kind == .tone && flagF s (F.DRV_STAT_SETTLING c.q (toneOutput c.n))

/-- The selected member plays. -/
def playBody (s : State) (c : Chan) (e : Entry) : CmdBody → State
  | .segment d amp spos =>
    if settling s c then releaseBody (settleLate s c e) c.q (.segment d amp spos) else startSegment s c e d amp spos
  | .ladder code =>
    let s := ladderStep s c.q c.n code
    if tripHeld s c then lateCommand s c.q e.t e.tick else s
  | .frame replace val =>
    toneFrame s c.q c.n e.tick (if replace then val else (toneOf s c.q c.n).frame + val)
  | .meas _ _ _ => s

/-- A member of a set is a segment. -/
def isSegment : CmdBody → Bool
  | .segment _ _ _ => true
  | _ => false

/-- A command or set of a tone or flux channel reaches its play tick (R84, R92, R93). -/
def playEntry (s : State) (c : Chan) (e : Entry) : State :=
  let s := if e.members.any (fun m => isSegment m.2) then channelCut s c e else s
  if !resolved s c.q e.t e.members then unresolvedSet (releaseEntry s c.q e) c.q e.t e.tick
  else
    match selected s c.q e.t e.members with
    | none => releaseEntry s c.q e
    | some b => playBody (releaseEntry s c.q { e with members := e.members.erase ((e.members.find? (fun m => m.2 == b)).getD (none, b)) }) c e b

/-! ### Measurement windows (R96, R193, R197, R220) -/

/-- The cell can take a window: the ADC is ready (R193), and the cell or the spare unit in its place works (R220). -/
def cellServes (s : State) (q j : Nat) : Bool :=
  flagF s (F.HB_STAT_ADC_READY q) && !s.head.cut.contains q && (!flagF s (F.HB_CELL_STAT_FAILED q j) || flagF s (F.HB_CELL_STAT_SUBST q j))

/-- A MEAS reaches its play tick: its window opens with the discriminator values in force (R197, R203), its ARM acts (R88, R256). -/
def openWindow (s : State) (q j : Nat) (e : Entry) (w len arm : Nat) : State :=
  if cellServes s q j then
    let c := cellOf s q j
    let win : OpenWin := ⟨e.t, w, e.tick, e.sub, len, c.disc, false, [], flagF s (F.HB_CELL_STAT_SUBST q j)⟩
    let s := setB (setCell s q j { c with wins := c.wins ++ [win] }) (F.HB_CELL_STAT_BUSY q j) true
    armAfter (exportArm s (16 * q + j)) q e.t arm
  else lateMeas (wgtRel s q w) q j e w len arm

/-- A command or set enters the output pipeline of its channel. -/
def takeEntryNow (s : State) (c : Chan) (e : Entry) : State :=
  match e.members with
  | [(_, .meas w len arm)] => openWindow s c.q c.n e w len arm
  | _ => playEntry s c e

/-- The head command of a channel enters the output pipeline at its play tick (R32, R81); one whose play tick passes while its quire is
being restored is late instead (R24), and so is one in the Idle power state, in which no command plays (R132). -/
def commandPlayOp (s : State) (c : Chan) : State :=
  match queueOf s c with
  | [] => s
  | e :: rest =>
    if s.now < e.tick then s
    else
      let s := setQueue s c rest
      let s := { s with seq := { s.seq with lastSel := tset s.seq.lastSel c (some (orderMark e)) } }
      quireGate (if restoring s c.q || powerState s == 1 then lateEntry (releaseEntry s c.q e) c e else takeEntryNow s c e) c.q

/-- COMMAND_PLAY (R32). -/
def execCommandPlay (q : Fin 16) (k : ChanKind) (n : Fin 32) (s : State) : Host.Outcome State Fault Refusal :=
  .next (commandPlayOp s ⟨q, k, n⟩)

/-! ### Flushing (R213, R491) -/

/-- A queued or travelling command is removed by a flush: a MEAS gives its FLUSHED record. -/
def flushed (s : State) (c : Chan) (e : Entry) : State :=
  match e.members with
  | [(_, .meas w len _)] => lostMeas s c.q c.n e w len false true
  | _ => s

/-- A thread's commands in one queue are removed, and their segments released. -/
def flushQueue (s : State) (c : Chan) (t : Nat) : State :=
  let gone := (queueOf s c).filter (fun e => e.t == t)
  let s := setQueue s c ((queueOf s c).filter (fun e => e.t != t))
  gone.foldl (fun s e => flushed (releaseEntry s c.q e) c e) s

/-- FLUSH (R491): the thread's commands that are queued or in transit are removed. -/
def threadFlush (s : State) (q t : Nat) : State :=
  let s := (s.seq.queues.filter (fun x => x.1.q == q)).foldl (fun s x => flushQueue s x.1 t) s
  let mine : Nat × Chan × Entry → Bool := fun x => x.2.1.q == q && x.2.2.t == t
  let gone := s.seq.transit.filter mine
  let s := { s with seq := { s.seq with transit := s.seq.transit.filter (fun x => !mine x) } }
  gone.foldl (fun s x => flushed s x.2.1 x.2.2) s

/-- Entering FENCED (R491): every thread of the quire stops, and the commands of all of them are removed. -/
def fenceQuire (s : State) (q : Nat) : State :=
  (List.range 16).foldl (fun s t => threadFlush (threadStop s q t) q t) s

end Sys2Proof.Machine
end

