-- ==== Sys2Proof/Machine/Beater.lean ====
section
/-! DEFINITION. Beater engines (R223 to R252): contexts, the datapath, address registers, rotating registers and loops, the parallel
and control instructions, and the regional spare engine. -/

namespace Sys2Proof.Machine

/-! ### Contexts (R227, R228) -/

/-- The state of a context. -/
def ctxState (s : State) (q c : Nat) : Nat := getF s (F.CTX_STAT_STATE q c)

/-- A context enters a state, with a wait cause. -/
def setCtxState (s : State) (q c st wcause : Nat) : State := setF (setF s (F.CTX_STAT_STATE q c) st) (F.CTX_STAT_WCAUSE q c) wcause

/-- The engine issues: enabled, not paused, its clock not stopped in Idle, and working or served by the spare (R228, R251, R438). -/
def engineIssues (s : State) (q : Nat) : Bool :=
  powerState s != 1 && flagF s (F.BT_CTRL_EN q) && !flagF s (F.BT_ESTAT_PAUSED q) && (!flagF s (F.BT_ESTAT_FAILED q) || flagF s (F.BT_ESTAT_SUBST q))

/-- The issue slot of an engine. -/
def slotOf (s : State) (q : Nat) : EngineSlot := tget s.beater.slots EngineSlot.init q

/-- A context is ready in a CORE cycle: in RUN, its instruction before at least four cycles ago (R229, R230). -/
def ctxReady (s : State) (q c n : Nat) : Bool := engineIssues s q && ctxState s q c == stRun && decide ((ctxOf s q c).ready ≤ n)

/-- A context holds the phase of a CORE cycle (R229). -/
def holdsPhase (s : State) (q c n : Nat) : Bool := flagF s (F.CTX_CTRL_PHASE_EN q c) && getF s (F.CTX_CTRL_PHASE q c) == n % 4

/-- The context the slot of a CORE cycle goes to (R229): the ready holder of its phase, else the next ready one after the context served
last. -/
def slotOwner (s : State) (q n : Nat) : Option Nat :=
  match (List.range 16).find? (fun c => holdsPhase s q c n && ctxReady s q c n) with
  | some c => some c
  | none => ((List.range 16).map (fun k => ((slotOf s q).served + 1 + k) % 16)).find? (fun c => ctxReady s q c n)

/-- The CORE cycle of this tick in which a context issues (R47, R229): the next slot, if it is the context's; or the tick's second, where
no context is ready in its first. -/
def issueCycle (s : State) (q c : Nat) : Option Nat :=
  let n := max (2 * s.now) (slotOf s q).next
  if 2 * s.now + 1 < n then none
  else if slotOwner s q n = some c then some n
  else if n = 2 * s.now ∧ slotOwner s q n = none ∧ slotOwner s q (n + 1) = some c then some (n + 1)
  else none

/-- The context can issue in this tick. -/
def ctxCanIssue (s : State) (q c : Nat) : Bool := (issueCycle s q c).isSome

/-- A slot is taken: the context's next instruction issues four cycles on at the earliest, and a slot of the round robin moves it on
(R229, R230). -/
def ctxServe (s : State) (q c n : Nat) : State :=
  let slot : EngineSlot := ⟨n + 1, if holdsPhase s q c n then (slotOf s q).served else c⟩
  setCtx { s with beater := { s.beater with slots := tset s.beater.slots q slot } } q c { ctxOf s q c with ready := n + 4 }

/-- The CORE cycle in which the instruction of a context that now runs issued. -/
def issuedAt (s : State) (q c : Nat) : Nat := (ctxOf s q c).ready - 4

/-- A context leaves RUN, STALL or WAIT: its packet is discarded and the packet's credit returns at once (R228). -/
def ctxEnd (s : State) (q c st : Nat) : State :=
  let x := ctxOf s q c
  let s := if x.pkt.isSome || x.credit then creditArrives s q else s
  setCtxState (setCtx s q c { x with pkt := none, wait := none, credit := false, startReq := false }) q c st 0

/-- A context faults (R228). -/
def ctxFault (s : State) (q c cause : Nat) : State :=
  latch (setF (ctxEnd s q c stFault) (F.CTX_STAT_FCAUSE q c) cause) (F.CTX_LATCH_FAULT q c) (quireEvent q 20)

/-- A context stops (R228); a START that waits for the engine to resume is forgotten (R250). -/
def ctxStop (s : State) (q c : Nat) : State :=
  if isActive (ctxState s q c) then ctxEnd s q c stDone
  else if (ctxOf s q c).startReq then setCtx s q c { ctxOf s q c with startReq := false }
  else s

/-- An instruction that has its slot: a fetch outside the window, an uncorrectable program word and a field out of range fault the context
(R226, R228, R356). -/
def ctxRun (s : State) (q c : Nat) (bad : Bool) (f : State → State) : State :=
  if decide ((ctxOf s q c).pc < getF s (F.CTX_WIN_BASE q c)) || decide (getF s (F.CTX_WIN_LIMIT q c) < (ctxOf s q c).pc) then
    ctxFault s q c 2
  else if wordBad s (0x6000000 + q * 0x80000 + 8 * (ctxOf s q c).pc) then
    ctxFault (uncorrectable s 3 (0x6000000 + q * 0x80000 + 8 * (ctxOf s q c).pc)) q c 5
  else if bad then ctxFault s q c 1
  else f s

/-- One instruction issues, where the context can (R229). -/
def ctxIssue (s : State) (q c : Nat) (bad : Bool) (f : State → State) : State :=
  match issueCycle s q c with
  | none => s
  | some n => ctxRun (ctxServe s q c n) q c bad f

/-! ### Loops and rotation (R236, R237) -/

/-- RRB and IX of a context. -/
def rrbOf (s : State) (q c : Nat) : Nat := getF s (F.CTX_IX_RRB q c)
def ixOf (s : State) (q c : Nat) : Nat := getF s (F.CTX_IX_IX q c)
def setIX (s : State) (q c v : Nat) : State := setF s (F.CTX_IX_IX q c) v

/-- What follows address a: next address, loops still active, RRB; a ROT loop rotates at the end of each iteration. -/
def ctxFollow (a rrb : Nat) : List CtxLoop → Nat × List CtxLoop × Nat
  | [] => (a + 1, [], rrb)
  | l :: r =>
    if a = l.last then
      let rrb := if l.rot then (rrb + 15) % 16 else rrb
      if 1 < l.left then (l.first, { l with left := l.left - 1, iter := l.iter + 1 } :: r, rrb) else ctxFollow a rrb r
    else (a + 1, l :: r, rrb)

/-- The context goes on after address a, with the loops active there. -/
def ctxGo (s : State) (q c a : Nat) (loops : List CtxLoop) : State :=
  let n := ctxFollow a (rrbOf s q c) loops
  setF (setCtx s q c { ctxOf s q c with pc := n.1, loops := n.2.1 }) (F.CTX_IX_RRB q c) n.2.2

/-- The instruction is done: the context is in RUN at the next one. -/
def ctxAdvance (s : State) (q c : Nat) : State := setCtxState (ctxGo s q c (ctxOf s q c).pc (ctxOf s q c).loops) q c stRun 0

/-- A taken branch (R237). -/
def ctxBranch (s : State) (q c tgt : Nat) : State :=
  let x := ctxOf s q c
  let s := setCtx s q c { x with pc := tgt, loops := x.loops.dropWhile (fun l => decide (tgt < l.first) || decide (l.last < tgt)) }
  setCtxState s q c stRun 0

/-! ### Registers and the datapath (R231, R232, R236) -/

/-- The physical register of Vn (R236). -/
def physV (rrb n : Nat) : Nat := if n < 16 then n else 16 + (n - 16 + rrb) % 16

/-- A V register, read and written. -/
def vreg (s : State) (q c n : Nat) : VWord := (ctxOf s q c).v.toList.getD (physV (rrbOf s q c) n) 0
def setV (s : State) (q c n : Nat) (v : VWord) : State :=
  let x := ctxOf s q c
  setCtx s q c { x with v := x.v.setIfInBounds (physV (rrbOf s q c) n) v }

/-- An accumulator. -/
def accOf (s : State) (q c : Nat) (n : Fin 4) : Int := (ctxOf s q c).a[n]

/-- SAT is set (R232). -/
def satSet (s : State) (q c : Nat) : State :=
  if flagF s (F.CTX_STAT_SAT q c) then s
  else latch (incF (setB s (F.CTX_STAT_SAT q c) true) (F.CTX_CNT_SAT q c)) (F.CTX_LATCH_SAT q c) (quireEvent q 20)

/-- A number saturated to w bits (R232, R243). -/
def clampTo (w : Nat) (v : Int) : Int := max (-(2 ^ (w - 1))) (min (2 ^ (w - 1) - 1) v)

/-- An accumulator takes a result, saturated to 56 bits (R232). -/
def setAcc (s : State) (q c : Nat) (n : Fin 4) (v : Int) : State :=
  let x := ctxOf s q c
  let s := setCtx s q c { x with a := x.a.set n.val (clampTo 56 v) }
  if clampTo 56 v = v then s else satSet s q c

/-- STV's value (R232). -/
def stvValue (a : Int) (k : Nat) : Int := (a + 2 ^ (22 + k)) / 2 ^ (23 + k)

/-- SHA's value, before saturation (R232, R240). -/
def shaValue (a : Int) (k : Int) : Int := if 0 ≤ k then a * 2 ^ k.toNat else a / 2 ^ (-k).toNat

/-- N and Z from a value (R240). -/
def setNZ (s : State) (q c : Nat) (v : Int) : State :=
  setB (setB s (F.CTX_STAT_N q c) (decide (v < 0))) (F.CTX_STAT_Z q c) (decide (v = 0))

/-! ### Memory lanes (R233 to R235, R238) -/

/-- Effective length of a pointer (R233). -/
def ptrLen (s : State) (q c p : Nat) : Nat := let l := getF s (F.CTX_PTR_A_LEN q c p); if l = 0 then 65536 else l

/-- An offset reduced into a pointer's buffer (R233). -/
def ptrMod (s : State) (q c p : Nat) (v : Int) : Nat := (v % (ptrLen s q c p : Int)).toNat

/-- Address of an access by mode (R233). -/
def laneAddr (s : State) (q c p mode : Nat) : Nat :=
  let ofs : Int := getF s (F.CTX_PTR_B_OFS q c p)
  let step := getS s (F.CTX_PTR_B_STEP q c p)
  getF s (F.CTX_PTR_A_BASE q c p) + ptrMod s q c p (match mode with
    | 3 => ofs + (ixOf s q c : Int) * step
    | 4 => ofs + step
    | _ => ofs)

/-- Update of OFS by mode, from the OFS now held; IX is that read by the instruction (R233, R235). -/
def laneUpdate (s : State) (q c p mode ix : Nat) : State :=
  let ofs : Int := getF s (F.CTX_PTR_B_OFS q c p)
  let step := getS s (F.CTX_PTR_B_STEP q c p)
  match mode with
  | 1 => setF s (F.CTX_PTR_B_OFS q c p) (ptrMod s q c p (ofs + 1))
  | 2 => setF s (F.CTX_PTR_B_OFS q c p) (ptrMod s q c p (ofs + step))
  | 4 => setF s (F.CTX_PTR_B_OFS q c p) (ptrMod s q c p (ofs + step))
  | 5 => setF s (F.CTX_PTR_B_OFS q c p) (ptrMod s q c p (ofs + (ix : Int)))
  | _ => s

/-- The words of a bank (R224). -/
def bankSize (y : Bool) : Nat := if y then 65536 else 49152

/-- The word of a bank that a load issued in CORE cycle n reads: with the stores written by then (R225, R230). -/
def bankWord (s : State) (n key : Nat) : Nat :=
  (s.beater.stores.filter (fun x => x.key == key && decide (x.cycle ≤ n))).foldl (fun _ x => x.word) (memWord s key)

/-- A store sets out: it is written three cycles after its instruction issues (R230). -/
def bankStore (s : State) (n key v : Nat) : State :=
  { s with beater := { s.beater with stores := s.beater.stores ++ [⟨n + 3, key, v⟩] } }

/-- A part with a stage acts in the present iteration (R238). -/
def stageActs (s : State) (q c : Nat) (st : Nat) : Bool :=
  match (ctxOf s q c).loops with
  | l :: _ => if l.rot then decide (st ≤ l.iter) && decide (l.iter + 1 ≤ st + l.count) else true
  | [] => true

/-- A stage field is allowed (R238). -/
def stageOk (s : State) (q c : Nat) (st : Nat) : Bool :=
  match (ctxOf s q c).loops with
  | l :: _ => if l.rot then decide (st < l.stages) else st == 0
  | [] => st == 0

/-- A lane acts in this iteration. -/
def laneActs (s : State) (q c : Nat) (l : Lane) : Bool := l.en && stageActs s q c l.stage

/-- A lane's access lies inside its bank (R233). -/
def laneFits (s : State) (q c : Nat) (y : Bool) (l : Lane) : Bool :=
  !laneActs s q c l || decide (laneAddr s q c l.p l.m < bankSize y)

/-- A lane moves its word: addresses, stored values and IX are those the instruction read, in state s0 (R233, R235, R240). -/
def laneMove (s0 s : State) (q c : Nat) (y : Bool) (l : Lane) : State :=
  if laneActs s0 q c l then
    let key := beaterKey q y (laneAddr s0 q c l.p l.m)
    let s := if l.wr then bankStore s (issuedAt s0 q c) key ((vreg s0 q c l.r).signExtend 32).toNat
      else setV s q c l.r (BitVec.ofNat 24 (bankWord s0 (issuedAt s0 q c) key))
    laneUpdate s q c l.p l.m (ixOf s0 q c)
  else s

/-- A lane loads an uncorrectable word (R228, R356). -/
def laneBad (s : State) (q c : Nat) (y : Bool) (l : Lane) : Bool :=
  laneActs s q c l && !l.wr && wordBad s (beaterKey q y (laneAddr s q c l.p l.m))

/-- The context meets an uncorrectable word at a lane: the error is recorded and the context faults (R356). -/
def laneFault (s : State) (q c : Nat) (y : Bool) (l : Lane) : State :=
  ctxFault (uncorrectable s 3 (beaterKey q y (laneAddr s q c l.p l.m))) q c 5

/-! ### The parallel instruction (R238 to R240) -/

/-- Two parts of the instruction write one V register (R240). -/
def doubleWrite (s : State) (q c : Nat) (p : Par) (stv : Bool) : Bool :=
  let wx := laneActs s q c p.x && !p.x.wr
  let wy := laneActs s q c p.y && !p.y.wr
  let wo := stv && stageActs s q c p.so
  (wx && wy && p.x.r == p.y.r) || (wo && wx && p.va == p.x.r) || (wo && wy && p.va == p.y.r)

/-- A field of the instruction lies outside its range (R228, R233, R238). -/
def parBad (s : State) (q c : Nat) (p : Par) : Bool :=
  p.rsv || !stageOk s q c p.so || !stageOk s q c p.x.stage || !stageOk s q c p.y.stage
    || (p.x.en && decide (6 ≤ p.x.m.val)) || (p.y.en && decide (6 ≤ p.y.m.val))

/-- A parallel instruction issues: its operation, then lane X, then lane Y, all reading the state before it (R230, R240). -/
def parIssue (s : State) (q c : Nat) (p : Par) (bad stv : Bool) (op : State → State) : State :=
  ctxIssue s q c (parBad s q c p || bad) (fun s =>
    if doubleWrite s q c p stv then ctxFault s q c 6
    else if !laneFits s q c false p.x || !laneFits s q c true p.y then ctxFault s q c 4
    else if laneBad s q c false p.x then laneFault s q c false p.x
    else if laneBad s q c true p.y then laneFault s q c true p.y
    else
      let s1 := if stageActs s q c p.so then op s else s
      ctxAdvance (laneMove s (laneMove s s1 q c false p.x) q c true p.y) q c)

/-- V[VA] and V[VB] as numbers. -/
def vaOf (s : State) (q c : Nat) (p : Par) : Int := (vreg s q c p.va).toInt
def vbOf (s : State) (q c : Nat) (p : Par) : Int := (vreg s q c p.vb).toInt

/-- BEATER_NOP (R240): the memory lanes alone. -/
def execBeaterNop (q c : Fin 16) (p : Par) (s : State) : Host.Outcome State Fault Refusal :=
  .next (parIssue s q c p false false id)

/-- MPY (R240). -/
def execMpy (q c : Fin 16) (p : Par) (s : State) : Host.Outcome State Fault Refusal :=
  .next (parIssue s q c p false false (fun s => setAcc s q c p.ad (vaOf s q c p * vbOf s q c p)))

/-- MAC (R240). -/
def execMac (q c : Fin 16) (p : Par) (s : State) : Host.Outcome State Fault Refusal :=
  .next (parIssue s q c p false false (fun s => setAcc s q c p.ad (accOf s q c p.ad + vaOf s q c p * vbOf s q c p)))

/-- MSU (R240). -/
def execMsu (q c : Fin 16) (p : Par) (s : State) : Host.Outcome State Fault Refusal :=
  .next (parIssue s q c p false false (fun s => setAcc s q c p.ad (accOf s q c p.ad - vaOf s q c p * vbOf s q c p)))

/-- DSQ (R240). -/
def execDsq (q c : Fin 16) (p : Par) (s : State) : Host.Outcome State Fault Refusal :=
  .next (parIssue s q c p false false (fun s => setAcc s q c p.ad ((vaOf s q c p - vbOf s q c p) ^ 2)))

/-- DSQA (R240). -/
def execDsqa (q c : Fin 16) (p : Par) (s : State) : Host.Outcome State Fault Refusal :=
  .next (parIssue s q c p false false (fun s => setAcc s q c p.ad (accOf s q c p.ad + (vaOf s q c p - vbOf s q c p) ^ 2)))

/-- LDA (R231, R240): fraction-aligned. -/
def execLda (q c : Fin 16) (p : Par) (s : State) : Host.Outcome State Fault Refusal :=
  .next (parIssue s q c p false false (fun s => setAcc s q c p.ad (vaOf s q c p * 2 ^ 23)))

/-- ADDV (R231, R240). -/
def execAddv (q c : Fin 16) (p : Par) (s : State) : Host.Outcome State Fault Refusal :=
  .next (parIssue s q c p false false (fun s => setAcc s q c p.ad (accOf s q c p.ad + vaOf s q c p * 2 ^ 23)))

/-- ADDA (R240). -/
def execAdda (q c : Fin 16) (p : Par) (s : State) : Host.Outcome State Fault Refusal :=
  .next (parIssue s q c p false false (fun s => setAcc s q c p.ad (accOf s q c p.ad + accOf s q c p.as)))

/-- SUBA (R240). -/
def execSuba (q c : Fin 16) (p : Par) (s : State) : Host.Outcome State Fault Refusal :=
  .next (parIssue s q c p false false (fun s => setAcc s q c p.ad (accOf s q c p.ad - accOf s q c p.as)))

/-- SHA (R232, R240): VB is a signed shift, −16 to +15. -/
def execSha (q c : Fin 16) (p : Par) (s : State) : Host.Outcome State Fault Refusal :=
  .next (parIssue s q c p false false (fun s => setAcc s q c p.ad (shaValue (accOf s q c p.ad) (toSigned 5 p.vb))))

/-- CLR (R240). -/
def execClr (q c : Fin 16) (p : Par) (s : State) : Host.Outcome State Fault Refusal :=
  .next (parIssue s q c p false false (fun s => setAcc s q c p.ad 0))

/-- MINX (R240). -/
def execMinx (q c : Fin 16) (p : Par) (s : State) : Host.Outcome State Fault Refusal :=
  .next (parIssue s q c p false false (fun s =>
    if accOf s q c p.as < accOf s q c p.ad then setIX (setAcc s q c p.ad (accOf s q c p.as)) q c p.vb else s))

/-- GEX (R240). -/
def execGex (q c : Fin 16) (p : Par) (s : State) : Host.Outcome State Fault Refusal :=
  .next (parIssue s q c p false false (fun s => if accOf s q c p.as ≤ accOf s q c p.ad then setIX s q c p.vb else s))

/-- CMP (R240). -/
def execCmp (q c : Fin 16) (p : Par) (s : State) : Host.Outcome State Fault Refusal :=
  .next (parIssue s q c p false false (fun s => setNZ s q c (accOf s q c p.ad - accOf s q c p.as)))

/-- TST (R240). -/
def execTst (q c : Fin 16) (p : Par) (s : State) : Host.Outcome State Fault Refusal :=
  .next (parIssue s q c p false false (fun s => setNZ s q c (accOf s q c p.ad)))

/-- STV's effect (R232). -/
def stvOp (s : State) (q c : Nat) (p : Par) : State :=
  let v := stvValue (accOf s q c p.ad) p.vb
  let s := setV s q c p.va (BitVec.ofInt 24 (clampTo 24 v))
  if clampTo 24 v = v then s else satSet s q c

/-- STV (R232, R240): k = VB, 0 to 24. -/
def execStv (q c : Fin 16) (p : Par) (s : State) : Host.Outcome State Fault Refusal :=
  .next (parIssue s q c p (decide (24 < p.vb.val)) true (fun s => stvOp s q c p))

/-- ABS (R240). -/
def execAbs (q c : Fin 16) (p : Par) (s : State) : Host.Outcome State Fault Refusal :=
  .next (parIssue s q c p false false (fun s => setAcc s q c p.ad ((accOf s q c p.ad).natAbs : Int)))

/-- LDAL (R231, R240): LSB-aligned. -/
def execLdal (q c : Fin 16) (p : Par) (s : State) : Host.Outcome State Fault Refusal :=
  .next (parIssue s q c p false false (fun s => setAcc s q c p.ad (vaOf s q c p)))

/-! ### Control instructions (R237, R241) -/

/-- BEATER_HALT (R228). -/
def execBeaterHalt (q c : Fin 16) (rsv : Bool) (s : State) : Host.Outcome State Fault Refusal :=
  .next (ctxIssue s q c rsv (fun s => ctxEnd (ctxGo s q c (ctxOf s q c).pc (ctxOf s q c).loops) q c stDone))

/-- BEATER_BR (R241). -/
def execBeaterBr (q c : Fin 16) (rsv : Bool) (tgt : Fin 8192) (s : State) : Host.Outcome State Fault Refusal :=
  .next (ctxIssue s q c rsv (fun s => ctxBranch s q c tgt))

/-- Condition CC of BRF (R241). -/
def brfHolds (s : State) (q c : Nat) (cc : Nat) : Bool :=
  let z := flagF s (F.CTX_STAT_Z q c)
  let n := flagF s (F.CTX_STAT_N q c)
  match cc with
  | 0 => z
  | 1 => !z
  | 2 => n
  | 3 => !n
  | 4 => n || z
  | 5 => !(n || z)
  | _ => flagF s (F.CTX_STAT_SAT q c)

/-- BRF (R241). -/
def execBrf (q c : Fin 16) (rsv : Bool) (cc : Fin 8) (tgt : Fin 8192) (s : State) : Host.Outcome State Fault Refusal :=
  .next (ctxIssue s q c (rsv || decide (cc.val = 7)) (fun s => if brfHolds s q c cc then ctxBranch s q c tgt else ctxAdvance s q c))

/-- A LOOP's effect (R237): how it nests, its count, its stages. -/
def ctxLoopOp (s : State) (q c : Nat) (rot : Bool) (stages count last : Nat) : State :=
  let x := ctxOf s q c
  let bad := match x.loops with | l :: _ => decide (l.last < last) | [] => false
  let inRot := match x.loops with | l :: _ => l.rot | [] => false
  if decide (last ≤ x.pc) || bad then ctxFault s q c 1
  else if inRot || decide (2 ≤ x.loops.length) then ctxFault s q c 3
  else if count = 0 then setCtxState (ctxGo s q c last x.loops) q c stRun 0
  else
    let l : CtxLoop := ⟨x.pc + 1, last, if rot then count + stages - 1 else count, rot, 0, count, stages⟩
    setCtxState (setCtx s q c { x with pc := x.pc + 1, loops := l :: x.loops }) q c stRun 0

/-- BEATER_LOOP (R237). -/
def execBeaterLoop (q c : Fin 16) (rsv : Bool) (rot : Bool) (stg1 : Fin 8) (src : Bool) (cnt : Fin 65536) (vr : Fin 32)
    (last : Fin 8192) (s : State) : Host.Outcome State Fault Refusal :=
  .next (ctxIssue s q c rsv (fun s =>
    ctxLoopOp s q c rot (stg1 + 1) (if src then (vreg s q c vr).toNat % 65536 else cnt) last))

/-! ### Inputs (R242, R243) -/

/-- An input value scaled (R243). -/
def scaleIn (x : Int) (sh : Nat) : VWord := BitVec.ofInt 24 (clampTo 24 (if sh = 0 then x else (x + 2 ^ (sh - 1)) / 2 ^ sh))

/-- The tag of an entry (R243). -/
def entryTag (e : InEntry) : Nat :=
  e.ch + 16 * e.ovl.toNat + 32 * e.corrupt.toNat + 64 * e.late.toNat + 128 * e.flushed.toNat + 256 * e.subst.toNat

/-- Three registers and IX take an input (R243). -/
def takeInput (s : State) (q c vr : Nat) (i qv : VWord) (tag : Nat) (bad : Bool) : State :=
  let s := setV (setV (setV s q c vr i) q c (vr + 1) qv) q c (vr + 2) (BitVec.ofNat 24 tag)
  setIX (setCtx s q c { ctxOf s q c with bad := bad, wait := none }) q c 0

/-- The head entry of a context, where it is usable: from the tick after it entered (R242). -/
def headEntry (s : State) (q c : Nat) : Option InEntry :=
  match (ctxOf s q c).inq with
  | e :: _ => if e.tick < s.now then some e else none
  | [] => none

/-- WAITIN takes the head entry (R243). -/
def takeEntry (s : State) (q c vr : Nat) (e : InEntry) : State :=
  let x := ctxOf s q c
  let sh := getF s (F.CTX_IN_SHIFT q c)
  let s := setF (setCtx s q c { x with inq := x.inq.tail }) (F.CTX_IN_LEVEL q c) (x.inq.length - 1)
  takeInput s q c vr (scaleIn e.i sh) (scaleIn e.q sh) (entryTag e) (e.late || e.flushed || e.corrupt)

/-- WAITIN (R243): takes the head entry, or waits for one; a context that waits goes on from the WAITIN when it has taken its entry. -/
def execWaitin (q c : Fin 16) (rsv : Bool) (vr : Fin 32) (tmo : Fin 65536) (s : State) : Host.Outcome State Fault Refusal :=
  .next (ctxIssue s q c (rsv || decide (29 < vr.val)) (fun s =>
    match headEntry s q c with
    | some e => ctxAdvance (takeEntry s q c vr e) q c
    | none => setCtxState (setCtx s q c { ctxOf s q c with wait := some (vr, tmo, s.now) }) q c stWait 8))

/-- A waiting context whose entry has become usable resumes (R228, R243). -/
def ctxWake (s : State) (q c : Nat) : State :=
  match (ctxOf s q c).wait, headEntry s q c with
  | some (vr, _, _), some e => if engineIssues s q then ctxAdvance (takeEntry s q c vr e) q c else s
  | _, _ => s

/-- The timeout of a context's WAITIN expires, if it has and no entry is usable (R243). -/
def waitinTimeoutOp (s : State) (q c : Nat) : State :=
  match (ctxOf s q c).wait with
  | some (vr, tmo, since) =>
    if tmo ≠ 0 ∧ since + tmo ≤ s.now ∧ (headEntry s q c).isNone ∧ engineIssues s q then
      ctxAdvance (takeInput s q c vr 0 0 (2 ^ 23) true) q c
    else s
  | none => s

/-- WAITIN_TIMEOUT (R243). -/
def execWaitinTimeout (q c : Fin 16) (s : State) : Host.Outcome State Fault Refusal := .next (waitinTimeoutOp s q c)

/-! ### Outputs (R245 to R248) -/

/-- A value sets out for a Beater output, which it reaches two ticks later; the later of two in one tick wins (R245, R247). -/
def beaterOut (s : State) (q o v : Nat) : State :=
  let same : Nat × Nat × Nat × Nat → Bool := fun x => x.1 == q && x.2.1 == o && x.2.2.1 == s.now + 2
  let outs := s.beater.outs.filter (fun x => !same x) ++ [(q, o, s.now + 2, v % 4)]
  let s' := { s with beater := { s.beater with outs := outs } }
  if s.beater.outs.any same then latch (incF s' (F.BT_CNT_OVERWRITE q)) (F.BT_LATCH_OVERWRITE q) (quireEvent q 19) else s'

/-- OUTP (R245, R246). -/
def execOutp (q c : Fin 16) (rsv : Bool) (out src imm : Fin 4) (gate : Bool) (vr : Fin 32) (s : State) :
    Host.Outcome State Fault Refusal :=
  .next (ctxIssue s q c (rsv || decide (src.val = 3)) (fun s =>
    let v := match src.val with | 0 => ixOf s q c | 1 => imm.val | _ => (vreg s q c vr).toNat
    let s := if gate && (ctxOf s q c).bad then s else beaterOut s q out v
    ctxAdvance s q c))

/-- The stores written before a CORE cycle reach their banks: those of engine q, or of every engine. -/
def storesSettle (s : State) (q : Option Nat) (n : Nat) : State :=
  let mine : BankStore → Bool := fun x => decide (x.cycle < n) && (q.isNone || q == some ((x.key - 0x6000000) / 0x80000))
  let due := s.beater.stores.filter mine
  let s := { s with beater := { s.beater with stores := s.beater.stores.filter (fun x => !mine x) } }
  due.foldl (fun s x => setWord s x.key x.word) s

/-- An access from the network to an address of a Beater memory finds the stores of the cycles before its own (R225). -/
def bankAccess (s : State) (a : Nat) : State :=
  if 0x6000000 ≤ a ∧ a < 0x6800000 then
    let q := (a - 0x6000000) / 0x80000
    storesSettle s (some q) (max (2 * s.now) (slotOf s q).next)
  else s

/-- The values that reach their Beater output now are delivered at their Couch sources (R245, R254), but for those of a paused engine
(R252); the stores of the ticks before are in their banks (R230). -/
def beaterTick (s : State) : State :=
  let s := storesSettle s none (2 * s.now)
  let now := s.now
  let due := s.beater.outs.filter (fun x => decide (x.2.2.1 ≤ now) && !flagF s (F.BT_ESTAT_PAUSED x.1))
  let s := { s with beater := { s.beater with outs := s.beater.outs.filter (fun x => decide (now < x.2.2.1)) } }
  due.foldl (fun s x =>
    deliver (setB (setF s (F.BT_OUT_VALUE x.1 x.2.1) x.2.2.2) (F.BT_OUT_DELIVERED x.1 x.2.1) true) (256 + 4 * x.1 + x.2.1) x.2.2.2) s

/-- The threads of a quire whose MEAS waits for a credit. -/
def measWaiting (s : State) (q : Nat) : Nat :=
  ((List.range 16).filter (fun t => thrState s q t == stStall && getF s (F.THR_STAT_WCAUSE q t) == 2)).length

/-- No credit is left for a context beside those that a waiting MEAS of the quire or a lower context takes first (R248). -/
def creditTaken (s : State) (q c : Nat) : Bool :=
  decide (getF s (F.HB_RQ_CREDIT_FREE q) ≤ measWaiting s q + ((List.range c).filter (fun c' => ctxState s q c' == stStall)).length)

/-- A stalled context reserves a credit as soon as it can, and runs (R228, R248). -/
def creditGrant (s : State) (q c : Nat) : State :=
  if ctxState s q c = stStall ∧ creditTaken s q c = false ∧ engineIssues s q = true then
    let s := setF s (F.HB_RQ_CREDIT_FREE q) (getF s (F.HB_RQ_CREDIT_FREE q) - 1)
    setCtxState (setCtx s q c { ctxOf s q c with credit := true }) q c stRun 0
  else s

/-- The stalled contexts of a quire, in ascending order. -/
def creditGrants (s : State) (q : Nat) : State := (List.range 16).foldl (fun s c => creditGrant s q c) s

/-- The context waits for a result credit (R248). -/
def ctxStall (s : State) (q c : Nat) : State :=
  if ctxState s q c = stStall then s else setCtxState (incF s (F.CTX_CNT_STALL q c)) q c stStall 2

/-- A word is appended to the packet; the packet closes with END or its sixth word, and enters the queue in the first ADCW cycle after the
OUTR's write cycle, three CORE cycles on: in the second tick after this one (R230, R248). -/
def appendWord (s : State) (q c : Nat) (p : PacketBuf) (w : Nat) (last : Bool) : State :=
  let x := ctxOf s q c
  let words := p.words ++ [w]
  if last || decide (6 ≤ words.length) then ready (setCtx s q c { x with pkt := none }) q (s.now + 2) (.beater c p.tag p.tick words)
  else setCtx s q c { x with pkt := some { p with words := words } }

/-- OUTR (R248): the first word of a packet reserves a credit. -/
def execOutr (q c : Fin 16) (rsv : Bool) (vr : Fin 32) (last : Bool) (tag : Fin 128) (s : State) :
    Host.Outcome State Fault Refusal :=
  .next (ctxIssue s q c rsv (fun s =>
    let w := ((vreg s q c vr).signExtend 32).toNat
    match (ctxOf s q c).pkt with
    | some p => ctxAdvance (appendWord s q c p w last) q c
    | none =>
      if (ctxOf s q c).credit then
        ctxAdvance (appendWord (setCtx s q c { ctxOf s q c with credit := false }) q c ⟨s.now, tag, []⟩ w last) q c
      else if creditTaken s q c then ctxStall s q c
      else
        let s := setF s (F.HB_RQ_CREDIT_FREE q) (getF s (F.HB_RQ_CREDIT_FREE q) - 1)
        ctxAdvance (appendWord s q c ⟨s.now, tag, []⟩ w last) q c))

/-- SETP (R234, R241). -/
def execSetp (q c : Fin 16) (rsv : Bool) (p : Fin 8) (field : Fin 4) (imm : BitVec 16) (s : State) :
    Host.Outcome State Fault Refusal :=
  .next (ctxIssue s q c rsv (fun s =>
    let f := match field.val with
      | 0 => F.CTX_PTR_A_BASE q c p
      | 1 => F.CTX_PTR_A_LEN q c p
      | 2 => F.CTX_PTR_B_STEP q c p
      | _ => F.CTX_PTR_B_OFS q c p
    ctxAdvance (setF s f imm.toNat) q c))

/-- The values of a network write of an address register take effect (R234). -/
def ctxPtrEffect (s : State) (q c p : Nat) (a : Bool) (hi lo : Nat) : State :=
  if a then setF (setF s (F.CTX_PTR_A_LEN q c p) hi) (F.CTX_PTR_A_BASE q c p) lo
  else setF (setF s (F.CTX_PTR_B_STEP q c p) hi) (F.CTX_PTR_B_OFS q c p) lo

/-- LDI (R241). -/
def execLdi (q c : Fin 16) (rsv : Bool) (vr : Fin 32) (imm : BitVec 24) (s : State) : Host.Outcome State Fault Refusal :=
  .next (ctxIssue s q c rsv (fun s => ctxAdvance (setV s q c vr imm) q c))

/-- ROT (R236). -/
def execRot (q c : Fin 16) (rsv : Bool) (n : Fin 16) (s : State) : Host.Outcome State Fault Refusal :=
  .next (ctxIssue s q c rsv (fun s => ctxAdvance (setF s (F.CTX_IX_RRB q c) ((rrbOf s q c + 16 - n) % 16)) q c))

/-! ### Starting and stopping (R228, R229) -/

/-- CTX_CTRL.START (R228); while the engine is paused it waits for the engine to resume (R250). -/
def ctxStartOp (q c : Nat) (s : State) : State :=
  if isActive (ctxState s q c) then s
  else if !flagF s (F.BT_CTRL_EN q) then latch s (F.CTX_LATCH_START_REF q c) (quireEvent q 20)
  else if flagF s (F.BT_ESTAT_PAUSED q) then setCtx s q c { ctxOf s q c with startReq := true }
  else
    let s := setCtx s q c { Ctx.init with pc := getF s (F.CTX_PC_PC q c), started := true, ready := (ctxOf s q c).ready }
    let s := setB (setB (setB s (F.CTX_STAT_SAT q c) false) (F.CTX_STAT_N q c) false) (F.CTX_STAT_Z q c) false
    let s := setF (setF (setF s (F.CTX_IX_RRB q c) 0) (F.CTX_IX_IX q c) 0) (F.CTX_IN_LEVEL q c) 0
    setCtxState (setF s (F.CTX_STAT_FCAUSE q c) 0) q c stRun 0

/-- CTX_START (R228). -/
def execCtxStart (m : Master) (q c : Fin 16) (s : State) : Host.Outcome State Fault Refusal :=
  .next (rowWrite (.ctxStart m q c) m ⟨.CTX_CTRL, q, c, 0⟩ s (fun s => some (ctxStartOp q c s)))

/-- CTX_STOP (R228). -/
def execCtxStop (m : Master) (q c : Fin 16) (s : State) : Host.Outcome State Fault Refusal :=
  .next (rowWrite (.ctxStop m q c) m ⟨.CTX_CTRL, q, c, 0⟩ s (fun s => some (ctxStop s q c)))

/-- BT_CTRL.EN is written (R229): cleared, every context stops; set, the round robin starts at context 0. -/
def beaterEnableOp (q : Nat) (en : Bool) (s : State) : State :=
  let s := if en && !flagF s (F.BT_CTRL_EN q) then
    { s with beater := { s.beater with slots := tset s.beater.slots q { slotOf s q with served := 15 } } } else s
  let s := setB s (F.BT_CTRL_EN q) en
  if en then s else (List.range 16).foldl (fun s c => ctxStop s q c) s

/-- BEATER_ENABLE (R229). -/
def execBeaterEnable (m : Master) (q : Fin 16) (en : Bool) (s : State) : Host.Outcome State Fault Refusal :=
  .next (rowWrite (.beaterEnable m q en) m ⟨.BT_CTRL, q, 0, 0⟩ s (fun s => some (beaterEnableOp q en s)))

/-! ### The spare engine (R251, R252) -/

/-- The region's spare engine is free. -/
def engineSpareFree (s : State) (g : Nat) : Bool := (tget s.beater.spare none g).isNone && (tget s.beater.pending none g).isNone

/-- The engine pauses for a substitution or a move (R251, R252). -/
def enginePause (s : State) (q : Nat) (back : Bool) : State :=
  setB { s with beater := { s.beater with
    pending := tset s.beater.pending (q / 4) (some (q, back)), since := tset s.beater.since (q / 4) s.now } } (F.BT_ESTAT_PAUSED q) true

/-- An engine is left without hardware (R251): every context faults, the engine is unsparable (R23) and the chip level hears of it. -/
def engineLost (s : State) (q : Nat) : State :=
  let s := (List.range 16).foldl (fun s c => ctxFault s q c 7) s
  let mine := match tget s.beater.pending none (q / 4) with | some x => x.1 == q | none => false
  let s := if mine then { s with beater := { s.beater with pending := tset s.beater.pending (q / 4) none } } else s
  chipFault (unsparable (setB (setB s (F.BT_ESTAT_PAUSED q) false) (F.BT_ESTAT_SUBST q) false) q)

/-- The spare was sent in this very tick for an engine of a higher quire, which yields it (R26, R251): that quire. -/
def engineYields (s : State) (q : Nat) : Option Nat :=
  match tget s.beater.pending none (q / 4) with
  | some (q', false) => if q < q' ∧ tget s.beater.since 0 (q / 4) = s.now ∧ flagF s (F.BT_ESTAT_FAILED q') = true then some q' else none
  | _ => none

/-- The engine is on its way to the spare already. -/
def engineMoving (s : State) (q : Nat) : Bool := tget s.beater.pending none (q / 4) == some (q, false)

/-- An engine is found faulty (R251): the spare is sent for, or the engine is lost; coincident faults are served lower quire first (R26). -/
def engineFails (s : State) (q : Nat) : State :=
  let s := regionFault (quireFault s q) (q / 4)
  let s := setB { s with beater := { s.beater with checked := tset s.beater.checked q false } } (F.BT_ESTAT_FAILED q) true
  if engineSpareFree s (q / 4) then substEvent (enginePause s q false) (q / 4) false
  else if engineMoving s q then s
  else
    match engineYields s q with
    | some q' => substEvent (enginePause (engineLost s q') q false) (q / 4) false
    | none => engineLost s q

/-- A residue mismatch (R251), counted. -/
def engineFaultOp (s : State) (q : Nat) : State :=
  engineFails (latch (incF s (F.BT_CNT_RESIDUE q)) (F.BT_LATCH_RESIDUE q) (quireEvent q 19)) q

/-- ENGINE_FAULT (R251); in the tick of a quire reset the engine's self-check after it decides (R26). -/
def execEngineFault (q : Fin 16) (s : State) : Host.Outcome State Fault Refusal := .next (if resetNow s q then s else engineFaultOp s q)

/-- STARTs written while an engine was paused take effect (R250). -/
def startsHeld (s : State) (q : Nat) : State :=
  (List.range 16).foldl (fun s c =>
    if (ctxOf s q c).startReq then ctxStartOp q c (setCtx s q c { ctxOf s q c with startReq := false }) else s) s

/-- The pending substitution, move or hand-back of a region ends, and the engine issues again (R251, R252). -/
def engineSubstDone (s : State) (g : Nat) : State :=
  if !vatmanUp s g then s else
  match tget s.beater.pending none g with
  | none => s
  | some (q, back) =>
    let s := setB { s with beater := { s.beater with pending := tset s.beater.pending g none } } (F.BT_ESTAT_PAUSED q) false
    if back then
      startsHeld (setB (setB { s with beater := { s.beater with spare := tset s.beater.spare g none } } (F.BT_ESTAT_SUBST q) false)
        (F.BT_ESTAT_FAILED q) false) q
    else
      let failed := flagF s (F.BT_ESTAT_FAILED q)
      let s := setB { s with beater := { s.beater with spare := tset s.beater.spare g (some (q, !failed)) } } (F.BT_ESTAT_SUBST q) true
      startsHeld (if failed then substEvent s g true else s) q

/-- ENGINE_SUBSTITUTION (R251). -/
def execEngineSubstitution (g : Fin 4) (s : State) : Host.Outcome State Fault Refusal := .next (engineSubstDone s g)

/-- BT_CTRL.FORCE (R252): a healthy engine, the spare free. -/
def beaterForceOp (q : Nat) (s : State) : State :=
  if engineSpareFree s (q / 4) && !flagF s (F.BT_ESTAT_FAILED q) then enginePause s q false else s

/-- BEATER_FORCE (R252). -/
def execBeaterForce (m : Master) (q : Fin 16) (s : State) : Host.Outcome State Fault Refusal :=
  .next (rowWrite (.beaterForce m q) m ⟨.BT_CTRL, q, 0, 0⟩ s (fun s => some (beaterForceOp q s)))

/-- BT_CTRL.RELEASE (R252): a forced engine, or one that has passed its self-check since it failed. -/
def beaterReleaseOp (q : Nat) (s : State) : State :=
  match tget s.beater.spare none (q / 4) with
  | some (q', forced) =>
    if q' = q ∧ (tget s.beater.pending none (q / 4)).isNone ∧ (forced ∨ tget s.beater.checked false q = true) then enginePause s q true
    else s
  | none => s

/-- BEATER_RELEASE (R252). -/
def execBeaterRelease (m : Master) (q : Fin 16) (s : State) : Host.Outcome State Fault Refusal :=
  .next (rowWrite (.beaterRelease m q) m ⟨.BT_CTRL, q, 0, 0⟩ s (fun s => some (beaterReleaseOp q s)))

end Sys2Proof.Machine
end

