-- ==== Sys2Proof/Machine/Headbox.lean ====
section
/-! DEFINITION. The Headbox (R193 to R206, R219 to R221): the ADC, the integration of a window, the discriminator, the end of a window,
the spare read-out unit, and faults of tones and cells. -/

namespace Sys2Proof.Machine

/-! ### The ADC (R193 to R195) -/

/-- HB_CTRL is written with ACQ_EN = 1 (R193): accepted while the quire is idle; ready within 20 µs. -/
def acqEnableOp (q : Nat) (s : State) : Option State :=
  if flagF s (F.HB_CTRL_ACQ_EN q) then some s
  else whenIdle q (fun s =>
    let s := setB s (F.HB_CTRL_ACQ_EN q) true
    { s with head := { s.head with adcBy := tset s.head.adcBy q (some (s.now + 10000)) } }) s

/-- ACQ_ENABLE (R193). -/
def execAcqEnable (m : Master) (q : Fin 16) (s : State) : Host.Outcome State Fault Refusal :=
  .next (rowWrite (.acqEnable m q) m ⟨.HB_CTRL, q, 0, 0⟩ s (acqEnableOp q))

/-- The ADC of a quire is powered (R192): ACQ_EN = 1, in Active or Idle, with the ADC domain of its converter die on (R436). -/
def adcPowered (s : State) (q : Nat) : Bool :=
  flagF s (F.HB_CTRL_ACQ_EN q) && decide (powerState s ≤ 1) && domainOn s (80 + 8 * (q / 4) + 2)

/-- The ADC has powered and settled (R193). -/
def adcReadyOp (s : State) (q : Nat) : State :=
  if adcPowered s q then
    setB { s with head := { s.head with adcBy := tset s.head.adcBy q none } } (F.HB_STAT_ADC_READY q) true
  else s

/-- ADC_READY (R193). -/
def execAdcReady (q : Fin 16) (s : State) : Host.Outcome State Fault Refusal := .next (adcReadyOp s q)

/-- ADC sample m lies in a window (R197). -/
def inWindow (w : OpenWin) (m : Nat) : Bool :=
  decide (2 * (64 * w.p + w.sub) ≤ 3 * m) && decide (3 * m < 128 * (w.p + w.len))

/-- Every window of the quire that a sample lies in is changed by a function. -/
def markWindows (s : State) (q : Nat) (hit : OpenWin → Bool) (f : OpenWin → OpenWin) : State :=
  (List.range 16).foldl (fun s j =>
    let c := cellOf s q j
    if c.wins.any hit then setCell s q j { c with wins := c.wins.map (fun w => if hit w then f w else w) } else s) s

/-- An ADC sample reaches a code limit (R195): its ADCW word is counted once, and its windows are marked. -/
def overloadOp (s : State) (q word sample : Nat) : State :=
  let s := if tget s.head.ovlWord none q = some word then s else
    let s := incF { s with head := { s.head with ovlWord := tset s.head.ovlWord q (some word) } } (F.HB_CNT_A_OVL q)
    setB (latch s (F.HB_LATCH_OVL q) (quireEvent q 15)) (F.HB_STAT_OVL q) true
  markWindows s q (fun w => inWindow w (16 * word + sample)) (fun w => { w with ovl := true })

/-- ADC_OVERLOAD (R195). -/
def execAdcOverload (q : Fin 16) (word : Nat) (sample : Fin 16) (s : State) : Host.Outcome State Fault Refusal :=
  .next (overloadOp s q word sample)

/-! ### Integration (R197 to R201) -/

/-- The first ADC sample that belongs to a tick (R194). -/
def adcFirst (tick : Nat) : Nat := (128 * tick + 2) / 3

/-- Weight of tick t of a window, as (I, Q) in 2^-15 (R200). -/
def weightAt (s : State) (q d t : Nat) : Int × Int :=
  if flagF s (F.WGT_W0_MODE q d) then (getS s (F.WGT_W2_CONST_I q d), getS s (F.WGT_W2_CONST_Q q d))
  else if t < getF s (F.WGT_W1_WLEN q d) then
    let w := memWord s (wgtKey q (getF s (F.WGT_W0_START q d) + t))
    (toSigned 16 (w % 2 ^ 16), toSigned 16 (w / 2 ^ 16))
  else (0, 0)

/-- The cell's accumulator at an ADC sample (R51, R52, R199): its own word and phase, or those of its probe tone plus PHASE. -/
def cellAcc (s : State) (q j m : Nat) : Nat :=
  let tick := 3 * m / 128
  let own := histAt (cellOf s q j).hist tick
  if flagF s (F.HB_CELL_CFG_LINK q j) then
    let t := histAt (toneOf s q (16 + getF s (F.HB_CELL_CFG_PTONE q j))).hist tick
    ncoAcc t.1 (t.2 + own.2) false (3 * m)
  else ncoAcc own.1 own.2 false (3 * m)

/-- A complex number. -/
structure Cplx where
  re : Rat
  im : Rat
deriving DecidableEq, Repr

/-- x · e^(−iφ) of one sample (R198): zero outside the window and in a corrupt word (R205). -/
def mixSample (s : State) (q j : Nat) (w : OpenWin) (m : Nat) (x : Int) : Cplx :=
  if inWindow w m && !w.bad.contains (m / 16) then
    ⟨x * ncoCosAt (cellAcc s q j m), -(x * ncoSinAt (cellAcc s q j m))⟩
  else ⟨0, 0⟩

/-- The partial z of tick t of a window, from the codes of the window's ticks (R198). -/
def partialOf (s : State) (q j : Nat) (w : OpenWin) (codes : List Int) (t : Nat) : Cplx :=
  let first := adcFirst (w.p + t)
  let n := adcFirst (w.p + t + 1) - first
  let sum := (List.range n).foldl (fun (a : Cplx) k =>
    let z := mixSample s q j w (first + k) (codes.getD (first + k - adcFirst w.p) 0)
    ⟨a.re + z.re, a.im + z.im⟩) ⟨0, 0⟩
  ⟨sum.re / n, sum.im / n⟩

/-- I + iQ of a window before rounding (R198). -/
def windowSum (s : State) (q j : Nat) (w : OpenWin) (codes : List Int) : Cplx :=
  (List.range w.len).foldl (fun (a : Cplx) t =>
    let z := partialOf s q j w codes t
    let g := weightAt s q w.wgt t
    ⟨a.re + (g.1 * z.re - g.2 * z.im) / 2 ^ 15, a.im + (g.1 * z.im + g.2 * z.re) / 2 ^ 15⟩) ⟨0, 0⟩

/-- Rounded to nearest in units of 2^-6 ADC code (R198, R487). -/
def roundIQ (x : Rat) : Int := (x * 64 + 1 / 2).floor

/-! ### The discriminator (R202) -/

/-- I′ and Q′. -/
def rotateI (d : Disc) (i qv : Int) : Int := (d.c * i + d.s * qv) / 2 ^ 15 - d.ofsI
def rotateQ (d : Disc) (i qv : Int) : Int := (d.c * qv - d.s * i) / 2 ^ 15 - d.ofsQ

/-- The state of a result. -/
def discState (d : Disc) (i qv : Int) : Nat :=
  let a := rotateI d i qv
  match d.mode with
  | 0 => if a < d.thr0 then 0 else 1
  | 1 => if a < d.thr0 then 0 else if a < d.thr1 then 1 else 2
  | _ => if d.thr1 ≤ rotateQ d i qv then 2 else if a < d.thr0 then 0 else 1

/-! ### The end of a window (R204 to R206) -/

/-- A window holds an overloaded sample (R195). -/
def windowOvl (w : OpenWin) (codes : List Int) : Bool :=
  w.ovl || codes.zipIdx.any (fun x => inWindow w (adcFirst w.p + x.2) && (x.1 == -2048 || x.1 == 2047))

/-- The window's result is formed in tick E + 14 (R206): the descriptor is released, the Beater gets its entry, the state reaches the
Couch at E + 16 unless the window is corrupt (R204), and the record is ready at E + 16. -/
def formResult (s : State) (q j : Nat) (w : OpenWin) (codes : List Int) : State :=
  let e := w.p + w.len - 1
  let z := windowSum s q j w codes
  let i := roundIQ z.re
  let qv := roundIQ z.im
  let st := discState w.disc i qv
  let corrupt := w.bad.any (fun b => (List.range 16).any (fun k => inWindow w (16 * b + k)))
  let ovl := windowOvl w codes
  let s := setCell (wgtRel s q w.wgt) q j { cellOf s q j with wins := (cellOf s q j).wins.erase w, lastQ := ofSigned 32 qv }
  let s := setB s (F.HB_CELL_STAT_BUSY q j) (decide ((cellOf s q j).wins ≠ []))
  let s := setS (setS s (F.HB_CELL_LAST_I_VALUE q j) i) (F.HB_CELL_LAST_Q_VALUE q j) qv
  let s := setB s (F.HB_CELL_STAT_LAST_VALID q j) (!corrupt)
  let s := if ovl then latch s (F.HB_CELL_LATCH_OVL q j) (quireEvent q 15) else s
  let s := beaterEntry s q ⟨j, i, qv, ovl, corrupt, false, false, w.spare, s.now, w.p⟩
  let s := if corrupt then s else
    couchAt (incF (setF s (F.HB_CELL_STAT_LAST_STATE q j) st) (F.HB_CELL_CNT_WINDOWS q j)) (e + 16) (.state (16 * q + j) st)
  ready s q (e + 16) (.meas j w.t w.wgt w.sub w.p w.len i qv w.spare false ovl corrupt false (!corrupt) (if corrupt then 0 else st) true)

/-- The window of a cell whose result is due. -/
def dueWindow (s : State) (q j : Nat) : Option OpenWin := (cellOf s q j).wins.find? (fun w => decide (w.p + w.len + 13 ≤ s.now))

/-- WINDOW_RESULT (R206): at E + 14, with the ADC codes of the window's ticks. -/
def execWindowResult (q j : Fin 16) (codes : List Int) (s : State) : Host.Outcome State Fault Refusal :=
  match dueWindow s q j with
  | some w => .next (formResult s q j w codes)
  | none => .next s

/-! ### Discriminator shadows (R203) -/

/-- The shadow values of a cell. -/
def discShadow (s : State) (q j : Nat) : Disc :=
  ⟨getF s (F.HB_DISC_CFG_MODE q j), getS s (F.HB_DISC_ROT_COS q j), getS s (F.HB_DISC_ROT_SIN q j), getS s (F.HB_DISC_OFS_I_VALUE q j),
    getS s (F.HB_DISC_OFS_Q_VALUE q j), getS s (F.HB_DISC_THR0_VALUE q j), getS s (F.HB_DISC_THR1_VALUE q j)⟩

/-- A cell takes the values of its shadow; windows with P ≥ B, opened already, take them too (R203, R218). -/
def discTake (s : State) (q j b : Nat) : State :=
  let c := cellOf s q j
  let d := discShadow s q j
  keepCellShadow (setCell s q j { c with
    disc := d, wins := c.wins.map (fun w => if b ≤ w.p then { w with disc := d } else w) }) q j

/-- The shadows of all sixteen cells come into force, for windows with P ≥ B (R203). -/
def discApplyAt (s : State) (q b : Nat) : State :=
  setB ((List.range 16).foldl (fun s j => discTake s q j b) s) (F.HB_CTRL_PENDING q) false

/-- The shadows of all sixteen cells come into force at once, in an idle quire (R203): for windows that open from now on. -/
def discApply (s : State) (q : Nat) : State := discApplyAt s q (s.now + 1)

/-- A commit is refused while a cell in MODE 1 has THR1 < THR0 (R202). -/
def discRefused (s : State) (q : Nat) : Bool :=
  (List.range 16).any (fun j => (discShadow s q j).mode == 1 && decide ((discShadow s q j).thr1 < (discShadow s q j).thr0))

/-- HB_CTRL.COMMIT (R203). -/
def discCommitOp (q : Nat) (s : State) : Option State :=
  if discRefused s q then none
  else if quireIdle s q then some (discApply s q) else some (setB s (F.HB_CTRL_PENDING q) true)

/-- DISC_COMMIT (R203). -/
def execDiscCommit (m : Master) (q : Fin 16) (s : State) : Host.Outcome State Fault Refusal :=
  .next (rowWrite (.discCommit m q) m ⟨.HB_CTRL, q, 0, 0⟩ s (discCommitOp q))

/-! ### The spare read-out unit (R219 to R221) -/

/-- The unit is free: it serves nothing, has not failed, and no substitution or move is under way. -/
def unitFree (s : State) (q : Nat) : Bool :=
  !flagF s (F.HB_SPARE_STAT_IN_USE q) && !flagF s (F.HB_SPARE_STAT_SPARE_FAIL q) && (tget s.head.subst none q).isNone
    && (tget s.head.move none q).isNone

/-- SUBST and FAILED of an item: kind 0 a cell, 1 a probe tone (R221). -/
def itemSubst (q kind n : Nat) : Fld := if kind = 0 then F.HB_CELL_STAT_SUBST q n else F.TONE_STAT_SUBST q (16 + n)
def itemFailed (q kind n : Nat) : Fld := if kind = 0 then F.HB_CELL_STAT_FAILED q n else F.TONE_STAT_FAILED q (16 + n)

/-- Whether the item's own hardware has passed its self-check since it failed (R144, R221). -/
def itemChecked (s : State) (q kind n : Nat) : Bool := if kind = 0 then (cellOf s q n).checked else (toneOf s q (16 + n)).checked
def itemReset (s : State) (q kind n : Nat) : State :=
  if kind = 0 then setCell s q n { cellOf s q n with checked := false }
  else setTone s q (16 + n) { toneOf s q (16 + n) with checked := false, zeroFrom := none }

/-- A cell takes the word, phase term and discriminator values of its shadow (R220). -/
def loadCellShadow (s : State) (q j : Nat) : State :=
  let v := tget s.head.shadows CellShadow.init (q, j)
  setCell s q j { cellOf s q j with ftw := v.ftw, phase := v.phase, disc := v.disc }

/-- The unit serves an item from now on, loaded with its shadow. -/
def unitServe (s : State) (q kind n : Nat) (forced : Bool) : State :=
  let s := if kind = 0 then loadCellShadow s q n else loadShadow s q (16 + n)
  let s := setF (setF (setB s (F.HB_SPARE_STAT_IN_USE q) true) (F.HB_SPARE_STAT_KIND q) kind) (F.HB_SPARE_STAT_TARGET q) n
  let s := setB (setB s (F.HB_SPARE_STAT_FORCED q) forced) (F.HB_SPARE_STAT_BUSY q) false
  let s := setB (setB s (itemSubst q kind n) true) (F.HB_STAT_SUBST q) true
  if kind = 0 then s else setTone s q (16 + n) { toneOf s q (16 + n) with zeroFrom := none }

/-- The item's own hardware takes over from the unit (R221). -/
def unitHandBack (s : State) (q : Nat) : State :=
  let kind := getF s (F.HB_SPARE_STAT_KIND q)
  let n := getF s (F.HB_SPARE_STAT_TARGET q)
  let s := setB (setB (itemReset s q kind n) (itemSubst q kind n) false) (itemFailed q kind n) false
  let s := setB (setB (setB s (F.HB_SPARE_STAT_IN_USE q) false) (F.HB_SPARE_STAT_FORCED q) false) (F.HB_SPARE_STAT_BUSY q) false
  setB (setF (setF s (F.HB_SPARE_STAT_KIND q) 0) (F.HB_SPARE_STAT_TARGET q) 0) (F.HB_STAT_SUBST q) false

/-- A substitution by the unit starts (R220); the region reports it (R286). -/
def unitSubstStart (s : State) (q kind n : Nat) : State :=
  let s := { s with head := { s.head with subst := tset s.head.subst q (some (kind, n, s.now)) } }
  substEvent (regionFault (setB s (F.HB_SPARE_STAT_BUSY q) true) (q / 4)) (q / 4) false

/-- A window of a faulty cell is lost (R213, R220): a late command, with a LATE record; an overloaded sample in it is not forgotten
(R195). -/
def loseWindow (s : State) (q j : Nat) (w : OpenWin) : State :=
  let s := lateCommand (wgtRel s q w.wgt) q w.t w.p
  let s := if w.ovl then latch s (F.HB_CELL_LATCH_OVL q j) (quireEvent q 15) else s
  ready s q s.now (.meas j w.t w.wgt w.sub w.p w.len 0 0 w.spare false w.ovl false true false 0 false)

/-- Every window a cell has open is lost: those its own hardware serves, or those the spare unit serves. -/
def loseWindows (s : State) (q j : Nat) (spare : Bool) : State :=
  let ws := (cellOf s q j).wins
  let kept := ws.filter (fun w => w.spare != spare)
  let s := setB (setCell s q j { cellOf s q j with wins := kept }) (F.HB_CELL_STAT_BUSY q j) (!kept.isEmpty)
  (ws.filter (fun w => w.spare == spare)).foldl (fun s w => loseWindow s q j w) s

/-- A record of a window with E + 14 ≥ D − 2 that is not yet in the queue becomes that of a lost window (R220). -/
def losePacket (now : Nat) (j : Nat) (spare : Bool) : Nat × Packet → Option (Nat × Nat) × (Nat × Packet)
  | (tick, .meas j' t w sub p len i qv subst fl ovl cor late sv st fed) =>
    if j' = j ∧ subst = spare ∧ !late ∧ !fl ∧ now ≤ p + len + 15 then
      (some (t, p), (tick, .meas j' t w sub p len 0 0 subst false ovl false true false 0 fed))
    else (none, (tick, .meas j' t w sub p len i qv subst fl ovl cor late sv st fed))
  | x => (none, x)

/-- Results of a faulty cell formed in the two ticks before the fault are lost too: no state is delivered (R220). -/
def loseFormed (s : State) (q j : Nat) (spare : Bool) : State :=
  let r := results s q
  let xs := r.ready.map (losePacket s.now j spare)
  let s := setResults s q { r with ready := xs.map (·.2) }
  let s := if xs.all (fun x => x.1.isNone) then s else
    { s with couch := { s.couch with due := s.couch.due.filter (fun x => match x.2 with
      | .state k _ => k != 16 * q + j
      | _ => true) } }
  xs.foldl (fun s x => match x.1 with | some (t, p) => lateCommand s q t p | none => s) s

/-- A pending move to or from the unit is dropped (R146). -/
def unitMoveDrop (s : State) (q : Nat) : State :=
  if (tget s.head.move none q).isSome then
    setB { s with head := { s.head with move := tset s.head.move q none } } (F.HB_SPARE_STAT_BUSY q) false
  else s

/-- The unit is found failed (R219): unsparable, what was under way on it dropped; an item it serves is muted, and the chip level hears of
it (R146, R221). -/
def unitFail (s : State) (q : Nat) : State :=
  let s := unitMoveDrop (unsparable (setB s (F.HB_SPARE_STAT_SPARE_FAIL q) true) q) q
  let s := setB { s with head := { s.head with subst := tset s.head.subst q none } } (F.HB_SPARE_STAT_BUSY q) false
  if flagF s (F.HB_SPARE_STAT_IN_USE q) then
    let kind := getF s (F.HB_SPARE_STAT_KIND q)
    let n := getF s (F.HB_SPARE_STAT_TARGET q)
    let s := setB (setB (setB s (F.HB_SPARE_STAT_IN_USE q) false) (F.HB_SPARE_STAT_FORCED q) false) (F.HB_STAT_SUBST q) false
    let s := setB (setB s (itemSubst q kind n) false) (itemFailed q kind n) true
    chipFault (if kind = 0 then loseFormed (loseWindows s q n true) q n true else toneFails s q (16 + n))
  else s

/-- The unit serves this item. -/
def unitServed (s : State) (q kind n : Nat) : Bool :=
  flagF s (F.HB_SPARE_STAT_IN_USE q) && getF s (F.HB_SPARE_STAT_KIND q) == kind && getF s (F.HB_SPARE_STAT_TARGET q) == n

/-- An item the unit serves has been found faulty: the unit keeps it (R146). -/
def unitKeeps (s : State) (q : Nat) : State := unitMoveDrop (setB s (F.HB_SPARE_STAT_FORCED q) false) q

/-- The unit serves an item that needs it no longer: forced onto it, or to be handed back (R146). -/
def unitLent (s : State) (q : Nat) : Bool :=
  flagF s (F.HB_SPARE_STAT_IN_USE q) && (flagF s (F.HB_SPARE_STAT_FORCED q) || (tget s.head.move none q).isSome)

/-- A substitution that started in this very tick yields to a lower-numbered item (R26); of one number, a cell comes before a probe tone. -/
def unitYields (s : State) (q kind n : Nat) : Bool :=
  match tget s.head.subst none q with
  | some (k, m, t) => t == s.now && (decide (n < m) || (n == m && decide (kind < k)))
  | none => false

/-- The unit is sent for: where it is free, where it serves an item that needs it no longer (handed back at once), or where a
higher-numbered item's flag came in the same tick; else the item stays muted as unsparable (R26, R146, R220, R221). -/
def unitCall (s : State) (q kind n : Nat) : State :=
  if unitLent s q then unitSubstStart (unitHandBack (unitMoveDrop s q) q) q kind n
  else if unitFree (unitMoveDrop s q) q then unitSubstStart (unitMoveDrop s q) q kind n
  else if unitYields s q kind n then unitSubstStart (unsparable s q) q kind n
  else unsparable s q

/-- A cell is found faulty (R220): windows its own hardware serves are lost; one the unit serves stays with it. -/
def cellFaultOp (s : State) (q j : Nat) : State :=
  let s := latch (setB s (F.HB_CELL_STAT_FAILED q j) true) (F.HB_CELL_LATCH_FAULT q j) (quireEvent q 5)
  let s := quireFault (latch s (F.HB_LATCH_CELL_FAULT q) (quireEvent q 5)) q
  let s := loseFormed (loseWindows (setCell s q j { cellOf s q j with checked := false }) q j false) q j false
  if unitServed s q 0 j then unitKeeps s q else unitCall s q 0 j

/-- A probe tone is found faulty (R221): as a drive tone, with the read-out unit for its spare. -/
def probeToneFault (s : State) (q v : Nat) : State :=
  let c := 16 + v
  let s := latch (setB s (F.TONE_STAT_FAILED q c) true) (F.TONE_LATCH_FAULT q c) (quireEvent q 5)
  let s := quireFault (latch s (F.HB_LATCH_CELL_FAULT q) (quireEvent q 5)) q
  if unitServed s q 1 v then unitKeeps (setTone s q c { toneOf s q c with checked := false }) q
  else unitCall (toneFails s q c) q 1 v

/-- The unit audits an item in this tick (R219): cell j in ticks j mod 32, probe tone v in ticks 16 + v; a failed unit audits nothing. -/
def unitAudits (s : State) (q kind n : Nat) : Bool := s.now % 32 == 16 * kind + n && !flagF s (F.HB_SPARE_STAT_SPARE_FAIL q)

/-- A probe tone is found faulty by an audit, counted (R219), or by its own check bits; a corrected error is only counted (R23). -/
def probeToneFound (s : State) (q v : Nat) (why : FaultCause) : State :=
  match why with
  | .audit =>
    if unitAudits s q 1 v then probeToneFault (incF (incF s (F.HB_SPARE_CNT_AUDIT q)) (F.TONE_CNT_AUDIT q (16 + v))) q v else s
  | .halvesDisagree => unitFail s q
  | .corrected => incF s (F.TONE_CNT_CORR q (16 + v))
  | _ => probeToneFault s q v

/-- A cell is found faulty, as a probe tone is. -/
def cellFound (s : State) (q j : Nat) (why : FaultCause) : State :=
  match why with
  | .audit => if unitAudits s q 0 j then cellFaultOp (incF s (F.HB_SPARE_CNT_AUDIT q)) q j else s
  | .halvesDisagree => unitFail s q
  | .corrected => incF s (F.HB_CELL_CNT_CORR q j)
  | _ => cellFaultOp s q j

/-- A fault of the cell itself has been found: one that a quire reset in the same tick settles (R26). -/
def found : FaultCause → Bool
  | .audit | .ecc | .parity => true
  | _ => false

/-- TONE_FAULT (R141, R142, R219, R221): a drive tone, or a probe tone; halves that disagree fail the spare instead. -/
def execToneFault (q : Fin 16) (c : Fin 32) (why : FaultCause) (s : State) : Host.Outcome State Fault Refusal :=
  .next (if resetNow s q && found why then s else if c.val < 16 then driveToneFound s q c why else probeToneFound s q (c.val - 16) why)

/-- READOUT_CELL_FAULT (R220). -/
def execReadoutCellFault (q j : Fin 16) (why : FaultCause) (s : State) : Host.Outcome State Fault Refusal :=
  .next (if resetNow s q && found why then s else cellFound s q j why)

/-- The unit is switched in, or its self-check fails and the item stays muted as unsparable (R220). -/
def unitSubstDone (s : State) (q : Nat) (pass : Bool) : State :=
  if !vatmanUp s (q / 4) then s else
  match tget s.head.subst none q with
  | none => s
  | some (kind, n, _) =>
    let s := { s with head := { s.head with subst := tset s.head.subst q none } }
    if pass then substEvent (incF (unitServe s q kind n false) (F.HB_SPARE_CNT_SUBST q)) (q / 4) true
    else unitFail (setB s (F.HB_SPARE_STAT_BUSY q) false) q

/-- READOUT_SUBSTITUTION (R220). -/
def execReadoutSubstitution (q : Fin 16) (pass : Bool) (s : State) : Host.Outcome State Fault Refusal := .next (unitSubstDone s q pass)

/-- A move to or from the unit is placed, at the first tick at least 64 ticks after the write (R221). -/
def unitMoveStart (s : State) (q kind n : Nat) (toUnit : Bool) : State :=
  let s := { s with head := { s.head with move := tset s.head.move q (some (toUnit, kind, n)) } }
  after (setB s (F.HB_SPARE_STAT_BUSY q) true) (regDelay s.now 64) (.unitMove q)

/-- The move takes place. -/
def unitMoveDone (s : State) (q : Nat) : State :=
  match tget s.head.move none q with
  | none => s
  | some (toUnit, kind, n) =>
    let s := { s with head := { s.head with move := tset s.head.move q none } }
    if toUnit then unitServe s q kind n true else unitHandBack s q

/-- HB_SPARE_CTRL.FORCE (R221): ignored while the unit is not free. -/
def unitForceOp (q kind n : Nat) (s : State) : State :=
  let s := setF (setF s (F.HB_SPARE_CTRL_KIND q) kind) (F.HB_SPARE_CTRL_TGT q) n
  if unitFree s q && !flagF s (itemFailed q kind n) then unitMoveStart s q kind n true else s

/-- READOUT_SPARE_FORCE (R221). -/
def execReadoutSpareForce (m : Master) (q : Fin 16) (tone : Bool) (n : Fin 16) (s : State) : Host.Outcome State Fault Refusal :=
  .next (rowWrite (.readoutSpareForce m q tone n) m ⟨.HB_SPARE_CTRL, q, 0, 0⟩ s (fun s => some (unitForceOp q tone.toNat n s)))

/-- HB_SPARE_CTRL.RELEASE (R144, R221): a forced item, or one whose own hardware has passed its self-check. -/
def unitReleaseOp (q : Nat) (s : State) : State :=
  let kind := getF s (F.HB_SPARE_STAT_KIND q)
  let n := getF s (F.HB_SPARE_STAT_TARGET q)
  if flagF s (F.HB_SPARE_STAT_IN_USE q) && (tget s.head.move none q).isNone
      && (flagF s (F.HB_SPARE_STAT_FORCED q) || itemChecked s q kind n) then unitMoveStart s q kind n false
  else s

/-- READOUT_SPARE_RELEASE (R221). -/
def execReadoutSpareRelease (m : Master) (q : Fin 16) (s : State) : Host.Outcome State Fault Refusal :=
  .next (rowWrite (.readoutSpareRelease m q) m ⟨.HB_SPARE_CTRL, q, 0, 0⟩ s (fun s => some (unitReleaseOp q s)))

end Sys2Proof.Machine
end

