-- ==== Sys2Proof/Machine/Bias.lean ====
section
/-! DEFINITION. Amplifier bias sources (R169 to R173): ramps, the sequence of a quire's pair, trips, and their rows. -/

namespace Sys2Proof.Machine

/-- A bias code as a number: signed in range 0, unsigned in range 1 (R169). -/
def biasVal (s : State) (q b code : Nat) : Int := if flagF s (F.BIAS_CFG_RANGE q b) then (code : Int) else toSigned 16 code

/-- The code in force of a bias source. -/
def biasNow (s : State) (q b : Nat) : Int := biasVal s q b (getF s (F.BIAS_NOW_CODE q b))

/-- The state with the code in force of a bias source. -/
def setBiasNow (s : State) (q b : Nat) (v : Int) : State := setF s (F.BIAS_NOW_CODE q b) (ofSigned 16 v)

/-- No ramp of the source is in progress. -/
def biasNoRamp (s : State) (q b : Nat) : State :=
  setB (setBias s q b { biasOf s q b with ramp := none }) (F.BIAS_NOW_RAMPING q b) false

/-- A ramp of the source begins now, unless a trip or a fault holds it (R23, R170, R184). DESIGN CHOICE: an UP, DOWN or BIAS_SET that finds
the source held by a trip starts no ramp, and a sequence that waits for it stays BUSY (log entry 89). -/
def biasRamp (s : State) (q b : Nat) (target : Int) : State :=
  if (biasOf s q b).tripAct.isSome || (biasOf s q b).faulty then s
  else setB (setBias s q b { biasOf s q b with ramp := some ⟨.steps, target, s.now⟩ }) (F.BIAS_NOW_RAMPING q b) true

/-- A BIAS_SET write takes effect (R170): an enabled source starts toward the target written. -/
def biasEffect (s : State) (q b code : Nat) : State :=
  if flagF s (F.BIAS_STAT_SWITCH q b) && !(biasOf s q b).opening then biasRamp s q b (biasVal s q b code) else s

/-- A source is enabled: its switch closes at 0 V and it ramps to its target (R172). -/
def biasUp (s : State) (q b : Nat) : State :=
  let s := if flagF s (F.BIAS_STAT_SWITCH q b) then s else setBiasNow s q b 0
  let s := setB (setB s (F.BIAS_CFG_EN q b) true) (F.BIAS_STAT_SWITCH q b) true
  biasRamp (setBias s q b { biasOf s q b with opening := false }) q b (biasVal s q b (getF s (F.BIAS_SET_CODE q b)))

/-- A source ramps to 0 V, after which its switch opens (R172). -/
def biasDown (s : State) (q b : Nat) : State := biasRamp (setBias s q b { biasOf s q b with opening := true }) q b 0

/-- The switch of a source opens. -/
def biasOpen (s : State) (q b : Nat) : State :=
  let s := setBias (biasNoRamp s q b) q b { biasOf (biasNoRamp s q b) q b with opening := false, tripAct := none }
  setB (setB (setBiasNow s q b 0) (F.BIAS_STAT_SWITCH q b) false) (F.BIAS_CFG_EN q b) false

/-! ### Sequences (R172, R173) -/

/-- The first source of the pair (R172). -/
def biasFirst (s : State) (q : Nat) : Nat := getF s (F.BIAS_SEQ_ORDER q)

/-- The source a sequence is at: up runs first then second, down second then first. -/
def seqSource (s : State) (q : Nat) (x : BiasSeq) : Nat :=
  if x.up = x.second then 1 - biasFirst s q else biasFirst s q

/-- The state with the sequence of a quire's pair. -/
def setSeq (s : State) (q : Nat) (x : Option BiasSeq) : State :=
  setB { s with out := { s.out with seqs := tset s.out.seqs q x } } (F.BIAS_SEQ_BUSY q) x.isSome

/-- A sequence begins a source: up or down. -/
def seqAt (s : State) (q : Nat) (x : BiasSeq) : State :=
  if x.up then biasUp (setSeq s q (some x)) q (seqSource s q x) else biasDown (setSeq s q (some x)) q (seqSource s q x)

/-- A sequence that runs ends at its present step (R173): the source it is at stops where it is. -/
def seqStop (s : State) (q : Nat) : State :=
  match tget s.out.seqs none q with
  | none => s
  | some x =>
    let b := seqSource s q x
    setSeq (setBias (biasNoRamp s q b) q b { biasOf (biasNoRamp s q b) q b with opening := false }) q none

/-- BIAS_SEQ.UP or DOWN: a running sequence ends at its present step and the new one starts from the state reached (R172, R173). With the
die's bias sources off it does nothing: they stay in their off state (R164). -/
def biasSeqOp (q : Nat) (up : Bool) (s : State) : State :=
  if biasPowered s q then seqAt (seqStop s q) q ⟨up, false, none⟩ else s

/-- A source has arrived at the target of its sequence: the DWELL pause begins, or the sequence ends and its event fires. -/
def seqArrived (s : State) (q b : Nat) : State :=
  match tget s.out.seqs none q with
  | none => s
  | some x =>
    if seqSource s q x = b ∧ x.dwell = none then
      if x.second then fire (setSeq s q none) (quireEvent q 14)
      else setSeq s q (some { x with dwell := some (s.now + 500 * getF s (F.BIAS_SEQ_DWELL q)) })
    else s

/-- One update of a ramping source (R170): by at most STEP codes (STEP = 0: all the way), or along a linear trip ramp. -/
def biasUpdate (s : State) (q b : Nat) (r : Ramp) : State :=
  let step := getF s (F.BIAS_RAMP_STEP q b)
  let code := match r.kind with
    | .steps => if step = 0 then r.target else rampMove (biasNow s q b) r.target step
    | .linear source start len => rampLinear source r.target start len s.now
  let next := match r.kind with
    | .steps => r.next + 500 * max 1 (getF s (F.BIAS_RAMP_PERIOD q b))
    | .linear _ start len => min (r.next + 500) (max (start + len) (r.next + 1))
  let s := setBiasNow s q b code
  if code = r.target then
    let s := biasNoRamp s q b
    let s := if (biasOf s q b).opening then biasOpen s q b else s
    match r.kind with
    | .steps => seqArrived s q b
    | .linear _ _ _ => s
  else setBias s q b { biasOf s q b with ramp := some { r with next := next } }

/-- The DWELL pause of a sequence has ended: it goes to the other source (R172). -/
def seqDwellEnd (s : State) (q : Nat) (x : BiasSeq) : State := seqAt s q { x with second := true, dwell := none }

/-! ### Trips (R173, R184, R185) -/

/-- A trip acts on a bias source with an action and a group's ramp time (R184); it ends any sequence of the pair (R173). DESIGN
CHOICE: BIAS_LATCH.SEQ_ABORT is set of the tripped source only (log entry 89). -/
def biasTrip (s : State) (q b act rampUs : Nat) : State :=
  let s := if flagF s (F.BIAS_STAT_TRIP q b) then s
    else latch (setB s (F.BIAS_STAT_TRIP q b) true) (F.BIAS_LATCH_MUTE q b) (quireEvent q 13)
  let s := match tget s.out.seqs none q with
    | none => s
    | some _ => latch (setSeq s q none) (F.BIAS_LATCH_SEQ_ABORT q b) (quireEvent q 13)
  if (biasOf s q b).tripAct = some act then s
  else
    let s := setBias s q b { biasOf s q b with tripAct := some act, opening := false }
    if act = 0 then setBiasNow (biasNoRamp s q b) q b 0
    else if act = 2 then
      setB (setBias s q b { biasOf s q b with ramp := some ⟨.linear (biasNow s q b) s.now (500 * max 1 rampUs), 0, s.now⟩ })
        (F.BIAS_NOW_RAMPING q b) true
    else biasNoRamp s q b

/-- No asserted group reaches a bias source any longer: it keeps the value reached (R185). -/
def biasRelease (s : State) (q b : Nat) : State :=
  biasNoRamp (setB (setBias s q b { biasOf s q b with tripAct := none }) (F.BIAS_STAT_TRIP q b) false) q b

/-! ### The rows -/

/-- BIAS_SET_WRITE (R170): the target is held, and takes effect at the first tick at least 8 ticks after the write. -/
def biasSetOp (q b code : Nat) (s : State) : State :=
  after (setF s (F.BIAS_SET_CODE q b) code) (regDelay s.now 8) (.bias q b (code % 2 ^ 16))

/-- BIAS_SET_WRITE (R170). -/
def execBiasSetWrite (m : Master) (q : Fin 16) (b : Fin 2) (code : BitVec 16) (s : State) : Host.Outcome State Fault Refusal :=
  .next (rowWrite (.biasSetWrite m q b code) m ⟨.BIAS_SET, q, b, 0⟩ s (fun s => some (biasSetOp q b code.toNat s)))

/-- BIAS_RAMP_UPDATE (R170): when an update is due. -/
def execBiasRampUpdate (q : Fin 16) (b : Fin 2) (s : State) : Host.Outcome State Fault Refusal :=
  match (biasOf s q b).ramp with
  | some r => if r.next ≤ s.now then .next (biasUpdate s q b r) else .next s
  | none => .next s

/-- A source enters or leaves current limiting (R171). -/
def biasIlimOp (q b : Nat) (on : Bool) (s : State) : State :=
  if on then latch (setB s (F.BIAS_STAT_ILIM q b) true) (F.BIAS_LATCH_ILIM q b) (quireEvent q 13)
  else setB s (F.BIAS_STAT_ILIM q b) false

/-- BIAS_ILIM (R171). -/
def execBiasIlim (q : Fin 16) (b : Fin 2) (on : Bool) (s : State) : Host.Outcome State Fault Refusal := .next (biasIlimOp q b on s)

/-- BIAS_SEQ_UP (R172). -/
def execBiasSeqUp (m : Master) (q : Fin 16) (s : State) : Host.Outcome State Fault Refusal :=
  .next (rowWrite (.biasSeqUp m q) m ⟨.BIAS_SEQ, q, 0, 0⟩ s (fun s => some (biasSeqOp q true s)))

/-- BIAS_SEQ_DOWN (R172). -/
def execBiasSeqDown (m : Master) (q : Fin 16) (s : State) : Host.Outcome State Fault Refusal :=
  .next (rowWrite (.biasSeqDown m q) m ⟨.BIAS_SEQ, q, 0, 0⟩ s (fun s => some (biasSeqOp q false s)))

/-- BIAS_SEQ_DWELL_END (R172): when the pause has passed. -/
def execBiasSeqDwellEnd (q : Fin 16) (s : State) : Host.Outcome State Fault Refusal :=
  match tget s.out.seqs none q.val with
  | some x =>
    match x.dwell with
    | some t => if t ≤ s.now then .next (seqDwellEnd s q x) else .next s
    | none => .next s
  | none => .next s

end Sys2Proof.Machine
end

