-- ==== Sys2Proof/Machine/Cells.lean ====
section
/-! DEFINITION. Cells as bits (R320, R321, R323, R325, R326, R328): their layouts, the CRC, the scrambler of a lane, and what a receiver makes of
a cell that is lost. -/

namespace Sys2Proof.Machine

/-! ### Layouts -/

/-- Fields of a width and value each, the first at the top. -/
def packBits (l : List (Nat × Nat)) : Nat := l.foldl (fun a f => a * 2 ^ f.1 + f.2 % 2 ^ f.1) 0

/-- The width of a list of fields. -/
def packWidth (l : List (Nat × Nat)) : Nat := (l.map (·.1)).sum

/-- The fields from the top of a space of n bits; what they leave is zero. -/
def packIn (n : Nat) (l : List (Nat × Nat)) : Nat := packBits l * 2 ^ (n - packWidth l)

/-- A flag as a field. -/
def flagBits (b : Bool) : Nat × Nat := (1, b.toNat)

/-- The 18 bits of a decision entry, and of a boundary entry (R323). -/
def entryBits (e : Sys2Proof.DecEntry) : Nat := packBits [(1, 0), (6, e.exp), flagBits e.arm, (2, e.val), (8, e.l8)]
def boundBits (b : Nat × Nat) : Nat := packBits [(1, 1), (9, b.1), (8, b.2)]

/-- The code of a message, and its payload (R326); no boundary announced before is all ones. -/
def msgBits : Sys2Proof.Msg → Nat × List (Nat × Nat)
  | .heartbeat h => (0x01, [(32, h.cid), (32, h.epoch), (64, h.uid), (6, h.hops), flagBits h.parent, flagBits h.isOpen, flagBits h.pending,
      (32, h.pendEpoch), (32, h.pendT)])
  | .join uid bars => (0x02, [(64, uid), (16, bars)])
  | .assign uid dev epoch => (0x03, [(64, uid), (6, dev), (32, epoch)])
  | .refuse uid => (0x04, [(64, uid)])
  | .part bars => (0x05, [(16, bars)])
  | .shot b prev => (0x08, [(64, b), (64, prev.getD (2 ^ 64 - 1))])
  | .barArrive bar tt => (0x10, [(4, bar), (64, tt)])
  | .barRelease bar r => (0x11, [(4, bar), (64, r)])
  | .prepare epoch id => (0x18, [(32, epoch), (16, id)])
  | .ack epoch code => (0x19, [(32, epoch), (8, code)])
  | .commit epoch t => (0x1A, [(32, epoch), (64, t)])
  | .cancel epoch => (0x1B, [(32, epoch)])
  | .resync epoch => (0x20, [(32, epoch)])

/-- TYPE of a cell (R321). -/
def cellType : Cell320 → Nat
  | .idle => 0
  | .decision _ _ => 1
  | .timing _ => 2
  | .control _ => 3
  | .link _ => 4

/-- The fields of a cell below STATE, bits [249:16] (R323, R325, R326, R328). -/
def cellFields : Cell320 → List (Nat × Nat)
  | .idle => []
  | .decision entries bounds =>
    [(4, entries.length + bounds.length), (14, 0)] ++ entries.map (fun e => (18, entryBits e)) ++ bounds.map (fun b => (18, boundBits b))
  | .timing c =>
    [(3, c.tstat), (6, c.hops), (5, 0), (64, c.tdep), (64, c.echoDep), (64, c.echoArr), (12, c.echoFine), (16, ofSigned 16 c.fasym)]
  | .control c =>
    [(6, (msgBits c.msg).1), (6, c.src), flagBits c.dst.isNone, (6, c.dst.getD 0), (7, 0)] ++ (msgBits c.msg).2
  | .link c => [(234, (Config.linkLayout c).toNat)]

/-! ### The CRC (R320) -/

/-- The CRC register after one more bit: polynomial x^16 + x^12 + x^5 + 1. -/
def crcBit (crc : Nat) (b : Bool) : Nat := Nat.xor (2 * crc % 2 ^ 16) (if crc.testBit 15 != b then 0x1021 else 0)

/-- The CRC register after bits [16 + n − 1 : 16] of a cell, the highest first. -/
def crcFrom (w : Nat) : Nat → Nat → Nat
  | 0, c => c
  | n + 1, c => crcFrom w n (crcBit c (w.testBit (16 + n)))

/-- The CRC-16 of a cell, over bits [255:16]. -/
def cellCrc (w : Nat) : Nat := crcFrom w 240 0xFFFF

/-- The 256 bits of a cell that announces a state (R320, R321). -/
def cellBits (st : Nat) (c : Cell320) : Nat :=
  let w := packIn 256 ([(4, cellType c), (2, st)] ++ cellFields c)
  w + cellCrc w

/-! ### The scrambler (R320) -/

/-- The last 58 bits sent, the latest at bit 0, and the bits sent so far, after bits [n − 1 : 0] of a word: the scrambler x^58 + x^39 + 1 adds
to each bit those sent 39 and 58 bits before. -/
def scramble (w : Nat) : Nat → Nat × Nat → Nat × Nat
  | 0, a => a
  | n + 1, a =>
    let o := (w.testBit n != a.1.testBit 38) != a.1.testBit 57
    scramble w n ((2 * a.1 + o.toNat) % 2 ^ 58, 2 * a.2 + o.toNat)

/-- A lane sends 256 bits: its scrambler after them, and the bits on the wire. -/
def linkBits (s : State) (p lane w : Nat) : Nat × Nat := scramble w 256 (laneOf (portOf s p).scram lane, 0)

/-- A lane's scrambler goes on over 256 bits. -/
def laneSent (s : State) (p lane w : Nat) : State :=
  setPort s p { portOf s p with scram := withLane (portOf s p).scram lane (linkBits s p lane w).1 }

/-- A cell leaves on a lane, scrambled (R320). -/
def sendCell (s : State) (p lane st : Nat) (c : Cell320) : State :=
  emit (laneSent s p lane (cellBits st c)) (.cell p lane st c (linkBits s p lane (cellBits st c)).2)

/-! ### Cells lost (R321, R322, R326) -/

/-- The TYPEs a lane of a port in Run carries. -/
def typeOnLane (lane ty : Nat) : Bool := if lane = 0 then ty == 1 else ty == 0 || ty == 2 || ty == 3 || ty == 4

/-- The message codes in use. -/
def msgKnown (code : Nat) : Bool := [0x01, 0x02, 0x03, 0x04, 0x05, 0x08, 0x10, 0x11, 0x18, 0x19, 0x1A, 0x1B, 0x20].contains code

/-- What a receiver makes of the 256 bits of a cell. -/
inductive CellVerdict where
  /-- It fails its CRC. -/
  | badCrc
  /-- It passes, with a reserved TYPE, a TYPE of the other lane or a reserved message: discarded. -/
  | discarded
  /-- It is received. -/
  | good
deriving DecidableEq, Repr

/-- What a receiver makes of the bits of a cell on a lane of a port in Run. -/
def cellVerdict (lane w : Nat) : CellVerdict :=
  if cellCrc w ≠ w % 2 ^ 16 then .badCrc
  else if typeOnLane lane (bits w 255 252) && (bits w 255 252 != 3 || msgKnown (bits w 249 244)) then .good
  else .discarded

end Sys2Proof.Machine
end

