-- ==== Sys2Proof/Machine/Capture.lean ====
section
/-! DEFINITION. Capture units (R301 to R316): states, triggers and the record memory. -/

namespace Sys2Proof.Machine

/-! ### Accessors -/

/-- Capture unit u. -/
def capUnit (s : State) (u : Nat) : CapUnit := tget s.capture CapUnit.init u

/-- The state with a capture unit. -/
def setCap (s : State) (u : Nat) (v : CapUnit) : State := { s with capture := tset s.capture u v }

/-- The state of a unit (R304). -/
def capState (s : State) (u : Nat) : Nat := getF s (F.CAP_STAT_STATE u)

/-- The state with a unit's state. -/
def setCapState (s : State) (u st : Nat) : State := setF s (F.CAP_STAT_STATE u) st

/-- The states of R304. -/
def capIdle : Nat := 0
def capPrefill : Nat := 1
def capArmed : Nat := 2
def capPost : Nat := 3
def capRearm : Nat := 4
def capFull : Nat := 5
def capDone : Nat := 6

/-- A latch bit of a unit sets; its event is producer 620 + u (R286). -/
def capLatch (s : State) (u : Nat) (f : Fld) : State := latch s f (620 + u)

/-- The unit is in IDLE or DONE (R306). -/
def capStill (s : State) (u : Nat) : Bool := capState s u == capIdle || capState s u == capDone

/-! ### Samples (R302, R303, R315) -/

/-- The first tap sample at or after the start of a tick: 128/3 samples a tick (R302). -/
def sampleAt (tick : Nat) : Nat := (128 * tick + 2) / 3

/-- The first multiple of n at or after a number. -/
def gridUp (n m : Nat) : Nat := (m + n - 1) / n * n

/-- The tick in which a tap sample lies at the ball. -/
def tickOfSample (m : Nat) : Nat := 3 * m / 128

/-- The tap samples per stored sample of a unit (R303). -/
def capStep (s : State) (u : Nat) : Nat := 2 ^ getF s (F.CAP_CFG_DEC u)

/-- The first stored sample at or after the start of a tick. -/
def storedAt (s : State) (u tick : Nat) : Nat := gridUp (capStep s u) (sampleAt tick)

/-- The first stored sample at or after the first ADCW word that begins at or after the start of a tick. -/
def wordStoredAt (s : State) (u tick : Nat) : Nat := gridUp (capStep s u) (gridUp 16 (sampleAt tick))

/-- The stored value of a group of 2^D tap codes with a given sum (R303, R487): 16 times their mean, rounded to nearest. -/
def capValue (d : Nat) (sum : Int) : Int := (32 * sum + 2 ^ d) / 2 ^ (d + 1)

/-- The sums of a list's groups of k numbers; `c` numbers of the first group have been taken, with sum `a`. -/
def groupSums (k : Nat) : Nat → Int → List Int → List Int
  | _, _, [] => []
  | c, a, x :: r => if c + 1 = k then (a + x) :: groupSums k 0 0 r else groupSums k (c + 1) (a + x) r

/-- The stored samples of a unit from consecutive tap codes that begin at a multiple of 2^D (R303). -/
def capValues (s : State) (u : Nat) (codes : List Int) : List Int :=
  (groupSums (capStep s u) 0 0 codes).map (capValue (getF s (F.CAP_CFG_DEC u)))

/-- The tick in which a tap sample has reached its unit: 6 ticks after its instant at the ball (R302). -/
def tickAtUnit (m : Nat) : Nat := tickOfSample m + 6

/-- The first stored sample of the ADCW word w, or the first after its beginning (R307). -/
def wordFirst (s : State) (u w : Nat) : Nat := gridUp (capStep s u) (16 * w)

/-- The ADCW word of the present instant: a word lasts 750 ps (R43, R302). -/
def wordNow (s : State) : Nat := instantNow s / 750

/-! ### States (R305) -/

/-- A unit enters ARMED: CAP_TT, CAP_TPER and CAP_AUTO are read; a TT already passed is met at once on a re-entry (R306, R310,
R311). -/
def capEnterArmed (s : State) (u : Nat) : State :=
  let x := capUnit s u
  let armed := x.start + getF s (F.CAP_PRE_COUNT u) * capStep s u
  let tt := getF s (F.CAP_TT_LO_VALUE u) + 2 ^ 32 * getF s (F.CAP_TT_HI_VALUE u)
  let late := x.again && flagF s (F.CAP_TRIG_TIME u) && flagF s (F.CAP_CFG_MODE u) && getF s (F.CAP_TPER_VALUE u) != 0
    && decide (storedAt s u tt < armed)
  let s := setCap s u { x with armed := armed, tt := tt, tper := getF s (F.CAP_TPER_VALUE u),
                               autoAt := tickOfSample armed + max 1 (getF s (F.CAP_AUTO_VALUE u)), ttLate := late }
  setCapState (if late then capLatch s u (F.CAP_LATCH_TT_LATE u) else s) u capArmed

/-- A unit enters PREFILL with a stored sample, the first of the first word that begins at or after the cause; with PRE = 0 it is ARMED at
once (R305). -/
def capEnterPrefill (s : State) (u first : Nat) (again : Bool) : State :=
  let s := setCapState (setCap s u { capUnit s u with start := first, again := again, came := capState s u }) u capPrefill
  if getF s (F.CAP_PRE_COUNT u) = 0 then capEnterArmed s u else s

/-- The tap of a unit cannot deliver samples: an ADC that is not ready, or return samplers powered down (R305). -/
def capTapOff (s : State) (u : Nat) : Bool :=
  let src := getF s (F.CAP_CFG_SRC u)
  if src < 4 then !flagF s (F.HB_STAT_ADC_READY (4 * (u / 4) + src)) else !domainOn s (80 + 8 * (u / 4) + 6)

/-- An arm takes effect, and PREFILL starts with a stored sample; in another state than IDLE and DONE it has none (R305). No trigger from
before it is left. -/
def capArmAt (s : State) (u first : Nat) : State :=
  if capStill s u && !capHeldBySizing s u then
    capEnterPrefill (setCap s u { capUnit s u with postAt := none, swAt := none }) u first false
  else s

/-- A register arm takes effect at the start of a tick (R305). -/
def capArmEffect (s : State) (u : Nat) : State := capArmAt s u (wordStoredAt s u s.now)

/-- A Post arm takes effect in the ADCW cycle in which it is sampled (R305). -/
def capPostArm (s : State) (u : Nat) : State := if capTapOff s u then s else capArmAt s u (wordFirst s u (wordNow s))

/-- The unit evaluates triggers in its present state (R304). -/
def capEvaluates (s : State) (u : Nat) : Bool := !(capStill s u || capState s u == capPost)

/-- A Post trigger acts in this ADCW word, where triggers are evaluated (R304, R307). -/
def capPostTrigger (s : State) (u : Nat) : State :=
  if capEvaluates s u then setCap s u { capUnit s u with postAt := some (wordNow s) } else s

/-- A software trigger reaches its unit, where triggers are evaluated (R304, R307). -/
def capForceEffect (s : State) (u : Nat) : State :=
  if capEvaluates s u then setCap s u { capUnit s u with swAt := some s.now } else s

/-- A unit goes to IDLE; a record discarded sets ABORT unless software stopped the unit (R305). -/
def capStop (s : State) (u : Nat) (bySoftware : Bool) : State :=
  let st := capState s u
  let s := setCapState (setCap s u { capUnit s u with postAt := none, swAt := none }) u capIdle
  if !bySoftware && (st == capPrefill || st == capArmed || st == capPost) then capLatch s u (F.CAP_LATCH_ABORT u) else s

/-- Every unit goes to IDLE: Dandy lock falls, or the device leaves for Standby or Dormant (R305). -/
def capStopAll (s : State) : State := (List.range 16).foldl (fun s u => capStop s u false) s

/-- The records written and not yet consumed (R313). -/
def capHeld (s : State) (u : Nat) : Nat := (getF s (F.CAP_WR_COUNT u) + 2 ^ 32 - getF s (F.CAP_RD_COUNT u)) % 2 ^ 32

/-- A segment is free (R313). -/
def capFree (s : State) (u : Nat) : Bool := decide (capHeld s u < 2 ^ getF s (F.CAP_SEG_NLOG u))

/-! ### Triggers (R307 to R311) -/

/-- The conditions of a stored sample, as MASK bits from level up: level 0, edge 1, window 2, Post 3, device time 4, software 5. -/
structure CapConds where
  level : Bool
  edge : Bool
  window : Bool
  post : Bool
  time : Bool
  sw : Bool
deriving DecidableEq, Repr

/-- Conditions as MASK bits (R315). -/
def CapConds.mask (c : CapConds) : Nat :=
  c.level.toNat + 2 * c.edge.toNat + 4 * c.window.toNat + 8 * c.post.toNat + 16 * c.time.toNat + 32 * c.sw.toNat

/-- The condition of highest priority: device time, Post, window, edge, level, software (R309), by its CAUSE code. -/
def CapConds.cause (c : CapConds) : Nat :=
  if c.time then 5 else if c.post then 4 else if c.window then 3 else if c.edge then 2 else if c.level then 1 else 6

/-- How many conditions are met. -/
def CapConds.count (c : CapConds) : Nat :=
  c.level.toNat + c.edge.toNat + c.window.toNat + c.post.toNat + c.time.toNat + c.sw.toNat

/-- A sample is at or beyond the trigger level (R307). -/
def capBeyond (s : State) (u : Nat) (x : Int) : Bool :=
  if flagF s (F.CAP_TRIG_POL u) then decide (x ≤ getS s (F.CAP_THR_LO u)) else decide (getS s (F.CAP_THR_HI u) ≤ x)

/-- A sample lies within [LO, HI] (R307). -/
def capWithin (s : State) (u : Nat) (x : Int) : Bool := decide (getS s (F.CAP_THR_LO u) ≤ x ∧ x ≤ getS s (F.CAP_THR_HI u))

/-- The device-time condition: the first stored sample at or after the start of tick TT, or, with TT passed on a re-entry, the first
evaluated (R307, R311). Outside ARMED the registers give TT. -/
def capTimeMet (s : State) (u n : Nat) : Bool :=
  let x := capUnit s u
  if capState s u = capArmed then n == storedAt s u x.tt || (x.ttLate && n == x.armed)
  else n == storedAt s u (getF s (F.CAP_TT_LO_VALUE u) + 2 ^ 32 * getF s (F.CAP_TT_HI_VALUE u))

/-- The Post condition: the first stored sample of the word in which Post input 352 + u acted (R307). -/
def capPostMet (s : State) (u n : Nat) : Bool :=
  match (capUnit s u).postAt with
  | some w => n == wordFirst s u w
  | none => false

/-- The software condition (R307). -/
def capSwMet (s : State) (u n : Nat) : Bool :=
  match (capUnit s u).swAt with
  | some t => n == wordStoredAt s u t
  | none => false

/-- A sample that makes an edge possible again: below HI − HYST, or above LO + HYST (R307). -/
def capBack (s : State) (u : Nat) (x : Int) : Bool :=
  let hyst : Int := getF s (F.CAP_TRIG_HYST u)
  if flagF s (F.CAP_TRIG_POL u) then decide (getS s (F.CAP_THR_LO u) + hyst < x) else decide (x < getS s (F.CAP_THR_HI u) - hyst)

/-- Sample x is an edge (R307). -/
def capEdge (s : State) (u : Nat) (x : Int) : Bool := capBeyond s u x && (capUnit s u).fell

/-- A window is crossed at sample x: the sample before it lay on the other side (R307). -/
def capCrosses (s : State) (u : Nat) (x : Int) : Bool :=
  match (capUnit s u).last with
  | some p => if flagF s (F.CAP_TRIG_WIN_IN u) then capWithin s u x && !capWithin s u p else !capWithin s u x && capWithin s u p
  | none => false

/-- The level held in the sample before (R308). -/
def capHeldLevel (s : State) (u : Nat) : Bool :=
  match (capUnit s u).last with
  | some p => capBeyond s u p
  | none => false

/-- The conditions met in stored sample n of value x (R307). -/
def capConds (s : State) (u n : Nat) (x : Int) : CapConds where
  level := flagF s (F.CAP_TRIG_LEVEL u) && capBeyond s u x
  edge := flagF s (F.CAP_TRIG_EDGE u) && capEdge s u x
  window := flagF s (F.CAP_TRIG_WINDOW u) && capCrosses s u x
  post := flagF s (F.CAP_TRIG_POST u) && capPostMet s u n
  time := flagF s (F.CAP_TRIG_TIME u) && capTimeMet s u n
  sw := capSwMet s u n

/-- A unit accepts a trigger at a stored sample (R309, R311): producer 432 + 2u fires. -/
def capAccept (s : State) (u n mask cause : Nat) : State :=
  let x := capUnit s u
  let tt := (x.tt + x.tper) % 2 ^ 64
  let s := setCap s u { x with trig := n, mask := mask, cause := cause, postAt := none, swAt := none }
  let s := if flagF s (F.CAP_CFG_MODE u) ∧ x.tper ≠ 0 then
    setF (setF s (F.CAP_TT_LO_VALUE u) (tt % 2 ^ 32)) (F.CAP_TT_HI_VALUE u) (tt / 2 ^ 32) else s
  fire (setCapState s u capPost) (432 + 2 * u)

/-- The state in which stored sample n meets the unit: a sample from before the present PREFILL that reaches the unit in it met the state
before (R302, R304). -/
def capStateOf (s : State) (u n : Nat) : Nat :=
  if (capState s u = capPrefill ∨ capState s u = capArmed) ∧ n < (capUnit s u).start then (capUnit s u).came else capState s u

/-- The counter of the triggers a state ignores (R304). -/
def capIgnored (s : State) (u n : Nat) : Option Fld :=
  let st := capStateOf s u n
  if st = capPrefill ∨ st = capArmed then some (F.CAP_IGN_A_PRE u)
  else if st = capRearm then some (F.CAP_IGN_A_REARM u)
  else if st = capFull then some (F.CAP_IGN_B_FULL u)
  else none

/-- Conditions of a sample that came to be met and no trigger was taken are counted; a level that held in the sample before is not
(R308). -/
def capIgnore (s : State) (u n : Nat) (c : CapConds) : State :=
  let c := { c with level := c.level && !capHeldLevel s u }
  match capIgnored s u n with
  | some f => addF s f c.count
  | none => s

/-- Sample x becomes the one evaluated last, and the hysteresis of the edge follows it, in every state (R307). -/
def capSeen (s : State) (u : Nat) (x : Int) : State :=
  setCap s u { capUnit s u with last := some x, fell := capBack s u x || ((capUnit s u).fell && !capEdge s u x) }

/-- The stored sample the auto timeout takes: the first at or after the start of the tick in which it expires (R310). -/
def capAutoSample (s : State) (u : Nat) : Nat := max (capUnit s u).armed (storedAt s u (capUnit s u).autoAt)

/-- A sample comes after the one the auto timeout takes: it meets the unit in POST. -/
def capAfterAuto (s : State) (u n : Nat) : Bool :=
  capState s u == capArmed && flagF s (F.CAP_CFG_AUTO u) && decide (capAutoSample s u < n)

/-- The triggers of a stored sample are taken or ignored (R304, R308 to R310). -/
def capTake (s : State) (u n : Nat) (c : CapConds) : State :=
  if c.count = 0 ∨ capAfterAuto s u n = true then s
  else if capState s u = capArmed ∧ (capUnit s u).armed ≤ n then capAccept s u n c.mask c.cause
  else capIgnore s u n c

/-- A stored sample is evaluated. -/
def capSample (s : State) (u n : Nat) (x : Int) : State :=
  let t := capTake s u n (capConds s u n x)
  let v := capUnit (capSeen s u x) u
  setCap t u { capUnit t u with last := v.last, fell := v.fell }

/-- A run of stored samples from sample n on is evaluated, in order. -/
def capRun (s : State) (u n : Nat) : List Int → State
  | [] => s
  | x :: r => capRun (capSample s u n x) u (n + capStep s u) r

/-- Consecutive tap codes from tap sample n on, on the unit's grid, that have reached the unit (R302, R303). -/
def capTrigger (s : State) (u n : Nat) (codes : List (BitVec 12)) : State :=
  if n % capStep s u = 0 ∧ tickAtUnit (n + codes.length - 1) ≤ s.now then capRun s u n (capValues s u (codes.map BitVec.toInt)) else s

/-- CAPTURE_TRIGGER (R302, R303, R309): the tap codes from sample k of ADCW word w on. -/
def execCaptureTrigger (u : Fin 16) (w : Nat) (k : Fin 16) (code : BitVec 12) (more : List (BitVec 12)) (s : State) :
    Host.Outcome State Fault Refusal := .next (capTrigger s u (16 * w + k) (code :: more))

/-- The auto timeout forces a trigger (R310); a condition of time, Post or software met in its sample takes it, as one of level, edge or window
has done in the sample's evaluation. -/
def capAuto (s : State) (u : Nat) : State :=
  let n := capAutoSample s u
  let c : CapConds := ⟨false, false, false, flagF s (F.CAP_TRIG_POST u) && capPostMet s u n,
    flagF s (F.CAP_TRIG_TIME u) && capTimeMet s u n, capSwMet s u n⟩
  if c.count = 0 then incF (capAccept s u n 64 7) (F.CAP_IGN_B_AUTO u) else capAccept s u n c.mask c.cause

/-- AUTO_TIMEOUT (R310): its sample has reached the unit and been evaluated (R302). -/
def execAutoTimeout (u : Fin 16) (s : State) : Host.Outcome State Fault Refusal :=
  .next (if capState s u = capArmed ∧ flagF s (F.CAP_CFG_AUTO u) ∧ tickAtUnit (capAutoSample s u + capStep s u - 1) ≤ s.now
    then capAuto s u else s)

/-- PREFILL_DONE (R305): PRE stored samples are held. -/
def execPrefillDone (u : Fin 16) (s : State) : Host.Outcome State Fault Refusal :=
  .next (if capState s u = capPrefill ∧ tickOfSample ((capUnit s u).start + getF s (F.CAP_PRE_COUNT u) * capStep s u) ≤ s.now
    then capEnterArmed s u else s)

/-! ### Records (R312 to R315) -/

/-- The tick in which the header of the present record is written: after its last sample has reached the unit (R302, R314). -/
def capHeaderTick (s : State) (u : Nat) : Nat :=
  tickAtUnit ((capUnit s u).trig + getF s (F.CAP_POST_COUNT u) * capStep s u - 1) + 1

/-- Where the present record lies in the unit's memory (R312, R313). -/
def capBase (s : State) (u : Nat) : Nat :=
  getF s (F.CAP_WR_COUNT u) % 2 ^ getF s (F.CAP_SEG_NLOG u) * (2 ^ 21 / 2 ^ getF s (F.CAP_SEG_NLOG u))

/-- Word 0 of a record's header (R315). -/
def capW0 (s : State) (u : Nat) (ovl corrupt srcOff : Bool) : Nat :=
  let x := capUnit s u
  4 * 2 ^ 28 + u * 2 ^ 24 + getF s (F.CAP_CFG_SRC u) * 2 ^ 16 + x.mask * 2 ^ 9 + x.cause * 2 ^ 6
    + srcOff.toNat * 16 + corrupt.toNat * 8 + ovl.toNat * 4 + 3 * x.trig % 2 * 2

/-- The sub-tick of a tap sample (R302, R315). -/
def capSub (m : Nat) : Nat := 3 * m / 2 % 64

/-- The words of a record's header, in order (R315). -/
def capHeader (s : State) (u : Nat) (ovl corrupt srcOff : Bool) : List Nat :=
  let m := (capUnit s u).trig
  let t := tickOfSample m
  let b := (shotOf s t).getD (2 ^ 64 - 1)
  [capW0 s u ovl corrupt srcOff, getF s (F.CAP_WR_COUNT u) % 2 ^ 16 * 2 ^ 16 + getF s (F.CAP_CFG_DEC u), t % 2 ^ 32, t / 2 ^ 32,
   capSub m, getF s (F.CAP_PRE_COUNT u), getF s (F.CAP_POST_COUNT u), b % 2 ^ 32, b / 2 ^ 32 % 2 ^ 32, 0, 0, 0, 0, 0, 0, 0]

/-- Words written from a memory key on. -/
def writeWords (s : State) (key : Nat) : List Nat → State
  | [] => s
  | w :: r => writeWords (setWord s key w) (key + 4) r

/-- Samples written from a memory key on, two bytes each. -/
def writeSamples (s : State) (key : Nat) : List Int → State
  | [] => s
  | x :: r => writeSamples (memWrite s key 2 (ofSigned 16 x)) (key + 2) r

/-- The tap codes of the present record as they count: those of the record, up to the one at which the tap lost its source (R315). -/
def capCodes (s : State) (u : Nat) (codes : List (Option (BitVec 12))) (lost : Option Nat) : List (Option (BitVec 12)) :=
  let n := (getF s (F.CAP_PRE_COUNT u) + getF s (F.CAP_POST_COUNT u)) * capStep s u
  codes.take (match lost with | some k => min k n | none => n)

/-- A tap code at an end of the scale, for the flag OVL (R315). -/
def codeOvl (c : Option (BitVec 12)) : Bool := c == some 0x800#12 || c == some 0x7FF#12

/-- The stored samples of the present record (R303, R315): a sample of a word with a parity error is zero, and so is one taken after the tap
has lost its source. -/
def capStored (s : State) (u : Nat) (codes : List (Option (BitVec 12))) (lost : Option Nat) : List Int :=
  let n := (getF s (F.CAP_PRE_COUNT u) + getF s (F.CAP_POST_COUNT u)) * capStep s u
  let got := (capCodes s u codes lost).map (fun c => match c with | some v => v.toInt | none => 0)
  capValues s u (if lost.isSome then got ++ List.replicate (n - got.length) 0 else got)

/-- A record is complete: samples and header stand in the segment (R312, R314). -/
def capRecord (s : State) (u : Nat) (codes : List (Option (BitVec 12))) (lost : Option Nat) : State :=
  let mine := capCodes s u codes lost
  let samples := capStored s u codes lost
  let ovl := mine.any codeOvl
  let corrupt := mine.any Option.isNone
  let srcOff := match lost with | some k => decide (k < (getF s (F.CAP_PRE_COUNT u) + getF s (F.CAP_POST_COUNT u)) * capStep s u) | none => false
  let k := capKey u (capBase s u)
  let h := capHeader s u ovl corrupt srcOff
  let s := writeSamples s (k + 64) samples
  let s := writeWords s k h
  let s := if ovl then capLatch s u (F.CAP_LATCH_OVL u) else s
  let s := if corrupt then capLatch s u (F.CAP_LATCH_CORRUPT u) else s
  let s := setCap s u { capUnit s u with header := s.now }
  after (setCapState s u (if flagF s (F.CAP_CFG_MODE u) then capRearm else capDone)) (s.now + 1) (.capCount u)

/-- A completed record counts; producer 433 + 2u fires (R286, R314). -/
def capCount (s : State) (u : Nat) : State := fire (incF s (F.CAP_WR_COUNT u)) (433 + 2 * u)

/-- The record's tap codes, none for one of a word with a parity error. -/
def tapCodes (codes : List (BitVec 12)) (corrupt : List Nat) : List (Option (BitVec 12)) :=
  codes.zipIdx.map (fun x => if corrupt.contains x.2 then none else some x.1)

/-- A unit's record ends in its header's tick (R314). -/
def recordEnd (s : State) (u : Nat) (codes : List (Option (BitVec 12))) (lost : Option Nat) : State :=
  if capState s u = capPost ∧ capHeaderTick s u ≤ s.now then capRecord s u codes lost else s

/-- RECORD_COMPLETE (R314): with the record's tap codes in order, the numbers of those of words with a parity error, and whether the tap has lost
its source, with the number of the code from which it had. -/
def execRecordComplete (u : Fin 16) (codes : List (BitVec 12)) (corrupt : List Nat) (off : Bool) (lostAt : Nat) (s : State) :
    Host.Outcome State Fault Refusal := .next (recordEnd s u (tapCodes codes corrupt) (if off then some lostAt else none))

/-- The unit goes on to the next record, or to FULL (R305). -/
def capRearmed (s : State) (u : Nat) : State :=
  if capFree s u then capEnterPrefill s u (wordStoredAt s u s.now) true else capLatch (setCapState s u capFull) u (F.CAP_LATCH_FULL u)

/-- REARM_END (R305). -/
def execRearmEnd (u : Fin 16) (s : State) : Host.Outcome State Fault Refusal :=
  .next (if capState s u = capRearm ∧ (capUnit s u).header + 16 ≤ s.now then capRearmed s u else s)

/-! ### Register writes -/

/-- A write of a unit's registers: BUSY while Sizing holds the unit (R423). -/
def capGuard (u : Nat) (f : State → Option State) (s : State) : Except Err State :=
  if capHeldBySizing s u then .error .busy
  else match f s with
    | some s => .ok s
    | none => .error .refused

/-- CAP_CTRL.ARM: refused while the tap cannot deliver; an effect 4 ticks on (R305). -/
def capArmOp (u : Nat) (s : State) : Option State :=
  if capTapOff s u then none else some (after s (regDelay s.now 4) (.capArm u))

/-- CAPTURE_ARM (R305). -/
def execCaptureArm (m : Master) (u : Fin 16) (s : State) : Host.Outcome State Fault Refusal :=
  .next (rowWriteE (.captureArm m u) m ⟨.CAP_CTRL, u, 0, 0⟩ s (capGuard u (capArmOp u)))

/-- CAPTURE_STOP (R305). -/
def execCaptureStop (m : Master) (u : Fin 16) (s : State) : Host.Outcome State Fault Refusal :=
  .next (rowWriteE (.captureStop m u) m ⟨.CAP_CTRL, u, 0, 0⟩ s (capGuard u (fun s => some (capStop s u true))))

/-- CAPTURE_FORCE (R307): a software trigger 4 ticks on. -/
def execCaptureForce (m : Master) (u : Fin 16) (s : State) : Host.Outcome State Fault Refusal :=
  .next (rowWriteE (.captureForce m u) m ⟨.CAP_CTRL, u, 0, 0⟩ s (capGuard u (fun s => some (after s (regDelay s.now 4) (.capForce u)))))

/-- CAP_CTRL.CNT_CLR: both counters to zero, in IDLE or DONE (R313). -/
def capCntClrOp (u : Nat) (s : State) : Option State :=
  if capStill s u then some (setF (setF s (F.CAP_WR_COUNT u) 0) (F.CAP_RD_COUNT u) 0) else none

/-- CAPTURE_CNT_CLR (R313). -/
def execCaptureCntClr (m : Master) (u : Fin 16) (s : State) : Host.Outcome State Fault Refusal :=
  .next (rowWriteE (.captureCntClr m u) m ⟨.CAP_CTRL, u, 0, 0⟩ s (capGuard u (capCntClrOp u)))

/-- A write of CAP_RD: refused where CAP_WR − CAP_RD would be negative or greater than 2^NLOG; a segment freed ends FULL (R305,
R313). -/
def capRdOp (u v : Nat) (s : State) : Option State :=
  if 2 ^ getF s (F.CAP_SEG_NLOG u) < (getF s (F.CAP_WR_COUNT u) + 2 ^ 32 - v % 2 ^ 32) % 2 ^ 32 then none
  else
    let s := setF s (F.CAP_RD_COUNT u) v
    some (if capState s u = capFull ∧ capFree s u then capEnterPrefill s u (wordStoredAt s u s.now) true else s)

/-- CAP_RD_WRITE (R313). -/
def execCapRdWrite (m : Master) (u : Fin 16) (val : BitVec 32) (s : State) : Host.Outcome State Fault Refusal :=
  .next (rowWriteE (.capRdWrite m u val) m ⟨.CAP_RD, u, 0, 0⟩ s (capGuard u (capRdOp u val.toNat)))

/-- The taps a unit may name (R301). -/
def capSrcOk (src : Nat) : Bool := decide (src < 4 ∨ 0x10 ≤ src ∧ src < 0x24 ∨ 0x80 ≤ src ∧ src < 0xE0)

/-- PRE, POST and NLOG fit the segment (R312). -/
def capFits (pre post nlog : Nat) : Bool := decide (nlog ≤ 10 ∧ 1 ≤ post ∧ pre + post ≤ (2 ^ 21 / 2 ^ nlog - 64) / 2)

end Sys2Proof.Machine
end

