-- ==== Sys2Proof/Machine/Fence.lean ====
section
/-! DEFINITION. The time status (R54 to R56), what being out of epoch does (R348, R349), reference loss (R42, R44), and shot records
(R209). -/

namespace Sys2Proof.Machine

/-! ### Time status (R54) -/

/-- The codes of R54. -/
def tsUnsync : Nat := 0
def tsMaster : Nat := 1
def tsMeasure : Nat := 2
def tsLocked : Nat := 3
def tsHold : Nat := 4
def tsFenced : Nat := 5

/-- The time status. -/
def timeStatus (s : State) : Nat := getF s F.TB_TSTAT_STATE

/-- The state with a time status. -/
def setTimeStatus (s : State) (v : Nat) : State := setF s F.TB_TSTAT_STATE v

/-- Threads may be started, and device time is trusted: MASTER, LOCKED or HOLD (R56). -/
def timeGood (s : State) : Bool := timeStatus s == tsMaster || timeStatus s == tsLocked || timeStatus s == tsHold

/-- The device is its own master: standalone, or a master candidate of its cluster (R336, R337). -/
def isMaster (s : State) : Bool := !flagF s F.CL_CFG_EN || flagF s F.CHIP_PERS_MASTER

/-- Entry to HOLD: latched and counted (R55, R61). -/
def enterHold (s : State) : State :=
  if timeStatus s = tsLocked then latch (incF (setTimeStatus s tsHold) F.TB_EVCNT_HOLDS) F.TB_TLATCH_HOLD 21 else s

/-! ### Shot records (R209) -/

/-- A quire wants a shot record of a shot; its cause mask is the one of the tick it is written in (R209). -/
def shotRecord (s : State) (q b len : Nat) : State :=
  if flagF s (F.HB_RQ_CFG_SHOTREC q) && flagF s (F.HB_RQ_CFG_EN q) then
    wantShotRecord s q (.shot b len false)
  else s

/-- Every quire writes its shot record of the shot in progress (R209, R343). -/
def shotRecords (s : State) : State :=
  match s.bounds with
  | b :: _ => (List.range 16).foldl (fun s q => shotRecord s q b (s.now - b)) s
  | [] => s

/-! ### Out of epoch (R348, R349) -/

/-- The taint "fenced device" on the shot of a tick and every shot since (R349). -/
def taintSince (s : State) (tick : Nat) : State :=
  (tick :: s.bounds.filter (fun b => decide (tick < b))).foldl (fun s b => addTaint s ⟨b, none, .fenced⟩) s

/-- The device goes out of epoch (R348, R349): outputs muted, threads stopped and flushed, shots tainted from a tick on, the shot record
of the shot in progress written (R343). -/
def outOfEpoch (s : State) (since : Nat) : State :=
  if flagF s F.CL_STAT_OUT_EPOCH then taintSince s since
  else
    let s := fire (latch (setB s F.CL_STAT_OUT_EPOCH true) F.CL_LATCH_EPOCH 640) 543
    let s := fenceMute s true
    let s := (List.range 16).foldl fenceQuire s
    shotRecords (taintSince s (min since s.now))

/-- Entry to FENCED (R56): the time status, its latch, and out of epoch; threads stop and commands are removed also on a device that is out
of epoch already (R79, R491). -/
def enterFenced (s : State) : State :=
  let s := latch (setTimeStatus { s with time := { s.time with meas := [], trim := none } } tsFenced) F.TB_TLATCH_FENCE 25
  (List.range 16).foldl fenceQuire (outOfEpoch s s.now)

/-! ### The reference (R42, R44, R45) -/

/-- DANDY_LOCK falls: latched; capture units go to IDLE (R44, R305). -/
def lockFalls (s : State) : State :=
  if flagF s F.TB_REF_STAT_DANDY_LOCK then
    capStopAll (latch (setB s F.TB_REF_STAT_DANDY_LOCK false) F.TB_REF_STAT_LOCK_LOSS 27)
  else s

/-- The reference is declared lost (R42, R44, R55). -/
def referenceLost (s : State) : State :=
  if flagF s F.TB_REF_STAT_REF_PRESENT then
    let s := lockFalls (latch (setB s F.TB_REF_STAT_REF_PRESENT false) F.TB_REF_STAT_REF_LOSS 26)
    let st := timeStatus s
    if st = tsMaster ∨ st = tsMeasure ∨ st = tsLocked ∨ st = tsHold then enterFenced s else s
  else s

/-- No edge for 64 ns: the reference is lost, and the present frequency window holds a gap. -/
def refGap (s : State) : State := referenceLost { s with time := { s.time with gap := true } }

/-- REF_EDGE_TIMEOUT (R42). -/
def execRefEdgeTimeout (s : State) : Host.Outcome State Fault Refusal := .next (refGap s)

/-- A frequency window ends (R42): out of range, the reference is lost; whole and in range, it is present. -/
def refWindow (s : State) (inRange : Bool) : State :=
  let clean := inRange && !s.time.gap
  let s := { s with time := { s.time with gap := false } }
  if !inRange then referenceLost s else if clean then setB s F.TB_REF_STAT_REF_PRESENT true else s

/-- REF_FREQ_WINDOW_END (R42): with whether the window's result lay within ±100 ppm. -/
def execRefFreqWindowEnd (inRange : Bool) (s : State) : Host.Outcome State Fault Refusal := .next (refWindow s inRange)

/-- The parent port is named and in Run (TB_TSTAT.PARENT_VALID). -/
def parentRuns (s : State) : Bool :=
  flagF s F.TB_TSTAT_PARENT_VALID && getF s (F.CHN_PORT_STAT_STATE (getF s F.TB_TSTAT_PARENT)) == 3

/-- UNSYNC ends where its condition is met (R55): a master with its Dandy locked, a follower whose parent port is in Run. -/
def leaveUnsync (s : State) : State :=
  if timeStatus s = tsUnsync ∧ flagF s F.TB_REF_STAT_DANDY_LOCK then
    if isMaster s then setB (setF (setTimeStatus s tsMaster) F.CL_STAT_HOPS 0) F.CL_STAT_MASTER true
    else if parentRuns s then setTimeStatus { s with time := { s.time with steps := 0 } } tsMeasure else s
  else s

/-- The Dandy locks: after reset or wake the dividers start and device time starts at zero (R45, R48); the status follows (R55). -/
def dandyLock (s : State) : State :=
  if flagF s F.TB_REF_STAT_REF_PRESENT && !flagF s F.TB_REF_STAT_DANDY_LOCK then
    let s := setB s F.TB_REF_STAT_DANDY_LOCK true
    let s := if s.time.started then s else { s with
      now := 0, time := { s.time with started := true }, post := { s.post with base := s.post.ps } }
    leaveUnsync s
  else s

/-- DANDY_LOCK (R45). -/
def execDandyLock (s : State) : Host.Outcome State Fault Refusal := .next (if domainOn s 133 then dandyLock s else s)

end Sys2Proof.Machine
end

