-- ==== Sys2Proof/Machine/Timebase.lean ====
section
/-! DEFINITION. The timebase (R47 to R66): device time, delay measurements, first synchronisation, root-trim moves, and the wall clock. -/

namespace Sys2Proof.Machine

/-! ### Reading device time (R50) -/

/-- A read of TB_TIME_LO latches the high half of device time (R50). -/
def timeLoRead (s : State) : State :=
  setF (setF s F.TB_TIME_LO_TIME (s.now % 2 ^ 32)) F.TB_TIME_HI_TIME (s.now / 2 ^ 32)

/-- TB_TIME_LO_READ (R50); of a register whose block is off nothing is read (R437). -/
def execTbTimeLoRead (s : State) : Host.Outcome State Fault Refusal :=
  .next (if regPowered s ⟨.TB_TIME_LO, 0, 0, 0⟩ then timeLoRead s else s)

/-! ### Delay measurement (R57, R58) -/

/-- The measurement under way on a port; a new one reads TB_PORT_ASYM (R58). -/
def measOf (s : State) (p : Nat) : PortMeas :=
  match s.time.meas.find? (fun x => x.1 == p) with
  | some x => x.2
  | none => ⟨0, 0, 0, getS s (F.TB_PORT_ASYM_ASYM p), true⟩

/-- The state with a measurement of a port. -/
def setMeas (s : State) (p : Nat) (m : PortMeas) : State := { s with time := { s.time with meas := tset s.time.meas p m } }

/-- A measurement in progress is discarded; the next exchange begins a new one (R57). -/
def dropMeas (s : State) (p : Nat) : State :=
  { s with time := { s.time with meas := s.time.meas.filter (fun x => x.1 != p) } }

/-- The last timing cell received on a port. -/
def timingPeer (s : State) (p : Nat) : Option TimingPeer := tget s.time.peers none p

/-- The asymmetry of a port (R58): the own factory term, the user term and the parent's factory term. -/
def asymmetry (p : Nat) (m : PortMeas) (c : TimingCell) : Int := Config.factoryAsym p + m.asym + c.fasym

/-- A peer that reports this time status can serve as a parent (R55, R61): MASTER, LOCKED or HOLD. -/
def parentUsable (tstat : Nat) : Bool := tstat == tsMaster || tstat == tsLocked || tstat == tsHold

/-- One valid exchange (R57): twice d and twice θ, from the four times in fine units. -/
def exchange (p now : Nat) (m : PortMeas) (c : TimingCell) : PortMeas :=
  let t1 : Int := 4096 * c.tdep
  let t2 : Int := 4096 * now + c.arrFine.val
  let t3 : Int := 4096 * c.echoDep
  let t4 : Int := 4096 * c.echoArr + c.echoFine.val
  let d2 := (t4 - t1) - (t3 - t2)
  { m with count := m.count + 1, d2 := m.d2 + d2, theta2 := m.theta2 + 2 * (t2 - t1) - d2 - 2 * asymmetry p m c,
           usable := m.usable && parentUsable c.tstat }

/-- The exchange of a timing cell counts while the measurement is not complete (R57). DESIGN CHOICE (log 20): one whose echo repeats the
last is no new exchange, the first timing cell on a port completes none, and one whose echo was taken before a step of first
synchronisation counts as any other. -/
def timingExchange (s : State) (p : Nat) (c : TimingCell) : State :=
  let m := measOf s p
  let fresh := match timingPeer s p with
    | some x => x.cell.echoDep != c.echoDep
    | none => false
  if fresh && decide (m.count < 1024) then setMeas s p (exchange p s.now m c) else s

/-- The parent reports its time status in its timing cells (R55, R60). -/
def parentReports (s : State) (p : Nat) (c : TimingCell) : State :=
  if flagF s F.TB_TSTAT_PARENT_VALID && getF s F.TB_TSTAT_PARENT == p then
    let s := setB s F.TB_TSTAT_PARENT_HOLD (c.tstat.val == tsHold)
    if parentUsable c.tstat then s else enterHold s
  else s

/-! ### First synchronisation (R59) and trim moves (R60 to R62) -/

/-- The mute of a step of first synchronisation, on every output, on or off (R59). -/
def stepMute (s : State) (b : Bool) : State :=
  let s := { s with time := { s.time with stepMute := b } }
  (List.range 16).foldl (fun s q =>
    let s := (List.range 5).foldl (fun s o => drvUpdate s q o s.now) s
    (List.range 24).foldl (fun s i => flxUpdate s q i s.now) s) s

/-- One step of first synchronisation (R59), with every output muted until the next tick: device time, the divider start and the root
trim take θ together, the trim within 64 ± 16. -/
def syncStep (s : State) (theta : Int) : State :=
  let x := theta - ((getF s F.TB_PHASE_TRIM : Int) - 64)
  let k := (x + 16) / 32
  let phase := (getF s F.TB_PHASE_DIV_PHASE : Int) + k
  let s := { s with now := ((s.now : Int) - phase / 128).toNat, time := { s.time with steps := s.time.steps + 1 } }
  let s := after (stepMute s true) (s.now + 1) .stepEnd
  setF (setF s F.TB_PHASE_DIV_PHASE (phase % 128).toNat) F.TB_PHASE_TRIM (64 - (x - 32 * k)).toNat

/-- A measurement completes in MEASURE (R59). A follower that four steps have not brought to LOCKED has failed, and stays in MEASURE: its
count of steps goes to 5. -/
def firstSync (s : State) (sum2 theta : Int) : State :=
  if s.time.steps = 0 then syncStep s theta
  else if 4 < s.time.steps then s
  else if sum2.natAbs ≤ 8 * 1024 then setTimeStatus s tsLocked
  else if s.time.steps < 4 then syncStep s theta
  else latch { s with time := { s.time with steps := 5 } } F.TB_TLATCH_SYNC_FAIL 23

/-- A root-trim move is made, or refused and the device fenced (R62). -/
def trimMove (s : State) (m : TrimMove) : State :=
  let s := { s with time := { s.time with trim := none } }
  let v := (getF s F.TB_PHASE_TRIM : Int) - m.theta
  if v < 0 ∨ 127 < v then enterFenced (latch s F.TB_TLATCH_RANGE 24)
  else
    let s := latch (incF (setF s F.TB_PHASE_TRIM v.toNat) F.TB_EVCNT_ADJUSTS) F.TB_TLATCH_ADJUST 22
    if m.lock then setTimeStatus s tsLocked else s

/-- A waiting move may be made now (R60, R61): its tick has come, and, for a move in LOCKED, the parent does not report HOLD. -/
def trimReady (s : State) (m : TrimMove) : Bool := decide (m.ready ≤ s.now) && (m.lock || !flagF s F.TB_TSTAT_PARENT_HOLD)

/-- The waiting move is made at a shot boundary, if it is ready (R60, R61). -/
def trimAtBoundary (s : State) : State :=
  match s.time.trim with
  | some m => if trimReady s m then trimMove s m else s
  | none => s

/-- A measurement completes in LOCKED (R60): one position toward reducing θ, at once if every quire is idle; not while the parent reports
HOLD. -/
def lockedResult (s : State) (sum2 : Int) : State :=
  if sum2.natAbs ≤ 4 * 1024 ∨ flagF s F.TB_TSTAT_PARENT_HOLD then s
  else
    let m : TrimMove := ⟨if 0 < sum2 then 1 else -1, s.now, false⟩
    if allIdle s then trimMove s m else { s with time := { s.time with trim := some m } }

/-- A measurement on the parent port completes (R59 to R61). -/
def parentMeasured (s : State) (sum2 theta : Int) : State :=
  let s := setS s F.TB_OFFSET_THETA theta
  if timeStatus s = tsMeasure then firstSync s sum2 theta
  else if timeStatus s = tsLocked then lockedResult s sum2
  else if timeStatus s = tsHold then { s with time := { s.time with trim := some ⟨theta, s.now + 16, true⟩ } }
  else s

/-- The 1,024th valid exchange completes a measurement of a port (R57); a parent that was not available for all of it gives the follower
nothing to apply (R61). -/
def measureDone (s : State) (p : Nat) : State :=
  let m := measOf s p
  if m.count < 1024 then s
  else
    let s := setF (dropMeas s p) (F.TB_PORT_DELAY_DELAY p) (ofSigned 32 (Config.roundMean m.d2))
    if flagF s F.TB_TSTAT_PARENT_VALID && getF s F.TB_TSTAT_PARENT == p && m.usable then
      parentMeasured s m.theta2 (Config.roundMean m.theta2)
    else s

/-- MEASUREMENT_COMPLETE (R57). -/
def execMeasurementComplete (p : Fin 8) (s : State) : Host.Outcome State Fault Refusal := .next (measureDone s p)

/-- ROOT_TRIM_MOVE (R62): at a boundary tick, or, for a move of R60, while every quire is idle. -/
def rootTrimOp (s : State) : State :=
  match s.time.trim with
  | some m => if trimReady s m ∧ (s.bounds.head? = some s.now ∨ (m.lock = false ∧ allIdle s)) then trimMove s m else s
  | none => s

/-- ROOT_TRIM_MOVE (R62). -/
def execRootTrimMove (s : State) : Host.Outcome State Fault Refusal := .next (rootTrimOp s)

/-! ### The wall clock (R63 to R66) -/

/-- The wall clock in nanoseconds, or, before it is set, device time in nanoseconds: what firmware timestamps are read from. -/
def localNs (s : State) : Nat := match s.time.wall with | some w => w / 2 ^ 32 | none => 2 * s.now

/-- The wall clock advances by one tick: 2 ns scaled by the servo rate (R64). -/
def wallTick (s : State) : State :=
  match s.time.wall with
  | some w => { s with time := { s.time with wall := some ((w : Int) + 2 ^ 33 + 2 * getS s F.TB_WCT_RATE_VALUE).toNat } }
  | none => s

/-- PTP runs on this port: its link is up, and the domain is the device's (R63, R400). -/
def ptpAccepts (s : State) (e domain : Nat) : Bool :=
  flagF s (F.ETH_STAT_LINK e) && (tget s.host.dict none (0x2000, 3)).getD 0 == domain

/-- PTP takes this port's messages of an exchange that a Sync has begun (R63): one port is active at a time. -/
def ptpActive (s : State) (e domain : Nat) : Bool := ptpAccepts s e domain && getF s F.TB_WCT_STAT_PORT == e

/-- A Sync interval has passed (R65): TIME_SUSPECT clears after 16 consecutive ones with the offset below 10 µs throughout. -/
def quietSync (s : State) : State :=
  let quiet := if flagF s F.TB_WCT_STAT_SET && decide ((getS s F.TB_WCT_OFFSET_VALUE).natAbs < 10000) then s.time.quiet + 1 else 0
  let s := { s with time := { s.time with quiet := quiet } }
  if 16 ≤ quiet then setB s F.TB_WCT_STAT_TIME_SUSPECT false else s

/-- A Sync: its arrival, and its origin if the master is one-step; its port is the active one; outside the interval range it is ignored
and counted (R63). -/
def ptpSync (s : State) (e : Nat) (interval : Int) (origin : Option Nat) : State :=
  if interval < -4 ∨ 4 < interval then { s with time := { s.time with ignored := s.time.ignored + 1 } }
  else
    let s := quietSync s
    setF { s with time := { s.time with sync := some (origin, localNs s), reqAt := none } } F.TB_WCT_STAT_PORT e

/-- PTP_SYNC_RX (R63): port, domain, log2 of the Sync interval, and a one-step master's origin time in ns. -/
def execPtpSyncRx (e : Fin 2) (domain : Nat) (interval : Int) (origin : Option Nat) (s : State) : Host.Outcome State Fault Refusal :=
  .next (if ptpAccepts s e domain then ptpSync s e interval origin else s)

/-- A Follow_Up gives the Sync's origin (R63). -/
def ptpFollow (s : State) (origin : Nat) : State :=
  match s.time.sync with
  | some (none, t2) => { s with time := { s.time with sync := some (some origin, t2) } }
  | _ => s

/-- PTP_FOLLOW_UP_RX (R63). -/
def execPtpFollowUpRx (e : Fin 2) (domain : Nat) (origin : Nat) (s : State) : Host.Outcome State Fault Refusal :=
  .next (if ptpActive s e domain then ptpFollow s origin else s)

/-- PTP_DELAY_REQ_TX (R63): the message leaves on the PTP port, and firmware stamps it. -/
def execPtpDelayReqTx (s : State) : Host.Outcome State Fault Refusal :=
  .next (if s.time.sync.isSome then
      emit { s with time := { s.time with reqAt := some (localNs s) } } (.delayReq (getF s F.TB_WCT_STAT_PORT))
    else s)

/-- The first synchronisation sets the wall clock in one step (R64). -/
def wallStep (s : State) (offset : Int) : State :=
  setB { s with time := { s.time with wall := some (2 ^ 32 * ((localNs s : Int) - offset).toNat) } } F.TB_WCT_STAT_SET true

/-- The servo's rate, toward an offset of zero and limited to ±200 ppm (R64, R65): the local clock less the master's is the offset. -/
def servo (offset : Int) : Int :=
  let r : Int := min 858993 (Config.servoRate offset)
  if 0 < offset then -r else if offset < 0 then r else 0

/-- TIME_SUSPECT follows the offset (R65): above 100 µs it sets; at 10 µs or more the count of quiet Sync intervals starts again. -/
def timeSuspect (s : State) (offset : Int) : State :=
  let s := if offset.natAbs < 10000 then s else { s with time := { s.time with quiet := 0 } }
  if 100000 < offset.natAbs then latch s F.TB_WCT_STAT_TIME_SUSPECT 30 else s

/-- An offset is measured (R63 to R65): the first sets the clock, later ones only its rate. -/
def ptpOffset (s : State) (offset : Int) : State :=
  let s := setS s F.TB_WCT_OFFSET_VALUE (max (-(2 ^ 31)) (min (2 ^ 31 - 1) offset))
  if flagF s F.TB_WCT_STAT_SET then timeSuspect (setS s F.TB_WCT_RATE_VALUE (servo offset)) offset else wallStep s offset

/-- PTP_DELAY_RESP_RX (R63): the four times of the exchange are complete. -/
def ptpDelayResp (s : State) (t4 : Nat) : State :=
  match s.time.sync, s.time.reqAt with
  | some (some t1, t2), some t3 =>
    ptpOffset { s with time := { s.time with sync := none, reqAt := none } } ((((t2 : Int) - t1) - ((t4 : Int) - t3)) / 2)
  | _, _ => s

/-- PTP_DELAY_RESP_RX (R63): with the master's arrival time of the Delay_Req in ns. -/
def execPtpDelayRespRx (e : Fin 2) (domain : Nat) (t4 : Nat) (s : State) : Host.Outcome State Fault Refusal :=
  .next (if ptpActive s e domain then ptpDelayResp s t4 else s)

/-- A read of TB_WCT_NS latches the seconds and the device time of the same tick (R66). -/
def wctRead (s : State) : State :=
  let ns := match s.time.wall with | some w => w / 2 ^ 32 | none => 0
  let sec := ns / 1000000000
  let s := setF s F.TB_WCT_NS_VALUE (ns % 1000000000)
  let s := setF (setF s F.TB_WCT_SEC_LO_VALUE (sec % 2 ^ 32)) F.TB_WCT_SEC_HI_VALUE (sec / 2 ^ 32)
  setF (setF s F.TB_WCT_DT_LO_TIME (s.now % 2 ^ 32)) F.TB_WCT_DT_HI_TIME (s.now / 2 ^ 32)

/-- TB_WCT_NS_READ (R66); of a register whose block is off nothing is read (R437). -/
def execTbWctNsRead (s : State) : Host.Outcome State Fault Refusal :=
  .next (if regPowered s ⟨.TB_WCT_NS, 0, 0, 0⟩ then wctRead s else s)

end Sys2Proof.Machine
end

