-- ==== Sys2Proof/Machine/Chain.lean ====
section
/-! DEFINITION. Chain ports (R318 to R335): bring-up, Run, Idle and Deep, the cells sent and received, eye scans; and the choice of a parent
(R338). -/

namespace Sys2Proof.Machine

/-! ### Parents (R338) -/

/-- The hop count of a candidate port (R338); none: the port is no candidate. -/
def candidate (s : State) (p : Nat) : Option Nat :=
  match (portOf s p).hb, timingPeer s p with
  | some h, some t =>
    if getF s (F.CHN_PORT_CFG_ROLE p) = 1 ∧ portRuns s p ∧ h.cid = getF s F.CL_CID_VALUE ∧ (t.cell.tstat.val = tsMaster ∨ t.cell.tstat.val = tsLocked) ∧
        t.cell.hops.val ≤ 14 ∧ h.parent = false then some t.cell.hops.val else none
  | _, _ => none

/-- The candidate of the fewest hops, the lowest port among equals (R338). -/
def bestCandidate (s : State) : Option Nat :=
  (List.range 8).foldl (fun best p =>
    match candidate s p, best with
    | some h, some b => if h < (candidate s b).getD 63 then some p else best
    | some _, none => some p
    | none, _ => best) none

/-- The device's hop count follows its parent's (R338). -/
def hopsFollow (s : State) : State :=
  if flagF s F.TB_TSTAT_PARENT_VALID then
    match timingPeer s (getF s F.TB_TSTAT_PARENT) with
    | some t => setF s F.CL_STAT_HOPS (t.cell.hops.val + 1)
    | none => s
  else s

/-- The device has no parent any more. -/
def dropParent (s : State) : State :=
  setB (setB (setB s (F.CHN_PORT_STAT_PARENT (getF s F.TB_TSTAT_PARENT)) false) F.TB_TSTAT_PARENT_VALID false) F.TB_TSTAT_PARENT_HOLD false

/-- The device takes a port as its parent: MEASURE begins, or, from LOCKED, HOLD (R55, R57, R338). -/
def takeParent (s : State) (p : Nat) : State :=
  let s := if flagF s F.TB_TSTAT_PARENT_VALID then dropParent s else s
  let s := setB (setF (setB s F.TB_TSTAT_PARENT_VALID true) F.TB_TSTAT_PARENT p) (F.CHN_PORT_STAT_PARENT p) true
  leaveUnsync (enterHold (hopsFollow (dropMeas s p)))

/-- A follower without a number that finds a candidate sends JOIN there, once (R339). -/
def sendJoin (s : State) (p : Nat) : State :=
  let bars := s.chain.reported
  let uid := getF s F.CL_UID_LO_VALUE + 2 ^ 32 * getF s F.CL_UID_HI_VALUE
  sendControl { s with chain := { s.chain with joining := some p } } p ⟨getF s F.CL_STAT_DEVNUM, some 0, .join uid bars⟩

/-- A follower keeps its parent while it is a candidate, and chooses again when it ceases to be one (R338); while none is to be had, a
parent port still in Run stays. -/
def parentSelect (s : State) : State :=
  if isMaster s then s
  else if flagF s F.TB_TSTAT_PARENT_VALID ∧ (candidate s (getF s F.TB_TSTAT_PARENT)).isSome then hopsFollow s
  else
    match bestCandidate s with
    | some p =>
      if flagF s F.CL_STAT_MEMBER then takeParent s p
      else if s.chain.joining = none then sendJoin s p else s
    | none => s

/-! ### States of a port (R330) -/

/-- A port changes its state: its event fires (R330). -/
def setPortState (s : State) (p st : Nat) : State :=
  if portState s p = st then s
  else fire (setPort (setF s (F.CHN_PORT_STAT_STATE p) st) p { portOf s p with since := s.now }) (526 + p)

/-- An eye scan on the port is marked invalid when the port leaves Run (R335). -/
def eyeInvalid (s : State) (p : Nat) : State :=
  match s.chain.eye with
  | some (p', _) => if p' = p then setB s F.CHN_EYE_STAT_INVALID true else s
  | none => s

/-- The parent port leaves Run: MEASURE goes to UNSYNC, LOCKED to HOLD (R55). -/
def parentLost (s : State) : State :=
  let s := dropParent s
  if timeStatus s = tsMeasure then setTimeStatus s tsUnsync else enterHold s

/-- What a port loses when it leaves Run: measurement, mean delay, skew, child and parent, what waits at its transmitter (R57, R330, R333). -/
def portLeaves (s : State) (p : Nat) : State :=
  if portRuns s p then
    let s := eyeInvalid (dropMeas s p) p
    let s := setB (setF s (F.CHN_PORT_SKEW_SKEW p) 0) (F.CHN_PORT_STAT_CHILD p) false
    let s := setF s (F.TB_PORT_DELAY_DELAY p) 0
    let l := portOf s p
    let s := setPort s p { l with ctrl := [], hb := none, fails := (0, 0), sent := 0, got := 0, refusals := 0 }
    let s := { s with couch := { s.couch with tx := tset s.couch.tx p [], bndTx := tset s.couch.bndTx p [] }
                      time := { s.time with peers := tset s.time.peers p none } }
    let s := if s.chain.joining = some p then { s with chain := { s.chain with joining := none } } else s
    if isParent s p then parentLost s else s
  else s

/-- A port begins training (R330). -/
def startTrain (s : State) (p : Nat) : State :=
  let s := portLeaves s p
  let s := setPort s p { portOf s p with train := s.now, since := s.now, rxOk := false, peerOk := (false, false), fails := (0, 0) }
  parentSelect (setPortState s p psTrain)

/-- A port leaves Run other than by agreement: DOWN is latched and counted (R330). -/
def portDown (s : State) (p : Nat) : State :=
  startTrain (latch (incF s (F.CHN_PORT_CNT_B_DOWN p)) (F.CHN_PORT_LATCH_DOWN p) (647 + p)) p

/-- A port enters Run: the skew measured shows; a parent port in Run ends UNSYNC (R55, R330). -/
def portRun (s : State) (p : Nat) : State :=
  let s := setPortState s p psRun
  let s := setPort s p { portOf s p with linkDue := s.now + 65536, fails := (0, 0), sent := 0, got := 0, refusals := 0 }
  leaveUnsync (setS s (F.CHN_PORT_SKEW_SKEW p) (portOf s p).skew)

/-- A port is turned off (R330). -/
def portOff (s : State) (p : Nat) : State :=
  let run := portRuns s p
  let s := portLeaves s p
  let s := setF s (F.CHN_PORT_STAT_LOCK p) 0
  let s := if run then latch (incF s (F.CHN_PORT_CNT_B_DOWN p)) (F.CHN_PORT_LATCH_DOWN p) (647 + p) else s
  parentSelect (setPortState s p psOff)

/-- A field of the port's link cell has changed: the next free slot sends one (R328). -/
def linkChanged (s : State) (p : Nat) : State := setPort s p { portOf s p with linkDue := s.now }

/-- CHN_PORT_CFG.ROLE is written (R330); ROLE 3 is refused. -/
def roleWrite (s : State) (p role : Nat) : Option State :=
  if role = 3 then none
  else
    let s := linkChanged (setF s (F.CHN_PORT_CFG_ROLE p) role) p
    if role = 0 then some (if portState s p = psOff then s else portOff s p)
    else some (if portState s p = psOff then startTrain s p else parentSelect s)

/-- PORT_ROLE_WRITE (R330). -/
def execPortRoleWrite (m : Master) (p : Fin 8) (role : Fin 4) (s : State) : Host.Outcome State Fault Refusal :=
  .next (regWrite m ⟨.CHN_PORT_CFG, p, 0, 0⟩ s (fun s => roleWrite s p role))

/-- After 8,192 ticks in TRAIN the port aligns (R330). -/
def trainEnd (s : State) (p : Nat) : State :=
  if portState s p = psTrain ∧ (portOf s p).since + 8192 ≤ s.now then setPortState s p psAlign else s

/-- TRAIN_END (R330). -/
def execTrainEnd (p : Fin 8) (s : State) : Host.Outcome State Fault Refusal := .next (trainEnd s p)

/-- 1,000,000 ticks since the entry to TRAIN without Run: training restarts, and is counted (R330). -/
def trainTimeout (s : State) (p : Nat) : State :=
  if (portState s p = psTrain ∨ portState s p = psAlign) ∧ (portOf s p).train + 1000000 ≤ s.now then
    startTrain (incF s (F.CHN_PORT_CNT_B_TRAIN p)) p
  else s

/-- TRAIN_TIMEOUT (R330). -/
def execTrainTimeout (p : Fin 8) (s : State) : Host.Outcome State Fault Refusal := .next (trainTimeout s p)

/-- A phase loop loses lock: a port in Run goes down (R330, R331). -/
def outOfLock (s : State) (p lane : Nat) : State :=
  let s := setBitF s (F.CHN_PORT_STAT_LOCK p) lane false
  if portRuns s p then portDown s p
  else if portState s p = psAlign then setPort s p { portOf s p with rxOk := false } else s

/-- PHASE_LOOP_OUT_OF_LOCK (R330): on a port and lane. -/
def execPhaseLoopOutOfLock (p : Fin 8) (lane : Fin 2) (s : State) : Host.Outcome State Fault Refusal := .next (outOfLock s p lane)

/-- A cell is lost on a lane: it fails its CRC, or passes it with a reserved TYPE or message or on the wrong lane (R321, R322, R326). -/
def cellLost (s : State) (p lane : Nat) (crc : Bool) : State :=
  let s := incF s (if lane = 0 then F.CHN_PORT_CNT_A_LOST0 p else F.CHN_PORT_CNT_A_LOST1 p)
  if crc then
    let s := fire (latch s (F.CHN_PORT_LATCH_CRC p) (647 + p)) (534 + p)
    let l := portOf s p
    let n := laneOf l.fails lane + 1
    let s := setPort s p { l with fails := withLane l.fails lane n, got := if lane = 1 then 0 else l.got }
    if 8 ≤ n then portDown s p else s
  else cellPassed s p lane

/-- The 256 bits of a cell, descrambled, as a lane of a port in Run takes them (R320 to R322, R326): lost, or received by the row of its
kind. -/
def cellTaken (s : State) (p lane w : Nat) : State :=
  match cellVerdict lane w with
  | .badCrc => cellLost s p lane true
  | .discarded => cellLost s p lane false
  | .good => s

/-- CELL_CRC_FAIL (R322): on a port in Run; the bits of a cell that fails its CRC, or that passes it and is discarded. -/
def execCellCrcFail (p : Fin 8) (lane : Fin 2) (word : BitVec 256) (s : State) : Host.Outcome State Fault Refusal :=
  .next (if portRuns s p then cellTaken s p lane word.toNat else s)

/-! ### Idle and Deep (R332 to R334) -/

/-- A request of Idle or Deep is refused (R333). -/
def reqBarred (s : State) (p : Nat) : Bool :=
  isParent s p || flagF s (F.CHN_PORT_STAT_CHILD p) || getF s (F.SE_PORT_ROLE p) != 0
    || (List.range 64).any (fun x => flagF s (F.DX_CFG_EN x) && bitF s (F.DX_CFG_PORTS x) p)

/-- 8 consecutive lane-1 cells each way have announced Idle or Deep (R332). -/
def idleAgreed (s : State) (p : Nat) : Bool :=
  let l := portOf s p
  let req := getF s (F.CHN_PORT_CFG_REQ p)
  portRuns s p && (req == 1 || req == 2) && (l.gotState == 1 || l.gotState == 2) && decide (8 ≤ l.sent ∧ 8 ≤ l.got)

/-- Idle or Deep is entered; different requests give Idle (R332). -/
def idleEnter (s : State) (p : Nat) : State :=
  let deep := getF s (F.CHN_PORT_CFG_REQ p) == 2 && (portOf s p).gotState == 2
  if idleAgreed s p then parentSelect (setPortState (portLeaves s p) p (if deep then psDeep else psIdle)) else s

/-- Once it is agreed, Idle or Deep is entered at the end of the slot (R332). -/
def idleSlot (s : State) (p : Nat) : State := if idleAgreed s p then after s (s.now / 4 * 4 + 4) (.portIdle p) else s

/-- CHN_PORT_CFG.REQ is written (R332 to R334). -/
def reqWrite (s : State) (p req : Nat) : Option State :=
  if req = 3 ∨ (req ≠ 0 ∧ reqBarred s p = true) then none
  else
    let s := setF s (F.CHN_PORT_CFG_REQ p) req
    let s := setPort s p { portOf s p with sent := 0, refusals := 0 }
    if req = 0 ∧ portState s p = psIdle then some (portRun s p)
    else if req = 0 ∧ portState s p = psDeep then some (startTrain s p)
    else some s

/-- PORT_REQ_WRITE (R332). -/
def execPortReqWrite (m : Master) (p : Fin 8) (req : Fin 4) (s : State) : Host.Outcome State Fault Refusal :=
  .next (regWrite m ⟨.CHN_PORT_CFG, p, 0, 0⟩ s (fun s => reqWrite s p req))

/-- The signal detector of a port in Deep sees training (R334). -/
def signalDetect (s : State) (p : Nat) : State := if portState s p = psDeep then startTrain s p else s

/-- A lane-1 cell announces a state (R332). -/
def announced (s : State) (p st : Nat) : State :=
  let l := portOf s p
  let l := { l with got := if l.gotState = st then l.got + 1 else 1, gotState := st }
  let s := setPort s p l
  if getF s (F.CHN_PORT_CFG_REQ p) = 0 then s
  else if st = 0 then
    let s := setPort s p { l with refusals := l.refusals + 1 }
    if l.refusals + 1 = 64 then latch s (F.CHN_PORT_LATCH_REQ_REFUSED p) (647 + p) else s
  else idleSlot s p

/-- A lane-1 cell that passes its CRC reaches a port: a port in Idle resumes (R334); the effect, if the port is then in Run. -/
def laneOne (s : State) (p : Nat) (effect : State → State) : State :=
  let s := if portState s p = psIdle then portRun s p else s
  if portRuns s p then effect (cellPassed s p 1) else s

/-- IDLE_CELL_RX (R332): a lane-1 cell and the state it announces. -/
def execIdleCellRx (p : Fin 8) (st : Fin 4) (s : State) : Host.Outcome State Fault Refusal :=
  .next (laneOne s p (fun s => announced s p st))

/-! ### Link cells (R328, R330) -/

/-- The peer's fields are kept (R328); another ROLE or, on a tree port, another CID is latched. -/
def peerFields (s : State) (p : Nat) (c : LinkCell) : State :=
  let s := setF (setF s (F.CHN_PORT_STAT_PEER_PORT p) c.port) (F.CHN_PORT_STAT_PEER_ROLE p) c.role
  let s := setF (setF s (F.CHN_PEER_UID_LO_UID p) (c.uid % 2 ^ 32)) (F.CHN_PEER_UID_HI_UID p) (c.uid / 2 ^ 32)
  let s := setB s (F.SE_PORT_PEER_PULL p) (c.seRole.val == 2)
  let ok := c.cid == getF s F.CL_CID_VALUE
  let s := setB s (F.CHN_PORT_STAT_CID_OK p) ok
  let s := if !ok && getF s (F.CHN_PORT_CFG_ROLE p) == 1 then latch s (F.CHN_PORT_LATCH_CID_MISMATCH p) (647 + p) else s
  if c.role.val = getF s (F.CHN_PORT_CFG_ROLE p) then s else latch s (F.CHN_PORT_LATCH_ROLE_MISMATCH p) (647 + p)

/-- A link cell in ALIGN, with the skew of a receiver that meets the conditions of RX_OK (R330). -/
def alignCell (s : State) (p lane : Nat) (c : LinkCell) (own : Option Int) : State :=
  let s := peerFields s p c
  let l := portOf s p
  let l := match own with
    | some k => { l with rxOk := true, skew := k }
    | none => l
  let l := { l with peerOk := withLane l.peerOk lane (laneOf l.peerOk lane || c.rxOk) }
  let s := setPort s p l
  let s := if l.rxOk then setF s (F.CHN_PORT_STAT_LOCK p) 3 else s
  if l.rxOk ∧ l.peerOk.1 ∧ l.peerOk.2 ∧ c.role.val = getF s (F.CHN_PORT_CFG_ROLE p) then portRun s p else s

/-- LINK_CELL_RX (R328): in ALIGN on either lane, in Run on lane 1. -/
def execLinkCellRx (p : Fin 8) (lane : Fin 2) (c : LinkCell) (own : Option Int) (s : State) : Host.Outcome State Fault Refusal :=
  .next (if portState s p = psAlign then alignCell s p lane c own
    else if lane.val = 1 then laneOne s p (fun s => peerFields s p c)
    else if portRuns s p then cellLost s p 0 false else s)

/-! ### Timing cells (R325) -/

/-- TIMING_CELL_RX (R325): an exchange; the peer's time status, for the parent port (R55, R60) and the choice of a parent (R338). -/
def timingCell (s : State) (p : Nat) (c : TimingCell) : State :=
  let s := timingExchange s p c
  let s := { s with time := { s.time with peers := tset s.time.peers p (some ⟨c, s.now⟩) } }
  parentSelect (parentReports s p c)

/-- TIMING_CELL_RX (R325). -/
def execTimingCellRx (p : Fin 8) (c : TimingCell) (s : State) : Host.Outcome State Fault Refusal :=
  .next (laneOne s p (fun s => timingCell s p c))

/-! ### Eye scans (R335) -/

/-- A START of an eye scan: the fields of CHN_EYE_CTRL; on a port in Run, one at a time (R335). -/
def eyeStart (s : State) (p lane dwell vofs phase : Nat) : Option State :=
  if flagF s F.CHN_EYE_STAT_BUSY ∨ vofs = 64 ∨ toSigned 7 phase < -32 ∨ 31 < toSigned 7 phase ∨ portRuns s p = false then none
  else
    let s := setF (setF (setF s F.CHN_EYE_CTRL_PORT p) F.CHN_EYE_CTRL_LANE lane) F.CHN_EYE_CTRL_DWELL dwell
    let s := setF (setF s F.CHN_EYE_CTRL_VOFS vofs) F.CHN_EYE_CTRL_PHASE phase
    let s := setB (setB (setB s F.CHN_EYE_STAT_BUSY true) F.CHN_EYE_STAT_DONE false) F.CHN_EYE_STAT_INVALID false
    some { s with chain := { s.chain with eye := some (p, s.now + 2 ^ (14 + dwell)) } }

/-- EYE_SCAN_START (R335). -/
def execEyeScanStart (m : Master) (p : Fin 8) (lane : Fin 2) (dwell : Fin 16) (vofs phase : Fin 128) (s : State) :
    Host.Outcome State Fault Refusal :=
  .next (regWrite m ⟨.CHN_EYE_CTRL, 0, 0, 0⟩ s (fun s => eyeStart s p lane dwell vofs phase))

/-- The scan has compared its bits: the count of disagreements, saturating (R335). -/
def eyeDone (s : State) (count : Nat) : State :=
  match s.chain.eye with
  | some (_, done) =>
    if done ≤ s.now then
      let s := { s with chain := { s.chain with eye := none } }
      setB (setB (setF s F.CHN_EYE_RES_COUNT (min count (2 ^ 32 - 1))) F.CHN_EYE_STAT_BUSY false) F.CHN_EYE_STAT_DONE true
    else s
  | none => s

/-- EYE_SCAN_DONE (R335). -/
def execEyeScanDone (count : Nat) (s : State) : Host.Outcome State Fault Refusal := .next (eyeDone s count)

/-! ### Cell slots (R319) -/

/-- Entries in the order of their export numbers, those of one export as they came (R260). -/
def insertEntry (x : Nat × Sys2Proof.DecEntry) : List (Nat × Sys2Proof.DecEntry) → List (Nat × Sys2Proof.DecEntry)
  | [] => [x]
  | y :: r => if x.2.exp ≤ y.2.exp then x :: y :: r else y :: insertEntry x r

/-- The decision entries a slot takes, and those that wait on: at most 12, lowest export number first (R260). -/
def slotEntries (s : State) (p : Nat) : List (Nat × Sys2Proof.DecEntry) × List (Nat × Sys2Proof.DecEntry) :=
  let l := tget s.couch.tx [] p
  let due := (l.filter (fun x => decide (x.1 ≤ s.now))).foldr insertEntry []
  (due.take 12, due.drop 12 ++ l.filter (fun x => decide (s.now < x.1)))

/-- Lane 0 starts a decision cell: decision entries, then boundary entries in the positions left (R260, R319, R323). -/
def decisionSlot (s : State) (p : Nat) : State :=
  let e := slotEntries s p
  let room := 12 - e.1.length
  let b := tget s.couch.bndTx [] p
  let out := b.take room
  let s := { s with couch := { s.couch with tx := tset s.couch.tx p e.2, bndTx := tset s.couch.bndTx p (b.drop room) } }
  let s := addF s F.SE_CNT_C_BND_TX out.length
  sendCell s p 0 (getF s (F.CHN_PORT_CFG_REQ p)) (.decision (e.1.map (·.2)) (out.map (fun x => (x.1, x.2.1 % 256))))

/-- The device's hop count as its cells carry it: 0 at the master, 63 with none (R325). -/
def hopsSent (s : State) : Nat :=
  if isMaster s then 0 else if flagF s F.TB_TSTAT_PARENT_VALID then getF s F.CL_STAT_HOPS else 63

/-- The timing cell of a port in this slot (R325). -/
def timingOut (s : State) (p : Nat) : TimingCell :=
  let e := timingPeer s p
  { tstat := Fin.ofNat 8 (timeStatus s), hops := Fin.ofNat 64 (hopsSent s), tdep := s.now
    echoDep := (e.map (·.cell.tdep)).getD 0, echoArr := (e.map (·.arr)).getD 0, echoFine := (e.map (·.cell.arrFine)).getD 0
    fasym := Config.factoryAsym p, arrFine := 0 }

/-- The link cell of a port (R328). -/
def linkOut (s : State) (p : Nat) : LinkCell :=
  { uid := getF s F.CL_UID_LO_VALUE + 2 ^ 32 * getF s F.CL_UID_HI_VALUE, port := Fin.ofNat 8 p
    role := Fin.ofNat 4 (getF s (F.CHN_PORT_CFG_ROLE p)), seRole := Fin.ofNat 4 (getF s (F.SE_PORT_ROLE p))
    fasym := Config.factoryAsym p, cid := getF s F.CL_CID_VALUE, rxOk := (portOf s p).rxOk }

/-- The oldest control cell that waits, with the queue after it. -/
def nextControl (l : PortLink) (now : Nat) : Option (Sys2Proof.Ctrl × List (Nat × Sys2Proof.Ctrl)) :=
  match l.ctrl with
  | (t, c) :: r => if t < now then some (c, r) else none
  | [] => none

/-- What lane 1 starts in a slot: a timing cell, a control cell, a due link cell, an idle cell, in that order (R319). -/
def laneOneSlot (s : State) (p : Nat) : State × Cell320 :=
  let l := portOf s p
  if s.now % 512 = 0 then (s, .timing (timingOut s p))
  else
    match nextControl l s.now with
    | some (c, r) => (setPort s p { l with ctrl := r }, .control c)
    | none =>
      if l.linkDue ≤ s.now then (setPort s p { l with linkDue := s.now + 65536 }, .link (linkOut s p)) else (s, .idle)

/-- A lane of a port starts its cell of this slot (R319, R328, R332); in Idle it sends scrambled zeros (R329). -/
def cellSlot (s : State) (p lane : Nat) : State :=
  let l := portOf s p
  let s := setPort s p { l with slots := withLane l.slots lane (some s.now) }
  if portState s p = psAlign then sendCell s p lane 0 (.link (linkOut s p))
  else if portRuns s p then
    if lane = 0 then decisionSlot s p
    else
      let x := laneOneSlot s p
      let req := getF s (F.CHN_PORT_CFG_REQ p)
      let s := sendCell x.1 p 1 req x.2
      idleSlot (if req = 0 then s else setPort s p { portOf s p with sent := (portOf s p).sent + 1 }) p
  else if portState s p = psIdle then laneSent s p lane 0
  else s

/-- CELL_SLOT (R319): at the start of a tick that is a multiple of 4, once a slot. -/
def execCellSlot (p : Fin 8) (lane : Fin 2) (s : State) : Host.Outcome State Fault Refusal :=
  .next (if s.now % 4 = 0 ∧ laneOf (portOf s p).slots lane ≠ some s.now then cellSlot s p lane else s)

end Sys2Proof.Machine
end

