-- ==== Sys2Proof/Machine/Seq.lean ====
section
/-! DEFINITION. The instructions of a sequencer thread (R71 to R98, R100), but SYNC. A command of this kind is the issue of one decoded
instruction by a thread: it acts if the thread is in RUN or STALL and its core enabled. -/

namespace Sys2Proof.Machine

/-! ### Issue -/

/-- The threads of a quire issue nothing (R24, R111). -/
def quireHeld (s : State) (q : Nat) : Bool := tget s.seq.held false q

/-- The thread can issue (R78, R79, R111). -/
def canIssue (s : State) (q t : Nat) : Bool :=
  flagF s (F.SEQ_CTRL_RUN q) && !quireHeld s q && (thrState s q t == stRun || thrState s q t == stStall)

/-- The next instruction lies in the thread's program window (R112). -/
def pcInWindow (s : State) (q t : Nat) : Bool :=
  decide (8 * getF s (F.THR_WIN_BASE q t) ≤ (thread s q t).pc) && decide ((thread s q t).pc ≤ 8 * getF s (F.THR_WIN_LIMIT q t) + 7)

/-- One instruction issues: a fetch outside the window and a reserved field fault the thread (R80, R94). -/
def issue (s : State) (q t : Nat) (bad : Bool) (f : State → State) : State :=
  if !canIssue s q t then s
  else if !pcInWindow s q t then threadFault s q t 2
  else if bad then threadFault s q t 1
  else f s

/-- The instruction is done: the thread is in RUN, at the next instruction. -/
def advance (s : State) (q t : Nat) : State :=
  let x := (thread s q t).next
  setThrState (setThread s q t { x with wait := none }) q t stRun 0

/-- The thread changes and goes on. -/
def advanceWith (s : State) (q t : Nat) (f : Thread → Thread) : State := advance (setThread s q t (f (thread s q t))) q t

/-- The thread goes on at an address it branches to. -/
def branchTo (s : State) (q t tgt : Nat) : State :=
  setThrState (setThread s q t { (thread s q t).branch tgt with wait := none }) q t stRun 0

/-- The thread enters WAIT, with its cause and what it waits for (R79); it resumes at the instruction that follows. -/
def enterWait (s : State) (q t wcause : Nat) (w : Wait) : State :=
  setThrState (setThread s q t { (thread s q t).next with wait := some w, since := s.now }) q t stWait wcause

/-! ### Stalls (R73, R82, R96) -/

/-- A stall episode begins, unless it goes on (R82, R96). -/
def stall (s : State) (q t wcause : Nat) (w : Option Wait) : State :=
  if thrState s q t = stStall ∧ getF s (F.THR_STAT_WCAUSE q t) = wcause then s
  else
    let s := if thrState s q t = stStall then s else incF s (F.THR_CNT_STALL q t)
    let s := if wcause = 1 then incF s (F.SEQ_CNT_STALL_QFULL q) else if wcause = 2 then incF s (F.SEQ_CNT_STALL_CREDIT q) else s
    setThrState (setThread s q t { thread s q t with wait := w }) q t stStall wcause

/-- The lookahead limit holds the thread back (R73). -/
def lookaheadHeld (s : State) (q t : Nat) : Bool :=
  let m := getF s (F.SEQ_LAH_LAH_MAX q)
  m != 0 && decide (s.now + m < (thread s q t).tt)

/-- Queue depth of a channel (R81). -/
def queueDepth (k : ChanKind) : Nat := match k with | .tone => 64 | _ => 32

/-- Entries an entry or a set takes. -/
def entrySize (e : Entry) : Nat := e.members.length

/-- Entries of a channel that are taken: queued, in transit, or of a set still being built (R81, R82). -/
def entriesTaken (s : State) (c : Chan) : Nat :=
  ((queueOf s c).map entrySize).sum
    + ((s.seq.transit.filter (fun x => x.2.1 == c)).map (fun x => entrySize x.2.2)).sum
    + ((s.seq.threads.filter (fun x => x.1.1 == c.q)).map (fun x =>
        match (thread s x.1.1 x.1.2).set with
        | .building c' e => if c' = c then entrySize e else 0
        | _ => 0)).sum

/-- The queue of a channel is full. -/
def queueFull (s : State) (c : Chan) : Bool := decide (queueDepth c.kind ≤ entriesTaken s c)

/-- An instruction that places a command issues unless a limit holds it back: lookahead, a full queue, no credit (R73, R82, R96);
one that places none, as a member of a set that has failed, is not held back. -/
def commandIssue (s : State) (q t : Nat) (c : Option Chan) (credit : Bool) (f : State → State) : State :=
  match c with
  | some c =>
    if lookaheadHeld s q t then stall s q t 3 none
    else if queueFull s c then stall s q t 1 (some (.room c))
    else if credit && getF s (F.HB_RQ_CREDIT_FREE q) == 0 then stall s q t 2 none
    else f s
  | none => f s

/-- The stall of a thread ends when its cause has gone (R79). -/
def retest (s : State) (q t : Nat) : State :=
  if thrState s q t = stStall then
    let held := match getF s (F.THR_STAT_WCAUSE q t), (thread s q t).wait with
      | 1, some (.room c) => queueFull s c
      | 2, _ => getF s (F.HB_RQ_CREDIT_FREE q) == 0
      | 3, _ => lookaheadHeld s q t
      | _, _ => false
    if held then s else setThrState (setThread s q t { thread s q t with wait := none }) q t stRun 0
  else s

/-! ### Placing commands and building sets (R77, R90) -/

/-- A command or set sets out for its queue, which it reaches at the start of tick X + 2 (R77). -/
def send (s : State) (c : Chan) (e : Entry) : State :=
  { s with seq := { s.seq with transit := s.seq.transit ++ [(s.now + 2, c, e)] } }

/-- The set a thread is building. -/
def setOf (s : State) (q t : Nat) : SetState := (thread s q t).set
def setSet (s : State) (q t : Nat) (x : SetState) : State := setThread s q t { thread s q t with set := x }

/-- A command that is no member issues: a set still open fails (R90). -/
def breakSet (s : State) (q t : Nat) : State :=
  match setOf s q t with
  | .building _ _ => setSet (failSet s q t) q t .failed
  | _ => s

/-- A member that cannot belong to the open set (R90). -/
def memberBreaks (c : Chan) (tick sub : Nat) (c' : Chan) (e : Entry) : Bool :=
  c != c' || tick != e.tick || sub != e.sub || decide (4 ≤ e.members.length)

/-- A member of an alternate set issues (R90): it opens a set, joins one, closes one with L, or breaks it. DESIGN CHOICE: a member that
breaks the set and itself has L = 1 closes the failed set; the rule speaks only of the members after it (log entry 26). -/
def setMember (s : State) (q t : Nat) (c : Chan) (tick sub : Nat) (m : Option Cond × CmdBody) (l : Bool) : State :=
  match setOf s q t with
  | .none =>
    let e : Entry := ⟨t, tick, sub, [m]⟩
    if l then send s c e else setSet s q t (.building c e)
  | .building c' e =>
    if memberBreaks c tick sub c' e then setSet (failSet s q t) q t (if l then .none else .failed)
    else
      let e := { e with members := e.members ++ [m] }
      if l then send (setSet s q t .none) c e else setSet s q t (.building c e)
  | .failed => if l then setSet s q t .none else s

/-- Whether a member would be placed and so needs an entry of its channel's queue. -/
def memberChan (s : State) (q t : Nat) (a : Bool) (c : Chan) (tick sub : Nat) : Option Chan :=
  match setOf s q t with
  | .failed => if a then none else some c
  | .building c' e => if a && memberBreaks c tick sub c' e then none else some c
  | .none => some c

/-- A PLAY or FLUX issues: alone, or as a member (R90). -/
def placeMember (s : State) (q t : Nat) (a l : Bool) (cond : Nat) (c : Chan) (tick sub : Nat) (b : CmdBody) : State :=
  commandIssue s q t (memberChan s q t a c tick sub) false (fun s =>
    let s := if a then setMember s q t c tick sub (some ⟨decide (8 ≤ cond), cond % 8⟩, b) l
      else send (breakSet s q t) c ⟨t, tick, sub, [(none, b)]⟩
    advance s q t)

/-- A scalar register of a thread. -/
def sreg (s : State) (q t : Nat) (r : Fin 16) : Word := (thread s q t).s[r]

/-- The play tick of an instruction with offset OFS (R71). -/
def playTick (s : State) (q t ofs : Nat) : Nat := (thread s q t).tt + ofs

/-! ### Command instructions -/

/-- NOP (R94): nothing besides its issue. -/
def execNop (q t : Fin 16) (rsv : Bool) (s : State) : Host.Outcome State Fault Refusal :=
  .next (issue s q t rsv (fun s => advance s q t))

/-- HALT (R79): the thread enters DONE; a set it is building fails (R90). -/
def execHalt (q t : Fin 16) (rsv : Bool) (s : State) : Host.Outcome State Fault Refusal :=
  .next (issue s q t rsv (fun s => quireGate (threadEnd (setThread s q t (thread s q t).next) q t stDone) q))

/-- PLAY (R71, R90, R94, R95). -/
def execPlay (q t : Fin 16) (a l : Bool) (cond : Fin 16) (ch : Fin 32) (seg : Fin 1024) (sa : Bool) (amp : BitVec 16)
    (ofs : Fin 16384) (sub : Fin 64) (s : State) : Host.Outcome State Fault Refusal :=
  .next (issue s q t ((sa && decide (16 ≤ amp.toNat)) || flagF s (F.SEG_W1_FMT q seg)) (fun s =>
    let scale : Int := if sa then toSigned 16 ((sreg s q t (Fin.ofNat 16 amp.toNat)).toNat % 2 ^ 16) else amp.toInt
    placeMember s q t a l cond ⟨q, .tone, ch⟩ (playTick s q t ofs) sub (.segment seg scale 0)))

/-- The play time of a FLUX command in sub-ticks, rounded up to the next FLX sample boundary (R86). -/
def fluxTime (tick sub : Nat) : Nat := (64 * tick + sub + 11) / 12 * 12

/-- FLUX, mode 0 (R81, R86, R153). -/
def execFlux (q t : Fin 16) (a l : Bool) (cond : Fin 16) (ch : Fin 32) (seg : Fin 1024) (amp : BitVec 16) (ofs : Fin 16384)
    (sub : Fin 64) (s : State) : Host.Outcome State Fault Refusal :=
  .next (issue s q t (decide (24 ≤ ch.val)) (fun s =>
    let p := fluxTime (playTick s q t ofs) sub
    placeMember s q t a l cond ⟨q, .flux, ch⟩ (p / 64) (p % 64) (.segment seg amp.toInt 0)))

/-- FLUX, mode 1 (R81, R86, R161). -/
def execFluxMode1 (q t : Fin 16) (a l : Bool) (cond : Fin 16) (ch : Fin 32) (code : BitVec 20) (rsv : Bool) (ofs : Fin 16384)
    (sub : Fin 64) (s : State) : Host.Outcome State Fault Refusal :=
  .next (issue s q t (rsv || decide (24 ≤ ch.val)) (fun s =>
    let p := fluxTime (playTick s q t ofs) sub
    placeMember s q t a l cond ⟨q, .flux, ch⟩ (p / 64) (p % 64) (.ladder code.toInt)))

/-- A command that may be no set member is placed (R90). -/
def placeAlone (s : State) (q t : Nat) (c : Chan) (credit : Bool) (tick sub : Nat) (b : CmdBody) : State :=
  commandIssue s q t (some c) credit (fun s =>
    let s := if credit then setF s (F.HB_RQ_CREDIT_FREE q) (getF s (F.HB_RQ_CREDIT_FREE q) - 1) else s
    advance (send (breakSet s q t) c ⟨t, tick, sub, [(none, b)]⟩) q t)

/-- MEAS (R96): reserves a result credit in the cycle in which it issues. -/
def execMeas (q t : Fin 16) (rsv : Bool) (ch : Fin 16) (wgt : Fin 256) (len : Fin 8192) (arm : Fin 256) (ofs : Fin 16384)
    (sub : Fin 64) (s : State) : Host.Outcome State Fault Refusal :=
  .next (issue s q t (rsv || decide (len.val = 0) || decide (8000 < len.val)) (fun s =>
    placeAlone s q t ⟨q, .readout, ch⟩ true (playTick s q t ofs) sub (.meas wgt len arm)))

/-- FRAME (R85, R95). -/
def execFrame (q t : Fin 16) (rsv : Bool) (ch : Fin 32) (mode src : Bool) (ofs : Fin 16384) (val : BitVec 32) (s : State) :
    Host.Outcome State Fault Refusal :=
  .next (issue s q t rsv (fun s =>
    let v := if src then sreg s q t (Fin.ofNat 16 val.toNat) else val
    placeAlone s q t ⟨q, .tone, ch⟩ false (playTick s q t ofs) 0 (.frame mode v.toNat)))

/-- The channel an SJUMP names (R81). -/
def jumpChan (q ch : Nat) : Chan := if ch < 32 then ⟨q, .tone, ch⟩ else ⟨q, .flux, ch - 32⟩

/-- SJUMP (R81, R102): its request reaches the player at the start of tick X + 2. -/
def execSjump (q t : Fin 16) (rsv : Bool) (ch : Fin 64) (seg : Fin 1024) (s : State) : Host.Outcome State Fault Refusal :=
  .next (issue s q t (rsv || decide (56 ≤ ch.val)) (fun s =>
    advance { s with seq := { s.seq with jumps := s.seq.jumps ++ [(s.now + 2, jumpChan q ch, seg.val, t.val)] } } q t))

/-! ### Waiting and branching -/

/-- TT advances by a number of ticks. -/
def Thread.addTime (x : Thread) (n : Nat) : Thread := { x with tt := (x.tt + n) % 2 ^ 64 }

/-- WAIT, mode 0 (R71). -/
def execWaitImm (q t : Fin 16) (rsv : Bool) (imm : BitVec 32) (s : State) : Host.Outcome State Fault Refusal :=
  .next (issue s q t rsv (fun s => advanceWith s q t (fun x => x.addTime imm.toNat)))

/-- WAIT, mode 1 (R71). -/
def execWaitReg (q t : Fin 16) (rsv : Bool) (reg : Fin 16) (s : State) : Host.Outcome State Fault Refusal :=
  .next (issue s q t rsv (fun s => advanceWith s q t (fun x => x.addTime (x.s[reg]).toNat)))

/-- WAIT, mode 2 (R76). -/
def execWaitEvent (q t : Fin 16) (rsv : Bool) (ev : Fin 16) (clr : Bool) (gap : Fin 16384) (s : State) :
    Host.Outcome State Fault Refusal :=
  .next (issue s q t rsv (fun s =>
    if bitF s (F.SEQ_EVFLAG_FLAG q) ev then
      let s := advanceWith s q t (fun x => x.rebase true s.now gap)
      if clr then clearEvent s q ev else s
    else enterWait s q t 4 (.event ev clr gap)))

/-- WAITD (R76). -/
def execWaitd (q t : Fin 16) (rsv : Bool) (sub : Fin 8) (reb : Bool) (sd : Fin 16) (wr : Bool) (gap : Fin 16384)
    (tmo : Fin 65536) (s : State) : Host.Outcome State Fault Refusal :=
  .next (issue s q t rsv (fun s =>
    if subValid s q t sub then
      let p := predicate s q t sub
      advanceWith s q t (fun x =>
        let x := x.rebase reb s.now gap
        if wr then x.setReg sd (BitVec.ofNat 32 p.toNat) else x)
    else enterWait s q t 5 (.sub sub reb wr sd gap tmo)))

/-- The timeout of a thread's WAITD expires, if it has (R76). -/
def waitdTimeoutOp (s : State) (q t : Nat) : State :=
  match (thread s q t).wait with
  | some (.sub n _ _ _ _ tmo) =>
    if tmo ≠ 0 ∧ (thread s q t).since + tmo ≤ s.now then wakeSub s q t n ((thread s q t).since + tmo) true else s
  | _ => s

/-- WAITD_TIMEOUT (R76). -/
def execWaitdTimeout (q t : Fin 16) (s : State) : Host.Outcome State Fault Refusal := .next (waitdTimeoutOp s q t)

/-- BR (R75, R98). -/
def execBr (q t : Fin 16) (rsv : Bool) (tgt : Fin 131072) (s : State) : Host.Outcome State Fault Refusal :=
  .next (issue s q t rsv (fun s => branchTo s q t tgt))

/-- A branch taken or not. -/
def branchIf (s : State) (q t : Nat) (b : Bool) (tgt : Nat) : State := if b then branchTo s q t tgt else advance s q t

/-- BRE (R97). -/
def execBre (q t : Fin 16) (rsv : Bool) (ev : Fin 16) (neg clr : Bool) (tgt : Fin 131072) (s : State) :
    Host.Outcome State Fault Refusal :=
  .next (issue s q t rsv (fun s =>
    let flag := bitF s (F.SEQ_EVFLAG_FLAG q) ev
    let s := if clr && flag then clearEvent s q ev else s
    branchIf s q t (flag != neg) tgt))

/-- Condition CC of BRC. -/
def ccHolds (cc : Nat) (a b : Word) : Bool :=
  match cc with
  | 0 => a == b
  | 1 => a != b
  | 2 => a.slt b
  | 3 => !a.slt b
  | 4 => a.ult b
  | _ => !a.ult b

/-- BRC (R94). -/
def execBrc (q t : Fin 16) (rsv : Bool) (cc : Fin 8) (immb : Bool) (sa sb : Fin 16) (imm : BitVec 16) (tgt : Fin 131072)
    (s : State) : Host.Outcome State Fault Refusal :=
  .next (issue s q t (rsv || decide (6 ≤ cc.val)) (fun s =>
    branchIf s q t (ccHolds cc (sreg s q t sa) (if immb then imm.signExtend 32 else sreg s q t sb)) tgt))

/-- BRP (R76, R96). -/
def execBrp (q t : Fin 16) (rsv : Bool) (sub : Fin 8) (neg reb : Bool) (gap : Fin 16384) (tgt : Fin 131072) (s : State) :
    Host.Outcome State Fault Refusal :=
  .next (issue s q t rsv (fun s =>
    if subValid s q t sub then
      let p := predicate s q t sub
      branchIf (setThread s q t ((thread s q t).rebase reb s.now gap)) q t (p != neg) tgt
    else
      setThrState (setThread s q t { thread s q t with wait := some (.branch sub neg reb gap tgt), since := s.now }) q t stWait 5))

/-- LOOP's effect (R98): a count of zero skips the body; a fifth level and an END that does not nest fault the thread. -/
def loopOp (s : State) (q t count last : Nat) : State :=
  let x := thread s q t
  let outside := match x.loops with | l :: _ => decide (l.last < last) | [] => false
  if decide (last ≤ x.pc) || outside then threadFault s q t 1
  else if 4 ≤ x.loops.length then threadFault s q t 3
  else if count = 0 then
    let n := stepLoops last x.loops
    setThrState (setThread s q t { x with pc := n.1, loops := n.2, wait := none }) q t stRun 0
  else setThrState (setThread s q t { x with pc := x.pc + 1, loops := ⟨x.pc + 1, last, count⟩ :: x.loops, wait := none }) q t stRun 0

/-- LOOP (R98). -/
def execLoop (q t : Fin 16) (rsv : Bool) (src : Bool) (reg : Fin 16) (cnt : Fin 65536) (last : Fin 131072) (s : State) :
    Host.Outcome State Fault Refusal :=
  .next (issue s q t rsv (fun s => loopOp s q t (if src then (sreg s q t reg).toNat else cnt) last))

/-! ### Scalar instructions (R100) -/

/-- Function FN of ALU and ALUI. -/
def aluFn (fn : Nat) (a b : Word) : Word :=
  match fn with
  | 0 => a + b
  | 1 => a - b
  | 2 => a &&& b
  | 3 => a ||| b
  | 4 => a ^^^ b
  | 5 => a <<< (b.toNat % 32)
  | 6 => a >>> (b.toNat % 32)
  | 7 => a.sshiftRight (b.toNat % 32)
  | 8 => a * b
  | 9 => if a.slt b then a else b
  | 10 => if a.slt b then b else a
  | _ => b

/-- ALU (R100). -/
def execAlu (q t : Fin 16) (rsv : Bool) (sd sa sb : Fin 16) (fn : Fin 16) (s : State) : Host.Outcome State Fault Refusal :=
  .next (issue s q t (rsv || decide (12 ≤ fn.val)) (fun s =>
    advanceWith s q t (fun x => x.setReg sd (aluFn fn x.s[sa] x.s[sb]))))

/-- ALUI (R100). -/
def execAlui (q t : Fin 16) (rsv : Bool) (sd sa : Fin 16) (fn : Fin 16) (imm : BitVec 32) (s : State) :
    Host.Outcome State Fault Refusal :=
  .next (issue s q t (rsv || decide (12 ≤ fn.val)) (fun s => advanceWith s q t (fun x => x.setReg sd (aluFn fn x.s[sa] imm))))

/-- A number saturated to 32 bits, signed. -/
def sat32 (v : Int) : Int := max (-(2 ^ 31)) (min (2 ^ 31 - 1) v)

/-- The value GET writes (R100). -/
def getValue (s : State) (q t : Nat) (sel : Nat) : Word :=
  let x := thread s q t
  match sel with
  | 0 => BitVec.ofNat 32 s.now
  | 1 => BitVec.ofNat 32 (s.now / 2 ^ 32)
  | 2 => BitVec.ofNat 32 x.tt
  | 3 => BitVec.ofNat 32 (x.tt / 2 ^ 32)
  | 4 => BitVec.ofNat 32 (16 * q + t)
  | 5 => BitVec.ofInt 32 (sat32 ((x.tt : Int) - s.now))
  | 6 => BitVec.ofNat 32 (getF s (F.SEQ_EVFLAG_FLAG q))
  | _ => 0

/-- GET (R100). -/
def execGet (q t : Fin 16) (rsv : Bool) (sd : Fin 16) (sel : Fin 16) (s : State) : Host.Outcome State Fault Refusal :=
  .next (issue s q t rsv (fun s =>
    let v := getValue s q t sel
    advanceWith s q t (fun x => x.setReg sd v)))

/-! ### Stopping -/

/-- THREAD_STOP (R79, R491). -/
def execThreadStop (m : Master) (q t : Fin 16) (s : State) : Host.Outcome State Fault Refusal :=
  .next (rowWrite (.threadStop m q t) m ⟨.THR_CTRL, q, t, 0⟩ s (fun s => some (threadStop s q t)))

/-- THREAD_FLUSH (R491): STOP with FLUSH. -/
def execThreadFlush (m : Master) (q t : Fin 16) (s : State) : Host.Outcome State Fault Refusal :=
  .next (rowWrite (.threadFlush m q t) m ⟨.THR_CTRL, q, t, 0⟩ s (fun s => some (threadFlush (threadStop s q t) q t)))

/-- SEQ_CTRL.RUN is written (R74): cleared, every thread stops, without a flush. -/
def seqRunOp (q : Nat) (run : Bool) (s : State) : State :=
  let s := setB s (F.SEQ_CTRL_RUN q) run
  if run then s else (List.range 16).foldl (fun s t => threadStop s q t) s

/-- SEQ_RUN (R74). -/
def execSeqRun (m : Master) (q : Fin 16) (run : Bool) (s : State) : Host.Outcome State Fault Refusal :=
  .next (rowWrite (.seqRun m q run) m ⟨.SEQ_CTRL, q, 0, 0⟩ s (fun s => some (seqRunOp q run s)))

end Sys2Proof.Machine
end

