-- ==== Sys2Proof/Machine/Barriers.lean ====
section
/-! DEFINITION. Barriers (R99, R100, R344, R492): SYNC, the release of barriers of quire, device, cluster and shot scope, their timeout. -/

namespace Sys2Proof.Machine

/-! ### Who takes part, and who has arrived -/

/-- Thread t of quire q is set in the mask of a barrier. -/
def barMasked (s : State) (q t bar : Nat) : Bool := bitF s (F.SEQ_BAR_MASK q bar) t

/-- The quires that take part in a barrier of a scope (R99). -/
def barQuires (s : State) (scope q bar : Nat) : List Nat :=
  if scope = 0 then [q]
  else (List.range 16).filter (fun q =>
    getF s (F.SEQ_BAR_MASK q bar) != 0 && (scope == 1 || flagF s (F.SEQ_BAR_CLUSTER q bar)))

/-- The threads that take part, as quire and thread. -/
def barThreads (s : State) (scope q bar : Nat) : List (Nat × Nat) :=
  (barQuires s scope q bar).flatMap (fun q => ((List.range 16).filter (fun t => barMasked s q t bar)).map (fun t => (q, t)))

/-- A thread waits at a barrier: its GAP. -/
def atBarrier (s : State) (scope bar : Nat) (x : Nat × Nat) : Option Nat :=
  match (thread s x.1 x.2).wait with
  | some (.barrier sc b gap) => if sc = scope ∧ b = bar then some gap else none
  | _ => none

/-- Every participant has arrived (R99). -/
def barFull (s : State) (scope q bar : Nat) : Bool :=
  let ts := barThreads s scope q bar
  !ts.isEmpty && ts.all (fun x => (atBarrier s scope bar x).isSome)

/-- The largest TT of the participants. -/
def barTT (s : State) (scope q bar : Nat) : Nat := ((barThreads s scope q bar).map (fun x => (thread s x.1 x.2).tt)).foldl max 0

/-- The tick of the last arrival. -/
def barLast (s : State) (scope q bar : Nat) : Nat := ((barThreads s scope q bar).map (fun x => (thread s x.1 x.2).since)).foldl max 0

/-! ### Release -/

/-- A participant sets TT to the release tick and its own GAP, and goes on (R99). -/
def barWake (scope bar r : Nat) (s : State) (x : Nat × Nat) : State :=
  match atBarrier s scope bar x with
  | some gap => setThrState (setThread s x.1 x.2 { thread s x.1 x.2 with wait := none, tt := (r + gap) % 2 ^ 64 }) x.1 x.2 stRun 0
  | none => s

/-- A barrier releases at tick R: its participants go on, the participating quires fire barrier release (R99, R286). -/
def barRelease (s : State) (scope q bar r : Nat) : State :=
  let qs := barQuires s scope q bar
  let s := (barThreads s scope q bar).foldl (barWake scope bar r) s
  qs.foldl (fun s q => fire s (quireEvent q 23)) s

/-- The margin after the last arrival that a scope adds (R99, R492): none for a quire, the largest DEV_MARGIN of the quires, CL_MARGIN of
quire 0. -/
def barMargin (s : State) (scope bar : Nat) : Nat :=
  if scope = 1 then ((barQuires s 1 0 bar).map (fun q => getF s (F.SEQ_SYNC_DEV_MARGIN q))).foldl max 0
  else getF s (F.SEQ_SYNC_CL_MARGIN 0)

/-- The release tick R of a barrier whose last participant arrived in a tick D (R99). -/
def barTick (s : State) (scope q bar d : Nat) : Nat :=
  if scope = 0 then barTT s 0 q bar else max (barTT s scope q bar) (d + barMargin s scope bar)

/-- A barrier of quire or device scope, or of cluster scope on a standalone device, releases in the tick after the last participant
arrives (R76, R99, R492). -/
def barrierReleaseOp (s : State) (scope q bar : Nat) : State :=
  if barFull s scope q bar ∧ barLast s scope q bar < s.now ∧ (scope < 2 ∨ flagF s F.CL_CFG_EN = false) then
    barRelease s scope q bar (barTick s scope q bar (barLast s scope q bar))
  else s

/-- BARRIER_RELEASE (R99). -/
def execBarrierRelease (scope : Fin 3) (q bar : Fin 16) (s : State) : Host.Outcome State Fault Refusal :=
  .next (barrierReleaseOp s scope q bar)

/-! ### Cluster barriers (R344) -/

/-- A cluster barrier is released on this device: V is this tick (R76, R344). -/
def clusterRelease (s : State) (bar r : Nat) : State :=
  let s := { s with chain := { s.chain with sentArrive := s.chain.sentArrive.filter (· != bar) } }
  barRelease s 2 0 bar r

/-- The devices that take part in a cluster barrier (CL_BARPART). -/
def barDevices (s : State) (bar : Nat) : List Nat :=
  (List.range 64).filter (fun d => if d < 32 then bitF s (F.CL_BARPART_LO_MASK bar) d else bitF s (F.CL_BARPART_HI_MASK bar) (d - 32))

/-- The state with a device's part in a cluster barrier. -/
def setBarDevice (s : State) (bar d : Nat) (b : Bool) : State :=
  if d < 32 then setBitF s (F.CL_BARPART_LO_MASK bar) d b else setBitF s (F.CL_BARPART_HI_MASK bar) (d - 32) b

/-- The arrival of a device reaches the master: with the last of the round's set, the barrier releases (R99, R344). -/
def masterArrive (s : State) (d bar tt : Nat) : State :=
  let r := (tget s.chain.rounds none bar).getD ⟨barDevices s bar, [], 0⟩
  let r := { r with arrived := r.arrived.filter (· != d) ++ [d], tt := max r.tt tt }
  if r.devs.all (fun d => r.arrived.contains d) then
    let s := { s with chain := { s.chain with rounds := tset s.chain.rounds bar none } }
    let x := max r.tt (s.now + getF s (F.SEQ_SYNC_CL_MARGIN 0))
    clusterRelease (broadcast s (.barRelease bar x)) bar x
  else { s with chain := { s.chain with rounds := tset s.chain.rounds bar (some r) } }

/-- In a cluster, the device reports its arrival once a round, when every masked thread of its participating quires waits (R344). -/
def clusterArrive (s : State) (bar : Nat) : State :=
  if flagF s F.CL_CFG_EN ∧ barFull s 2 0 bar ∧ s.chain.sentArrive.contains bar = false then
    let tt := barTT s 2 0 bar
    let s := { s with chain := { s.chain with sentArrive := s.chain.sentArrive ++ [bar] } }
    if isMaster s then masterArrive s 0 bar tt else sendUp s ⟨getF s F.CL_STAT_DEVNUM, some 0, .barArrive bar tt⟩
  else s

/-- The barriers in which the device takes part, as a mask (R344). -/
def participation (s : State) : Nat :=
  (List.range 16).foldl (fun m b => if (barQuires s 2 0 b).isEmpty then m else m ||| 2 ^ b) 0

/-- A device's participation is entered at the master (R344). -/
def enterPart (s : State) (d bars : Nat) : State := (List.range 16).foldl (fun s b => setBarDevice s b d (bars.testBit b)) s

/-- SEQ_BAR has been written: a change of participation is reported, and a barrier may now be full (R344). -/
def barsWritten (s : State) : State :=
  let m := participation s
  let s :=
    if m = s.chain.reported then s
    else
      let s := { s with chain := { s.chain with reported := m } }
      if flagF s F.CL_CFG_EN then
        if isMaster s then enterPart s 0 m
        else if flagF s F.CL_STAT_MEMBER then sendUp s ⟨getF s F.CL_STAT_DEVNUM, some 0, .part m⟩ else s
      else s
  (List.range 16).foldl clusterArrive s

/-! ### SYNC and its timeout -/

/-- Boundaries known to the device: past ones and those announced. -/
def knownBounds (s : State) : List Nat := s.bounds ++ s.seq.announced

/-- The first boundary at or after a tick that has been announced (R492). -/
def boundFrom (s : State) (tick : Nat) : Option Nat :=
  (knownBounds s).foldl (fun b x => if tick ≤ x ∧ (b.getD x) ≥ x then some x else b) none

/-- SYNC of scope 3 (R492). -/
def syncShot (s : State) (q t gap : Nat) : State :=
  match boundFrom s (thread s q t).tt with
  | some b => advanceWith s q t (fun x => { x with tt := (b + gap) % 2 ^ 64 })
  | none => enterWait s q t 7 (.shot gap)

/-- SYNC of scope 0 to 2: the thread arrives; one the mask leaves out faults (R80, R99). -/
def syncBarrier (s : State) (q t scope bar gap : Nat) : State :=
  if barMasked s q t bar then
    let s := enterWait s q t 6 (.barrier scope bar gap)
    if scope = 2 then clusterArrive s bar else s
  else threadFault s q t 5

/-- SYNC (R99, R492). -/
def execSync (q t : Fin 16) (rsv : Bool) (scope : Fin 4) (bar : Fin 16) (gap : Fin 16384) (s : State) :
    Host.Outcome State Fault Refusal :=
  .next (issue s q t rsv (fun s =>
    if scope.val = 3 then syncShot s q t gap else syncBarrier s q t scope bar gap))

/-- A boundary is announced: threads at a shot barrier that it serves go on (R76, R99). -/
def wakeShots (s : State) (b : Nat) : State :=
  s.seq.threads.foldl (fun s x =>
    let y := thread s x.1.1 x.1.2
    match y.wait with
    | some (.shot gap) =>
      if y.tt ≤ b then
        let s := setThread s x.1.1 x.1.2 { y with wait := none, tt := (b + gap) % 2 ^ 64 }
        fire (setThrState s x.1.1 x.1.2 stRun 0) (quireEvent x.1.1 23)
      else s
    | _ => s) s

/-- A thread has waited SEQ_SYNC_TMO ticks at a barrier of scope 0 to 2 (R100). -/
def barrierTimeoutOp (s : State) (q t : Nat) : State :=
  let tmo := getF s (F.SEQ_SYNC_TMO_TMO q)
  match (thread s q t).wait with
  | some (.barrier _ _ _) =>
    if tmo ≠ 0 ∧ (thread s q t).since + tmo ≤ s.now then
      quireGate (threadFault (latch s (F.THR_LATCH_SYNC_TMO q t) (quireEvent q 2)) q t 4) q
    else s
  | _ => s

/-- BARRIER_TIMEOUT (R100). -/
def execBarrierTimeout (q t : Fin 16) (s : State) : Host.Outcome State Fault Refusal := .next (barrierTimeoutOp s q t)

end Sys2Proof.Machine
end

