-- ==== Sys2Proof/Machine/Cluster.lean ====
section
/-! DEFINITION. Clusters (R336 to R351): heartbeats and the loss of a master, joining, shot boundaries announced, the agreement by which a
change takes effect everywhere, resynchronisation. -/

namespace Sys2Proof.Machine

/-! ### Control cells (R326, R327) -/

/-- Control cells are taken on a tree port of a device in a cluster (R327). -/
def treePort (s : State) (p : Nat) : Bool := flagF s F.CL_CFG_EN && getF s (F.CHN_PORT_CFG_ROLE p) == 1

/-- A cell that travels down the tree: taken from the parent, and forwarded to every child port (R327). -/
def fromAbove (s : State) (p src : Nat) (dst : Option Nat) (m : Msg) (effect : State → State) : State :=
  laneOne s p (fun s => if treePort s p && isParent s p && !isMaster s then effect (sendDown s ⟨src, dst, m⟩) else s)

/-- A cell that travels up the tree: taken from a child port, acted on by the master, forwarded by any other device (R327). -/
def fromBelow (s : State) (p src : Nat) (m : Msg) (effect : State → State) : State :=
  laneOne s p (fun s =>
    if treePort s p && isChild s p then (if isMaster s then effect s else sendUp s ⟨src, some 0, m⟩) else s)

/-- The device's own UID. -/
def ownUid (s : State) : Nat := getF s F.CL_UID_LO_VALUE + 2 ^ 32 * getF s F.CL_UID_HI_VALUE

/-- Devices of the cluster at the master: numbers assigned (CL_MEMB). -/
def assigned (s : State) (d : Nat) : Bool :=
  if d < 32 then bitF s F.CL_MEMB_LO_MASK d else bitF s F.CL_MEMB_HI_MASK (d - 32)

/-- The state with a device number assigned or free. -/
def setAssigned (s : State) (d : Nat) (b : Bool) : State :=
  if d < 32 then setBitF s F.CL_MEMB_LO_MASK d b else setBitF s F.CL_MEMB_HI_MASK (d - 32) b

/-- A device is excluded from agreement (CL_EXCL). -/
def excluded (s : State) (d : Nat) : Bool :=
  if d < 32 then bitF s F.CL_EXCL_LO_MASK d else bitF s F.CL_EXCL_HI_MASK (d - 32)

/-! ### Shot boundaries (R341 to R343, R457) -/

/-- The least distance between boundaries (R457). -/
def minPeriod (s : State) : Nat := getF s F.PWR_SHOTCAP_PER * (if getF s F.THM_STAT_STATE = 2 then 2 else 1)

/-- The first of base, base + per, base + 2·per and so on that is no less than x. -/
def firstFrom (base per x : Nat) : Nat := base + (x - base + per - 1) / per * per

/-- The first boundary at or after x that the generator has still to announce and can announce LEAD ticks ahead (R341, R457). -/
def genNext (s : State) (x : Nat) : Option Nat :=
  let soon := max s.now s.chain.genFrom + getF s F.CL_SHOT_CTRL_LEAD
  let per := max 1 (getF s F.CL_SHOT_PER_VALUE)
  let step := max per (minPeriod s)
  if getF s F.CL_SHOT_CTRL_MODE = 1 then
    match s.chain.phase with
    | some l => some (firstFrom (l + step) step (max x soon))
    | none =>
      let b := firstFrom s.chain.next per (max soon ((s.chain.lastAnn.map (· + minPeriod s)).getD 0))
      some (firstFrom b step (max x b))
  else if getF s F.CL_SHOT_CTRL_MODE = 2 then s.chain.written.filter (fun w => decide (x ≤ w))
  else none

/-- A boundary becomes known on this device, and threads that wait for it go on (R76, R342). -/
def boundKnown (s : State) (b : Nat) : State :=
  let s := if s.seq.announced.contains b then s else { s with seq := { s.seq with announced := s.seq.announced ++ [b] } }
  wakeShots s b

/-! ### The agreement (R345 to R348) -/

/-- CL_AGREE shows an agreement's end or progress (R346). -/
def setAgree (s : State) (st code dev : Nat) : State :=
  setF (setF (setF s F.CL_AGREE_STATE st) F.CL_AGREE_CODE code) F.CL_AGREE_DEV dev

/-- The prepared shadow is discarded (R347). -/
def dropShadow (s : State) : State :=
  setB { s with chain := { s.chain with prepared := none, learned := none }, host := { s.host with shadow := [] } } F.CL_STAT_PREPARED false

/-- A prepared device learns the tick T of its commit (R347, R348): in time, it will act on T as a boundary too, which is not yet announced
by it; too late, the device goes out of epoch at T. -/
def learnT (s : State) (t : Nat) : State :=
  if s.chain.learned.isSome then s
  else if s.now + 16 ≤ t then { s with chain := { s.chain with learned := some t } }
  else
    let s := dropShadow s
    if t ≤ s.now then outOfEpoch s t else after s t (.outEpoch t)

/-- A device prepares a staged change, or refuses; the answer's code (R345, R398). -/
def prepareOwn (s : State) (epoch id : Nat) : State × Nat :=
  if flagF s F.CL_STAT_OUT_EPOCH ∨ s.host.staged = [] ∨ s.host.changeId ≠ id then (s, 1)
  else
    (setB { s with chain := { s.chain with prepared := some epoch, learned := none }
                   host := { s.host with shadow := s.host.staged, staged := [] } } F.CL_STAT_PREPARED true, 0)

/-- The first boundary at or after a tick that has been announced, or that the generator will announce (R346). -/
def boundaryFrom (s : State) (x : Nat) : Option Nat :=
  let a := s.seq.announced.foldl (fun b y => if x ≤ y ∧ (b.getD y) ≥ y then some y else b) none
  match a with
  | some b => some b
  | none => genNext s x

/-- All have accepted: T is chosen once a boundary serves, and COMMIT goes out (R346). -/
def commitIfDue (s : State) : State :=
  match s.chain.agree with
  | some a =>
    match a.done, a.t with
    | some d, none =>
      match boundaryFrom s (d + 5000) with
      | some t =>
        let s := setAgree { s with chain := { s.chain with agree := some { a with t := some t } } } 2 0 0
        let s := broadcast s (.commit a.epoch t)
        if s.chain.prepared = some a.epoch then learnT s t else { s with chain := { s.chain with missed := some t } }
      | none => s
    | _, _ => s
  | none => s

/-- The master cancels the agreement (R346). -/
def cancelAgree (s : State) (code dev : Nat) : State :=
  match s.chain.agree with
  | some a =>
    let s := broadcast { s with chain := { s.chain with agree := none } } (.cancel a.epoch)
    let s := if s.chain.prepared = some a.epoch then dropShadow s else s
    latch (setAgree s 3 code dev) F.CL_LATCH_NAK 646
  | none => s

/-- An answer reaches the master (R346): a refusal cancels, the last acceptance settles. -/
def takeAck (s : State) (dev epoch code : Nat) : State :=
  match s.chain.agree with
  | some a =>
    if a.epoch ≠ epoch ∨ a.done.isSome ∨ a.asked.contains dev = false then s
    else if code ≠ 0 then cancelAgree s code dev
    else
      let acc := a.accepted.filter (· != dev) ++ [dev]
      let full := a.asked.all (fun d => acc.contains d)
      commitIfDue { s with chain := { s.chain with agree := some { a with accepted := acc, done := if full then some s.now else none } } }
  | none => s

/-- CL_CMD.PREPARE on the master (R345): refused on a follower and while an agreement is open. -/
def preparOp (s : State) (id : Nat) : Option State :=
  if isMaster s = false ∨ s.chain.agree.isSome then none
  else
    let e := getF s F.CL_EPOCH_EPOCH + 1
    let asked := (List.range 64).filter (fun d => (assigned s d || d == 0) && !excluded s d)
    let s := { s with chain := { s.chain with agree := some ⟨e, id, s.now, asked, [], none, none⟩ } }
    let s := broadcast (setAgree s 1 0 0) (.prepare e id)
    if asked.contains 0 then
      let a := prepareOwn s e id
      some (takeAck a.1 0 e a.2)
    else some s

/-- CL_PREPARE (R345). -/
def execClPrepare (m : Master) (id : BitVec 16) (s : State) : Host.Outcome State Fault Refusal :=
  .next (regWrite m ⟨.CL_CMD, 0, 0, 0⟩ s (fun s => preparOp s id.toNat))

/-- PREPARE (R345): the device prepares and answers. -/
def execPrepare (p : Fin 8) (src : Fin 64) (epoch id : Nat) (s : State) : Host.Outcome State Fault Refusal :=
  .next (fromAbove s p src none (.prepare epoch id) (fun s =>
    let a := prepareOwn s epoch id
    sendUp a.1 ⟨getF s F.CL_STAT_DEVNUM, some 0, .ack epoch a.2⟩))

/-- ACK (R346). -/
def execAck (p : Fin 8) (src : Fin 64) (epoch code : Nat) (s : State) : Host.Outcome State Fault Refusal :=
  .next (fromBelow s p src (.ack epoch code) (fun s => takeAck s src epoch code))

/-- CL_PREP_TMO has passed and not all have accepted: the first silent device is named (R346). -/
def prepareTimeout (s : State) : State :=
  match s.chain.agree with
  | some a =>
    if a.done = none ∧ a.opened + max 1 (getF s F.CL_PREP_TMO_TICKS) ≤ s.now then
      cancelAgree s 255 ((a.asked.find? (fun d => !a.accepted.contains d)).getD 0)
    else s
  | none => s

/-- PREPARE_TIMEOUT (R346). -/
def execPrepareTimeout (s : State) : Host.Outcome State Fault Refusal := .next (prepareTimeout s)

/-- A commit of an epoch is learned (R347): ignored out of epoch (R349); a device not prepared remembers T. -/
def learnCommit (s : State) (epoch t : Nat) : State :=
  if flagF s F.CL_STAT_OUT_EPOCH then s
  else if s.chain.prepared = some epoch then learnT s t
  else if getF s F.CL_EPOCH_EPOCH < epoch then { s with chain := { s.chain with missed := some (s.chain.missed.getD t) } } else s

/-- COMMIT (R347). -/
def execCommit (p : Fin 8) (src : Fin 64) (epoch t : Nat) (s : State) : Host.Outcome State Fault Refusal :=
  .next (fromAbove s p src none (.commit epoch t) (fun s => learnCommit s epoch t))

/-- CANCEL (R347). -/
def execCancel (p : Fin 8) (src : Fin 64) (epoch : Nat) (s : State) : Host.Outcome State Fault Refusal :=
  .next (fromAbove s p src none (.cancel epoch) (fun s => if s.chain.prepared = some epoch then dropShadow s else s))

/-! ### The generator's commands and the SHOT message -/

/-- The generator announces boundary B at B − LEAD (R341). -/
def shotAnnounceOp (s : State) : State :=
  match genNext s 0 with
  | some b =>
    if isMaster s ∧ b = s.now + getF s F.CL_SHOT_CTRL_LEAD then
      let s' := broadcast s (.shot b s.chain.lastAnn)
      let periodic := getF s F.CL_SHOT_CTRL_MODE = 1
      let s' := { s' with chain := { s'.chain with
        lastAnn := some b, phase := if periodic then some b else s'.chain.phase
        written := if periodic then s'.chain.written else none } }
      commitIfDue (boundKnown s' b)
    else s
  | none => s

/-- SHOT_ANNOUNCE (R341). -/
def execShotAnnounce (s : State) : Host.Outcome State Fault Refusal := .next (shotAnnounceOp s)

/-- A write of CL_SHOT_NEXT_HI commits the pair (R341, R457). -/
def shotNextOp (s : State) (hi : Nat) : Option State :=
  let b := getF s F.CL_SHOT_NEXT_LO_VALUE + 2 ^ 32 * hi
  let mode := getF s F.CL_SHOT_CTRL_MODE
  let near : Bool := match s.chain.lastAnn with
    | some l => decide (b ≤ l) || (isMaster s && decide (b < l + minPeriod s))
    | none => false
  if mode = 2 ∧ (b < s.now / 4 * 4 + 4 + getF s F.CL_SHOT_CTRL_LEAD ∨ near = true) then none
  else
    let s := setF s F.CL_SHOT_NEXT_HI_VALUE hi
    let s := { s with chain := { s.chain with
      next := b, phase := if mode = 1 then none else s.chain.phase
      genFrom := if mode = 1 then s.now / 4 * 4 + 4 else s.chain.genFrom, written := if mode = 2 then some b else s.chain.written } }
    some (commitIfDue s)

/-- SHOT_NEXT_WRITE (R341): a write of CL_SHOT_NEXT_HI. -/
def execShotNextWrite (m : Master) (hi : BitVec 32) (s : State) : Host.Outcome State Fault Refusal :=
  .next (regWrite m ⟨.CL_SHOT_NEXT_HI, 0, 0, 0⟩ s (fun s => shotNextOp s hi.toNat))

/-- A SHOT message shows that a boundary has been missed (R343): the device goes out of epoch, tainted from that boundary on. -/
def shotMissed (s : State) (prev : Option Nat) : State :=
  match prev with
  | some b =>
    if s.bounds.head? = some b ∨ s.seq.announced.contains b ∨ s.chain.learned = some b then s
    else outOfEpoch (latch s F.CL_LATCH_LATE_SHOT 642) b
  | none => s

/-- A SHOT message names boundary B (R342): received by B − 16 it is acted on; later, the device goes out of epoch at B. -/
def shotReceived (s : State) (b : Nat) : State :=
  if s.now + 16 ≤ b then boundKnown s b
  else
    let s := latch s F.CL_LATCH_LATE_SHOT 642
    if b ≤ s.now then outOfEpoch s b else after s b (.outEpoch b)

/-- SHOT (R342, R343). -/
def execShot (p : Fin 8) (src : Fin 64) (b : Nat) (prev : Option Nat) (s : State) : Host.Outcome State Fault Refusal :=
  .next (fromAbove s p src none (.shot b prev) (fun s => shotReceived (shotMissed s prev) b))

/-! ### Cluster barriers -/

/-- BAR_ARRIVE (R344). -/
def execBarArrive (p : Fin 8) (src : Fin 64) (bar : Fin 16) (tt : Nat) (s : State) : Host.Outcome State Fault Refusal :=
  .next (fromBelow s p src (.barArrive bar tt) (fun s => masterArrive s src bar tt))

/-- BAR_RELEASE (R99). -/
def execBarRelease (p : Fin 8) (src : Fin 64) (bar : Fin 16) (r : Nat) (s : State) : Host.Outcome State Fault Refusal :=
  .next (fromAbove s p src none (.barRelease bar r) (fun s => clusterRelease s bar r))

/-- PART (R344). -/
def execPart (p : Fin 8) (src : Fin 64) (bars : Fin 65536) (s : State) : Host.Outcome State Fault Refusal :=
  .next (fromBelow s p src (.part bars) (fun s => enterPart s src bars))

/-! ### Joining (R339) -/

/-- The number the master gives a UID: the one it has, or the lowest free from 1 to 63 (R339). -/
def numberFor (s : State) (uid : Nat) : Option Nat :=
  match s.chain.devs.find? (fun x => x.1 == uid) with
  | some x => some x.2
  | none => ((List.range 64).filter (fun d => d != 0 && !assigned s d)).head?

/-- JOIN at the master (R339): the answer leaves on the port the JOIN came by. -/
def joinOp (s : State) (p uid bars : Nat) : State :=
  match numberFor s uid with
  | some d =>
    let s := setAssigned { s with chain := { s.chain with devs := s.chain.devs.filter (fun x => x.1 != uid) ++ [(uid, d)] } } d true
    sendControl (enterPart s d bars) p ⟨0, some d, .assign uid d (getF s F.CL_EPOCH_EPOCH)⟩
  | none => sendControl s p ⟨0, none, .refuse uid⟩

/-- JOIN (R339): from any tree port but the parent's. -/
def execJoin (p : Fin 8) (src : Fin 64) (uid : Nat) (bars : Fin 65536) (s : State) : Host.Outcome State Fault Refusal :=
  .next (laneOne s p (fun s =>
    if treePort s p && !isParent s p then
      (if isMaster s then joinOp s p uid bars else sendUp s ⟨src, some 0, .join uid bars⟩)
    else s))

/-- The tree port whose peer has a UID and which is no child port yet. -/
def joinerPort (s : State) (uid p : Nat) : Bool :=
  portRuns s p && getF s (F.CHN_PORT_CFG_ROLE p) == 1 && !flagF s (F.CHN_PORT_STAT_CHILD p) && !isParent s p
    && getF s (F.CHN_PEER_UID_LO_UID p) + 2 ^ 32 * getF s (F.CHN_PEER_UID_HI_UID p) == uid

/-- An answer to a JOIN: for this device on the port of its JOIN, else passed down the tree and on to the joiner's port (R327, R339). -/
def joinAnswer (s : State) (p src : Nat) (dst : Option Nat) (uid : Nat) (m : Msg) (effect : State → State) : State :=
  laneOne s p (fun s =>
    if treePort s p && !isMaster s then
      if uid = ownUid s ∧ s.chain.joining = some p then effect s
      else if isParent s p then sendControls (sendDown s ⟨src, dst, m⟩) ⟨src, dst, m⟩ (joinerPort s uid) else s
    else s)

/-- An assigned follower adopts number and epoch, and takes the candidate as its parent (R339). -/
def assignOp (s : State) (p dev epoch : Nat) : State :=
  let s := setF (setB (setF s F.CL_STAT_DEVNUM dev) F.CL_STAT_MEMBER true) F.CL_EPOCH_EPOCH epoch
  let s := { s with chain := { s.chain with joining := none, heard := s.now, masterUid := (portOf s p).hb.map (·.uid) } }
  takeParent s p

/-- ASSIGN (R339). -/
def execAssign (p : Fin 8) (src : Fin 64) (uid : Nat) (dev : Fin 64) (epoch : Nat) (s : State) : Host.Outcome State Fault Refusal :=
  .next (joinAnswer s p src (some dev) uid (.assign uid dev epoch) (fun s => assignOp s p dev epoch))

/-- REFUSE (R339): the device takes no parent and stays in UNSYNC. -/
def execRefuse (p : Fin 8) (src : Fin 64) (uid : Nat) (s : State) : Host.Outcome State Fault Refusal :=
  .next (joinAnswer s p src none uid (.refuse uid) (fun s => latch s F.CL_LATCH_REFUSED 644))

/-! ### Heartbeats (R337, R340, R347, R348) -/

/-- The pending commit the device's heartbeats carry: the master's own, or the parent's (R340). -/
def pendingCommit (s : State) : Option (Nat × Nat) :=
  if isMaster s then
    match s.chain.agree with
    | some a => a.t.map (fun t => (a.epoch, t % 2 ^ 32))
    | none => none
  else
    match (portOf s (getF s F.TB_TSTAT_PARENT)).hb with
    | some h => if flagF s F.TB_TSTAT_PARENT_VALID && h.pending then some (h.pendEpoch, h.pendT) else none
    | none => none

/-- An agreement is open, as the device's heartbeats carry it (R340). -/
def agreementOpen (s : State) : Bool :=
  if isMaster s then
    match s.chain.agree with
    | some a => a.t.isNone
    | none => false
  else flagF s F.TB_TSTAT_PARENT_VALID && (((portOf s (getF s F.TB_TSTAT_PARENT)).hb.map (·.isOpen)).getD false)

/-- The heartbeat of this device on a port (R326, R340). -/
def heartbeatOut (s : State) (p : Nat) : Heartbeat :=
  let c := pendingCommit s
  { cid := getF s F.CL_CID_VALUE, epoch := getF s F.CL_EPOCH_EPOCH
    uid := if isMaster s then ownUid s else s.chain.masterUid.getD 0
    hops := Fin.ofNat 64 (hopsSent s), parent := isParent s p, isOpen := agreementOpen s
    pending := c.isSome, pendEpoch := (c.map (·.1)).getD 0, pendT := (c.map (·.2)).getD 0 }

/-- Every 1,024 ticks a heartbeat goes out on each tree port in Run (R340). -/
def heartbeatSend (s : State) : State :=
  if flagF s F.CL_CFG_EN ∧ (s.chain.beat.map (· + 1024)).getD 0 ≤ s.now then
    (List.range 8).foldl (fun s p =>
      if treePort s p && portRuns s p then sendControl s p ⟨getF s F.CL_STAT_DEVNUM, none, .heartbeat (heartbeatOut s p)⟩ else s)
      { s with chain := { s.chain with beat := some s.now } }
  else s

/-- HEARTBEAT_SEND (R340). -/
def execHeartbeatSend (s : State) : Host.Outcome State Fault Refusal := .next (heartbeatSend s)

/-- The tick nearest to now whose bits [31:0] are given (PEND_T). -/
def tickNear (now lo : Nat) : Nat := ((now : Int) + toSigned 32 ((lo + 2 ^ 32 - now % 2 ^ 32) % 2 ^ 32)).toNat

/-- What a follower learns from its parent's heartbeat (R347, R348). -/
def parentHeartbeat (s : State) (h : Heartbeat) : State :=
  let e := getF s F.CL_EPOCH_EPOCH
  let s := { s with chain := { s.chain with masterUid := some h.uid, heard := s.now } }
  let s := setB s F.CL_STAT_MASTER_LOST false
  if e < h.epoch then outOfEpoch (dropShadow s) (s.chain.missed.getD s.now)
  else if h.pending then learnCommit s h.pendEpoch (tickNear s.now h.pendT)
  else if h.isOpen = false ∧ h.epoch = e ∧ s.chain.prepared.isSome then dropShadow s
  else s

/-- A master candidate hears of another master of its cluster: a lower UID fences it until reset, a higher one is ignored (R337). -/
def otherMaster (s : State) (h : Heartbeat) : State :=
  if h.uid < ownUid s then
    outOfEpoch (latch { s with chain := { s.chain with dual := true } } F.CL_LATCH_DUAL_MASTER 643) s.now
  else s

/-- A heartbeat is received (R337, R338, R340). -/
def heartbeatOp (s : State) (p src : Nat) (h : Heartbeat) : State :=
  if isMaster s ∧ h.cid = getF s F.CL_CID_VALUE ∧ h.uid ≠ ownUid s then otherMaster s h
  else
    let s := setPort (setF s (F.CHN_PORT_STAT_PEER_DEV p) src) p { portOf s p with hb := some h }
    let s := setB s (F.CHN_PORT_STAT_CHILD p) h.parent
    if isMaster s then s
    else
      let s := if h.parent = false ∧ s.chain.masterUid = some h.uid then
        setB { s with chain := { s.chain with heard := s.now } } F.CL_STAT_MASTER_LOST false else s
      let s := parentSelect s
      if isParent s p && flagF s F.CL_STAT_MEMBER then parentHeartbeat s h else s

/-- HEARTBEAT (R340). -/
def execHeartbeat (p : Fin 8) (src : Fin 64) (h : Heartbeat) (s : State) : Host.Outcome State Fault Refusal :=
  .next (laneOne s p (fun s => if treePort s p then heartbeatOp s p src h else s))

/-- No heartbeat naming the master within CL_MTMO ticks (R340): MASTER_LOST, and HOLD (R55). -/
def masterTimeout (s : State) : State :=
  if isMaster s = false ∧ flagF s F.CL_STAT_MEMBER ∧ s.chain.heard + max 1 (getF s F.CL_MTMO_TICKS) ≤ s.now
      ∧ flagF s F.CL_STAT_MASTER_LOST = false then
    enterHold (latch (setB s F.CL_STAT_MASTER_LOST true) F.CL_LATCH_MASTER_LOST 645)
  else s

/-- MASTER_TIMEOUT (R340). -/
def execMasterTimeout (s : State) : Host.Outcome State Fault Refusal := .next (masterTimeout s)

/-! ### Resynchronisation (R350) -/

/-- The device is resynchronised to an epoch (R350): only one out of epoch, and one that is fenced only with its reference present (R55);
a second master candidate stays out of epoch until reset (R337). -/
def resyncOp (s : State) (epoch : Nat) : State :=
  if flagF s F.CL_STAT_OUT_EPOCH = false ∨ s.chain.dual = true
      ∨ (timeStatus s = tsFenced ∧ flagF s F.TB_REF_STAT_REF_PRESENT = false) then s
  else
    let s := dropShadow { s with host := { s.host with staged := [] } }
    let s := { s with chain := { s.chain with missed := none } }
    let s := setF s F.CL_STAT_LAG (min 255 (epoch - getF s F.CL_EPOCH_EPOCH))
    let s := setB (setF s F.CL_EPOCH_EPOCH epoch) F.CL_STAT_OUT_EPOCH false
    let s := fenceMute s false
    if timeStatus s = tsFenced then leaveUnsync (setTimeStatus s tsUnsync) else s

/-- CL_CMD.RESYNC (R350): its own number resynchronises the device itself, refused while its reference is not present. -/
def clResyncOp (s : State) (target : Nat) : Option State :=
  if isMaster s = false then none
  else if target = 0 then
    (if flagF s F.TB_REF_STAT_REF_PRESENT then some (resyncOp s (getF s F.CL_EPOCH_EPOCH)) else none)
  else some (sendDown s ⟨0, some target, .resync (getF s F.CL_EPOCH_EPOCH)⟩)

/-- CL_RESYNC (R350). -/
def execClResync (m : Master) (target : Fin 64) (s : State) : Host.Outcome State Fault Refusal :=
  .next (regWrite m ⟨.CL_CMD, 0, 0, 0⟩ s (fun s => clResyncOp s target))

/-- RESYNC (R350): for the device numbered `dst`. -/
def execResync (p : Fin 8) (src dst : Fin 64) (epoch : Nat) (s : State) : Host.Outcome State Fault Refusal :=
  .next (fromAbove s p src (some dst) (.resync epoch) (fun s =>
    if flagF s F.CL_STAT_MEMBER && getF s F.CL_STAT_DEVNUM == dst.val then resyncOp s epoch else s))

/-! ### Enabling the cluster (R336) -/

/-- CL_CFG.EN has been written (R336, R339): a master candidate is device 0; leaving the cluster frees every number; a device that becomes
its own master leaves UNSYNC (R55). -/
def clusterEnabled (s : State) (en : Bool) : State :=
  let s := { s with chain := { s.chain with
    devs := [], rounds := [], agree := none, lastAnn := none, phase := none, joining := none, reported := 0, sentArrive := []
    heard := s.now, masterUid := none, beat := none } }
  let s := dropShadow (setAgree s 0 0 0)
  let s := (List.range 16).foldl (fun s b => setF (setF s (F.CL_BARPART_LO_MASK b) 0) (F.CL_BARPART_HI_MASK b) 0) s
  let s := setF (setF s F.CL_MEMB_LO_MASK 0) F.CL_MEMB_HI_MASK 0
  let s := setB (setF (setB s F.CL_STAT_MEMBER false) F.CL_STAT_DEVNUM 0) F.CL_STAT_MASTER_LOST false
  let s := if flagF s F.TB_TSTAT_PARENT_VALID then dropParent s else s
  let s := setB s F.CL_STAT_MASTER (isMaster s)
  let s := setF s F.CL_STAT_HOPS (if isMaster s then 0 else 15)
  let s := if en && isMaster s then setB (setAssigned s 0 true) F.CL_STAT_MEMBER true else s
  leaveUnsync (barsWritten s)

end Sys2Proof.Machine
end

