-- ==== Sys2Proof/Machine/Deckle.lean ====
section
/-! DEFINITION. Deckle windows, trip groups and trip lines, the external trip and the threshold read-back: the rows of chapter 06. -/

namespace Sys2Proof.Machine

/-! ### Windows (R177 to R181) -/

/-- The window is outside (DK_STAT). -/
def winOutside (s : State) (w : Nat) : Bool := bitF s (F.DK_STAT_STATE (w / 32)) (w % 32)

/-- The latch of a window is set (DK_LATCH). -/
def winLatched (s : State) (w : Nat) : Bool := bitF s (F.DK_LATCH_LATCH (w / 32)) (w % 32)

/-- A level lies beyond a threshold of the window (R177). -/
def beyond (s : State) (w : Nat) (level : Int) : Bool :=
  decide ((getF s (F.DK_WIN_THR_UPPER w) : Int) < level) || decide (level < (getF s (F.DK_WIN_THR_LOWER w) : Int))

/-- A level lies inside the thresholds less the hysteresis (R177). -/
def within (s : State) (w : Nat) (level : Int) : Bool :=
  decide (level < (getF s (F.DK_WIN_THR_UPPER w) : Int) - getF s (F.DK_WIN_CFG_HYST w))
    && decide ((getF s (F.DK_WIN_THR_LOWER w) : Int) + getF s (F.DK_WIN_CFG_HYST w) < level)

/-- The converter die domain a window is powered by: flux, bias and read-out windows with their die (R179, R436). -/
def winDie (w : Nat) : Option Nat :=
  if w < 384 then some (80 + 8 * (w / 96) + 7)
  else if w < 416 then some (80 + 8 * ((w - 384) / 8) + 7)
  else if w < 432 then some (80 + 8 * ((w - 416) / 4) + 7)
  else none

/-- The window is powered (R179). -/
def winPowered (s : State) (w : Nat) : Bool :=
  match winDie w with
  | some d => domainOn s d
  | none => true

/-- The window is enabled and powered. -/
def winOn (s : State) (w : Nat) : Bool := flagF s (F.DK_WIN_CFG_EN w) && winPowered s w

/-! ### Trips (R182 to R185, R493) -/

/-- The windows whose latch is set. -/
def latchedWindows (s : State) : List Nat :=
  (List.range 15).flatMap (fun k =>
    if getF s (F.DK_LATCH_LATCH k) = 0 then [] else ((List.range 32).filter (bitF s (F.DK_LATCH_LATCH k))).map (32 * k + ·))

/-- The trip groups asserted (R182, R187): by a latched window with TRIP_EN, or by the external latch. -/
def assertedGroups (s : State) : List Nat :=
  let byWin := ((latchedWindows s).filter (fun w => flagF s (F.DK_WIN_CFG_TRIP_EN w))).map (fun w => getF s (F.DK_WIN_CFG_GROUP w))
  let byExt := if flagF s F.DK_EXT_CTRL_LATCH then (List.range 32).filter (bitF s F.DK_EXT_GMASK) else []
  (List.range 32).filter (fun g => byWin.contains g || byExt.contains g)

/-- A group reaches output bit n of quire q (R182): the quire is in its mask, and the map of its line names the output. -/
def reaches (s : State) (g q n : Nat) : Bool :=
  bitF s (F.DK_GRP_QMASK_QMASK g) q && bitF s (F.DK_QMAP_MAP q (getF s (F.DK_GRP_CFG_LINE g))) n

/-- The most severe action of the groups given that reach an output, with that group (R184). DESIGN CHOICE: among groups of one action the
lowest, whose BIAS_RAMP then governs (log entry 89). -/
def worst (s : State) (gs : List Nat) (q n : Nat) : Option (Nat × Nat) :=
  (gs.filter (fun g => reaches s g q n)).foldl (fun o g =>
    let a := getF s (F.DK_GRP_CFG_ACTION g)
    match o with
    | none => some (a, g)
    | some (a', g') => if severity a' < severity a then some (a, g) else some (a', g')) none

/-- The trip of a drive or probe output follows the groups that reach it (R183 to R186). -/
def drvTripUpdate (s : State) (gs : List Nat) (q o : Nat) : State :=
  match worst s gs q o with
  | some _ =>
    if flagF s (F.DRV_STAT_TRIP q o) then s
    else drvUpdate (markOutputLate (setB s (F.DRV_STAT_TRIP q o) true) q o) q o (s.now + 10)
  | none => if flagF s (F.DRV_STAT_TRIP q o) then drvUpdate
      (setOutput (setB s (F.DRV_STAT_TRIP q o) false) q o { outputOf s q o with tripTo := s.now + 10 }) q o (s.now + 10) else s

/-- The trip of a flux channel follows the groups that reach it. -/
def flxTripUpdate (s : State) (gs : List Nat) (q i : Nat) : State :=
  match worst s gs q (5 + i) with
  | some (a, _) => fluxTrip (markLate s ⟨q, .flux, i⟩) q i a
  | none => if flagF s (F.FLX_STAT_TRIP q i) then fluxRelease s q i else s

/-- The trip of a bias source follows the groups that reach it. -/
def biasTripUpdate (s : State) (gs : List Nat) (q b : Nat) : State :=
  match worst s gs q (29 + b) with
  | some (a, g) => biasTrip s q b a (getF s (F.DK_GRP_CFG_BIAS_RAMP g))
  | none => if flagF s (F.BIAS_STAT_TRIP q b) then biasRelease s q b else s

/-- Groups and trips follow windows, external latch and maps (R182, R493); a trip abandons a Sizing procedure of its quire (R422). -/
def tripUpdate (s : State) : State :=
  let gs := assertedGroups s
  let s := (List.range 32).foldl (fun s g =>
    if flagF s (F.DK_GRP_CFG_ASSERTED g) = gs.contains g then s else setB s (F.DK_GRP_CFG_ASSERTED g) (gs.contains g)) s
  (List.range 16).foldl (fun s q =>
    let s := (List.range 5).foldl (fun s o => drvTripUpdate s gs q o) s
    let s := (List.range 24).foldl (fun s i => flxTripUpdate s gs q i) s
    let s := (List.range 2).foldl (fun s b => biasTripUpdate s gs q b) s
    if (szOf s q).active && (List.range 31).any (fun n => (worst s gs q n).isSome) then szAbandon s q else s) s

/-- The latch of a window sets (R180, R181): counted, its event raised; the taint of a rail window is separate (R186). -/
def winLatchSet (s : State) (w : Nat) : State :=
  let s := incF s (F.DK_WIN_CNT_TRIPS w)
  let s := setBitF s (F.DK_LATCH_LATCH (w / 32)) (w % 32) true
  tripUpdate (fire s (464 + getF s (F.DK_WIN_CFG_GROUP w)))

/-- An enabled and armed rail window that is outside taints the shot of the tick with cause "supply dip" (R186). -/
def railTaint (s : State) (w : Nat) : State :=
  if 432 ≤ w ∧ (windowOf s w).armed ∧ winOn s w ∧ winOutside s w then addTaint s ⟨s.now, none, .dip⟩ else s

/-- The input of an enabled window goes beyond a threshold (R177, R180, R181): outside, counted, and latched if armed. -/
def winCross (s : State) (w : Nat) : State :=
  let s := incF (setBitF s (F.DK_STAT_STATE (w / 32)) (w % 32) true) (F.DK_WIN_CNT_CROSS w)
  let s := railTaint s w
  if (windowOf s w).armed && !winLatched s w then winLatchSet s w else s

/-- The input of a window moves to a level, in threshold codes: the window becomes outside beyond a threshold, and inside within the
hysteresis (R177). A window that is off follows nothing (R179). -/
def winLevel (s : State) (w : Nat) (level : Int) : State :=
  let s := setWindow s w { windowOf s w with level := level }
  if !winOn s w then s
  else if !winOutside s w && beyond s w level then winCross s w
  else if winOutside s w && within s w level then setBitF s (F.DK_STAT_STATE (w / 32)) (w % 32) false
  else s

/-- WINDOW_CROSSING (R180): the input of a window moves to a level. -/
def execWindowCrossing (w : Fin 456) (level : Int) (s : State) : Host.Outcome State Fault Refusal := .next (winLevel s w level)

/-- WINDOW_INSIDE (R177): the input of a window moves to a level. -/
def execWindowInside (w : Fin 456) (level : Int) (s : State) : Host.Outcome State Fault Refusal := .next (winLevel s w level)

/-- The latch of a window is armed, 2 µs after enable or a threshold write (R178): it sets at once if the input lies fully beyond. -/
def winArmOp (w : Nat) (s : State) : State :=
  let s := setWindow s w { windowOf s w with armAt := none, armed := true }
  let s := railTaint s w
  if winOn s w && beyond s w (windowOf s w).level && !winLatched s w then winLatchSet s w else s

/-- WINDOW_ARM (R178): when the 2 µs have passed. -/
def execWindowArm (w : Fin 456) (s : State) : Host.Outcome State Fault Refusal :=
  match (windowOf s w).armAt with
  | some t => if t ≤ s.now then .next (winArmOp w s) else .next s
  | none => .next s

/-- The window disarms, and is armed again 2 µs on (R178). -/
def winDisarm (s : State) (w : Nat) : State :=
  setWindow s w { windowOf s w with armed := false, armAt := some (s.now + 1000) }

/-- Thresholds and hysteresis of a window are written (R177, R178): refused if L ≥ U; the latch disarms; the comparators follow. -/
def winThrOp (w upper lower hyst : Nat) (s : State) : Option State :=
  if upper ≤ lower then none
  else
    let s := setF (setF (setF s (F.DK_WIN_THR_UPPER w) upper) (F.DK_WIN_THR_LOWER w) lower) (F.DK_WIN_CFG_HYST w) hyst
    let s := if flagF s (F.DK_WIN_CFG_EN w) then winDisarm s w else s
    some (winLevel s w (windowOf s w).level)

/-- DK_WIN_THR_WRITE (R178). -/
def execDkWinThrWrite (m : Master) (w : Fin 456) (upper lower : Fin 1024) (hyst : Fin 8) (s : State) :
    Host.Outcome State Fault Refusal :=
  .next (rowWrite (.dkWinThrWrite m w upper lower hyst) m ⟨.DK_WIN_THR, w, 0, 0⟩ s (winThrOp w upper lower hyst))

/-- A window is enabled, or its converter die is powered again (R178, R179): inside at first, it follows its input, and its latch is armed
2 µs on. -/
def winStart (s : State) (w : Nat) : State :=
  winLevel (winDisarm (setBitF s (F.DK_STAT_STATE (w / 32)) (w % 32) false) w) w (windowOf s w).level

/-- A window is disabled, or its converter die is off (R179): it is neither outside nor armed; its latch holds. -/
def winStop (s : State) (w : Nat) : State :=
  setWindow (setBitF s (F.DK_STAT_STATE (w / 32)) (w % 32) false) w { windowOf s w with armed := false, armAt := none }

/-- The Deckle windows of a converter die. -/
def dieWindows (g : Nat) : List Nat := (List.range 432).filter (fun w => winDie w == some (80 + 8 * g + 7))

/-- The domains of a converter die switch on or off (R436): its windows follow (R179). -/
def setDie (s : State) (g : Nat) (b : Bool) : State :=
  let was := domainOn s (80 + 8 * g + 7)
  let s := setDomains s (80 + 8 * g) 8 b
  if b && !was then (dieWindows g).foldl (fun s w => if winOn s w then winStart s w else s) s
  else if !b && was then (dieWindows g).foldl winStop s
  else s

/-- DK_WIN_CFG is written (R178, R179, R493): an enabled window starts as inside and is armed 2 µs on; a disabled one is off. -/
def winCfgOp (w : Nat) (en tripEn clrShot : Bool) (group : Nat) (s : State) : Option State :=
  if w = 453 ∧ en ≠ flagF s (F.DK_WIN_CFG_EN w) ∧ s.deckle.vddq = false then none
  else
    let was := flagF s (F.DK_WIN_CFG_EN w)
    let s := setB (setB (setB s (F.DK_WIN_CFG_EN w) en) (F.DK_WIN_CFG_TRIP_EN w) tripEn) (F.DK_WIN_CFG_CLR_SHOT w) clrShot
    let s := setF s (F.DK_WIN_CFG_GROUP w) group
    let s := if en && !was then winStart s w else if !en && was then winStop s w else s
    some (tripUpdate s)

/-- A write to the maps (R493): groups, actions, quire masks, output maps and the external mask act at once; ACTION 3 is refused. -/
def dkMapOp (x : DkMap) (s : State) : Option State :=
  match x with
  | .cfg w en tripEn clrShot group => winCfgOp w en tripEn clrShot group s
  | .group g action line ramp =>
    if action.val = 3 then none
    else
      let s := setF (setF s (F.DK_GRP_CFG_ACTION g) action) (F.DK_GRP_CFG_LINE g) line
      some (tripUpdate (setF s (F.DK_GRP_CFG_BIAS_RAMP g) ramp))
  | .qmask g mask => some (tripUpdate (setF s (F.DK_GRP_QMASK_QMASK g) mask.toNat))
  | .qmap q line map => some (tripUpdate (setF s (F.DK_QMAP_MAP q line) map.toNat))
  | .ext gmask => some (tripUpdate (setF s F.DK_EXT_GMASK gmask.toNat))

/-- The register a map write goes to. -/
def dkMapReg : DkMap → Reg
  | .cfg w _ _ _ _ => ⟨.DK_WIN_CFG, w, 0, 0⟩
  | .group g _ _ _ => ⟨.DK_GRP_CFG, g, 0, 0⟩
  | .qmask g _ => ⟨.DK_GRP_QMASK, g, 0, 0⟩
  | .qmap q line _ => ⟨.DK_QMAP, q, line, 0⟩
  | .ext _ => ⟨.DK_EXT, 0, 0, 0⟩

/-- DK_MAP_WRITE (R493). -/
def execDkMapWrite (m : Master) (x : DkMap) (s : State) : Host.Outcome State Fault Refusal :=
  .next (rowWrite (.dkMapWrite m x) m (dkMapReg x) s (dkMapOp x))

/-- A window's latch is cleared, by software or at a boundary: it stays set while the window is outside, which is counted (R180). -/
def winClear (s : State) (w : Nat) : State :=
  if !winLatched s w then s
  else if winOutside s w then incF s (F.DK_WIN_CNT_HELD w)
  else setBitF s (F.DK_LATCH_LATCH (w / 32)) (w % 32) false

/-- The external latch is cleared, unless TRIPIN_N is still low (R187). -/
def extClear (s : State) : State := if flagF s F.DK_EXT_CTRL_PIN then setB s F.DK_EXT_CTRL_LATCH false else s

/-- Software writes 1 to a window or external latch (R180, R185, R187). -/
def latchClearOp (l : DkLatch) (s : State) : State :=
  match l with
  | .window w => tripUpdate (winClear s w)
  | .external => tripUpdate (extClear s)

/-- The register of a latch. -/
def dkLatchReg : DkLatch → Reg
  | .window w => ⟨.DK_LATCH, w / 32, 0, 0⟩
  | .external => ⟨.DK_EXT_CTRL, 0, 0, 0⟩

/-- DK_LATCH_CLEAR (R180). -/
def execDkLatchClear (m : Master) (l : DkLatch) (s : State) : Host.Outcome State Fault Refusal :=
  .next (regWrite m (dkLatchReg l) s (fun s => some (latchClearOp l s)))

/-- TRIPIN_N has been low for at least 10 ns (R187): the external latch sets and asserts the groups of DK_EXT. -/
def tripInOp (low : Bool) (s : State) : State :=
  if low then
    let s := setB s F.DK_EXT_CTRL_PIN false
    if flagF s F.DK_EXT_CTRL_LATCH then s
    else tripUpdate (incF (latch s F.DK_EXT_CTRL_LATCH 496) F.DK_EXT_CTRL_COUNT)
  else setB s F.DK_EXT_CTRL_PIN true

/-- TRIPIN_FALL (R187): the pin goes low for long enough, or high again. -/
def execTripinFall (low : Bool) (s : State) : Host.Outcome State Fault Refusal := .next (tripInOp low s)

/-! ### Threshold read-back (R188) -/

/-- A write of DK_RB starts a read-back: refused while one runs, or for a window that does not exist. -/
def readBackOp (win : Nat) (upper : Bool) (s : State) : Option State :=
  if flagF s F.DK_RB_BUSY ∨ 456 ≤ win then none
  else
    let s := setB (setB (setF s F.DK_RB_WIN win) F.DK_RB_SIDE upper) F.DK_RB_BUSY true
    some { s with deckle := { s.deckle with rb := some (win, upper.toNat) } }

/-- THRESHOLD_READBACK (R188). -/
def execThresholdReadback (m : Master) (win : Fin 512) (upper : Bool) (s : State) : Host.Outcome State Fault Refusal :=
  .next (regWrite m ⟨.DK_RB, 0, 0, 0⟩ s (readBackOp win upper))

/-- The read-back result arrives: zero with ERR if the window's converter die is off. -/
def readBackDone (result : Nat) (s : State) : State :=
  match s.deckle.rb with
  | none => s
  | some (w, _) =>
    let s := setB { s with deckle := { s.deckle with rb := none } } F.DK_RB_BUSY false
    if winPowered s w then setB (setF s F.DK_RB_DATA_RESULT result) F.DK_RB_DATA_ERR false
    else setB (setF s F.DK_RB_DATA_RESULT 0) F.DK_RB_DATA_ERR true

/-- READBACK_DONE (R188): the conversion's result is an operand, since the threshold DACs are analogue. -/
def execReadbackDone (result : BitVec 16) (s : State) : Host.Outcome State Fault Refusal := .next (readBackDone result.toNat s)

end Sys2Proof.Machine
end

