-- ==== Sys2Proof/Machine/Store.lean ====
section
/-! DEFINITION. The Ream store (R366 to R369): records, the queue of store commands, and the end of a store. -/

namespace Sys2Proof.Machine

/-- The record of an item, if it has one. -/
def recordOf (s : State) (i : StoreItem) : Option Record := tget s.store.records none i

/-- The content of an item's record; none where it has no valid one, and reads as its default (R367). -/
def recordData (s : State) (i : StoreItem) : Option StoreData :=
  match recordOf s i with
  | some r => if r.valid then some r.content else none
  | none => none

/-- The state with the record of an item. -/
def setRecord (s : State) (i : StoreItem) (r : Record) : State :=
  { s with store := { s.store with records := tset s.store.records i (some r) } }

/-- Commands that wait are shown (REAM_STAT.QUEUED). -/
def storeShow (s : State) : State := setF s F.REAM_STAT_QUEUED s.store.stores.length

/-- A store command joins the queue; with 16 waiting it does not (R368). -/
def queueStore (s : State) (c : StoreCmd) : Option State :=
  if 16 ≤ s.store.stores.length then none
  else some (storeShow { s with store := { s.store with stores := s.store.stores ++ [c] } })

/-- The next store begins: its record is invalid until it completes (R367, R368). -/
def storeStart (s : State) : State :=
  match s.store.running, s.store.stores with
  | none, c :: rest =>
    if flagF s F.PWR_STAT_CORE_WARN then s
    else
      let s := storeShow { s with store := { s.store with running := some c, stores := rest } }
      setB (setRecord s c.item ⟨false, ((recordOf s c.item).map (·.seq)).getD 0, .empty⟩) F.REAM_STAT_BUSY true
  | _, _ => s

/-- REAM_STORE_START (R368). -/
def execReamStoreStart (s : State) : Host.Outcome State Fault Refusal := .next (storeStart s)

/-- The store that runs is aborted (R369): its record stays invalid; of a field set, STORE_FAIL is set (R432). -/
def storeAbort (s : State) : State :=
  match s.store.running with
  | some c =>
    let s := setB { s with store := { s.store with running := none } } F.REAM_STAT_BUSY false
    let s := fire (incF (setB s F.REAM_STAT_ABORT true) F.REAM_CNT_ABORTS) 553
    match c.item with
    | .fieldSet q => latch s (F.SZ_Q_LATCH_STORE_FAIL q) (658 + q)
    | _ => s
  | none => s

/-- The store that runs completes (R367, R369). -/
def storeComplete (s : State) : State :=
  match s.store.running with
  | some c =>
    let s := setRecord s c.item ⟨true, (((recordOf s c.item).map (·.seq)).getD 0 + 1) % 2 ^ 32, c.content⟩
    let s := setB { s with store := { s.store with running := none } } F.REAM_STAT_BUSY false
    fire (incF s F.REAM_CNT_STORES) 552
  | none => s

/-- REAM_STORE_COMPLETE (R369). -/
def execReamStoreComplete (s : State) : Host.Outcome State Fault Refusal := .next (storeComplete s)

end Sys2Proof.Machine
end

