-- ==== Sys2Proof/Machine/Sizing.lean ====
section
/-! DEFINITION. Sizing (R419 to R434): runs and their procedures, the check of measured values, calibration sets and interpolation, and the
placing of values into force. -/

namespace Sys2Proof.Machine

/-! ### Placing values (R426) -/

/-- The field of a value is a redundant unit-cell selection, placed only while the quire is idle (R426). -/
def isCellSel (v : SzValue) : Bool :=
  match v.field with
  | .cellSel _ => true
  | _ => false

/-- A coefficient of a Press section, in its shadow and in force. -/
def placeIir (s : State) (q i place : Nat) (f : Fld) (code : Int) : State :=
  let s := setF s f (ofSigned 24 code)
  { s with out := { s.out with press := tset s.out.press (q, i, place) (ofSigned 24 code) } }

/-- One value comes into force (R426). -/
def placeValue (s : State) (q : Nat) (v : SzValue) : State :=
  match v.field with
  | .calSub o => setF s (F.DRV_DELAY_CAL_SUB q o) v.code.toNat
  | .trim o => setF s (F.DRV_DELAY_TRIM q o) v.code.toNat
  | .xgain i =>
    setF { s with out := { s.out with xgain := tset s.out.xgain (q, i.val) none } } (F.FLX_XGAIN_GAIN q i) v.code.toNat
  | .pdCoef o k =>
    let s := setF s (F.DRV_PD_COEF_COEF q o k) (ofSigned 18 v.code)
    { s with out := { s.out with pd := tset s.out.pd (q, o.val, k.val) (ofSigned 18 v.code) } }
  | .iirC0 i k => placeIir s q i (3 * k) (F.FLX_IIR_C0_COEF q i k) v.code
  | .iirC1 i k => placeIir s q i (3 * k + 1) (F.FLX_IIR_C1_COEF q i k) v.code
  | .iirD i k => placeIir s q i (3 * k + 2) (F.FLX_IIR_D_COEF q i k) v.code
  | .internal p n => { s with sizing := { s.sizing with trims := tset s.sizing.trims (q, p.val, n) v.code } }
  | .cellSel n => { s with sizing := { s.sizing with trims := tset s.sizing.trims (q, 8, n) v.code } }

/-- Values come into force, in order. -/
def placeValues (s : State) (q : Nat) (vs : List SzValue) : State := vs.foldl (fun s v => placeValue s q v) s

/-- A gain match that waits travels with the next user commit of its channel (R158). -/
def xgainWaits (s : State) (q : Nat) (v : SzValue) : State :=
  match v.field with
  | .xgain i => { s with out := { s.out with xgain := tset s.out.xgain (q, i.val) (some v.code.toNat) } }
  | _ => s

/-- Values are ready (R426): placed at once in an idle quire, else they wait for a boundary, a unit-cell selection for idle. -/
def valuesReady (s : State) (q : Nat) (run : Bool) (vs : List SzValue) : State :=
  if quireIdle s q then placeValues s q vs
  else
    let x := szOf s q
    vs.foldl (fun s v => xgainWaits s q v) (setSz s q { x with ready := x.ready ++ [(s.now, run, vs)] })

/-- The values of a quire that a shot boundary places: those ready for at least 16 ticks, interpolated ones before a run's (R426, R435);
unit-cell selections wait on. -/
def boundaryPlace (s : State) (q : Nat) : State :=
  let x := szOf s q
  let due := x.ready.filter (fun r => decide (r.1 + 16 ≤ s.now))
  let vals := ((due.filter (fun r => !r.2.1)) ++ (due.filter (fun r => r.2.1))).flatMap (fun r => r.2.2)
  let wait := due.map (fun r => (r.1, r.2.1, r.2.2.filter isCellSel)) ++ x.ready.filter (fun r => decide (s.now < r.1 + 16))
  placeValues (setSz s q { x with ready := wait.filter (fun r => !r.2.2.isEmpty) }) q (vals.filter (fun v => !isCellSel v))

/-- Sizing's part of the calibration step of a boundary (R30, R426). -/
def sizingBoundary (s : State) : State := s.sizing.quires.foldl (fun s x => boundaryPlace s x.1) s

/-- The unit-cell selections that wait for an idle quire (R426). -/
def placeCells (s : State) (q : Nat) : State :=
  let x := szOf s q
  let cells := (x.ready.flatMap (fun r => r.2.2)).filter isCellSel
  if cells.isEmpty then s
  else
    let rest := (x.ready.map (fun r => (r.1, r.2.1, r.2.2.filter (fun v => !isCellSel v)))).filter (fun r => !r.2.2.isEmpty)
    placeValues (setSz s q { x with ready := rest }) q cells

/-- The idle time of a quire at the start of a tick (R421). -/
def sizingTickOne (s : State) (q : Nat) : State :=
  let x := szOf s q
  if quireIdle s q then placeCells (if x.idleSince.isSome then s else setSz s q { x with idleSince := some s.now }) q
  else if x.idleSince.isSome then setSz s q { x with idleSince := none } else s

/-- Sizing at the start of a tick. -/
def sizingTick (s : State) : State := (List.range 16).foldl sizingTickOne s

/-! ### Interpolation (R429, R430) -/

/-- The value of a field at a point, if the point holds it. -/
def pointValue (p : SzPoint) (f : SzField) : Option Int := (p.values.find? (fun v => v.field == f)).map (·.code)

/-- The nearest code to va + (vb − va)(T − Ta)/(Tb − Ta), with ties toward va (R429). -/
def between (va vb : Int) (num den : Int) : Int :=
  let d := (vb - va) * num
  let m : Int := (2 * (d.natAbs : Int) + den - 1) / (2 * den)
  if d < 0 then va - m else va + m

/-- A field interpolated at a temperature over points in rising order (R429). -/
def interpolate (f : SzField) (t : Int) : List (Int × Int) → Option Int
  | [] => none
  | [(_, v)] => some v
  | (ta, va) :: (tb, vb) :: r =>
    if t ≤ ta then some va
    else if t ≤ tb then
      match f with
      | .cellSel _ => some (if 2 * (t - ta) ≤ tb - ta then va else vb)
      | _ => some (between va vb (t - ta) (tb - ta))
    else interpolate f t ((tb, vb) :: r)

/-- A point put in its place by temperature. -/
def insertPoint (p : SzPoint) : List SzPoint → List SzPoint
  | [] => [p]
  | x :: r => if p.temp ≤ x.temp then p :: x :: r else x :: insertPoint p r

/-- The points of a quire's set, by temperature. -/
def setPoints (x : Sizing) : List SzPoint := (x.factory ++ x.field).foldr insertPoint []

/-- The fields the set holds, each once. -/
def setFields (x : Sizing) : List SzField :=
  (setPoints x).foldl (fun fs p => p.values.foldl (fun fs v => if fs.contains v.field then fs else fs ++ [v.field]) fs) []

/-- The values of the set at a temperature (R429). -/
def valuesAt (x : Sizing) (t : Int) : List SzValue :=
  (setFields x).filterMap (fun f =>
    (interpolate f t ((setPoints x).filterMap (fun p => (pointValue p f).map (fun v => (p.temp, v))))).map
      (fun v => (⟨f, v, 0, 0, 0⟩ : SzValue)))

/-- The quire's temperature. -/
def szNow (s : State) (q : Nat) : Int := getS s (F.SZ_Q_TEMP_NOW q)

/-- Interpolation is evaluated at the present temperature; not while EN = 0 (R430). -/
def szEvaluate (s : State) (q : Nat) : State :=
  if flagF s (F.SZ_Q_CFG_EN q) then
    let x := szOf s q
    let t := szNow s q
    valuesReady (setSz s q { x with evalAt := some t }) q false (valuesAt x t)
  else s

/-- SZ_Q_STAT.POINTS: three factory points and the field points. -/
def szPoints (s : State) (q : Nat) : State :=
  let x := szOf s q
  setF s (F.SZ_Q_STAT_POINTS q) ((if x.factory.isEmpty then 3 else x.factory.length) + x.field.length)

/-! ### Runs (R421 to R425, R432) -/

/-- ΔT in 1/16 °C. -/
def szDt (s : State) : Int := 16 * getF s F.SZ_CTRL_DT

/-- Some drive or probe output of a quire is enabled. -/
def anyOutputOn (s : State) (q : Nat) : Bool := (List.range 5).any (fun o => flagF s (F.DRV_CFG_EN q o))

/-- Procedures act on nothing and are skipped otherwise (R419, R420). -/
def procActs (s : State) (q p : Nat) : Bool :=
  let line := flagF s (F.SZ_Q_CFG_LINE_EN q)
  let flux := fun b => (List.range 24).any (fun i => flagF s (F.FLX_CFG_EN q i) == b)
  match p with
  | 0 => true
  | 1 => flagF s (F.HB_STAT_ADC_READY q)
  | 2 => line && anyOutputOn s q
  | 3 => line && flagF s (F.SZ_Q_CFG_OWN_PD q) && anyOutputOn s q
  | 4 => line && anyOutputOn s q
  | 5 => flux false
  | 6 => flux false || (line && flux true)
  | 7 => (List.range 2).any (fun b => !flagF s (F.BIAS_CFG_EN q b))
  | _ => line

/-- The lowest capture unit of a region that is in IDLE or DONE and not held (R423). -/
def freeUnit (s : State) (g : Nat) : Option Nat :=
  ((List.range 4).map (· + 4 * g)).find? (fun u => capStill s u && !capHeldBySizing s u)

/-- A run is due or in progress. -/
def szBusy (x : Sizing) : Bool := !x.todo.isEmpty || x.background || x.wanted.isSome

/-- SZ_Q_STAT shows the state of the run. -/
def szRefresh (s : State) (q : Nat) : State := setB (szShow s q) (F.SZ_Q_STAT_DUE q) (szBusy (szOf s q))

/-- A run becomes due (R425): its background procedure starts at once; a further trigger has no effect. -/
def szTrigger (s : State) (q : Nat) : State :=
  let x := szOf s q
  if szBusy x ∨ flagF s (F.SZ_Q_CFG_EN q) = false then s
  else
    szRefresh (setSz s q { x with
      todo := [0, 5, 7, 6, 4, 2, 3], background := procActs s q 1, press := none, rejected := false, abandoned := false
      placed := false, got := [] }) q

/-- Where a new point replaces a field point, or is added (R432). -/
def addPoint (dt : Int) (x : Sizing) (p : SzPoint) : Sizing :=
  let near := x.field.find? (fun f => decide (2 * (f.temp - p.temp).natAbs ≤ dt))
  let count := (if x.factory.isEmpty then 3 else x.factory.length) + x.field.length
  let closest := x.field.foldl (fun b f =>
    match b with
    | some y => if (f.temp - p.temp).natAbs < (y.temp - p.temp).natAbs then some f else some y
    | none => some f) (none : Option SzPoint)
  let out := match near with
    | some f => some f
    | none => if 8 ≤ count then closest else none
  { x with field := x.field.filter (fun f => some f != out) ++ [p] }

/-- The values of a new point: those the run measured, the rest as interpolated (R432). -/
def pointOf (x : Sizing) (t : Int) : SzPoint :=
  ⟨t, x.got ++ (valuesAt x t).filter (fun v => x.got.all (fun g => g.field != v.field))⟩

/-- The field set as its record holds it (R433): the field points, and the Press block as a point of its own. -/
def setRecordOf (x : Sizing) : List SzPoint := x.field ++ (if x.block.isEmpty then [] else [⟨0, x.block⟩])

/-- A run ends (R425, R432). -/
def runEnd (s : State) (q : Nat) : State :=
  let x := szOf s q
  let t := szNow s q
  let s := incF (setS s (F.SZ_Q_TEMP_LAST q) t) (F.SZ_Q_CNT_RUNS q)
  if x.rejected = false ∧ x.abandoned = false ∧ x.placed = true then
    let s := fire (setB s (F.SZ_Q_LATCH_APPLIED q) true) 554
    let y := addPoint (szDt s) x (pointOf x t)
    let s := szPoints (setSz s q { y with press := none }) q
    szEvaluate ((queueStore s ⟨.fieldSet q, .points (setRecordOf y)⟩).getD s) q
  else setSz s q { x with press := none }

/-- The next procedure of a run begins, those that act on nothing skipped; with none left the run ends (R419, R421, R423). -/
def szNext (s : State) (q : Nat) : State :=
  let x := szOf s q
  let rest := x.todo.dropWhile (fun p => !procActs s q p)
  let s := setSz s q { x with todo := rest, active := false, held := none }
  match rest with
  | [] => szRefresh (if x.background then s else runEnd s q) q
  | p :: _ =>
    let x := szOf s q
    if procHolds p then
      match freeUnit s (q / 4) with
      | some u => szRefresh (capStop (setSz s q { x with active := true, held := some u }) u true) q
      | none => szRefresh (setSz s q { x with active := true }) q
    else szRefresh (setSz s q { x with active := true }) q

/-- Quires whose idle run may begin: a run due with procedures to do, or a Press fit, after 16 idle ticks (R421, R434). -/
def szReady (s : State) (q : Nat) : Bool :=
  let x := szOf s q
  (!x.todo.isEmpty || (x.wanted.isSome && !x.background)) && !x.active && quireIdle s q && domainOn s (5 * q)
    && (match x.idleSince with
        | some t => decide (t + 16 ≤ s.now)
        | none => false)

/-- An idle run begins or goes on: one at a time in a region, the lowest quire first (R421, R423); not under a supply warning (R422), and
not while the region's Vatman is down. A run that waits for a capture unit looks for one again. -/
def idleRunStart (s : State) (q : Nat) : State :=
  let region := (List.range 4).map (· + 4 * (q / 4))
  if szWaits (szOf s q) ∧ quireIdle s q = true then szNext s q
  else if szReady s q ∧ flagF s F.PWR_STAT_CORE_WARN = false ∧ (tget s.power.vatman 0 (q / 4)) % 2 = 0
      ∧ region.all (fun r => !(szOf s r).active && (decide (q ≤ r) || !szReady s r)) then
    let x := szOf s q
    let s := match x.todo, x.wanted with
      | [], some ch => setSz s q { x with
          todo := [8], wanted := none, press := some ch, rejected := false, abandoned := false, placed := false, got := [] }
      | _, _ => s
    szNext s q
  else s

/-- SIZING_IDLE_RUN_START (R421). -/
def execSizingIdleRunStart (q : Fin 16) (s : State) : Host.Outcome State Fault Refusal := .next (idleRunStart s q)

/-- SIZING_RUN (R425): a write of SZ_Q_CMD.RUN. -/
def execSizingRun (m : Master) (q : Fin 16) (s : State) : Host.Outcome State Fault Refusal :=
  .next (regWrite m ⟨.SZ_Q_CMD, q, 0, 0⟩ s (fun s => some (szTrigger s q)))

/-- A write of SZ_Q_CMD.ABORT abandons the procedure that runs in the first tick after its REG cycle (R422). -/
def szAbortAt (s : State) (q : Nat) : State := after s (regDelay s.now 0) (.szAbort q)
def szAbortEffect (s : State) (q : Nat) : State := szRefresh (szAbandon s q) q

/-- SIZING_ABORT (R422): a write of SZ_Q_CMD.ABORT. -/
def execSizingAbort (m : Master) (q : Fin 16) (s : State) : Host.Outcome State Fault Refusal :=
  .next (regWrite m ⟨.SZ_Q_CMD, q, 0, 0⟩ s (fun s => some (szAbortAt s q)))

/-- SZ_Q_CMD.PRESS (R434). -/
def pressRequest (s : State) (q ch : Nat) : Option State :=
  if 24 ≤ ch ∨ flagF s (F.FLX_CFG_EN q ch) = false ∨ getF s (F.SZ_Q_CFG_PRESS_SEC q) = 0 ∨ flagF s (F.SZ_Q_CFG_LINE_EN q) = false then none
  else
    let x := szOf s q
    some (if x.wanted.isSome then s else szRefresh (setSz s q { x with wanted := some ch }) q)

/-- PRESS_FIT_REQUEST (R434). -/
def execPressFitRequest (m : Master) (q : Fin 16) (ch : Fin 32) (s : State) : Host.Outcome State Fault Refusal :=
  .next (regWrite m ⟨.SZ_Q_CMD, q, 0, 0⟩ s (fun s => pressRequest s q ch))

/-! ### Values checked (R431) -/

/-- Size and change limits of a coefficient, in thousandths of the table's unit: least and greatest magnitude, and greatest change. -/
def limits (proc kind : Nat) : Option (Nat × Nat × Option Nat) :=
  match proc, kind with
  | 0, 0 => some (0, 60000, some 10000)
  | 0, 1 => some (0, 8000, some 2000)
  | 1, 0 => some (0, 32000, some 4000)
  | 1, 1 => some (0, 3000, some 200)
  | 1, 2 => some (0, 10000, some 1000)
  | 3, 0 => some (0, 500, some 1000)
  | 3, 1 => some (500, 1900, some 1000)
  | 4, _ => some (0, 100000, some 10000)
  | 5, _ => some (0, 8000, some 2000)
  | 7, 0 => some (0, 5000, some 1000)
  | 7, 1 => some (0, 1000, some 200)
  | 8, 0 => some (1, 500, none)
  | 8, 1 => some (1000, 100000000, none)
  | 8, 2 => some (0, 1500, none)
  | _, _ => none

/-- A code lies within its field. -/
def withinField (v : SzValue) : Bool :=
  match v.field with
  | .calSub _ => decide (0 ≤ v.code) && decide (v.code < 32)
  | .trim _ => decide (0 ≤ v.code) && decide (v.code < 128)
  | .xgain _ => decide (0 ≤ v.code) && decide (v.code < 65536)
  | .pdCoef _ _ => decide (-131072 ≤ v.code) && decide (v.code < 131072)
  | .iirC0 _ _ | .iirC1 _ _ | .iirD _ _ => decide (-8388608 ≤ v.code) && decide (v.code < 8388608)
  | _ => true

/-- A value passes the check of its procedure (R431). -/
def valueOk (proc : Nat) (v : SzValue) : Bool :=
  withinField v &&
  (if proc = 2 then decide (v.change.natAbs ≤ 20000)
   else if proc = 6 then decide (v.change.natAbs ≤ 50)
   else
    match limits proc v.kind with
    | some (lo, hi, ch) =>
      decide (lo ≤ v.size.natAbs) && decide (v.size.natAbs ≤ hi) && (match ch with | some c => decide (v.change.natAbs ≤ c) | none => true)
        && (proc != 3 || v.kind.val != 1 || decide (0 ≤ v.size))
    | none => true)

/-- The resource of a value is one a procedure acts on (R133, R419): an enabled output, a flux channel that is silent or may be driven, the
channel of the Press fit; every other resource is skipped. -/
def actsOn (s : State) (q : Nat) (v : SzValue) : Bool :=
  match v.field with
  | .calSub o | .trim o => flagF s (F.DRV_CFG_EN q o)
  | .pdCoef o _ => flagF s (F.DRV_CFG_EN q o) && flagF s (F.SZ_Q_CFG_OWN_PD q)
  | .xgain i => !flagF s (F.FLX_CFG_EN q i) || flagF s (F.SZ_Q_CFG_LINE_EN q)
  | .iirC0 i _ | .iirC1 i _ | .iirD i _ => (szOf s q).press == some i.val
  | .internal _ _ | .cellSel _ => true

/-- The first failing value of a procedure, of those of the resources it acts on. -/
def firstFailing (s : State) (q proc : Nat) (vs : List SzValue) : Option Nat :=
  vs.findIdx? (fun v => actsOn s q v && !valueOk proc v)

/-- A procedure's values are rejected (R431). -/
def procReject (s : State) (q proc index : Nat) : State :=
  let s := setF (setF s (F.SZ_Q_REJ_PROC q) proc) (F.SZ_Q_REJ_INDEX q) index
  let s := incF (fire (setB s (F.SZ_Q_LATCH_REJECT q) true) 555) (F.SZ_Q_CNT_REJECT q)
  setSz s q { szOf s q with rejected := true }

/-- A value of a Press section, which belongs to the Press block and is not interpolated (R434). -/
def isPress (v : SzValue) : Bool :=
  match v.field with
  | .iirC0 _ _ | .iirC1 _ _ | .iirD _ _ => true
  | _ => false

/-- Values replace those of the same fields in a list. -/
def mergeValues (old new : List SzValue) : List SzValue := old.filter (fun g => new.all (fun v => v.field != g.field)) ++ new

/-- A procedure's values are accepted: they are ready (R426, R431); those of a Press fit go into the Press block (R434). -/
def procAccept (s : State) (q : Nat) (vs : List SzValue) : State :=
  let x := szOf s q
  let s := setSz s q { x with
    placed := x.placed || !vs.isEmpty
    got := mergeValues x.got (vs.filter (fun v => !isPress v))
    block := mergeValues x.block (vs.filter isPress) }
  valuesReady s q true vs

/-- The Press sections Sizing owns, lowest first. -/
def pressSections (s : State) (q : Nat) : List Nat := (List.range 8).filter (bitF s (F.SZ_Q_CFG_PRESS_SEC q))

/-- The term a value of a Press fit belongs to. -/
def pressTerm (v : SzValue) : Nat :=
  match v.field with
  | .iirC0 _ k | .iirC1 _ k | .iirD _ k => k
  | _ => 0

/-- A value with its term put into a section. -/
def inSection (v : SzValue) (k : Nat) : SzValue :=
  match v.field with
  | .iirC0 i _ => { v with field := .iirC0 i (Fin.ofNat 8 k) }
  | .iirC1 i _ => { v with field := .iirC1 i (Fin.ofNat 8 k) }
  | .iirD i _ => { v with field := .iirD i (Fin.ofNat 8 k) }
  | _ => v

/-- A fit is loaded (R434): its terms, in order, into the sections Sizing owns, lowest first; the sections left unused are cleared. -/
def pressLoad (s : State) (q : Nat) (vs : List SzValue) : List SzValue :=
  let secs := pressSections s q
  let used := (vs.map (fun v => pressTerm v + 1)).foldl max 0
  let ch : Fin 24 := Fin.ofNat 24 ((szOf s q).press.getD 0)
  let clear := (secs.drop used).flatMap (fun k =>
    [(⟨.iirC0 ch (Fin.ofNat 8 k), 0, 0, 0, 0⟩ : SzValue), ⟨.iirC1 ch (Fin.ofNat 8 k), 0, 0, 0, 0⟩, ⟨.iirD ch (Fin.ofNat 8 k), 0, 0, 0, 0⟩])
  (vs.filter (fun v => decide (pressTerm v < secs.length))).map (fun v => inSection v (secs.getD (pressTerm v) 0)) ++ clear

/-- The values of a procedure that come into force: those of the resources it acts on, of a Press fit as loaded. -/
def procValues (s : State) (q proc : Nat) (vs : List SzValue) : List SzValue :=
  let l := vs.filter (actsOn s q)
  if proc = 8 then pressLoad s q l else l

/-- The values of a procedure are judged. -/
def procJudge (s : State) (q proc : Nat) (vs : List SzValue) : State :=
  match firstFailing s q proc vs with
  | some i => procReject s q proc i
  | none => procAccept s q (procValues s q proc vs)

/-- The procedure that runs ends with its values (R431): the background procedure, or the present one of the idle run. -/
def procedureDone (s : State) (q proc : Nat) (vs : List SzValue) : State :=
  let x := szOf s q
  if proc = 1 then
    if x.background then
      let s := procJudge s q 1 vs
      let s := setSz s q { szOf s q with background := false }
      szRefresh (if (szOf s q).todo.isEmpty then runEnd s q else s) q
    else s
  else if szRuns x = true ∧ x.todo.head? = some proc then
    let s := procJudge s q proc vs
    szNext (setSz s q { szOf s q with todo := x.todo.drop 1 }) q
  else s

/-- PROCEDURE_COMPLETE (R431): with the values it measured, in point-block order. -/
def execProcedureComplete (q : Fin 16) (proc : Fin 9) (values : List SzValue) (s : State) : Host.Outcome State Fault Refusal :=
  .next (procedureDone s q proc values)

/-! ### Temperature (R424, R425, R430) -/

/-- The temperature makes a run due (R424, R425): with SZ_CTRL.AUTO = 1 and sensors that work, NOW and LAST differ by more than DT. -/
def szTempTrigger (s : State) (q : Nat) : State :=
  if flagF s F.SZ_CTRL_AUTO ∧ flagF s (F.SZ_Q_STAT_TFAIL q) = false
      ∧ szDt s < ((szNow s q - getS s (F.SZ_Q_TEMP_LAST q)).natAbs : Int) then szTrigger s q
  else s

/-- The temperature of a quire is updated; none: every sensor of its zone has failed (R424). -/
def tempUpdate (s : State) (q : Nat) (t : Option Int) : State :=
  match t with
  | none => setB s (F.SZ_Q_STAT_TFAIL q) true
  | some v =>
    let s := setB (setS s (F.SZ_Q_TEMP_NOW q) v) (F.SZ_Q_STAT_TFAIL q) false
    let moved := match (szOf s q).evalAt with
      | some e => decide (8 ≤ (szNow s q - e).natAbs)
      | none => true
    let s := if moved then szEvaluate s q else s
    szTempTrigger s q

/-- TEMP_UPDATE (R424): the mean of the working sensors of the zone over 64 ms, in 1/16 °C. -/
def execTempUpdate (q : Fin 16) (t : Option Int) (s : State) : Host.Outcome State Fault Refusal := .next (tempUpdate s q t)

/-! ### Sets written (R433) -/

/-- A set may be written: no run of the quire is due or in progress (R433). -/
def szWritable (s : State) (q : Nat) : Bool := !szBusy (szOf s q)

/-- The factory points are replaced, the field points stay (R433). -/
def factoryWrite (s : State) (q : Nat) (ps : List SzPoint) : State :=
  szEvaluate (szPoints (setSz s q { szOf s q with factory := ps }) q) q

/-- Every value of every point passes the check against the factory points; a point lists its procedures' values with their numbers. -/
def pointsOk (ps : List (SzPoint × List Nat)) : Bool :=
  ps.all (fun p => (p.1.values.zip p.2).all (fun x => valueOk x.2 x.1) && p.1.values.length == p.2.length)

/-- The points of a record, and its Press block (R433). -/
def recordPoints (ps : List SzPoint) : List SzPoint :=
  (ps.filter (fun p => p.values.isEmpty || p.values.any (fun v => !isPress v))).map (fun p =>
    { p with values := p.values.filter (fun v => !isPress v) })
def recordBlock (ps : List SzPoint) : List SzValue := ps.flatMap (fun p => p.values.filter isPress)

/-- The field set is replaced (R433): its points, and its Press block, which is placed as it stands. -/
def fieldWrite (s : State) (q : Nat) (ps : List SzPoint) : State :=
  let s := setSz s q { szOf s q with field := recordPoints ps, block := recordBlock ps }
  let s := szEvaluate (szPoints s q) q
  if (recordBlock ps).isEmpty then s else valuesReady s q true (recordBlock ps)

end Sys2Proof.Machine
end

