-- ==== Sys2Proof/Machine/Power.lean ====
section
/-! DEFINITION. Power states, supplies and thermal management (R436 to R446, R452 to R459). -/

namespace Sys2Proof.Machine

/-! ### Converter dies switched off and on (R132, R164, R446) -/

/-- The quires of a region. -/
def regionQuires (g : Nat) : List Nat := [4 * g, 4 * g + 1, 4 * g + 2, 4 * g + 3]

/-- A flux channel is in its off state: switch open, ladder at zero, without a ramp (R164). -/
def fluxOff (s : State) (q i : Nat) : State :=
  let s := slowTake (switchOpenOp q i s) q i
  setFlux (setS s (F.FLX_LADDER_NOW_CODE q i) 0) q i { fluxOf s q i with tripAct := none }

/-- A drive or probe output is in its off state: its CW amplitude cut (R132). -/
def driveOff (s : State) (q o : Nat) : State :=
  setB (setOutput s q o { outputOf s q o with cwAmp := 0, ramp := none }) (F.DRV_STAT_CW_RAMPING q o) false

/-- The ADC of a feedline is powered down (R193). -/
def adcOff (s : State) (q : Nat) : State :=
  { setB s (F.HB_STAT_ADC_READY q) false with head := { s.head with adcBy := tset s.head.adcBy q none } }

/-- The outputs and ADCs of a quire go to their off states. -/
def quireOutputsOff (s : State) (q : Nat) : State :=
  let s := (List.range 5).foldl (fun s o => driveOff s q o) s
  (List.range 24).foldl (fun s i => fluxOff s q i) (adcOff s q)

/-- The bias sources of a quire are off, any sequence ended. -/
def quireBiasOff (s : State) (q : Nat) : State :=
  let s := if (tget s.out.seqs none q).isSome then setSeq s q none else s
  (List.range 2).foldl (fun s b => if flagF s (F.BIAS_STAT_SWITCH q b) then biasOpen s q b else s) s

/-- The outputs of a region go to their off states without ramps; its capture units lose their taps (R305, R446). -/
def regionOutputsOff (s : State) (g : Nat) : State :=
  let s := (regionQuires g).foldl (fun s q => quireBiasOff (quireOutputsOff s q) q) s
  (regionQuires g).foldl (fun s u => capStop s u false) s

/-- Enabled outputs and ADCs of a quire start again when their domains are back (R440). -/
def quireOutputsOn (s : State) (q : Nat) : State :=
  let s := (List.range 5).foldl (fun s o =>
    if flagF s (F.DRV_CFG_EN q o) && !flagF s (F.DRV_STAT_MUTED q o) then
      cwRampFrom s q o 0 (getS s (F.DRV_CW_AMP q o)) (getF s (F.DRV_CW_RAMP q o)) else s) s
  let s := (List.range 24).foldl (fun s i => if flagF s (F.FLX_CFG_EN q i) then fluxReopen q i s else s) s
  if flagF s (F.HB_CTRL_ACQ_EN q) then { s with head := { s.head with adcBy := tset s.head.adcBy q (some (s.now + 10000)) } } else s

/-- The converter domains of a region may be on: its rails good, no rail loss or stop pending, not held after a trip (R442, R446, R459,
R460). -/
def dieMayRun (s : State) (g : Nat) : Bool :=
  bitF s F.PWR_STAT_RGOOD g && !s.power.railOff.contains g && getF s F.THM_STAT_STATE != 4 && !s.power.hot

/-- The converter domains of a region switch on where they may, in Active and Idle, and enabled outputs start (R442). -/
def dieOn (s : State) (g : Nat) : State :=
  if dieMayRun s g && decide (getF s F.PWR_STAT_STATE ≤ 1) && decide (getF s F.THM_STAT_STATE < 3) then
    (regionQuires g).foldl quireOutputsOn (setDie s g true)
  else s

/-! ### Power states (R438 to R440) -/

/-- A bias pair of a quire has an enabled source. -/
def pairOn (s : State) (q : Nat) : Bool := flagF s (F.BIAS_CFG_EN q 0) || flagF s (F.BIAS_CFG_EN q 1)

/-- Every bias pair with an enabled source begins its DOWN sequence (R440, R458). -/
def biasesDown (s : State) : State :=
  (List.range 16).foldl (fun s q => if pairOn s q then biasSeqOp q false s else s) s

/-- The tick by which bias ramps must have ended. -/
def biasLimit (s : State) : Nat := s.now + 500000 * max 1 (getF s F.PWR_STOP_BIAS_TMO)

/-- The entry actions of Standby (R440): flux channels ramp to zero and open, bias pairs go down. -/
def standbyActions (s : State) : State :=
  let s := (List.range 16).foldl (fun s q =>
    (List.range 24).foldl (fun s i => if flagF s (F.FLX_CFG_EN q i) then fluxOpenOp q i s else s) s) s
  let s := biasesDown s
  { s with power := { s.power with biasDue := some (biasLimit s) } }

/-- A power state is requested (R439): refused unless the row of the table for it applies. -/
def powerRequest (s : State) (req : Nat) : Option State :=
  let st := powerState s
  let begin := fun (s : State) => { setF s F.PWR_CTRL_REQ req with power := { s.power with moving := some (req, s.now) } }
  if s.power.moving.isSome then none
  else if st = 0 ∧ req = 1 then (if allIdle s then some (begin s) else none)
  else if st = 1 ∧ req = 0 then some (begin s)
  else if (st = 0 ∨ st = 1) ∧ req = 2 then (if allIdle s then some (begin (standbyActions s)) else none)
  else if st = 2 ∧ (req = 0 ∨ req = 1 ∨ req = 3) then some (begin s)
  else none

/-- PWR_CTRL.REQ is written (R439, R489): with the state the device is in it requests nothing. -/
def powerWrite (s : State) (req : Nat) : Option State := if req = powerState s then some (setF s F.PWR_CTRL_REQ req) else powerRequest s req

/-- POWER_REQ (R439): a write of PWR_CTRL.REQ. -/
def execPowerReq (m : Master) (req : Fin 4) (s : State) : Host.Outcome State Fault Refusal :=
  .next (regWrite m ⟨.PWR_CTRL, 0, 0, 0⟩ s (fun s => powerWrite s req))

/-- Flux switches are open and bias sequences ended. -/
def rampsDone (s : State) : Bool :=
  (List.range 16).all (fun q => (tget s.out.seqs none q).isNone && (List.range 24).all (fun i => !flagF s (F.FLX_STAT_SWITCH q i)))

/-- The switches of every source still ramping open at once (R440, R458). -/
def biasesOpen (s : State) : State := (List.range 16).foldl quireBiasOff s

/-- Standby is entered (R438, R440): converter domains and quire logic off, LPDDR6 in self-refresh, capture units IDLE. -/
def enterStandby (s : State) : State :=
  let s := capStopAll ((List.range 4).foldl regionOutputsOff s)
  let s := (List.range 4).foldl (fun s g => setDie s g false) s
  let s := (List.range 16).foldl (fun s q => setDomains s (5 * q) 4 false) s
  let s := (List.range 4).foldl (fun s g => setDomains s (112 + 3 * g) 2 false) s
  setB { s with power := { s.power with biasDue := none } } F.MEM_DDR_STAT_READY false

/-- Standby is left (R365, R440): domains back, outputs enabled again, LPDDR6 served if its channels are trained. -/
def leaveStandby (s : State) : State :=
  let s := (List.range 16).foldl (fun s q => if flagF s (F.QERR_STAT_GATED q) then s else setDomains s (5 * q) 4 true) s
  let s := (List.range 4).foldl (fun s g => setDomains s (112 + 3 * g) 2 true) s
  let s := (List.range 4).foldl (fun s g =>
    if dieMayRun s g then (regionQuires g).foldl quireOutputsOn (setDie s g true) else s) s
  setB s F.MEM_DDR_STAT_READY (getF s F.MEM_DDR_STAT_RATE != 0 && getF s F.MEM_DDR_STAT_TRAIN == 0)

/-- A byte that stays in Dormant: LPDDR6 in self-refresh, and the Vats with RETAIN_VAT = 1 (R365, R441). -/
def staysDormant (s : State) (c : Host.Cell) : Bool := decide (2 ^ 40 ≤ c.1) || (flagF s F.PWR_CTRL_RETAIN_VAT && decide (c.1 < 0x4000000))

/-- Dormant is entered (R438): every switched domain off, the root and device time stopped, memories that are not retained lost. -/
def enterDormant (s : State) : State :=
  let s := lockFalls (setDomains s 0 144 false)
  { s with mem := s.mem.filter (staysDormant s), time := { s.time with started := false } }

/-- A power-state change completes (R439, R440): Standby once its ramps have ended. -/
def transitionDone (s : State) : State :=
  match s.power.moving with
  | some (t, _) =>
    let done := fun (s : State) => setF { s with power := { s.power with moving := none } } F.PWR_STAT_STATE t
    if t = 2 then (if rampsDone s then done (enterStandby s) else s)
    else if t = 3 then done (enterDormant s)
    else if powerState s = 2 then done (leaveStandby s)
    else done s
  | none => s

/-- POWER_TRANSITION_COMPLETE (R440). -/
def execPowerTransitionComplete (s : State) : Host.Outcome State Fault Refusal := .next (transitionDone s)

/-! ### Wakes (R450) -/

/-- A wake source is enabled (LOFT_WAKE). -/
def wakeEnabled (s : State) (w : WakeSource) : Bool :=
  match w with
  | .pin => flagF s F.LOFT_WAKE_PIN
  | .post => flagF s F.LOFT_WAKE_POST
  | .decision d => flagF s F.LOFT_WAKE_DEC && flagF s (F.LOFT_DEC_B_WAKE d)
  | .chain p => bitF s F.LOFT_WAKE_CHAIN p

/-- The source of a wake is recorded (LOFT_WAKE_SRC). -/
def wakeRecord (s : State) (w : WakeSource) : State :=
  match w with
  | .pin => setB s F.LOFT_WAKE_SRC_PIN true
  | .post => setB s F.LOFT_WAKE_SRC_POST true
  | .decision _ => setB s F.LOFT_WAKE_SRC_DEC true
  | .chain p => setBitF s F.LOFT_WAKE_SRC_CHAIN p true

/-- The sources recorded so far are those of an earlier wake. -/
def wakeForget (s : State) : State :=
  setF (setB (setB (setB s F.LOFT_WAKE_SRC_PIN false) F.LOFT_WAKE_SRC_POST false) F.LOFT_WAKE_SRC_DEC false) F.LOFT_WAKE_SRC_CHAIN 0

/-- A wake source acts (R450): in Standby the return to Active begins; in Dormant the wake waits for its rails (R441); elsewhere, and
while Dormant is being entered (R466), it is ignored. -/
def wakeOp (s : State) (w : WakeSource) : State :=
  if wakeEnabled s w = false then s
  else if powerState s = 3 then
    let s := if s.power.waking then s else wakeForget s
    wakeRecord { s with power := { s.power with waking := true } } w
  else if powerState s = 2 then
    match s.power.moving with
    | some (0, t) => if t = s.now then wakeRecord s w else s
    | some _ => s
    | none => wakeRecord (wakeForget { s with power := { s.power with moving := some (0, s.now) } }) w
  else s

/-! ### Supplies (R443 to R446) -/

/-- The VDD_CORE warning asserts (R444). -/
def coreWarning (s : State) : State :=
  if flagF s F.PWR_STAT_CORE_WARN then s
  else
    let s := fire (incF (latch (setB s F.PWR_STAT_CORE_WARN true) F.PWR_LATCH_CORE_WARN 655) F.PWR_CNT_DIPS) 515
    let s := (List.range 16).foldl szAbandon (storeAbort s)
    addTaint (logEvent s .supplyWarning 20) ⟨s.now, none, .dip⟩

/-- CORE_WARNING (R444). -/
def execCoreWarning (s : State) : Host.Outcome State Fault Refusal := .next (coreWarning s)

/-- The warning releases (R444): log entries held in the ring are stored (R465). -/
def coreRelease (s : State) : State :=
  if flagF s F.PWR_STAT_CORE_WARN then
    let s := fire (setB s F.PWR_STAT_CORE_WARN false) 516
    { s with power := { s.power with log := s.power.log ++ s.power.ring, ring := [] } }
  else s

/-- CORE_WARNING_RELEASE (R444). -/
def execCoreWarningRelease (s : State) : Host.Outcome State Fault Refusal := .next (coreRelease s)

/-- Every shot from now on that overlaps a supply dip is tainted (R444, R446): the warning, and regions without their rails. -/
def dipTaints (s : State) : State :=
  let s := if flagF s F.PWR_STAT_CORE_WARN then addTaint s ⟨s.now, none, .dip⟩ else s
  s.power.railOff.foldl (fun s g =>
    if bitF s F.PWR_STAT_RGOOD g then s else (regionQuires g).foldl (fun s q => addTaint s ⟨s.now, some q, .dip⟩) s) s

/-- RGOOD of a region falls (R446). -/
def railLoss (s : State) (g : Nat) : State :=
  if bitF s F.PWR_STAT_RGOOD g then
    let s := setBitF s F.PWR_STAT_RGOOD g false
    if (List.range 8).any (fun k => domainOn s (80 + 8 * g + k)) then
      let s := setDie (regionOutputsOff s g) g false
      let s := incF (latch s F.PWR_LATCH_RAIL_LOSS 656) F.PWR_CNT_RAIL_LOSS
      let s := chipFault (logEvent s .railLoss g)
      let s := { s with power := { s.power with railOff := s.power.railOff.filter (· != g) ++ [g] } }
      (regionQuires g).foldl (fun s q => addTaint s ⟨s.now, some q, .dip⟩) s
    else s
  else s

/-- RAIL_LOSS (R446). -/
def execRailLoss (g : Fin 4) (s : State) : Host.Outcome State Fault Refusal := .next (railLoss s g)

/-! ### Pins (R451, R455) -/

/-- The digital outputs drive: their rails present and RESET_N high; otherwise they are high impedance (R475). -/
def pinsDrive (s : State) : Bool := s.power.loftOn && !s.power.inReset

/-- ALERT_N is low (R451, R475). -/
def alertLow (s : State) : Bool :=
  pinsDrive s && (flagF s F.PWR_STAT_CORE_WARN || flagF s F.PWR_LATCH_RAIL_LOSS || decide (3 ≤ getF s F.THM_STAT_STATE)
    || flagF s F.CHIP_FAULT_STAT_CHIP || (List.range 8).any (fun d => flagF s (F.LOFT_DEC_B_ALERT d) && flagF s (F.LOFT_DEC_B_OUT d)))

/-- THROT_N is low: in REQUEST and ENFORCE (R455, R475). -/
def throtLow (s : State) : Bool := pinsDrive s && (getF s F.THM_STAT_STATE == 1 || getF s F.THM_STAT_STATE == 2)

/-! ### The orderly stop (R455, R458) -/

/-- A stop cause: the bit of PWR_STOP.CAUSE. -/
def stopCritical : Nat := 0
def stopSensors : Nat := 1
def stopPmbus : Nat := 2
def stopSoftware : Nat := 3

/-- Quires leave their power gating with every register as it was (R456). -/
def ungateAll (s : State) : State :=
  (List.range 16).foldl (fun s q =>
    if flagF s (F.QERR_STAT_GATED q) then setB (setDomains s (5 * q) 4 true) (F.QERR_STAT_GATED q) false else s) s

/-- The stop tick S: a boundary announced for the next 100,000 ticks, else now (R458). -/
def stopTick (s : State) : Nat :=
  (s.seq.announced.foldl (fun b x => if s.now < x ∧ x ≤ s.now + 100000 ∧ (b.getD x) ≥ x then some x else b) none).getD s.now

/-- A substitution under way when a stop begins is abandoned: its target stays muted (R466). -/
def abandonSubsts (s : State) : State :=
  { s with out := { s.out with subst := [] }, head := { s.head with subst := [] }
           beater := { s.beater with pending := [] }, power := { s.power with coreSubst := [] } }

/-- A cause of the orderly stop is present (R455, R466): the first begins it. -/
def stopCause (s : State) (bit : Nat) : State :=
  let s := setBitF s F.PWR_STOP_CAUSE bit true
  if getF s F.THM_STAT_STATE < 3 then
    let s := abandonSubsts (ungateAll (setF s F.THM_STAT_STATE 3))
    { s with power := { s.power with stop := some (stopTick s, 0), biasDue := none } }
  else s

/-- Commands whose span holds the stop tick are late (R458): those in players, and integration windows that are open. -/
def stopLate (s : State) : State :=
  let s := s.seq.players.foldl (fun s x => markLate s x.1) s
  s.head.cells.foldl (fun s x => (cellOf s x.1.1 x.1.2).wins.foldl (fun s w => lateCommand s x.1.1 w.t w.p) s) s

/-- At S (R458): threads stopped and flushed, fast flux paths at zero, ladders ramping to zero over 1 ms, bias pairs going down. -/
def stopBegin (s : State) : State :=
  let s := stopLate s
  let s := (List.range 16).foldl fenceQuire s
  let s := (List.range 16).foldl (fun s q => (List.range 24).foldl (fun s i =>
    let s := flxUpdate (setB s (F.FLX_STAT_STOP q i) true) q i s.now
    let s := setFlux s q i { fluxOf s q i with closeAt := none }
    if flagF s (F.FLX_STAT_SWITCH q i) then
      let s := setFlux s q i { fluxOf s q i with opening := true, tripAct := none }
      ladderRamp s q i (.linear (ladderCode s q i) s.now 500000) 0
    else s) s) s
  let s := biasesDown s
  after { s with power := { s.power with stop := some (s.now, 1), biasDue := some (biasLimit s) } } (s.now + 2) .stopMute

/-- Drive and probe outputs are muted at the output stage, two ticks after S (R458). -/
def stopMute (s : State) : State :=
  (List.range 16).foldl (fun s q => (List.range 5).foldl (fun s o => drvUpdate (setB s (F.DRV_STAT_STOP q o) true) q o s.now) s) s

/-- ORDERLY_STOP (R458): at the stop tick; a quire restore in progress is completed first (R466). -/
def orderlyStop (s : State) : State :=
  match s.power.stop with
  | some (t, 0) => if t ≤ s.now ∧ (List.range 16).all (fun q => (tget s.power.restore none q).isNone) then stopBegin s else s
  | _ => s

/-- ORDERLY_STOP (R458). -/
def execOrderlyStop (s : State) : Host.Outcome State Fault Refusal := .next (orderlyStop s)

/-- The stop is complete once converters and bias sources are off: logged, STOPPED (R458). -/
def stopFinish (s : State) : State :=
  match s.power.stop with
  | some (_, 2) =>
    if (List.range 16).all (fun q => (tget s.out.seqs none q).isNone) then
      let s := biasesOpen s
      let s := (List.range 4).foldl (fun s g => setDomain s (80 + 8 * g + 5) false) s
      let s := latch (logEvent s .orderlyStop 20) F.PWR_LATCH_STOP 657
      setF { s with power := { s.power with stop := none, biasDue := none } } F.THM_STAT_STATE 4
    else s
  | _ => s

/-- STOP_POWERDOWN (R458): 1 ms after S, switches open and converter domains off, but for bias sources and the Deckle. -/
def stopPowerdown (s : State) : State :=
  match s.power.stop with
  | some (t, 1) =>
    if t + 500000 ≤ s.now then
      let s := (List.range 16).foldl quireOutputsOff s
      let s := (List.range 16).foldl (fun s u => capStop s u false) s
      let s := (List.range 4).foldl (fun s g => setDomain (setDomains s (80 + 8 * g) 5 false) (80 + 8 * g + 6) false) s
      stopFinish { s with power := { s.power with stop := some (t, 2) } }
    else s
  | _ => s

/-- STOP_POWERDOWN (R458). -/
def execStopPowerdown (s : State) : Host.Outcome State Fault Refusal := .next (stopPowerdown s)

/-- PWR_STOP.BIAS_TMO has run out (R440, R458): sources still ramping open; a stop may then be complete, Standby is entered. -/
def biasTmo (s : State) : State :=
  match s.power.biasDue with
  | some t =>
    if t ≤ s.now then
      let s := biasesOpen { s with power := { s.power with biasDue := none } }
      match s.power.moving with
      | some (2, _) =>
        setF { enterStandby s with power := { s.power with moving := none, biasDue := none } } F.PWR_STAT_STATE 2
      | _ => stopFinish s
    else s
  | none => s

/-- BIAS_TMO_EXPIRY (R458). -/
def execBiasTmoExpiry (s : State) : Host.Outcome State Fault Refusal := .next (biasTmo s)

/-- PWR_STOP (R455): a write of PWR_CTRL.STOP. -/
def execPwrStop (m : Master) (s : State) : Host.Outcome State Fault Refusal :=
  .next (regWrite m ⟨.PWR_CTRL, 0, 0, 0⟩ s (fun s => some (stopCause s stopSoftware)))

/-- Sensors of a zone found failed. -/
def failedCount (s : State) (z : Nat) : Nat := ((List.range 4).filter (fun k => bitF s (F.THM_ZONE_FAILED z) k)).length

/-- PWR_CTRL.RESTART (R459). -/
def restartOp (s : State) : Option State :=
  let stopped := getF s F.THM_STAT_STATE = 4
  if (¬stopped ∧ s.power.railOff = []) ∨ getF s F.PWR_STAT_RGOOD ≠ 15
      ∨ (List.range 16).any (fun z => getF s (F.THM_ZONE_LEVEL z) == 2 || decide (2 ≤ failedCount s z)) = true then none
  else
    let s := (List.range 4).foldl (fun s g => setDie s g true) { s with power := { s.power with railOff := [] } }
    let s := (List.range 16).foldl (fun s q =>
      let s := (List.range 5).foldl (fun s o =>
        drvUpdate (setB (setB s (F.DRV_CFG_EN q o) false) (F.DRV_STAT_STOP q o) false) q o s.now) s
      let s := (List.range 24).foldl (fun s i =>
        flxUpdate (setB (setB (fluxOff s q i) (F.FLX_CFG_EN q i) false) (F.FLX_STAT_STOP q i) false) q i s.now) s
      let s := (List.range 2).foldl (fun s b => setB s (F.BIAS_CFG_EN q b) false) (quireBiasOff s q)
      if flagF s (F.HB_CTRL_ACQ_EN q) then { s with head := { s.head with adcBy := tset s.head.adcBy q (some (s.now + 10000)) } } else s) s
    let s := setF s F.PWR_STOP_CAUSE 0
    some (if stopped then
      (if getF s F.THM_STAT_WARN = 0 then setF s F.THM_STAT_STATE 0
       else incF (latch { setF s F.THM_STAT_STATE 1 with power := { s.power with requested := s.now } } F.THM_LATCH_WARN 636) F.THM_CNT_WARN)
    else s)

/-- PWR_RESTART (R459). -/
def execPwrRestart (m : Master) (s : State) : Host.Outcome State Fault Refusal :=
  .next (regWrite m ⟨.PWR_CTRL, 0, 0, 0⟩ s restartOp)

/-! ### Sensors and zones (R452 to R456) -/

/-- A sensor is found failed (R453). -/
def sensorFails (s : State) (n : Nat) : State :=
  if bitF s (F.THM_ZONE_FAILED (n / 4)) (n % 4) then s
  else fire (latch (setBitF s (F.THM_ZONE_FAILED (n / 4)) (n % 4) true) F.THM_LATCH_SENSOR 639) 514

/-- Two failed sensors of one zone start the orderly stop (R453, R455). -/
def sensorsStop (s : State) : State :=
  if (List.range 16).any (fun z => decide (2 ≤ failedCount s z)) then stopCause s stopSensors else s

/-- What a sensor reads: a failed one 98 °C (R453), in 1/16 °C. -/
def sensorReads (s : State) (n : Nat) (v : Option Int) : Int := if bitF s (F.THM_ZONE_FAILED (n / 4)) (n % 4) then 1568 else v.getD 1568

/-- The value of a zone: the highest of its four sensors (R452). -/
def zoneValue (s : State) (z : Nat) (l : List (Option Int)) : Int :=
  let r := fun k => sensorReads s (4 * z + k) (l.getD (4 * z + k) none)
  max (max (r 0) (r 1)) (max (r 2) (r 3))

/-- At least six of the last eight values satisfy a test (R454). -/
def sixOf (l : List Int) (f : Int → Bool) : Bool := decide (6 ≤ (l.filter f).length)

/-- The level of a zone after a sample (R454): the upward rows first. -/
def nextLevel (lv : Nat) (l : List Int) : Nat :=
  if lv < 2 ∧ sixOf l (fun v => decide (1840 ≤ v)) then 2
  else if lv = 0 ∧ sixOf l (fun v => decide (1520 ≤ v)) then 1
  else if lv = 2 ∧ sixOf l (fun v => decide (v < 1792)) then 1
  else if lv = 1 ∧ sixOf l (fun v => decide (v < 1472)) then 0
  else lv

/-- One zone takes its sample. -/
def zoneSample (s : State) (z : Nat) (l : List (Option Int)) : State :=
  let v := zoneValue s z l
  let h := (v :: tget s.power.zones [] z).take 8
  let s := setS { s with power := { s.power with zones := tset s.power.zones z h } } (F.THM_ZONE_TEMP z) v
  let lv := getF s (F.THM_ZONE_LEVEL z)
  let n := nextLevel lv h
  let s := setBitF (setF s (F.THM_ZONE_LEVEL z) n) F.THM_STAT_WARN z (n != 0)
  if n = 1 ∧ lv ≠ 1 then fire s (497 + z)
  else if n = 2 ∧ lv ≠ 2 then fire (latch s F.THM_LATCH_CRIT 638) 513
  else s

/-- Entry to REQUEST (R455). -/
def enterRequest (s : State) : State :=
  incF (latch { setF s F.THM_STAT_STATE 1 with power := { s.power with requested := s.now } } F.THM_LATCH_WARN 636) F.THM_CNT_WARN

/-- The thermal state after a sample (R455): a stop cause governs. -/
def thermalState (s : State) (crit warned : Bool) : State :=
  let st := getF s F.THM_STAT_STATE
  let s := if crit then stopCause s stopCritical else s
  let s := sensorsStop s
  if 3 ≤ getF s F.THM_STAT_STATE then s
  else if st = 0 ∧ warned then enterRequest s
  else if (st = 1 ∨ st = 2) ∧ getF s F.THM_STAT_WARN = 0 then ungateAll (setF s F.THM_STAT_STATE 0)
  else s

/-- Converter domains held off after a trip switch on once every zone value is below 92 °C (R460). -/
def coolRelease (s : State) : State :=
  if s.power.hot && (List.range 16).all (fun z => decide (((tget s.power.zones [] z).headD 1568) < 1472)) then
    (List.range 4).foldl dieOn { s with power := { s.power with hot := false } }
  else s

/-- A thermal sample (R452 to R455): a reading by sensor, none where its code is out of range. -/
def thermalSample (s : State) (l : List (Option Int)) : State :=
  let old := s
  let s := (List.range 64).foldl (fun s n => if l.getD n none = none then sensorFails s n else s) s
  let s := (List.range 16).foldl (fun s z => zoneSample s z l) s
  let newly := fun lv => (List.range 16).any (fun z => getF s (F.THM_ZONE_LEVEL z) == lv && decide (getF old (F.THM_ZONE_LEVEL z) < lv))
  coolRelease (thermalState s (newly 2) (newly 1))

/-- THERMAL_SAMPLE (R454): the thermal logic runs outside reset and a trip. -/
def execThermalSample (l : List (Option Int)) (s : State) : Host.Outcome State Fault Refusal :=
  .next (if s.power.inReset ∨ s.power.tripped then s else thermalSample s l)

/-- SENSOR_SELF_TEST (R453): the sensors whose self-test failed; the thermal logic runs outside reset and a trip. -/
def execSensorSelfTest (failed : List (Fin 64)) (s : State) : Host.Outcome State Fault Refusal :=
  .next (if s.power.inReset ∨ s.power.tripped then s else sensorsStop (failed.foldl (fun s n => sensorFails s n) s))

/-- GRACE has passed in REQUEST: ENFORCE, and idle quires are power-gated (R455, R456). -/
def graceExpiry (s : State) : State :=
  if getF s F.THM_STAT_STATE = 1 ∧ s.power.requested + 50000000 * getF s F.THM_CFG_GRACE ≤ s.now then
    let s := incF (latch (setF s F.THM_STAT_STATE 2) F.THM_LATCH_ENFORCE 637) F.THM_CNT_ENFORCE
    (List.range 16).foldl quireGate s
  else s

/-- GRACE_EXPIRY (R455). -/
def execGraceExpiry (s : State) : Host.Outcome State Fault Refusal := .next (graceExpiry s)

/-- A sensor's 125 °C comparator fires (R460): every switched domain off, outputs without ramps, recorded in the Loft's ring; a failed
sensor cannot trip. -/
def thermalTrip (s : State) (n : Nat) : State :=
  if bitF s (F.THM_ZONE_FAILED (n / 4)) (n % 4) ∨ s.power.tripped = true then s
  else
    let s := setDomains ((List.range 4).foldl (fun s g => setDie (regionOutputsOff s g) g false) s) 0 144 false
    let e : LogEntry := ⟨.trip, n, s.now, s.time.wall⟩
    let ring := s.power.ring ++ [e]
    { s with
      time := { s.time with started := false }
      power := { s.power with tripped := true, ring := ring.drop (ring.length - 32), stop := none, moving := none
                              lost := s.power.lost + (ring.length - 32) } }

/-- THERMAL_TRIP (R460). -/
def execThermalTrip (n : Fin 64) (s : State) : Host.Outcome State Fault Refusal := .next (thermalTrip s n)

end Sys2Proof.Machine
end

