-- ==== Sys2Proof/Machine/Start.lean ====
section
/-! DEFINITION. Starting a thread (R72, R79). -/

namespace Sys2Proof.Machine

/-- The start time of a thread (R72): THR_START, or device time plus START_GAP. -/
def startTime (s : State) (q t : Nat) : Nat :=
  if flagF s (F.THR_CTRL_AT q t) then getF s (F.THR_START_LO_START q t) + 2 ^ 32 * getF s (F.THR_START_HI_START q t)
  else s.now + getF s (F.SEQ_LAH_START_GAP q)

/-- A thread may start (R79, R439): threads run, time is trusted, and the device is not in Idle. -/
def mayStart (s : State) (q : Nat) : Bool := flagF s (F.SEQ_CTRL_RUN q) && timeGood s && powerState s != 1

/-- START (R79): a thread in IDLE, DONE or FAULT enters RUN with its start address and time, its subscriptions cleared (R88) and a
Sizing procedure of its quire abandoned (R422); where it may not, START_REF is set. -/
def threadStart (s : State) (q t : Nat) : State :=
  if isActive (thrState s q t) then s
  else if mayStart s q then
    let s := armClear (szAbandon s q) q t 255
    let s := setThread s q t { Thread.init with tt := startTime s q t, pc := getF s (F.THR_PC_PC q t), started := true, since := s.now }
    setThrState (setF s (F.THR_STAT_FCAUSE q t) 0) q t stRun 0
  else latch s (F.THR_LATCH_START_REF q t) (quireEvent q 4)

/-- THREAD_START (R79). -/
def execThreadStart (m : Master) (q t : Fin 16) (s : State) : Host.Outcome State Fault Refusal :=
  .next (rowWrite (.threadStart m q t) m ⟨.THR_CTRL, q, t, 0⟩ s (fun s => some (threadStart s q t)))

end Sys2Proof.Machine
end

