-- ==== Sys2Proof/Machine/Arch.lean ====
section
/-! DEFINITION. Bridges, cells, quire restores, Vatmans, sequencer-core substitution and the management cores (R20 to R26, R39, R461 to
R464). -/

namespace Sys2Proof.Machine

/-! ### Bridges (R20, R21) -/

/-- A bridge error of a region is counted (R20). -/
def bridgeCount (s : State) (g : Nat) : State :=
  { s with power := { s.power with bridgeErrs := tmod s.power.bridgeErrs 0 g (· + 1) } }

/-- The quire of a bridge word. -/
def bridgeQuire : BridgeWord → Nat
  | .dac q _ _ => q
  | .flux q _ _ => q
  | .adc q _ => q

/-- A corrupt ADCW word: the windows that hold one of its samples are marked, and their shots tainted (R20, R205). -/
def corruptWord (s : State) (q n : Nat) : State :=
  let hit : OpenWin → Bool := fun x => (List.range 16).any (fun k => inWindow x (16 * n + k))
  let ps := (List.range 16).flatMap (fun j => ((cellOf s q j).wins.filter hit).map (fun w => w.p))
  ps.foldl (fun s p => taintQuire s q p .bridge) (markWindows s q hit (fun x => { x with bad := x.bad ++ [n] }))

/-- A bridge word arrives with a parity error (R20): counted, and the shot in progress on its channels tainted; an output plays a zero word
in its place, the windows over an input word are marked (R205). -/
def bridgeParity (s : State) (w : BridgeWord) : State :=
  let s := taintQuire (bridgeCount s (bridgeQuire w / 4)) (bridgeQuire w) s.now .bridge
  match w with
  | .dac q o n => setOutput s q o { outputOf s q o with zeroed := (outputOf s q o).zeroed ++ [n] }
  | .flux q i n => setFlux s q i { fluxOf s q i with zeroed := (fluxOf s q i).zeroed ++ [n] }
  | .adc q n => corruptWord s q n

/-- BRIDGE_PARITY_ERROR (R20). -/
def execBridgeParityError (w : BridgeWord) (s : State) : Host.Outcome State Fault Refusal := .next (bridgeParity s w)

/-- Spare lanes a region's bridge has left in a direction (R21). -/
def lanesLeft (s : State) (g : Nat) (out : Bool) : Nat := tget s.power.spareLanes 2 (g, out)

/-- An output is muted for want of a spare (R21, R26), or no longer. -/
def setDead (s : State) (q : Nat) (o : OutRef) (b : Bool) : State :=
  match o with
  | .drive o => drvUpdate (setOutput s q o { outputOf s q o with dead := b }) q o s.now
  | .flux i => flxUpdate (setFlux s q i { fluxOf s q i with dead := b }) q i s.now

/-- CHIP_FAULT_STAT follows what is under way (chapter 01): of a region a Vatman restart, a router slice reset or an unsparable lane; of the
chip the work of its fault handler (R356, R463, R464). -/
def faultStat (s : State) : State :=
  let s := (List.range 4).foldl (fun s g =>
    setBitF s F.CHIP_FAULT_STAT_REGION g (tget s.power.vatman 0 g != 0 || s.power.lostLanes.contains g)) s
  setB s F.CHIP_FAULT_STAT_CHIP ((List.range 4).any (fun g => tget s.power.vatman 0 g != 0) || !s.power.restarting.isEmpty)

/-- A channel is cut off for good (R21): its output muted, or its quire's read-out, whose open windows are lost. -/
def laneDead (s : State) (q : Nat) : LaneEnd → State
  | .drive o => setDead s q (.drive o) true
  | .flux i => setDead s q (.flux i) true
  | .acq =>
    let s := { s with head := { s.head with cut := s.head.cut.filter (· != q) ++ [q] } }
    (List.range 16).foldl (fun s j => loseWindows (loseWindows s q j false) q j true) s

/-- A lane's error counter crosses its threshold (R21): its traffic moves to a spare lane, a substitution that reaches the region, and its
outputs play zero words meanwhile; with none left, its channels stay muted and the chip level hears of it. -/
def laneSwitch (s : State) (g : Nat) (l : BridgeLane) : State :=
  if s.power.switching.contains (g, l) then s
  else if lanesLeft s g l.out = 0 then
    let s := { s with power := { s.power with lostLanes := s.power.lostLanes.filter (· != g) ++ [g] } }
    faultStat (chipFault (regionFault (l.feeds.foldl (fun s x => if x.1.val / 4 = g then laneDead s x.1 x.2 else s) s) g))
  else
    let s := regionFault s g
    { s with power := { s.power with
      spareLanes := tset s.power.spareLanes (g, l.out) (lanesLeft s g l.out - 1)
      switching := s.power.switching ++ [(g, l)] } }

/-- BRIDGE_LANE_SWITCH (R21): the Vatman of the region switches the lane. -/
def execBridgeLaneSwitch (g : Fin 4) (lane : BridgeLane) (s : State) : Host.Outcome State Fault Refusal :=
  .next (if vatmanUp s g then laneSwitch s g lane else s)

/-- The switch of a lane completes (R21, R286), a substitution for the event log (R465). -/
def laneSwitched (s : State) (g : Nat) (l : BridgeLane) : State :=
  if s.power.switching.contains (g, l) then
    fire (logEvent { s with power := { s.power with switching := s.power.switching.erase (g, l) } } .substitution g) (416 + 4 * g)
  else s

/-- BRIDGE_LANE_SWITCH_DONE (R21). -/
def execBridgeLaneSwitchDone (g : Fin 4) (lane : BridgeLane) (s : State) : Host.Outcome State Fault Refusal :=
  .next (laneSwitched s g lane)

/-! ### Cells without a row of their own (R23, R168) -/

/-- A flux channel is faulty (R23, R168): muted as unsparable, its ladder held. -/
def fluxFault (s : State) (q i : Nat) : State :=
  if (fluxOf s q i).faulty then s
  else
    let s := ladderNoRamp (setFlux s q i { fluxOf s q i with faulty := true }) q i
    let s := flxUpdate (latch s (F.FLX_LATCH_FAULT q i) (quireEvent q 12)) q i (s.now + 2)
    unsparable (quireFault s q) q

/-- A bias source is faulty (R23): its output goes to 0 V, a sequence of its pair ends, and it starts no ramp until reset. -/
def biasFault (s : State) (q b : Nat) : State :=
  if (biasOf s q b).faulty then s
  else
    let s := match tget s.out.seqs none q with
      | none => s
      | some _ => latch (setSeq s q none) (F.BIAS_LATCH_SEQ_ABORT q b) (quireEvent q 13)
    let s := setBiasNow (biasNoRamp s q b) q b 0
    let s := latch (setBias s q b { biasOf s q b with faulty := true, opening := false }) (F.BIAS_LATCH_MUTE q b) (quireEvent q 13)
    unsparable (quireFault s q) q

/-- The local state of a thread or context is lost (R23): one that runs faults with its cause (R80, R228); it has no spare. -/
def threadLost (s : State) (q t : Nat) : State :=
  let s := unsparable (quireFault s q) q
  if isActive (thrState s q t) then threadFault s q t 6 else s
def contextLost (s : State) (q c : Nat) : State :=
  let s := unsparable (quireFault s q) q
  if isActive (ctxState s q c) then ctxFault s q c 5 else s

/-- The quire of a cell. -/
def cellQuire : CellRef → Nat
  | .flux q _ => q
  | .bias q _ => q
  | .thread q _ => q
  | .context q _ => q
  | .handler q => q

/-- A cell without a row of its own is faulty (R23); a failed quire error handler is its region's to handle (R22). -/
def cellFault (s : State) (c : CellRef) : State :=
  match c with
  | .flux q i => fluxFault s q i
  | .bias q b => biasFault s q b
  | .thread q t => threadLost s q t
  | .context q c => contextLost s q c
  | .handler q => regionFault s (q / 4)

/-- CELL_FAULT (R23); in the tick of a quire reset the cell's self-check after it decides (R26). -/
def execCellFault (c : CellRef) (s : State) : Host.Outcome State Fault Refusal :=
  .next (if resetNow s (cellQuire c) && (match c with | .handler _ => false | _ => true) then s else cellFault s c)

/-! ### Threads that were held (R461, R462) -/

/-- A waiting thread wakes if its condition holds now (R462). -/
def rewakeThread (s : State) (q t : Nat) : State :=
  match (thread s q t).wait with
  | some (.sub n _ _ _ _ _) => if subValid s q t n then wakeSub s q t n s.now false else s
  | some (.branch n _ _ _ _) => if subValid s q t n then wakeSub s q t n s.now false else s
  | some (.event _ _ _) => wakeEvent s q t (getF s (F.SEQ_EVFLAG_FLAG q))
  | _ => s

/-- The threads of a quire issue nothing, or issue again, waking those whose conditions hold (R111, R462). -/
def holdThreads (s : State) (q : Nat) (b : Bool) : State :=
  let s := { s with seq := { s.seq with held := tset s.seq.held q b } }
  if b then s else (List.range 16).foldl (fun s t => rewakeThread s q t) s

/-- The quire's core issues nothing for another reason: a substitution under way, or no working core. -/
def coreDown (s : State) (q : Nat) : Bool :=
  s.power.noCore.contains q || (match tget s.power.coreSubst none (q / 4) with | some x => x.q == q | none => false)

/-! ### Vatmans and router slices (R25, R26, R463) -/

/-- The state with the down bits of a region. -/
def setVatman (s : State) (g : Nat) (bit : Nat) (b : Bool) : State :=
  faultStat { s with power := { s.power with vatman := tmod s.power.vatman 0 g (fun v => putBit v bit b) } }

/-- VATMAN_FAULT (R463): the region's traffic stalls; a substitution in progress is abandoned (R26). -/
def execVatmanFault (g : Fin 4) (router : Bool) (s : State) : Host.Outcome State Fault Refusal :=
  .next (setVatman (chipFault s) g router.toNat true)

/-- The substitutions of a region that its Vatman's fault abandoned begin again, their bounds from now (R26). -/
def substsAgain (s : State) (g : Nat) : State :=
  let s := (regionQuires g).foldl (fun s q =>
    let s := match tget s.out.subst none q with
      | some (c, _) => { s with out := { s.out with subst := tset s.out.subst q (some (c, s.now)) } }
      | none => s
    match tget s.head.subst none q with
    | some (k, n, _) => { s with head := { s.head with subst := tset s.head.subst q (some (k, n, s.now)) } }
    | none => s) s
  match tget s.power.coreSubst none g with
  | some x => { s with power := { s.power with coreSubst := tset s.power.coreSubst g (some { x with d := s.now }) } }
  | none => s

/-! ### The spare sequencer core (R26, R462) -/

/-- The spare core of a region is free. -/
def spareCoreFree (s : State) (g : Nat) : Bool := (tget s.power.spareCore none g).isNone && (tget s.power.coreSubst none g).isNone

/-- A quire is left without a working core (R23, R26): unsparable, outputs muted, shots tainted, the chip level hears of it. -/
def coreLost (s : State) (q : Nat) : State :=
  let s := unsparable s q
  let s := { s with power := { s.power with noCore := s.power.noCore.filter (· != q) ++ [q] } }
  let s := (List.range 5).foldl (fun s o => if h : o < 5 then setDead s q (.drive ⟨o, h⟩) true else s) s
  let s := (List.range 24).foldl (fun s i => if h : i < 24 then setDead s q (.flux ⟨i, h⟩) true else s) s
  chipFault (taintQuire s q s.now .restore)

/-- The spare core was sent in this very tick for a core of a higher quire, which yields it (R26): that quire. -/
def coreYields (s : State) (q : Nat) : Option Nat :=
  match tget s.power.coreSubst none (q / 4) with
  | some x => if q < x.q ∧ x.d = s.now then some x.q else none
  | none => none

/-- The spare core of its region is sent for. -/
def coreCall (s : State) (q : Nat) : State :=
  substEvent { s with power := { s.power with coreSubst := tset s.power.coreSubst (q / 4) (some ⟨q, s.now⟩) } } (q / 4) false

/-- A sequencer core's copies disagree (R462): it commits nothing more; the region's spare is sent for where it is free, lower quire first
among the flags of one tick (R26). -/
def coreFault (s : State) (q : Nat) : State :=
  let g := q / 4
  let s := regionFault (quireFault (setBitF s (F.QERR_LATCH_EVENT q) 1 true) q) g
  let s := holdThreads s q true
  if spareCoreFree s g then coreCall s q
  else
    match coreYields s q with
    | some q' => coreCall (coreLost s q') q
    | none => coreLost s q

/-- CORE_FAULT (R462); in the tick of a quire reset the core's self-check after it decides (R26). -/
def execCoreFault (q : Fin 16) (s : State) : Host.Outcome State Fault Refusal :=
  .next (if coreDown s q || resetNow s q then s else coreFault s q)

/-- The spare core takes a quire over (R462), unless its self-check fails and the quire is left without a core. -/
def coreSubstDone (s : State) (g : Nat) (pass : Bool) : State :=
  if !vatmanUp s g then s else
  match tget s.power.coreSubst none g with
  | none => s
  | some x =>
    let s := { s with power := { s.power with coreSubst := tset s.power.coreSubst g none } }
    if pass then
      let s := { s with power := { s.power with spareCore := tset s.power.spareCore g (some x.q) } }
      let s := incF (setB s (F.QERR_STAT_CORE_SUBST x.q) true) (F.QERR_CNT_SUBST x.q)
      let s := substEvent s g true
      if restoring s x.q then s else holdThreads s x.q false
    else coreLost s x.q

/-- CORE_SUBSTITUTION (R462): with the result of the spare's self-check. -/
def execCoreSubstitution (g : Fin 4) (pass : Bool) (s : State) : Host.Outcome State Fault Refusal := .next (coreSubstDone s g pass)

/-! ### Quire restore (R24, R356, R461) -/


/-- The bytes a restore writes into an uncorrectable word (R356): HALT in program memory, else zero. -/
def restoredWord (a : Nat) : Nat := if memClass a = 1 then 0x0400000000000000 else 0

/-- An uncorrectable word is rewritten with valid check bits (R356). -/
def rewriteWord (s : State) (a : Nat) : State :=
  let k := a / 8 * 8
  let s := memWrite s k 8 (restoredWord k)
  { s with store := { s.store with bad := s.store.bad.filter (· != k) } }

/-- The head packet of the result queue is delivered with a word zero and with cause "quire restore" (R207, R356). -/
def spoilPacket (s : State) (q k : Nat) : State :=
  let r := results s q
  match r.queue with
  | x :: rest =>
    let w := x.words.set k 0
    setResults s q { r with queue := { x with words := w.set 0 ((w.getD 0 0) ||| 0x2200) } :: rest }
  | [] => s

/-- What the restore does about the uncorrectable word that brought it about (R356). -/
def restoreWord (s : State) (q : Nat) (w : QuireWord) : State :=
  match w with
  | .word a => if a < 0x6000000 then rewriteWord (uncorrectable s (memClass a) (a / 8 * 8)) a else s
  | .mover k => spoilPacket (uncorrectable s 2 (0x5000000 + q * 0x100000 + 0xFC000)) q k

/-- A tone, cell or probe tone whose fault flag came in the tick of the reset is not substituted: its self-check after the restore decides
(R26). -/
def toneSettled (s : State) (q : Nat) : State :=
  match tget s.out.subst none q with
  | some (c, t) =>
    if t = s.now then
      let s := setB { s with out := { s.out with subst := tset s.out.subst q none } } (F.TONE_SPARE_STAT_BUSY q) false
      setTone (setB s (F.TONE_STAT_FAILED q c) false) q c { toneOf s q c with zeroFrom := none }
    else s
  | none => s
def itemSettled (s : State) (q : Nat) : State :=
  match tget s.head.subst none q with
  | some (kind, n, t) =>
    if t = s.now then
      let s := setB { s with head := { s.head with subst := tset s.head.subst q none } } (F.HB_SPARE_STAT_BUSY q) false
      itemReset (setB s (itemFailed q kind n) false) q kind n
    else s
  | none => s

/-- The same of a core and of an engine. -/
def coreSettled (s : State) (q : Nat) : State :=
  match tget s.power.coreSubst none (q / 4) with
  | some x => if x.q = q ∧ x.d = s.now then { s with power := { s.power with coreSubst := tset s.power.coreSubst (q / 4) none } } else s
  | none => s
def engineSettled (s : State) (q : Nat) : State :=
  if engineMoving s q && flagF s (F.BT_ESTAT_FAILED q) && tget s.beater.since 0 (q / 4) == s.now then
    let s := { s with beater := { s.beater with pending := tset s.beater.pending (q / 4) none } }
    setB (setB s (F.BT_ESTAT_PAUSED q) false) (F.BT_ESTAT_FAILED q) false
  else s

/-- The quire reset takes precedence over cell faults of its tick (R26). -/
def faultsSettled (s : State) (q : Nat) : State := engineSettled (coreSettled (itemSettled (toneSettled s q) q) q) q

/-- The quire error handler resets a quire and begins to restore it (R24): outputs muted, threads held, the shot tainted, Sizing
abandoned (R422); state is rebuilt from its shadow (R461). -/
def restoreBegin (s : State) (q : Nat) : State :=
  if restoring s q then s
  else
    let s := faultsSettled s q
    let s := szAbandon { s with power := { s.power with restore := tset s.power.restore q (some s.now) } } q
    let s := incF (setBitF (setB s (F.QERR_STAT_RESTORE q) true) (F.QERR_LATCH_EVENT q) 0 true) (F.QERR_CNT_RESTORES q)
    let s := setBitF s F.CHIP_FAULT_STAT_QUIRE q true
    let s := restoreMute (holdThreads (fire (quireFault s q) (quireEvent q 21)) q true) q true
    taintQuire s q s.now .restore

/-- QUIRE_RESTORE (R24): by the handler's own finding, or for an uncorrectable word (R356). -/
def execQuireRestore (q : Fin 16) (w : Option QuireWord) (s : State) : Host.Outcome State Fault Refusal :=
  .next (restoreBegin (match w with | some w => restoreWord s q w | none => s) q)

/-- A unit that fails its self-check after a restore follows the cell rule (R23, R26); one that had failed before stays failed. -/
def checkFails (s : State) (q : Nat) : CheckedCell → State
  | .tone c => if flagF s (F.TONE_STAT_FAILED q c) then s else if c.val < 16 then driveToneFault s q c else probeToneFault s q (c - 16)
  | .cell j => if flagF s (F.HB_CELL_STAT_FAILED q j) then s else cellFaultOp s q j
  | .flux i => fluxFault s q i
  | .bias b => biasFault s q b
  | .thread t => threadLost s q t
  | .context c => contextLost s q c
  | .core => if coreDown s q then s else coreFault s q
  | .engine => if flagF s (F.BT_ESTAT_FAILED q) then s else engineFails s q

/-- The self-checks after a restore (R144, R221, R252): a failed tone, cell or engine may be released if it passed. -/
def checksDone (s : State) (q : Nat) (failing : List CheckedCell) : State :=
  let s := (List.range 32).foldl (fun s c =>
    if flagF s (F.TONE_STAT_FAILED q c) then setTone s q c { toneOf s q c with checked := !failing.contains (.tone (Fin.ofNat 32 c)) } else s) s
  let s := (List.range 16).foldl (fun s j =>
    if flagF s (F.HB_CELL_STAT_FAILED q j) then setCell s q j { cellOf s q j with checked := !failing.contains (.cell (Fin.ofNat 16 j)) }
    else s) s
  if flagF s (F.BT_ESTAT_FAILED q) then
    { s with beater := { s.beater with checked := tset s.beater.checked q (!failing.contains .engine) } }
  else s

/-- The restore ends (R24): outputs unmute, threads resume at their restored positions, and the units of the quire have checked
themselves. -/
def restoreEnd (s : State) (q : Nat) (failing : List CheckedCell) : State :=
  if restoring s q then
    let s := setB { s with power := { s.power with restore := tset s.power.restore q none } } (F.QERR_STAT_RESTORE q) false
    let s := setBitF s F.CHIP_FAULT_STAT_QUIRE q (flagF s (F.QERR_STAT_UNSPARABLE q))
    let s := restoreMute (fire s (quireEvent q 22)) q false
    let s := checksDone (holdThreads s q (coreDown s q)) q failing
    failing.foldl (fun s x => checkFails s q x) s
  else s

/-- QUIRE_RESTORE_COMPLETE (R24): with the units that fail their self-check. -/
def execQuireRestoreComplete (r : RestoreEnd) (s : State) : Host.Outcome State Fault Refusal := .next (restoreEnd s r.q r.failing)

/-- The taint of every quire whose restore overlaps the shot that now begins, and of those without a core (R24, R26). -/
def restoreTaints (s : State) : State :=
  (List.range 16).foldl (fun s q => if restoring s q || s.power.noCore.contains q then taintQuire s q s.now .restore else s) s

/-! ### Management cores and the network (R39, R464) -/

/-- The management core that acts as the chip fault handler (R464): the lowest-numbered core that runs. -/
def handlerCore (s : State) : Option Nat := (List.range 4).find? (fun n => !s.power.restarting.contains n)

/-- A management core is restarted from its image by another (R464). -/
def coreRestart (s : State) (n : Nat) : State :=
  if s.power.restarting.contains n then s
  else
    let s := chipFault s
    faultStat { s with power := { s.power with restarting := s.power.restarting ++ [n] } }

/-- WATCHDOG_EXPIRY (R464). -/
def execWatchdogExpiry (core : Fin 4) (s : State) : Host.Outcome State Fault Refusal := .next (coreRestart s core)

/-- MGMT_CORE_RESTART (R464): the restarted core runs again; sessions stand. -/
def execMgmtCoreRestart (core : Fin 4) (s : State) : Host.Outcome State Fault Refusal :=
  .next (if s.power.restarting.contains core.val then
    faultStat { s with power := { s.power with restarting := s.power.restarting.filter (· != core.val) } }
  else s)

/-- NOC_ARB as software reads it. -/
def arbWritten (s : State) : Nat :=
  getF s F.NOC_ARB_TC0_RES + 2 ^ 8 * getF s F.NOC_ARB_W_TC1 + 2 ^ 12 * getF s F.NOC_ARB_W_TC2 + 2 ^ 16 * getF s F.NOC_ARB_W_TC3

/-- NOC_ARB_APPLY (R39): the setting written takes effect at the next arbitration frame. -/
def execNocArbApply (s : State) : Host.Outcome State Fault Refusal :=
  .next { s with store := { s.store with arb := arbWritten s, arbWaits := false } }

end Sys2Proof.Machine
end

