-- ==== Sys2Proof/Machine/Syndrome.lean ====
section
/-! DEFINITION. The syndrome engine (R267 to R280): its graph, rounds, clusters and their growth, peeling, passes and the round log. -/

namespace Sys2Proof.Machine

/-- A node of the decoding graph: check and round. -/
abbrev Node := Nat × Nat

/-- Node order (R267): by round, oldest first, then by check. -/
def nodeLt (a b : Node) : Bool := decide (a.2 < b.2) || (a.2 == b.2 && decide (a.1 < b.1))

/-! ### The graph (R268 to R270) -/

/-- Word 1 of check entry c, and the indices of its edges. -/
def checkWord1 (s : State) (c : Nat) : Nat := memWord s (couchKey (8 * c + 4))
def edgesOf (s : State) (c : Nat) : List Nat := (List.range (bits (checkWord1 s c) 20 16)).map (· + bits (checkWord1 s c) 11 0)

/-- Edge record e and its fields (R269). -/
def edgeWord (s : State) (e : Nat) : Nat := memWord s (couchKey (0x1000 + 4 * e))
def edgeKind (s : State) (e : Nat) : Nat := bits (edgeWord s e) 31 30
def edgeDt (s : State) (e : Nat) : Nat := bits (edgeWord s e) 29 28
def edgeTarget (s : State) (e : Nat) : Nat := bits (edgeWord s e) 27 16
def edgeWeight (s : State) (e : Nat) : Nat := bits (edgeWord s e) 15 12
def edgeMask (s : State) (e : Nat) : Nat := bits (edgeWord s e) 11 10
def edgeSlot (s : State) (e : Nat) : Nat := bits (edgeWord s e) 9 2

/-- The round of an edge's far end. -/
def farRound (r dt : Nat) : Int := (r : Int) + (if dt = 1 then 1 else if dt = 2 then -1 else 0)

/-- DT reversed. -/
def revDt (dt : Nat) : Nat := if dt = 1 then 2 else if dt = 2 then 1 else dt

/-- The mirror of edge e of check c (R269). -/
def mirrorOf (s : State) (c e : Nat) : Option Nat :=
  (edgesOf s (edgeTarget s e)).find? (fun m =>
    edgeKind s m == 0 && edgeTarget s m == c && edgeDt s m == revDt (edgeDt s e) && edgeWeight s m == edgeWeight s e
      && edgeMask s m == edgeMask s e && edgeSlot s m == edgeSlot s e)

/-! ### The window -/

/-- The rounds of the window: from, and the last closed one. -/
structure Win where
  lo : Nat
  hi : Nat
deriving DecidableEq, Repr

/-- The far node of an internal edge, inside the window (R274: an edge to a round not yet closed does not grow). -/
def farNode (s : State) (w : Win) (n : Node) (e : Nat) : Option Node :=
  let r := farRound n.2 (edgeDt s e)
  if edgeKind s e = 0 ∧ (w.lo : Int) ≤ r ∧ r ≤ w.hi then some (edgeTarget s e, r.toNat) else none

/-- The name under which an edge's growth is kept: that of its lower end. -/
def edgeName (s : State) (w : Win) (n : Node) (e : Nat) : Nat × Nat × Nat :=
  match farNode s w n e with
  | some f => if nodeLt f n then (f.1, f.2, (mirrorOf s n.1 e).getD e) else (n.1, n.2, e)
  | none => (n.1, n.2, e)

/-- The growth of an edge, and whether it is solid (R274). -/
def growthOf (s : State) (w : Win) (n : Node) (e : Nat) : Nat := tget s.couch.se.growth 0 (edgeName s w n e)
def solid (s : State) (w : Win) (n : Node) (e : Nat) : Bool := decide (edgeWeight s e ≤ growthOf s w n e)

/-- Nodes joined to a node by solid edges, in edge-table order. -/
def solidNext (s : State) (w : Win) (n : Node) : List (Node × Nat) :=
  (edgesOf s n.1).filterMap (fun e => if solid s w n e then (farNode s w n e).map (fun f => (f, e)) else none)

/-- Breadth first from a list of nodes found: each node found with its parent and edge (R275). -/
def searchFrom (s : State) (w : Win) : Nat → List Node → List (Node × Option (Node × Nat)) → List (Node × Option (Node × Nat))
  | 0, _, seen => seen
  | _, [], seen => seen
  | k + 1, n :: todo, seen =>
    let new := (solidNext s w n).foldl (fun acc f =>
      if (seen ++ acc).any (fun x => x.1 == f.1) then acc else acc ++ [(f.1, some (n, f.2))]) []
    searchFrom s w k (todo ++ new.map (·.1)) (seen ++ new)

/-- The tree of a cluster from one of its nodes, in the order of discovery. -/
def treeFrom (s : State) (w : Win) (n : Node) : List (Node × Option (Node × Nat)) := searchFrom s w 8193 [n] [(n, none)]

/-- The nodes of the cluster of a node, and every cluster of the window (R274). -/
def clusterOf (s : State) (w : Win) (n : Node) : List Node := (treeFrom s w n).map (·.1)
def clustersFrom (s : State) (w : Win) (seeds : List Node) : List (List Node) :=
  seeds.foldl (fun acc n => if acc.any (fun cl => cl.contains n) then acc else acc ++ [clusterOf s w n]) []
def clusters (s : State) (w : Win) : List (List Node) :=
  clustersFrom s w (s.couch.se.events
    ++ (s.couch.se.growth.filter (fun x => decide (edgeWeight s x.1.2.2 ≤ x.2))).map (fun x => (x.1.1, x.1.2.1)))

/-- A node holds an event. -/
def hasEvent (s : State) (n : Node) : Bool := s.couch.se.events.contains n

/-- Solid boundary edges of a cluster of a kind, with their nodes. -/
def boundaryEdges (s : State) (w : Win) (cl : List Node) (kind : Nat) : List (Node × Nat) :=
  cl.flatMap (fun n => ((edgesOf s n.1).filter (fun e => edgeKind s e == kind && solid s w n e)).map (fun e => (n, e)))

/-- A cluster is odd (R274). -/
def isOdd (s : State) (w : Win) (cl : List Node) : Bool :=
  (cl.filter (hasEvent s)).length % 2 == 1 && (boundaryEdges s w cl 1).isEmpty && (boundaryEdges s w cl 2).isEmpty

/-! ### Growth (R274) -/

/-- The edges on the boundary of a cluster that can grow, by name: none to a round not yet closed. -/
def growEdges (s : State) (w : Win) (cl : List Node) : List (Nat × Nat × Nat) :=
  cl.flatMap (fun n => (edgesOf s n.1).filterMap (fun e =>
    if solid s w n e then none
    else if edgeKind s e = 0 then
      match farNode s w n e with
      | some f => if cl.contains f then none else some (edgeName s w n e)
      | none => none
    else if farRound n.2 (edgeDt s e) ≤ (w.hi : Int) then some (n.1, n.2, e)
    else none))

/-- One growth step: the updates made from the state at its start. -/
def growOnce (s : State) (w : Win) : State × Nat :=
  let ups := ((clusters s w).filter (isOdd s w)).flatMap (growEdges s w)
  ({ s with couch := { s.couch with se := { s.couch.se with
      growth := ups.foldl (fun t k => tset t k (tget t 0 k + 1)) s.couch.se.growth } } }, ups.length)

/-- Growth until no odd cluster can grow, with the ticks it takes (R273). -/
def grow (w : Win) : Nat → State → Nat → State × Nat
  | 0, s, tk => (s, tk)
  | k + 1, s, tk =>
    let a := growOnce s w
    if a.2 = 0 then (s, tk) else grow w k a.1 (tk + max 1 ((a.2 + 63) / 64))

/-! ### Peeling (R275, R276) -/

/-- The lowest of a list of nodes. -/
def lowest : List Node → Option Node
  | [] => none
  | n :: r => match lowest r with | some m => some (if nodeLt m n then m else n) | none => some n

/-- The first boundary edge of the lowest node. -/
def firstEdge (es : List (Node × Nat)) : Option (Node × Nat) :=
  match lowest (es.map (·.1)) with
  | some n => es.find? (fun x => x.1 == n)
  | none => none

/-- Leaves are removed in reverse order of discovery: the events left and the correction edges, each with the node it is seen from. -/
def peelTree : List (Node × Option (Node × Nat)) → List Node → List (Node × Nat) → List Node × List (Node × Nat)
  | [], ev, corr => (ev, corr)
  | (n, some (m, e)) :: r, ev, corr =>
    if ev.contains n then peelTree r ((if ev.contains m then ev.erase m else ev ++ [m]).erase n) (corr ++ [(m, e)])
    else peelTree r ev corr
  | (_, none) :: r, ev, corr => peelTree r ev corr

/-- The correction edges of a cluster (R275); `forced`: peeled from its lowest node of the leaving round (R276). -/
def correction (s : State) (w : Win) (cl : List Node) (forced : Option Nat) : List (Node × Nat) :=
  let root : Option (Node × Option Nat) := match forced with
    | some r => (lowest (cl.filter (fun n => n.2 == r))).map (fun n => (n, none))
    | none =>
      match firstEdge (boundaryEdges s w cl 1), firstEdge (boundaryEdges s w cl 2) with
      | some x, _ => some (x.1, some x.2)
      | none, some x => some (x.1, some x.2)
      | none, none => (lowest cl).map (fun n => (n, none))
  match root with
  | none => []
  | some (n, e) =>
    let p := peelTree (treeFrom s w n).reverse (cl.filter (hasEvent s)) []
    match e with
    | some e => if p.1.contains n then p.2 ++ [(n, e)] else p.2
    | none => p.2

/-- What a pass gathers for its log and its end. -/
structure PassAcc where
  tick : Nat
  corr : Nat
  forced : Bool
  pushed : Bool
deriving DecidableEq, Repr

/-- The effects of a correction edge at a tick (R275). -/
def correctEdge (s : State) (tick : Nat) (x : Node × Nat) : State :=
  let s := if edgeMask s x.2 = 0 then s else couchAt s tick (.seXor (edgeSlot s x.2) (edgeMask s x.2))
  if edgeKind s x.2 = 2 then
    couchAt s tick (.seBnd (bits (edgeTarget s x.2) 11 9) (bits (edgeTarget s x.2) 8 0) ((farRound x.1.2 (edgeDt s x.2)) % 65536).toNat)
  else s

/-- A cluster is committed (R273, R275): peeled in 2 + ⌈N / 32⌉ ticks, its effects in the tick after; its nodes hold no events and its
edges return to zero growth. -/
def commitCluster (w : Win) (forced : Option Nat) (a : State × PassAcc) (cl : List Node) : State × PassAcc :=
  let s := a.1
  let corr := correction s w cl forced
  let tk := a.2.tick + 2 + (cl.length + 31) / 32
  let names := cl.flatMap (fun n => (edgesOf s n.1).map (edgeName s w n))
  let s' := corr.foldl (fun s x => correctEdge s tk x) s
  let s' := { s' with couch := { s'.couch with se := { s'.couch.se with
      events := s'.couch.se.events.filter (fun n => !cl.contains n),
      growth := s'.couch.se.growth.filter (fun x => !names.contains x.1) } } }
  let s' := if forced.isSome then latch (incF s' F.SE_CNT_A_FORCED) F.SE_LATCH_FORCED 546 else s'
  (s', ⟨tk, a.2.corr + corr.length, a.2.forced || forced.isSome, a.2.pushed || corr.any (fun x => edgeKind s x.2 == 2)⟩)

/-- A cluster put before the first one whose lowest node comes later. -/
def insertCluster (cl : List Node) : List (List Node) → List (List Node)
  | [] => [cl]
  | x :: r =>
    match lowest cl, lowest x with
    | some a, some b => if nodeLt a b then cl :: x :: r else x :: insertCluster cl r
    | _, _ => cl :: x :: r

/-- Clusters in the order of their lowest nodes. -/
def byLowest (cls : List (List Node)) : List (List Node) := cls.foldr insertCluster []

/-! ### Passes (R273) -/

/-- The slide: round r − W leaves the window, if the window still holds it (R273, R276, R278). -/
def slide (s : State) (r tick : Nat) : State × PassAcc :=
  let size := getF s F.SE_GEOM_W
  let a : State × PassAcc := (s, ⟨tick, 0, false, false⟩)
  if r < size + s.couch.se.floor then a
  else
    let w : Win := ⟨r - size, r - 1⟩
    let out := byLowest ((clusters s w).filter (fun cl => cl.any (fun n => n.2 == r - size)))
    let b := out.foldl (fun a cl => commitCluster w (if isOdd s w cl then some (r - size) else none) a cl) a
    ({ b.1 with couch := { b.1.couch with se := { b.1.couch.se with
        events := b.1.couch.se.events.filter (fun n => n.2 != r - size),
        growth := b.1.couch.se.growth.filter (fun x => x.1.2.1 != r - size) } } }, b.2)

/-- A node's event is toggled. -/
def toggleEvent (s : State) (n : Node) : State :=
  let ev := s.couch.se.events
  { s with couch := { s.couch with se := { s.couch.se with events := if ev.contains n then ev.erase n else ev ++ [n] } } }

/-- The latest round, at or before round r, whose bits [7:0] are those of a boundary entry (R324). -/
def namedRound (r n8 : Nat) : Nat := r - (r + 256 - n8) % 256

/-- A boundary entry is applied (R277, R324): the event of its node toggles and its mask goes into the frame of its slot; an entry whose round is not
in the window, or was discarded, is dropped. -/
def applyBoundary (w : Win) (a : State × Bool) (x : Nat × Nat × Nat) : State × Bool :=
  let s := a.1
  let r := namedRound w.hi x.2.1
  let b := memWord s (couchKey (0x5000 + 4 * x.1))
  if bits b 31 31 = 0 then a
  else if w.hi < (w.hi + 256 - x.2.1) % 256 ∨ r < w.lo ∨ s.couch.se.discarded.contains r then
    (latch (incF s F.SE_CNT_B_LATE_BND) F.SE_LATCH_LATE_BND 548, true)
  else (xorFrame (toggleEvent s (bits b 7 0, r)) (bits b 23 16) (bits b 25 24), a.2)

/-- The window of a pass for round r: its W most recent rounds, none of them discarded under overload (R278). -/
def passWin (s : State) (r : Nat) : Win := ⟨max (r + 1 - getF s F.SE_GEOM_W) s.couch.se.floor, r⟩

/-- A pass for a closed round (R273): slide, detectors and the boundary toggles received before this tick (R281), growth, selection, commit;
its log entry waits for its end. -/
def passOp (s : State) (x : Round) : State :=
  let w := passWin s x.r
  let a := slide s x.r s.now
  let s := a.1
  let held := s.couch.se.bnd.filter (fun y => decide (y.2.2 < s.now))
  let s := { s with couch := { s.couch with se := { s.couch.se with
    bnd := s.couch.se.bnd.filter (fun y => decide (s.now ≤ y.2.2)), events := s.couch.se.events ++ x.det.map (fun c => (c, x.r)) } } }
  let b := held.foldl (applyBoundary w) (s, false)
  let g := grow w 131072 b.1 (a.2.tick + 2)
  let s := g.1
  let ok := byLowest ((clusters s w).filter (fun cl =>
    !isOdd s w cl && cl.all (fun n => decide (n.2 + getF s F.SE_GEOM_HOLD ≤ x.r))))
  let d := ok.foldl (commitCluster w none) (s, { a.2 with tick := g.2 + 1 })
  let s := d.1
  setF { s with couch := { s.couch with se := { s.couch.se with
      passed := some x.r,
      pass := some ⟨d.2.tick, x.r, x.t, x.missing, d.2.forced, b.2, d.2.pushed, x.det.length, d.2.corr⟩ } } }
    F.SE_STAT_ODD ((clusters s w).filter (isOdd s w)).length

/-- A delivery that waits in the Couch is none of the syndrome engine's. -/
def notEngine (y : Nat × Deliver) : Bool :=
  match y.2 with
  | .seXor _ _ => false
  | .seBnd _ _ _ => false
  | _ => true

/-- An uncorrectable word of the check, edge and boundary tables, if there is one: its offset in the Couch SRAM (R356). -/
def tableBad (s : State) : Option Nat :=
  (s.store.bad.find? (fun k => decide (couchKey 0 ≤ k) && decide (k < couchKey 0x5800))).map (· - couchKey 0)

/-- SE_CTRL.STOP (R271): the engine ends at once, and the window is discarded without any commit. -/
def seStopOp (s : State) : State :=
  let s := setB (setB s F.SE_STAT_ARMED false) F.SE_STAT_RUN false
  let s := setF (setF s F.SE_STAT_WAITING 0) F.SE_STAT_ODD 0
  { s with couch := { s.couch with
    se := Syndrome.init
    due := s.couch.due.filter notEngine } }

/-- The engine reads an uncorrectable word: it stops without commits, and the fault reaches the chip level (R356). -/
def seUncorrectable (s : State) (b : Nat) : State := chipFault (seStopOp (uncorrectable s 5 (couchKey b)))

/-- DECODE_PASS (R273): the first waiting round, when no pass runs; an uncorrectable table word stops the engine (R356). -/
def decodePassOp (s : State) : State :=
  match s.couch.se.waiting, tableBad s with
  | _ :: _, some b => if flagF s F.SE_STAT_RUN then seUncorrectable s b else s
  | _, _ =>
  match s.couch.se.pass, s.couch.se.waiting with
  | none, x :: rest =>
    if flagF s F.SE_STAT_RUN then
      passOp (setF { s with couch := { s.couch with se := { s.couch.se with waiting := rest } } } F.SE_STAT_WAITING rest.length) x
    else s
  | _, _ => s

/-- DECODE_PASS (R273). -/
def execDecodePass (s : State) : Host.Outcome State Fault Refusal := .next (decodePassOp s)

/-- A round-log entry is written (R280). -/
def logEntry (s : State) (l : PassLog) (discard : Bool) : State :=
  let base := couchKey (0x10000 + 16 * getF s F.SE_LOG_WR)
  let w0 := l.r % 65536 + 2 ^ 16 * l.missing.toNat + 2 ^ 17 * l.forced.toNat + 2 ^ 18 * discard.toNat + 2 ^ 19 * l.lateBnd.toNat
    + 2 ^ 20 * l.pushed.toNat
  let s := setWord (setWord s base w0) (base + 4) (l.t % 2 ^ 32)
  let s := setWord (setWord s (base + 8) (l.t / 2 ^ 32)) (base + 12) (l.events % 65536 + 65536 * (l.corr % 65536))
  incF s F.SE_LOG_WR

/-- DECODE_PASS_END (R280): the pass has run its ticks. -/
def decodePassEndOp (s : State) : State :=
  match s.couch.se.pass with
  | some l =>
    if l.done ≤ s.now then logEntry { s with couch := { s.couch with se := { s.couch.se with pass := none, passEnded := some s.now } } } l false else s
  | none => s

/-- DECODE_PASS_END (R280). -/
def execDecodePassEnd (s : State) : Host.Outcome State Fault Refusal := .next (decodePassEndOp s)

/-! ### Rounds (R272, R278) -/

/-- The value a check had in the last closed round. -/
def prevValue (s : State) (c : Nat) : Nat := if s.couch.se.prev.contains c then 1 else 0

/-- The detector of a check that delivered v (R268). -/
def detector (s : State) (c v : Nat) : Bool := (if (checkWord s c).testBit 12 then v + prevValue s c else v) % 2 == 1

/-- The round that gathers now is closed: its checks' values become the previous ones. -/
def closedRound (s : State) : Round × List Nat :=
  let e := s.couch.se
  let n := getF s F.SE_GEOM_C
  (⟨e.round, s.now, decide (e.got.length < n), (e.got.filter (fun x => detector s x.1 x.2)).map (·.1)⟩,
    (List.range n).filter (fun c => match e.got.find? (fun x => x.1 == c) with
      | some x => x.2 == 1
      | none => e.prev.contains c))

/-- Overload (R278): clusters, window and waiting rounds are discarded without commits; the window begins anew with the next round. -/
def overloadRounds (s : State) (x : Round) : State :=
  let e := s.couch.se
  let lost : List PassLog := e.pass.toList ++ (e.waiting ++ [x]).map (fun y => ⟨0, y.r, y.t, y.missing, false, false, false, y.det.length, 0⟩)
  let s := lost.foldl (fun s l => logEntry s l true) s
  let s := { s with couch := { s.couch with
    due := s.couch.due.filter notEngine
    se := { s.couch.se with
      waiting := [], events := [], growth := [], pass := none, passed := some x.r,
      discarded := (lost.map (·.r) ++ s.couch.se.discarded).take 64
      floor := x.r + 1 } } }
  latch (incF (setF (setF s F.SE_STAT_WAITING 0) F.SE_STAT_ODD 0) F.SE_CNT_A_OVERLOAD) F.SE_LATCH_OVERLOAD 545

/-- The round that gathers next: it takes the deliveries that have waited for it. -/
def nextRound (n rwin : Nat) (e : Syndrome) (prev : List Nat) : Syndrome :=
  e.next.foldl (fun e y => gatherValue n rwin e y.1 y.2.1 y.2.2)
    { e with round := e.round + 1, got := [], prev := prev, next := [], closeAt := none, first := none }

/-- A fifth round waits (R278): four wait while a pass runs. A pass that ends in this tick still runs for this (R281), and the round of one
that began in its place still waits. -/
def overloaded (s : State) : Bool :=
  let e := s.couch.se
  let ended := e.passEnded == some s.now
  let waiting := e.waiting.length + (if ended && e.pass.isSome then 1 else 0)
  decide ((if e.pass.isSome || ended then 4 else 5) ≤ waiting)

/-- The round closes now (R272). -/
def closeRound (s : State) : State :=
  let e := s.couch.se
  let x := closedRound s
  let missing := getF s F.SE_GEOM_C - e.got.length
  let again := nextRound (getF s F.SE_GEOM_C) (getF s F.SE_RWIN_TICKS) e x.2
  let late := overloaded s
  let s := fire (setF { s with couch := { s.couch with se := again } } F.SE_ROUND_LAST x.1.r) 550
  let s := if missing = 0 then s else latch (addF s F.SE_CNT_B_MISSING missing) F.SE_LATCH_MISSING 547
  if late then overloadRounds s x.1
  else
    setF { s with couch := { s.couch with se := { s.couch.se with waiting := s.couch.se.waiting ++ [x.1] } } } F.SE_STAT_WAITING
      (min 4 (e.waiting.length + 1))

/-- The round is due to close (R272). -/
def roundDue (s : State) : Bool := flagF s F.SE_STAT_RUN && roundOver s.couch.se (getF s F.SE_RWIN_TICKS) s.now

/-- ROUND_CLOSE (R272). -/
def execRoundClose (s : State) : Host.Outcome State Fault Refusal := .next (if roundDue s then closeRound s else s)

/-! ### Starting and stopping (R271, R276) -/

/-- The geometry holds (R267). -/
def geomOk (s : State) : Bool :=
  let c := getF s F.SE_GEOM_C
  let w := getF s F.SE_GEOM_W
  let h := getF s F.SE_GEOM_HOLD
  decide (1 ≤ c) && decide (c ≤ 256) && decide (2 ≤ w) && decide (w ≤ 32) && decide (c * w ≤ 8192) && decide (1 ≤ h)
    && decide (h ≤ 7) && decide (h < w)

/-- The error of an edge record, as SE_GERR.CODE (R269, R271, R276). -/
def edgeError (s : State) (c e : Nat) : Option Nat :=
  let k := edgeKind s e
  let t := edgeTarget s e
  if k = 3 ∨ edgeDt s e = 3 ∨ bits (edgeWord s e) 1 0 ≠ 0 ∨ (k = 0 ∧ 256 ≤ t) ∨ (k = 1 ∧ t ≠ 0) then some 2
  else if edgeWeight s e = 0 then some 3
  else if k = 0 ∧ getF s F.SE_GEOM_C ≤ t then some 5
  else if k = 0 ∧ (mirrorOf s c e).isNone then some 4
  else if k = 2 ∧ (getF s (F.SE_PORT_ROLE (t / 512)) ≠ 1 ∨ flagF s (F.SE_PORT_PEER_PULL (t / 512)) = false) then some 6
  else none

/-- The first error of the graph: code, whether at a check, and its index (R271). -/
def graphError (s : State) : Option (Nat × Bool × Nat) :=
  if !geomOk s then some (1, false, 0)
  else (List.range (getF s F.SE_GEOM_C)).findSome? (fun c =>
    if bits (checkWord s c) 31 14 ≠ 0 ∨ bits (checkWord1 s c) 31 21 ≠ 0 ∨ bits (checkWord1 s c) 15 12 ≠ 0 then some (2, true, c)
    else (edgesOf s c).findSome? (fun e => (edgeError s c e).map (fun k => (k, false, e))))

/-- SE_CTRL.START (R271): arms the engine, or names the first error. -/
def seStartOp (s : State) : State :=
  if flagF s F.SE_STAT_ARMED || flagF s F.SE_STAT_RUN then s
  else
    match tableBad s with
    | some b => seUncorrectable s b
    | none =>
    match graphError s with
    | some (k, chk, i) =>
      latch (setF (setB (setF s F.SE_GERR_CODE k) F.SE_GERR_CHECK chk) F.SE_GERR_INDEX i) F.SE_LATCH_GRAPH_ERR 549
    | none => setB s F.SE_STAT_ARMED true

/-- SE_START (R271). -/
def execSeStart (m : Master) (s : State) : Host.Outcome State Fault Refusal :=
  .next (regWrite m ⟨.SE_CTRL, 0, 0, 0⟩ s (fun s => some (seStartOp s)))

/-- The armed engine starts at a shot boundary (R271). -/
def seBoundary (s : State) : State :=
  if flagF s F.SE_STAT_ARMED then
    setB (setB { s with couch := { s.couch with se := Syndrome.init } } F.SE_STAT_ARMED false) F.SE_STAT_RUN true
  else s

/-- SE_STOP (R271). -/
def execSeStop (m : Master) (s : State) : Host.Outcome State Fault Refusal :=
  .next (regWrite m ⟨.SE_CTRL, 0, 0, 0⟩ s (fun s => some (seStopOp s)))

/-- A boundary entry received: held for the next pass of a running engine whose port has the pull role; dropped otherwise (R277). -/
def boundaryEntry (s : State) (p index round : Nat) : State :=
  if flagF s F.SE_STAT_RUN && getF s (F.SE_PORT_ROLE p) == 2 then
    { s with couch := { s.couch with se := { s.couch.se with bnd := s.couch.se.bnd ++ [(index, round, s.now)] } } }
  else s

/-- BOUNDARY_ENTRY_RX (R277): on a port in Run; held for the next pass of a running engine whose port has the pull role; dropped otherwise. -/
def execBoundaryEntryRx (p : Fin 8) (index : Fin 512) (round : Fin 256) (s : State) : Host.Outcome State Fault Refusal :=
  .next (if portRuns s p then boundaryEntry (cellPassed s p 0) p index round else s)

end Sys2Proof.Machine
end

