-- ==== Sys2Proof/Machine/Memory.lean ====
section
/-! DEFINITION. The memory system (R353 to R365): writes through the BAR2 windows, error correction, the scrubber, LPDDR6. -/

namespace Sys2Proof.Machine

/-! ### What is in use (R103, R104, R201, R226) -/

/-- A Vat word lies inside an active segment (R104). -/
def vatActive (s : State) (q w : Nat) : Bool :=
  (List.range 1024).any (fun d => decide (getF s (F.SEG_W3_ACTIVE q d) ≠ 0) && !segStream s q d
    && decide (getF s (F.SEG_W0_START q d) ≤ w) && decide (w < getF s (F.SEG_W0_START q d) + segWords s q d))

/-- A Vat word lies in the ring of an enabled stream (R104). -/
def inRing (s : State) (q w : Nat) : Bool :=
  (List.range 4).any (fun n => flagF s (F.STRM_CTRL_EN q n) && decide (64 * getF s (F.STRM_RING_BASE q n) ≤ w)
    && decide (w < 64 * getF s (F.STRM_RING_BASE q n) + ringLen s q n))

/-- A word of the weight memory lies in the table of an active descriptor (R201). -/
def weightActive (s : State) (q w : Nat) : Bool :=
  (List.range 256).any (fun d => decide (getF s (F.WGT_W3_ACTIVE q d) ≠ 0) && !flagF s (F.WGT_W0_MODE q d)
    && decide (getF s (F.WGT_W0_START q d) ≤ w) && decide (w < getF s (F.WGT_W0_START q d) + getF s (F.WGT_W1_WLEN q d)))

/-- An instruction of program memory lies in the window of a thread in RUN, STALL or WAIT (R112). -/
def programActive (s : State) (q a : Nat) : Bool :=
  (List.range 16).any (fun t => isActive (thrState s q t) && decide (8 * getF s (F.THR_WIN_BASE q t) ≤ a)
    && decide (a ≤ 8 * getF s (F.THR_WIN_LIMIT q t) + 7))

/-- An instruction of a Beater program lies in the window of a context in RUN, STALL or WAIT (R226). -/
def engineActive (s : State) (q a : Nat) : Bool :=
  (List.range 16).any (fun c => isActive (ctxState s q c) && decide (getF s (F.CTX_WIN_BASE q c) ≤ a)
    && decide (a ≤ getF s (F.CTX_WIN_LIMIT q c)))

/-! ### Where a window write goes (R358, R360) -/

/-- The base of the LPDDR6 window in force (R360): in the REG cycle of a write of MEM_DWIN still the one before it. -/
def dwinBase (s : State) : Nat := if s.now < s.store.dwin.1 then s.store.dwin.2 else getF s F.MEM_DWIN_BASE

/-- The key of an LPDDR6 window byte (R358). -/
def dwinKey (s : State) (a : Nat) : Nat := ddrKey (dwinBase s * 2 ^ 30 + (a - 0x40000000))

/-- The memory key of a BAR2 offset. -/
def windowKey (s : State) (a : Nat) : Nat := if 0x40000000 ≤ a then dwinKey s a else a

/-- The power domain that serves a BAR2 offset (R358, R436). -/
def windowDomain (a : Nat) : Nat :=
  if a < 0x4000000 then 5 * (a / 0x400000) + 1
  else if a < 0x5000000 then 5 * (a / 0x100000 % 16)
  else if a < 0x6000000 then 5 * (a / 0x100000 % 16) + 2
  else if a < 0x6800000 then 5 * (a / 0x80000 % 16) + 3
  else if a < 0x8800000 then 112 + 3 * ((a - 0x6800000) / 0x200000 / 4) + 2
  else 129

/-- A BAR2 offset is a byte of one of the memories (R200, R224, R358). -/
def windowExists (s : State) (a : Nat) : Bool :=
  if a < 0x5000000 then true
  else if a < 0x6000000 then decide (a % 0x100000 < 0xFC000)
  else if a < 0x6800000 then decide (a % 0x80000 < 0x10000 + 0x30000) || decide (0x40000 ≤ a % 0x80000 ∧ a % 0x80000 < 0x80000)
  else if a < 0x9000000 then true
  else decide (0x40000000 ≤ a ∧ a < 0x80000000) && decide (dwinKey s a < ddrKey (ddrBytes s))

/-- The memory a window access reaches is out of service (R360, R370). -/
def windowOff (s : State) (a : Nat) : Bool :=
  if 0x40000000 ≤ a then decide (a < 0x80000000) && !flagF s F.MEM_DDR_STAT_READY
  else decide (a < 0x9000000) && !domainOn s (windowDomain a)

/-- The syndrome tables, while the engine is armed or running (R271). -/
def tableLocked (s : State) (a : Nat) : Bool :=
  (flagF s F.SE_STAT_ARMED || flagF s F.SE_STAT_RUN)
    && (decide (couchKey 0 ≤ a ∧ a < couchKey 0x800) || decide (couchKey 0x1000 ≤ a ∧ a < couchKey 0x5800))

/-- A 32-bit word of a window rejects a write by the rules of its memory: the code, and the state with the rejection counted (R104, R112,
R200, R201, R226, R271, R314, R358, R360). -/
def windowReject (s : State) (a : Nat) : Option (Err × State) :=
  if windowOff s a then some (.poweredOff, s)
  else if !windowExists s a then some (.noObject, s)
  else if a < 0x4000000 then
    let q := a / 0x400000
    if vatActive s q (a % 0x400000 / 4) || inRing s q (a % 0x400000 / 4) then some (.segBusy, incF s (F.SEQ_CNT_SEG_SEGCONF q)) else none
  else if a < 0x5000000 then
    if programActive s (a / 0x100000 % 16) (a % 0x100000 / 8) then some (.progBusy, s) else none
  else if a < 0x6000000 then
    let q := a / 0x100000 % 16
    if weightActive s q (a % 0x100000 / 4) then
      some (.segBusy, latch (incF s (F.HB_CNT_B_WCONF q)) (F.HB_LATCH_WCONF q) (quireEvent q 17))
    else none
  else if a < 0x6800000 then
    let q := a / 0x80000 % 16
    if a % 0x80000 < 0x10000 ∧ engineActive s q (a % 0x80000 / 8) = true then some (.progBusy, s) else none
  else if a < 0x8800000 then some (.refused, s)
  else if a < 0x9000000 then
    if tableLocked s a then some (.segBusy, incF s F.SE_CNT_C_GBUSY) else none
  else none

/-! ### Window writes (R359, R372) -/

/-- Program memory of a quire has been written by another master than the bundle loader, a management core (R413). -/
def noteProgram (s : State) (m : Master) (a : Nat) : State :=
  match m with
  | .core _ => s
  | _ => if 0x4000000 ≤ a ∧ a < 0x5000000 then setB s F.SEC_STAT_UNSIGNED_CODE true else s

/-- One 32-bit word of a window, or some of its bytes, written: `lo` bytes skipped, n bytes of v (R359). A narrow write whose read finds
an uncorrectable word fails (R356). -/
def windowWord (s : State) (m : Master) (a lo n v : Nat) : State × Option Err :=
  match windowReject s a with
  | some (e, s') => (s', some e)
  | none =>
    let s := bankAccess s a
    let key := windowKey s a
    if n < 4 ∧ wordBad s key = true then (uncorrectable s (memClass a) (a / 8 * 8), some .uncorrectable)
    else (memWrite (noteProgram s m a) (key + lo) n v, none)

/-- The code of an access made word by word: that of its first rejected word, SEG_BUSY before every other (R359). -/
def joinErr (a b : Option Err) : Option Err :=
  if b = some .segBusy then b else match a with | some e => some e | none => b

/-- The words an access touches, in ascending order (R359). -/
def windowWords (s : State) (m : Master) (addr v : Nat) : Nat → Nat → State × Option Err
  | 0, _ => (s, none)
  | fuel + 1, n =>
    if n = 0 then (s, none)
    else
      let lo := addr % 4
      let k := min n (4 - lo)
      let r := windowWord s m (addr - lo) lo k (v % 256 ^ k)
      let t := windowWords r.1 m (addr + k) (v / 256 ^ k) fuel (n - k)
      (t.1, joinErr r.2 t.2)

/-- The alignment rule of R372, for an access of n bytes. -/
def windowAligned (addr n : Nat) : Bool :=
  if n = 1 then true else if n = 2 then addr % 2 == 0
  else if n % 4 = 0 then addr % 4 == 0
  else addr % 4 == 0 || decide (addr % 4 + n ≤ 4)

/-- An accepted write of whole 64-bit words leaves them with valid check bits (R355). -/
def wordsMended (s : State) (addr n : Nat) : State :=
  { s with store := { s.store with
      bad := s.store.bad.filter (fun k => decide (k < addr) || decide (addr + n < k + 8))
      writeback := s.store.writeback.filter (fun x => decide (x.2 < addr) || decide (addr + n < x.2 + 8)) } }

/-- A write through a BAR2 window of so many bits (R358 to R360, R372, R376). -/
def windowWrite (s : State) (m : Master) (addr size v : Nat) : State :=
  let n := size / 8
  if !windowAligned addr n then busError s m true size true addr .misaligned
  else
    let r := windowWords s m addr v (n + 1) n
    match r.2 with
    | some e => busError r.1 m true size true addr e
    | none => emit (wordsMended r.1 addr n) (.response m 0)

/-- A BAR2 offset lies in a region that is down (R25). -/
def windowStalls (s : State) (a : Nat) : Bool := decide (a < 0x8800000) && domainStalls s (windowDomain a)

/-- WINDOW_WRITE (R359); it waits while its region is down (R25). -/
def execWindowWrite (m : Master) (addr size val : Nat) (s : State) : Host.Outcome State Fault Refusal :=
  .next (if windowStalls s addr then holdAccess s (.windowWrite m addr size val) else windowWrite s m addr size val)

/-! ### Error correction and the scrubber (R355 to R357) -/

/-- ECC_WRITEBACK (R355): a corrected word goes back and its class counts it. -/
def execEccWriteback (cls : Fin 7) (addr : Nat) (s : State) : Host.Outcome State Fault Refusal :=
  .next (incF { s with store := { s.store with writeback := s.store.writeback.erase (cls.val, addr) } } (F.MEM_ECC_CNT_CE cls))

/-- An uncorrectable word of classes 0 to 2 is in use by playout, read-out or a thread (R357). -/
def wordActive (s : State) (a : Nat) : Bool :=
  if a < 0x4000000 then vatActive s (a / 0x400000) (a % 0x400000 / 4) || vatActive s (a / 0x400000) (a % 0x400000 / 4 + 1)
  else if a < 0x5000000 then programActive s (a / 0x100000 % 16) (a % 0x100000 / 8)
  else weightActive s (a / 0x100000 % 16) (a % 0x100000 / 4) || weightActive s (a / 0x100000 % 16) (a % 0x100000 / 4 + 1)

/-- The quire of a word of classes 0 to 2. -/
def wordQuire (a : Nat) : Nat := if a < 0x4000000 then a / 0x400000 else a / 0x100000 % 16

/-- A scrub finding (R357): corrected words go to be written back; uncorrectable ones of classes 0 to 2 are rewritten, with a restore if
in use; those of classes 3 to 5 are recorded, for their reader to meet. -/
def scrubFind (s : State) (f : ScrubFind) : State :=
  let a := f.addr / 8 * 8
  if 0x9000000 ≤ a then s
  else if !f.ue then { s with store := { s.store with writeback := s.store.writeback ++ [(memClass a, a)] } }
  else
    let s := uncorrectable s (memClass a) a
    if a < 0x6000000 then
      let active := wordActive s a
      let s := rewriteWord s a
      if active then restoreBegin s (wordQuire a) else s
    else if wordBad s a then s else { s with store := { s.store with bad := s.store.bad ++ [a] } }

/-- A reader meets an uncorrectable word (R356). -/
def eccMet (s : State) (u : EccUse) : State :=
  match u with
  | .realtime q w => restoreBegin (restoreWord s q w) q
  | .context q c a => let s := uncorrectable s 3 a; if isActive (ctxState s q c) then ctxFault s q c 5 else s
  | .engine a => seUncorrectable s (a - couchKey 0)
  | .core n => coreRestart (uncorrectable s 6 0x7FFFFFFF) n
  | .network m a => busError (uncorrectable s (memClass a) (a / 8 * 8)) m false 32 true a .uncorrectable

/-- One pass of the scrubber, unless it is stopped, and the uncorrectable words readers met since the last (R356, R357). -/
def scrubPass (s : State) (found : List ScrubFind) (met : List EccUse) : State :=
  let s := met.foldl eccMet s
  if getF s F.MEM_SCRUB_PERIOD = 0 then s else incF (found.foldl scrubFind s) F.MEM_SCRUB_PASSES

/-- SCRUB_PASS (R357). -/
def execScrubPass (found : List ScrubFind) (met : List EccUse) (s : State) : Host.Outcome State Fault Refusal :=
  .next (scrubPass s found met)

/-! ### LPDDR6 (R363 to R365) -/

/-- The nominal of VDDQ comes from the parts at the first training since reset or wake, and enables window 453 (R179). -/
def vddqTaken (s : State) : State :=
  if s.deckle.vddq then s
  else
    let s := { s with deckle := { s.deckle with vddq := true } }
    let s := setB (setB s (F.DK_WIN_CFG_EN 453) true) (F.DK_WIN_CFG_TRIP_EN 453) false
    setWindow s 453 { windowOf s 453 with armAt := some (s.now + 1000) }

/-- LPDDR6_TRAINING (R363): with the capacity fitted in GiB, the data rate reached, and the channels that failed. -/
def ddrTrain (s : State) (cap rate failed : Nat) : State :=
  let s := setF (setF s F.MEM_DDR_STAT_CAP cap) F.MEM_DDR_STAT_TRAIN failed
  if failed = 0 then vddqTaken (setF (setB s F.MEM_DDR_STAT_READY true) F.MEM_DDR_STAT_RATE rate)
  else incF (setB s F.MEM_DDR_STAT_READY false) F.MEM_DDR_CNT_TRAIN_FAIL

/-- LPDDR6_TRAINING (R363). -/
def execLpddr6Training (cap : Fin 65) (rate : Fin 10668) (failed : Fin 16) (s : State) : Host.Outcome State Fault Refusal :=
  .next (if domainOn s 132 then ddrTrain s cap rate failed else s)

/-- Suspensions that have ended are forgotten. -/
def suspend (s : State) (ch : Nat) (bank : Option Nat) (len : Nat) : State :=
  takeFree { s with store := { s.store with
    suspended := s.store.suspended.filter (fun x => decide (s.now < x.2.2)) ++ [(ch, bank, s.now + Config.freeNat s.free % (len + 1))] } }

/-- A channel recalibrates (R363): suspended for at most 0.5 µs, no more often than once per millisecond. -/
def ddrRecal (s : State) (ch : Nat) : State :=
  match tget s.store.recalAt none ch with
  | some t => if s.now < t + 500000 then s else recalNow s ch
  | none => recalNow s ch
where
  recalNow (s : State) (ch : Nat) : State :=
    let s := { s with store := { s.store with recalAt := tset s.store.recalAt ch (some s.now) } }
    incF (suspend s ch none 250) F.MEM_DDR_CNT_RECAL

/-- LPDDR6_RECAL (R363). -/
def execLpddr6Recal (ch : Fin 4) (s : State) : Host.Outcome State Fault Refusal :=
  .next (if flagF s F.MEM_DDR_STAT_READY then ddrRecal s ch else s)

/-- LPDDR6_REFRESH (R363): a bank is suspended for at most 0.3 µs. -/
def execLpddr6Refresh (ch : Fin 4) (bank : Fin 16) (s : State) : Host.Outcome State Fault Refusal :=
  .next (if flagF s F.MEM_DDR_STAT_READY then suspend s ch (some bank.val) 150 else s)

end Sys2Proof.Machine
end

