-- ==== Sys2Proof/Machine/Eth.lean ====
section
/-! DEFINITION. Ethernet transmission and reception, the links, the DMA channels and the PCIe mailbox (R67 to R70, R378 to R383, R391). -/

namespace Sys2Proof.Machine

/-! ### Dictionary values that other blocks read (R392, R400) -/

/-- The value of a dictionary entry that maps onto no register; its default where nothing has written it. -/
def dictNat (s : State) (i sub dflt : Nat) : Nat := (tget s.host.dict none (i, sub)).getD dflt

/-- The state with such a value. -/
def setDict (s : State) (i sub v : Nat) : State := { s with host := { s.host with dict := tset s.host.dict (i, sub) (some v) } }

/-- The instrument personality is in force (R2). -/
def instrument (s : State) : Bool := !flagF s F.CHIP_PERS_ACTIVE

/-! ### Ethernet ports (R381) -/

/-- An Ethernet port's queues. -/
def ethOf (s : State) (e : Nat) : EthPort := tget s.host.eth EthPort.init e

/-- The state with a port's queues. -/
def setEth (s : State) (e : Nat) (x : EthPort) : State := { s with host := { s.host with eth := tset s.host.eth e x } }

/-- A port is enabled (0x1100 + e:01; by default in the instrument personality). -/
def portEnabled (s : State) (e : Nat) : Bool := dictNat s (0x1100 + e) 1 (instrument s).toNat != 0

/-- A port sends and receives: powered, enabled, its link up. -/
def portUp (s : State) (e : Nat) : Bool := domainOn s 143 && portEnabled s e && flagF s (F.ETH_STAT_LINK e)

/-- ETH_LINK_CHANGE (R381): a link comes up at the speed and FEC set for the port, or goes down. -/
def ethLink (s : State) (e : Nat) (up : Bool) : State :=
  let speed := dictNat s (0x1100 + e) 2 1
  let on := up && portEnabled s e
  let s := setB s (F.ETH_STAT_LINK e) on
  let s := setB s (F.ETH_STAT_SPEED e) (on && speed == 1)
  setB s (F.ETH_STAT_FEC e) (on && speed == 1 && dictNat s (0x1100 + e) 3 1 == 1)

/-- ETH_LINK_CHANGE (R381). -/
def execEthLinkChange (e : Fin 2) (up : Bool) (s : State) : Host.Outcome State Fault Refusal :=
  .next (if domainOn s 143 then ethLink s e up else s)

/-- A frame for ARP, NDP or ICMP is answered; fragments and frames for no supported service are discarded and counted (R381). -/
def ethFrame (s : State) (e : Nat) (f : RxFrame) : State :=
  match f with
  | .arp | .ndp | .icmp4 | .icmp6 => emit s (.reply e f)
  | .fragment | .other => setEth s e { ethOf s e with discarded := (ethOf s e).discarded + 1 }

/-- ETH_FRAME_RX (R381). -/
def execEthFrameRx (e : Fin 2) (f : RxFrame) (s : State) : Host.Outcome State Fault Refusal :=
  .next (if portUp s e then ethFrame s e f else s)

/-! ### The transmit rings (R67 to R70, R382, R383) -/

/-- Word 3 of a descriptor is written back with its outcome (R382). -/
def writeBack (s : State) (d : TxDesc) (status : Nat) : State := setWord s (d.slot + 12) (2 ^ 31 + status)

/-- The descriptor at a memory key (R382). -/
def readDesc (s : State) (k : Nat) : TxDesc :=
  let w2 := memWord s (k + 8)
  ⟨k, memWord s k + 2 ^ 32 * (memWord s (k + 4) % 16),
    if w2.testBit 31 then some (memWord s (k + 16) + 2 ^ 32 * memWord s (k + 20)) else none, w2 % 2 ^ 14⟩

/-- The memory key of the descriptor a port takes next. -/
def nextDesc (s : State) (e : Nat) : Nat :=
  ddrKey (getF s (F.ETH_TXR_LO_VALUE e) + 2 ^ 32 * getF s (F.ETH_TXR_HI_VALUE e)
    + 32 * (getF s (F.ETH_TXR_RD_COUNT e) % max 1 (getF s (F.ETH_TXR_SIZE_VALUE e))))

/-- Why a descriptor is refused, if it is (R68, R382): length or address, ordering, a full timed queue of 32. -/
def descStatus (s : State) (e : Nat) (d : TxDesc) : Nat :=
  if d.len < 60 ∨ 9212 < d.len ∨ ddrBytes s < d.addr + d.len then 4
  else
    match d.launch with
    | none => 0
    | some l =>
      if l < (ethOf s e).lastLaunch.getD 0 then 1 else if 32 ≤ (ethOf s e).timed.length then 2 else 0

/-- A descriptor joins its queue. -/
def enqueueDesc (s : State) (e : Nat) (d : TxDesc) : State :=
  let x := ethOf s e
  match d.launch with
  | some l => setEth s e { x with timed := x.timed ++ [d], lastLaunch := some l }
  | none => setEth s e { x with normal := x.normal ++ [d] }

/-- The port takes the next descriptor from its ring (R382, R383). -/
def txTake (s : State) (e : Nat) : State :=
  if !domainOn s 143 || !flagF s F.MEM_DDR_STAT_READY || getF s (F.ETH_TXR_SIZE_VALUE e) == 0
      || getF s (F.ETH_TXR_RD_COUNT e) == getF s (F.ETH_TXR_WR_COUNT e) then s
  else
    let d := readDesc s (nextDesc s e)
    let st := descStatus s e d
    let s := incF s (F.ETH_TXR_RD_COUNT e)
    if st = 0 then enqueueDesc s e d else writeBack s d st

/-- TX_DESCRIPTOR_TAKE (R382). -/
def execTxDescriptorTake (e : Fin 2) (s : State) : Host.Outcome State Fault Refusal := .next (txTake s e)

/-- A frame's time on the wire in ticks: FCS, preamble and interframe gap with it (R70). -/
def wireTicks (s : State) (e len : Nat) : Nat :=
  let bits := 8 * (len + 4 + 20)
  if flagF s (F.ETH_STAT_SPEED e) then (bits + 49) / 50 else (bits + 19) / 20

/-- The frame on the wire has left it: counted and written back (R383). -/
def txComplete (s : State) (e : Nat) : State :=
  match (ethOf s e).wire with
  | some (d, t) =>
    if t ≤ s.now then
      let s := setEth s e { ethOf s e with wire := none }
      writeBack (incF s (if d.launch.isSome then F.ETH_TXCNT_TIMED e else F.ETH_TXCNT_NORMAL e)) d 0
    else s
  | none => s

/-- FRAME_TX_COMPLETE (R383). -/
def execFrameTxComplete (e : Fin 2) (s : State) : Host.Outcome State Fault Refusal := .next (txComplete s e)

/-- A frame begins on the wire. -/
def txBegin (s : State) (e : Nat) (d : TxDesc) : State :=
  emit (setEth s e { ethOf s e with wire := some (d, s.now + wireTicks s e d.len) }) (.frame e d.launch.isSome d.addr d.len)

/-- A timed frame is discarded as late: counted, and a Post event (R69). -/
def txLate (s : State) (e : Nat) (d : TxDesc) : State :=
  writeBack (fire (incF s (if e = 0 then F.TB_LAUNCH_CNT_LATE0 else F.TB_LAUNCH_CNT_LATE1)) (28 + e)) d 3

/-- The head of the timed queue reaches its launch tick: it leaves, or is late (R67, R69). -/
def timedLaunch (s : State) (e : Nat) : State :=
  let s := txComplete s e
  match (ethOf s e).timed with
  | d :: rest =>
    if s.now < d.launch.getD 0 then s
    else
      let s := setEth s e { ethOf s e with timed := rest }
      if s.now = d.launch.getD 0 ∧ (ethOf s e).wire = none ∧ portUp s e = true then txBegin s e d else txLate s e d
  | [] => s

/-- TIMED_LAUNCH (R67). -/
def execTimedLaunch (e : Fin 2) (s : State) : Host.Outcome State Fault Refusal := .next (timedLaunch s e)

/-- A normal frame begins, unless it could still be on the wire at the next pending launch tick (R70). -/
def normalTx (s : State) (e : Nat) : State :=
  let s := txComplete s e
  match (ethOf s e).normal with
  | d :: rest =>
    let clear := (ethOf s e).timed.all (fun x => decide (s.now + wireTicks s e d.len ≤ x.launch.getD 0))
    if (ethOf s e).wire = none ∧ portUp s e = true ∧ clear = true then txBegin (setEth s e { ethOf s e with normal := rest }) e d else s
  | [] => s

/-- NORMAL_FRAME_TX (R70). -/
def execNormalFrameTx (e : Fin 2) (s : State) : Host.Outcome State Fault Refusal := .next (normalTx s e)

/-- The ring registers of a port are written only while it is empty (R382). -/
def ringIdle (s : State) (e : Nat) : Bool := getF s (F.ETH_TXR_RD_COUNT e) == getF s (F.ETH_TXR_WR_COUNT e)

/-- A write of ETH_TXR_WR that would leave more than SIZE descriptors written and not taken is refused (R382). -/
def txrWrite (s : State) (e v : Nat) : Option State :=
  if getF s (F.ETH_TXR_SIZE_VALUE e) < (v + 2 ^ 32 - getF s (F.ETH_TXR_RD_COUNT e)) % 2 ^ 32 then none
  else some (setF s (F.ETH_TXR_WR_COUNT e) v)

/-! ### The PCIe link (R378) -/

/-- A link state of R378: 1, 2, 4 or 8 lanes at generation 1 to 5, or none. -/
def pcieOk (width speed : Nat) : Bool :=
  (width == 0 && speed == 0) || ((width == 1 || width == 2 || width == 4 || width == 8) && decide (1 ≤ speed) && decide (speed ≤ 5))

/-- PCIE_LINK_CHANGE (R378): with the negotiated width and generation; 0 where the link is down. -/
def execPcieLinkChange (width speed : Fin 16) (s : State) : Host.Outcome State Fault Refusal :=
  .next (if domainOn s 142 ∧ pcieOk width speed = true then setF (setF s F.PCI_LINK_WIDTH width) F.PCI_LINK_SPEED speed else s)

/-! ### DMA (R380) -/

/-- A copy's settings are allowed (R380). -/
def dmaOk (s : State) (d : Nat) : Bool :=
  let len := getF s (F.DMA_LEN_VALUE d)
  getF s (F.DMA_HOST_LO_VALUE d) % 4 == 0 && getF s (F.DMA_DEV_VALUE d) % 4 == 0 && len % 4 == 0
    && decide (4 ≤ len) && decide (len ≤ 2 ^ 24)

/-- A word of a copy was rejected: reported to the channel (R376), and its code kept if it is the first (R380). -/
def dmaReject (s : State) (d : Nat) (write : Bool) (a : Nat) (e : Err) : State :=
  let s := busError s .dma write 32 true a e
  if tget s.host.dma 0 d = 0 then { s with host := { s.host with dma := tset s.host.dma d e.code } } else s

/-- One word copied into the device (R359, R380). -/
def dmaIn (s : State) (d a v : Nat) : State :=
  let r := windowWord s .dma a 0 4 v
  match r.2 with
  | some e => dmaReject r.1 d true a e
  | none => r.1

/-- Why a 32-bit read of a window fails, if it does (R356, R358, R360). -/
def windowReadErr (s : State) (a : Nat) : Option Err :=
  if windowOff s a then some .poweredOff else if !windowExists s a then some .noObject
  else if a < 0x40000000 ∧ wordBad s a = true then some .uncorrectable else none

/-- One word read for a copy to host memory: zero where the read fails. -/
def dmaOut (x : State × List Nat) (d a : Nat) : State × List Nat :=
  match windowReadErr x.1 a with
  | some .uncorrectable => (dmaReject (uncorrectable x.1 (memClass a) (a / 8 * 8)) d false a .uncorrectable, x.2 ++ [0])
  | some e => (dmaReject x.1 d false a e, x.2 ++ [0])
  | none =>
    let s := bankAccess x.1 a
    (s, x.2 ++ [memWord s (windowKey s a)])

/-- A copy (R380): 32 bits at a time, past rejected words. `data` is what the host's memory holds, for DIR = 0. -/
def dmaCopy (s : State) (d : Nat) (data : List Nat) : State :=
  let n := getF s (F.DMA_LEN_VALUE d) / 4
  let dev := getF s (F.DMA_DEV_VALUE d)
  if flagF s (F.DMA_CTRL_DIR d) then
    let r := (List.range n).foldl (fun x k => dmaOut x d (dev + 4 * k)) (s, [])
    emit r.1 (.hostWrite d (getF s (F.DMA_HOST_LO_VALUE d) + 2 ^ 32 * getF s (F.DMA_HOST_HI_VALUE d)) r.2)
  else (List.range n).foldl (fun s k => dmaIn s d (dev + 4 * k) (data.getD k 0 % 2 ^ 32)) s

/-- DMA_CTRL is written (R380): with START, the copy is carried out; refused while busy, or outside the limits. -/
def dmaStart (d : Nat) (dir : Bool) (data : List Nat) (s : State) : Option State :=
  if flagF s (F.DMA_STAT_BUSY d) ∨ dmaOk s d = false then none
  else
    let s := setB (setB s (F.DMA_CTRL_DIR d) dir) (F.DMA_STAT_BUSY d) true
    some (dmaCopy { s with host := { s.host with dma := tset s.host.dma d 0 } } d data)

/-- The device side of a copy reaches into a region that is down (R25). -/
def dmaStalls (s : State) (d : Nat) : Bool :=
  (List.range 4).any (fun g => !regionUp s g)
    && (List.range (getF s (F.DMA_LEN_VALUE d) / 4)).any (fun k => windowStalls s (getF s (F.DMA_DEV_VALUE d) + 4 * k))

/-- DMA_START (R380); the copy waits while a region it reaches into is down (R25). -/
def execDmaStart (m : Master) (d : Fin 4) (dir : Bool) (data : List Nat) (s : State) : Host.Outcome State Fault Refusal :=
  .next (if dmaStalls s d then holdAccess s (.dmaStart m d dir data) else regWrite m ⟨.DMA_CTRL, d, 0, 0⟩ s (dmaStart d dir data))

/-- A copy ends (R379, R380). -/
def dmaDone (s : State) (d : Nat) : State :=
  if flagF s (F.DMA_STAT_BUSY d) then
    let c := tget s.host.dma 0 d
    let s := setF (setB s (F.DMA_STAT_BUSY d) false) (F.DMA_STAT_CODE d) c
    msix (setB s (if c = 0 then F.DMA_STAT_DONE d else F.DMA_STAT_ERR d) true) (34 + d)
  else s

/-- DMA_DONE (R380). -/
def execDmaDone (d : Fin 4) (s : State) : Host.Outcome State Fault Refusal := .next (dmaDone s d)

/-! ### The mailbox (R391) -/

/-- GO (R391): refused while a request is in progress, or with a length out of range. -/
def mailboxGo (len : Nat) (s : State) : Option State :=
  if flagF s F.MBX_STAT_BUSY ∨ len < 16 ∨ 4096 < len then none
  else
    let s := setB (setF s F.MBX_CTRL_LEN len) F.MBX_STAT_BUSY true
    some { setB s F.MBX_STAT_RSP_VALID false with host := { s.host with mbx := none } }

/-- MAILBOX_GO (R391): a write of MBX_CTRL with GO. -/
def execMailboxGo (m : Master) (len : Fin 8192) (s : State) : Host.Outcome State Fault Refusal :=
  .next (regWrite m ⟨.MBX_CTRL, 0, 0, 0⟩ s (mailboxGo len))

/-- The bytes of a number, little-endian. -/
def leBytes : Nat → Nat → List Nat
  | 0, _ => []
  | n + 1, v => v % 256 :: leBytes n (v / 256)

/-- The number little-endian bytes spell. -/
def leNat : List Nat → Nat
  | [] => 0
  | b :: r => b + 256 * leNat r

/-- Bytes the spec does not determine, counted on from the model's counter. -/
def freeBytes (s : State) (n : Nat) : List Nat := (List.range n).map (fun k => (Config.freeByte (s.free + k)).toNat)

/-- The state with so many free values taken. -/
def takeFrees (s : State) (n : Nat) : State := { s with free := s.free + n }

/-- A response as bytes (R384): header, body, and within a session its tag. -/
def rspBytes (s : State) (session seq : Nat) (r : FeltRsp) : List Nat :=
  [1, r.type, 0, 0] ++ leBytes 4 session ++ leBytes 4 seq ++ leBytes 2 r.body.length ++ leBytes 2 r.status ++ r.body
    ++ (if session = 0 then [] else freeBytes s 64)

/-- The words of MBX_RSP take a response. -/
def rspWords (s : State) (l : List Nat) : State :=
  (List.range ((l.length + 3) / 4)).foldl (fun s w => setF s (F.MBX_RSP_DATA w) (leNat ((l.drop (4 * w)).take 4))) s

/-- The response to the request in progress is written, if it has one (R391). -/
def mailboxResponse (s : State) : State :=
  if flagF s F.MBX_STAT_BUSY then
    match s.host.mbx with
    | some (session, seq, r) =>
      let l := rspBytes s session seq r
      let s := setF (rspWords (takeFrees s 64) l) F.MBX_STAT_RSP_LEN l.length
      let s := { setB (setB s F.MBX_STAT_BUSY false) F.MBX_STAT_RSP_VALID true with host := { s.host with mbx := none } }
      msix s 32
    | none => setB s F.MBX_STAT_BUSY false
  else s

/-- MAILBOX_RESPONSE (R391). -/
def execMailboxResponse (s : State) : Host.Outcome State Fault Refusal := .next (mailboxResponse s)

end Sys2Proof.Machine
end

