-- ==== Sys2Proof/Machine/Pmb.lean ====
section
/-! DEFINITION. The PMBus master (R401 to R404). -/

namespace Sys2Proof.Machine

/-- The master works: embedded personality, enabled (R4, R401). -/
def pmbOn (s : State) : Bool := flagF s F.CHIP_PERS_ACTIVE && flagF s F.PMB_CFG_EN

/-- An entry is enabled; it is up. -/
def pmbEntryOn (s : State) (e : Nat) : Bool := flagF s (F.PMB_ENT_A_EN e)
def pmbIsUp (s : State) (e : Nat) : Bool := bitF s F.PMB_STAT_UP e

/-- PMB_STAT.ALL_UP and BUSY follow what is up and what runs. -/
def pmbShow (s : State) : State :=
  let s := setB s F.PMB_STAT_BUSY s.host.pmb.isSome
  setB s F.PMB_STAT_ALL_UP ((List.range 16).all (fun e => !pmbEntryOn s e || pmbIsUp s e))

/-- The bits of PMB_LATCH. -/
def pmbLatched (s : State) : Nat × Nat × Nat := (getF s F.PMB_LATCH_FAULT, getF s F.PMB_LATCH_SEQ_FAIL, getF s F.PMB_LATCH_SALERT)

/-- A bit of PMB_LATCH is set; vector 38 where it goes from 0 to 1 (R379). -/
def pmbLatch (s : State) (set : State → State) : State := if pmbLatched (set s) = pmbLatched s then set s else msix (set s) 38

/-- An entry faults (R401, R403). -/
def pmbFault (s : State) (e : Nat) : State := pmbLatch s (fun s => setBitF s F.PMB_LATCH_FAULT e true)

/-- The entry a sequence takes first (R402, R403): up in ascending ORDER, lowest entry first; down in the reverse. -/
def pmbNext (s : State) (up : Bool) : Option Nat :=
  let key := fun e => 16 * getF s (F.PMB_ENT_A_ORDER e) + e
  let l := (List.range 16).filter (fun e => if up then pmbEntryOn s e && !pmbIsUp s e else pmbIsUp s e)
  l.find? (fun e => l.all (fun x => if up then decide (key e ≤ key x) else decide (key x ≤ key e)))

/-- OPERATION is written to an entry's regulator: 0x80 on, 0x00 off. -/
def pmbOperate (s : State) (e : Nat) (up : Bool) : State :=
  emit s (.operation (getF s (F.PMB_ENT_A_ADDR e)) (getF s (F.PMB_ENT_A_PAGE e)) (if up then 0x80 else 0))

/-- The first write to an entry a sequence takes (R402, R403): going up PAGE and CLEAR_FAULTS, going down OPERATION. -/
def pmbFirst (s : State) (e : Nat) (up : Bool) : State :=
  if up then emit s (.clearFaults (getF s (F.PMB_ENT_A_ADDR e)) (getF s (F.PMB_ENT_A_PAGE e))) else pmbOperate s e false

/-- A sequence comes to its next entry, or ends (R402, R403). -/
def pmbGo (s : State) (up : Bool) : State :=
  match pmbNext s up with
  | some e => pmbShow (pmbFirst { s with host := { s.host with pmb := some ⟨up, e, s.now, false, 0, none⟩ } } e up)
  | none => pmbShow { s with host := { s.host with pmb := none } }

/-- PMB_CMD.UP or DOWN (R402 to R404): a running sequence ends at its entry, and the new one starts from the state reached. -/
def pmbStart (up : Bool) (s : State) : State := if pmbOn s then pmbGo s up else s

/-- PMB_UP (R402). -/
def execPmbUp (m : Master) (s : State) : Host.Outcome State Fault Refusal :=
  .next (regWrite m ⟨.PMB_CMD, 0, 0, 0⟩ s (fun s => some (pmbStart true s)))

/-- PMB_DOWN (R403). -/
def execPmbDown (m : Master) (s : State) : Host.Outcome State Fault Refusal :=
  .next (regWrite m ⟨.PMB_CMD, 0, 0, 0⟩ s (fun s => some (pmbStart false s)))

/-- A time of the master has come. It works on in Dormant, where device time stops (R49, R436). -/
def pmbDue (s : State) (t : Nat) : Bool := decide (t ≤ s.now) || !s.time.started

/-- An entry fails in an up sequence (R402): the sequence stops and the entries already up go down. -/
def pmbUpFails (s : State) (e : Nat) : State := pmbGo (pmbLatch (pmbFault s e) (fun s => setB s F.PMB_LATCH_SEQ_FAIL true)) false

/-- An entry has arrived, up or down: its DELAY begins (R402, R403). -/
def pmbArrived (s : State) (x : PmbSeq) : State :=
  let s := setBitF s F.PMB_STAT_UP x.entry x.up
  pmbShow { s with host := { s.host with pmb := some { x with delay := some (s.now + 500 * getF s (F.PMB_ENT_B_DELAY x.entry)) } } }

/-- A voltage lies within the entry's window about VOUT_COMMAND, in mV (R402). -/
def pmbInWindow (s : State) (e v : Nat) : Bool :=
  let c := tget s.host.vcmd 0 e
  let w := max 1 (getF s (F.PMB_ENT_A_WIN e))
  decide (c * (100 - w) ≤ 100 * v) && decide (100 * v ≤ c * (100 + w))

/-- READ_VOUT has been polled (R402, R403). -/
def pmbVout (s : State) (x : PmbSeq) (v : Nat) : State :=
  let s := setF s (F.PMB_ENT_STAT_VOUT x.entry) v
  if x.up then
    let good := if pmbInWindow s x.entry v then x.good + 1 else 0
    if 3 ≤ good then pmbArrived s { x with good := good }
    else { s with host := { s.host with pmb := some { x with good := good } } }
  else if 10 * v < tget s.host.vcmd 0 x.entry then pmbArrived s x
  else s

/-- The first poll of an entry going up comes after VOUT_MODE and VOUT_COMMAND have been read and OPERATION has been written (R402). -/
def pmbPoll (s : State) (cmd vout : PmbRead) : State :=
  match s.host.pmb with
  | some x =>
    if x.delay.isSome then s
    else if x.up && !x.begun then
      match cmd with
      | .failed => pmbUpFails s x.entry
      | .value c =>
        let s := { s with host := { s.host with vcmd := tset s.host.vcmd x.entry c, pmb := some { x with begun := true } } }
        let s := pmbOperate s x.entry true
        read s { x with begun := true } vout
    else read s x vout
  | none => s
where
  read (s : State) (x : PmbSeq) (vout : PmbRead) : State :=
    match vout with
    | .value v => pmbVout s x v
    | .failed => if x.up then pmbUpFails s x.entry else pmbFault s x.entry

/-- PMB_POLL (R402): what VOUT_COMMAND (at an entry's first poll; failed for a format that is not linear) and READ_VOUT returned, in
mV. -/
def execPmbPoll (cmd vout : PmbRead) (s : State) : Host.Outcome State Fault Refusal := .next (pmbPoll s cmd vout)

/-- TMO has passed (R402, R403): an entry going up fails, one going down is passed. -/
def pmbTimeout (s : State) : State :=
  match s.host.pmb with
  | some x =>
    if x.delay.isNone && pmbDue s (x.since + 500000 * max 1 (getF s (F.PMB_ENT_B_TMO x.entry))) then
      if x.up then pmbUpFails s x.entry else pmbArrived s x
    else s
  | none => s

/-- PMB_ENTRY_TIMEOUT (R402). -/
def execPmbEntryTimeout (s : State) : Host.Outcome State Fault Refusal := .next (pmbTimeout s)

/-- The DELAY after an entry has passed (R402, R403). -/
def pmbDelayEnd (s : State) : State :=
  match s.host.pmb with
  | some x =>
    match x.delay with
    | some t => if pmbDue s t then pmbGo s x.up else s
    | none => s
  | none => s

/-- PMB_DELAY_END (R402). -/
def execPmbDelayEnd (s : State) : Host.Outcome State Fault Refusal := .next (pmbDelayEnd s)

/-! ### Monitoring (R403) -/

/-- An entry's fault action (R403). -/
def pmbAct (s : State) (e : Nat) : State :=
  let s := pmbFault s e
  match getF s (F.PMB_ENT_A_ACTION e) with
  | 1 => if (match s.host.pmb with | some x => !x.up | none => false) then s else pmbStart false s
  | 2 => stopCause s stopPmbus
  | _ => s

/-- A STATUS_WORD has a fault bit set: any bit but BUSY. -/
def pmbStatusBad (w : Nat) : Bool := w % 2 ^ 16 - w / 128 % 2 * 128 != 0

/-- One entry's readings (R403). -/
def pmbReading (s : State) (x : PmbStatus) : State :=
  let e := x.entry.val
  if pmbIsUp s e then
    match x.read with
    | none => pmbAct s e
    | some (st, v, i, t) =>
      let s := setF (setF s (F.PMB_ENT_STAT_STATUS e) st) (F.PMB_ENT_STAT_VOUT e) v
      let s := setS (setF s (F.PMB_ENT_MEAS_IOUT e) i) (F.PMB_ENT_MEAS_TEMP e) t
      if pmbStatusBad st || !pmbInWindow s e v then pmbAct s e else s
  else s

/-- A monitoring round (R403): every PERIOD ms while entries are up. -/
def pmbRound (s : State) (l : List PmbStatus) : State :=
  if pmbOn s && pmbDue s (s.host.round + 500000 * max 1 (getF s F.PMB_CFG_PERIOD)) then
    l.foldl pmbReading { s with host := { s.host with round := s.now } }
  else s

/-- PMB_MONITOR_ROUND (R403): the readings of the entries that are up. -/
def execPmbMonitorRound (l : List PmbStatus) (s : State) : Host.Outcome State Fault Refusal := .next (pmbRound s l)

/-- STATUS_WORD of an enabled entry, polled at an alert (R401, R403). -/
def pmbAlertRead (s : State) (e : Nat) (r : PmbRead) : State :=
  if pmbEntryOn s e then
    match r with
    | .failed => pmbAct s e
    | .value st =>
      let s := setF s (F.PMB_ENT_STAT_STATUS e) st
      if pmbStatusBad st then pmbAct s e else s
  else s

/-- PMB_SALERT_N has fallen or risen (R401): at its fall the alert is latched and every enabled entry polled. -/
def pmbAlert (s : State) (low : Bool) (l : List (Fin 16 × PmbRead)) : State :=
  if flagF s F.CHIP_PERS_ACTIVE then
    let fell := low && !flagF s F.PMB_STAT_SALERT
    let s := setB s F.PMB_STAT_SALERT low
    if fell then
      let s := pmbLatch s (fun s => setB s F.PMB_LATCH_SALERT true)
      if flagF s F.PMB_CFG_EN then l.foldl (fun s x => pmbAlertRead s x.1 x.2) s else s
    else s
  else s

/-- PMB_SALERT (R401). -/
def execPmbSalert (low : Bool) (l : List (Fin 16 × PmbRead)) (s : State) : Host.Outcome State Fault Refusal := .next (pmbAlert s low l)

end Sys2Proof.Machine
end

