-- ==== Sys2Proof/Machine/Post.lean ====
section
/-! DEFINITION. The Post event fabric (R282 to R300): channels and groups, logic cells, and the task inputs up to their
synchronisers. What a sampled input does to its consumer is in Tasks. -/

namespace Sys2Proof.Machine

/-! ### Logic cells (R292 to R295) -/

/-- A logic cell's inside. -/
def lcell (s : State) (l : Nat) : LogicCell := tget s.post.cells LogicCell.init l

/-- The state with a logic cell's inside. -/
def setLcell (s : State) (l : Nat) (c : LogicCell) : State := { s with post := { s.post with cells := tset s.post.cells l c } }

/-- Input n of logic cell l reads 1: a pulse is on its channel, or the level it selects is 1. -/
def cellInput (s : State) (l n : Nat) : Bool :=
  let i := 416 + 4 * l + n
  if flagF s (F.POST_CSEL_EN i) then
    if 256 ≤ getF s (F.POST_CSEL_SRC i) then flagF s (F.POST_CELL_Q (getF s (F.POST_CSEL_SRC i) - 256))
    else
      let e := (lcell s l).pulseEnd
      let t := match n with
        | 0 => e.1
        | 1 => e.2.1
        | 2 => e.2.2.1
        | _ => e.2.2.2
      decide (s.post.ps < t)
  else false

/-- The number 4C + 2B + A of a cell's inputs. -/
def cellAbc (s : State) (l : Nat) : Nat := (cellInput s l 0).toNat + 2 * (cellInput s l 1).toNat + 4 * (cellInput s l 2).toNat

/-- The combinational output F (R292). -/
def cellF (s : State) (l : Nat) : Bool := bitF s (F.POST_CELL_LUT l) (cellAbc s l + 8 * (cellInput s l 3).toNat)

/-- What Q becomes on a clock event (R293). -/
def cellNextQ (s : State) (l : Nat) : Bool := bitF s (F.POST_CELL_LUT l) (cellAbc s l + 8 * getF s (F.POST_CELL_Q l))

/-- The length of a cell's filter in picoseconds (R295). -/
def cellFilt (s : State) (l : Nat) : Nat := 2000 * getF s (F.POST_CELL_FILT l)

/-- Q of every cell whose clock instant has come is taken, with the inputs as they stand (R293). -/
def clockCells (s : State) : State :=
  s.post.cells.foldl (fun t x =>
    match x.2.clock with
    | some c =>
      if c ≤ s.post.ps then setB (setLcell t x.1 { lcell t x.1 with clock := none }) (F.POST_CELL_Q x.1) (cellNextQ s x.1) else t
    | none => t) s

/-- A level that has stood for the length of the filter is the cell's output; a rising edge fires producer 556 + l (R292, R293, R295). -/
def acceptLevel (s : State) (l : Nat) : State :=
  let c := lcell s l
  if c.level ≠ c.out ∧ c.since + cellFilt s l ≤ s.post.ps then
    let s := setLcell s l { c with out := c.level }
    if c.level then fire s (556 + l) else s
  else s

/-- The unfiltered output of a cell takes its value: F, or Q in flip-flop mode (R292, R293). -/
def levelStep (s : State) (l : Nat) : State :=
  let f := cellF s l
  let s := setB s (F.POST_CELL_F l) f
  let v := if flagF s (F.POST_CELL_FF l) then flagF s (F.POST_CELL_Q l) else f
  let c := lcell s l
  setLcell s l (if v = c.level then c else { c with level := v, since := s.post.ps })

/-- A cell's output follows its inputs through its filter (R295): a level that has stood long enough counts even if it ends at this
instant. -/
def settleCell (s : State) (l : Nat) : State := acceptLevel (levelStep (acceptLevel s l) l) l

/-- Every cell in use settles. -/
def settleCells (s : State) : State := s.post.cells.foldl (fun s x => settleCell s x.1) s

/-- The instants after `t` at which something in a cell comes due: a pulse ends, a clock samples, a filter has run. -/
def cellDues (s : State) (t : Nat) (l : Nat) (c : LogicCell) : List Nat :=
  ([c.pulseEnd.1, c.pulseEnd.2.1, c.pulseEnd.2.2.1, c.pulseEnd.2.2.2] ++ c.clock.toList
    ++ (if c.level != c.out then [c.since + cellFilt s l] else [])).filter (fun d => decide (t < d))

/-- The next such instant in the fabric, no later than a bound. -/
def nextDue (s : State) (bound : Nat) : Option Nat :=
  ((s.post.cells.flatMap (fun x => cellDues s s.post.ps x.1 x.2)).filter (fun d => decide (d ≤ bound))).min?

/-- Fabric time reaches an instant: what comes due on the way takes place in order. -/
def fabricSteps (bound : Nat) : Nat → State → State
  | 0, s => s
  | n + 1, s =>
    match nextDue s bound with
    | some d => fabricSteps bound n (settleCells (clockCells { s with post := { s.post with ps := d } }))
    | none => s

/-- The fabric runs to an instant. -/
def fabricTo (s : State) (bound : Nat) : State :=
  let s := fabricSteps bound (8 * (s.post.cells.length + 1) * 32) s
  { s with post := { s.post with ps := max s.post.ps bound } }

/-- A tick of 2 ns begins in fabric time. -/
def fabricTick (s : State) : State :=
  let s := fabricTo s (s.post.base + 2000)
  { s with post := { s.post with base := s.post.base + 2000 } }

/-- A cell comes into use: its inside is listed, and it settles. -/
def touchCell (s : State) (l : Nat) : State := settleCells (setLcell s l (lcell s l))

/-- Q of every cell is cleared (R293). -/
def clearCells (s : State) : State :=
  settleCells ((List.range 32).foldl (fun s l => setB s (F.POST_CELL_Q l) false) s)

/-! ### Groups (R285, R291) -/

/-- A disable closes a group. -/
def groupClose (s : State) (g : Nat) : State :=
  setBitF { s with post := { s.post with shut := tset s.post.shut g (some s.post.ps) } } F.POST_GRP_EN g false

/-- A disable input or the self-disable closes a group, with a pulse. -/
def groupShut (s : State) (g : Nat) : State :=
  groupClose { s with post := { s.post with pulsed := tset s.post.pulsed g (some s.post.ps) } } g

/-- A disable at an instant, if there was one, is still on its latch: pulses last 2 ns (R282). -/
def pulseOn (s : State) (t : Option Nat) : Bool :=
  match t with
  | some t => decide (s.post.ps < t + 2000)
  | none => false

/-- An enable pulse opens a group unless a disable is still on it: the disable dominates (R282, R291). -/
def groupOpen (s : State) (g : Nat) : State :=
  if pulseOn s (tget s.post.shut none g) then s else setBitF s F.POST_GRP_EN g true

/-- A register write opens a group, unless a disable pulse is on it (R285, R291). A write that disabled it came a REG cycle or more before;
so did a pulse, where device time does not run and fabric time stands between events. -/
def groupEnable (s : State) (g : Nat) : State :=
  if s.time.started && pulseOn s (tget s.post.pulsed none g) then s
  else setBitF { s with post := { s.post with shut := tset s.post.shut g none } } F.POST_GRP_EN g true

/-- A register write sets the state of every group, on the same latches (R291). -/
def groupWrite (s : State) (v : Nat) : State :=
  (List.range 16).foldl (fun s g =>
    if v.testBit g = bitF s F.POST_GRP_EN g then s else if v.testBit g then groupEnable s g else groupClose s g) s

/-! ### Task inputs (R288 to R290, R299) -/

/-- The switched power domain of the consumer of a sampled input (R288, R436): the quire's sequencer, its analog part, the Couch, the
capture units of a region; none: the management complex or the Loft. -/
def inputDomain (i : Nat) : Option Nat :=
  if i < 256 then some (5 * (i / 16))
  else if i < 288 then some (5 * ((i - 256) / 2) + 1)
  else if i < 352 then some 129
  else if i < 384 then some (112 + 3 * ((i - 352) % 16 / 4) + 2)
  else none

/-- A host notification or Sizing request is served by the management complex. -/
def inputMgmt (i : Nat) : Bool := decide (544 ≤ i ∧ i < 592)

/-- The management complex is off: in Dormant (R438), and after a thermal trip (R460). -/
def mgmtOff (s : State) : Bool := getF s F.PWR_STAT_STATE == 3 || s.power.tripped

/-- The producers of the Loft domain, the logic cells and the thermal and supply detectors, which produce events in Dormant too (R299). -/
def loftProducer (p : Nat) : Bool :=
  decide (497 ≤ p ∧ p ≤ 525) || decide (556 ≤ p ∧ p < 588) || decide (636 ≤ p ∧ p < 640) || decide (655 ≤ p ∧ p < 658)

/-- The block of a sampled input is powered down (R299). -/
def inputOff (s : State) (i : Nat) : Bool :=
  match inputDomain i with
  | some d => !domainOn s d
  | none => inputMgmt i && mgmtOff s

/-- A cycle of the domain a sampled input is sampled in, in picoseconds (R43, R288). -/
def inputCycle (i : Nat) : Nat :=
  if i < 256 then 1000
  else if i < 288 then 8000
  else if i < 352 then 1000
  else if i < 384 then 750
  else if i < 592 then 625
  else 31250

/-- The events at an input that reached it in the same cycle as its oldest, and those that came in later ones (R290). -/
def cycleEvents (i : Nat) : List Nat → List Nat × List Nat
  | [] => ([], [])
  | t :: r => let p := (t :: r).partition (fun x => x / inputCycle i == t / inputCycle i); p

/-- One execution of an input counts (R290); the divider lets the first after a write of POST_CSEL act, and then every (N + 1)th
(R288). Answers whether this one acts. -/
def execution (s : State) (i merged : Nat) : State × Bool :=
  let n := tget s.post.execs 0 i
  let s := incF { s with post := { s.post with execs := tset s.post.execs i (n + 1) } } (F.POST_CCNT_EXEC i)
  (if 2 ≤ merged then incF s (F.POST_CCNT_COINC i) else s, n % (getF s (F.POST_CSEL_EVERY i) + 1) == 0)

/-- A pulse reaches an input of a logic cell (R292, R293). -/
def cellPulse (s : State) (l n : Nat) : State :=
  let c := lcell s l
  let e := s.post.ps + 2000
  let p := c.pulseEnd
  let c := { c with pulseEnd := match n with
    | 0 => (e, p.2)
    | 1 => (p.1, e, p.2.2)
    | 2 => (p.1, p.2.1, e, p.2.2.2)
    | _ => (p.1, p.2.1, p.2.2.1, e) }
  setLcell s l (if n = 3 ∧ flagF s (F.POST_CELL_FF l) then { c with clock := some (s.post.ps + 500) } else c)

/-- What an asynchronous input does at once (R288). -/
def asyncAct (s : State) (i : Nat) : State :=
  if i < 400 then groupOpen s (i - 384)
  else if i < 416 then groupShut s (i - 400)
  else cellPulse s ((i - 416) / 4) ((i - 416) % 4)

/-- An event reaches an input through its multiplexer: an asynchronous input acts, a sampled one holds it for its next execution, a
powered-down one discards it (R288, R290, R299). -/
def inputEvent (s : State) (i : Nat) : State :=
  if 384 ≤ i ∧ i < 544 then
    let r := execution s i 1
    if r.2 then asyncAct r.1 i else r.1
  else if inputOff s i then incF s (F.POST_CCNT_OFF i)
  else { s with post := { s.post with arrived := tset s.post.arrived i (tget s.post.arrived [] i ++ [instantNow s]) } }

/-! ### Channels (R283 to R285) -/

/-- A channel carries the events of a producer (R283). -/
def carries (s : State) (n p : Nat) : Bool :=
  flagF s (F.POST_CH_EN n) && (getF s (F.POST_CH_PROD n) == p || (flagF s (F.POST_CH_MERGE n) && getF s (F.POST_CH_PROD2 n) == p))

/-- A channel passes an event to its inputs. -/
def channelPass (s : State) (n : Nat) : State :=
  let s := incF { s with post := { s.post with passed := tset s.post.passed n (some s.post.ps) } } (F.POST_CHCNT_PASS n)
  let s := if bitF s F.POST_GRP_ONCE_ONCE (n / 16) then groupShut s (n / 16) else s
  ((List.range 593).filter (fun i => flagF s (F.POST_CSEL_EN i) && getF s (F.POST_CSEL_SRC i) == n)).foldl inputEvent s

/-- An event reaches a channel: blocked by its group, dropped within 4 ns of the last passed, or passed (R284, R285). -/
def channelEvent (s : State) (n : Nat) : State :=
  if bitF s F.POST_GRP_EN (n / 16) then
    match tget s.post.passed none n with
    | some t => if s.post.ps < t + 4000 then incF s (F.POST_CHCNT_DROP n) else channelPass s n
    | none => channelPass s n
  else incF s (F.POST_GCNT_BLOCK (n / 16))

/-- The waiting event of a producer is taken off. -/
def takeFired (p : Nat) : List Nat → List Nat
  | [] => []
  | x :: r => if x = p then r else x :: takeFired p r

/-- An event of a producer at an instant of fabric time reaches its channels. -/
def postEvent (s : State) (p ps : Nat) : State :=
  let s := fabricTo s ps
  let s := { s with post := { s.post with fired := takeFired p s.post.fired } }
  if mgmtOff s && !loftProducer p then s
  else settleCells (((List.range 256).filter (fun n => carries s n p)).foldl channelEvent s)

/-- POST_EVENT (R283); with the rest of the device off only the Loft's own producers reach their channels (R299). -/
def execPostEvent (prod : Fin 674) (ps : Nat) (s : State) : Host.Outcome State Fault Refusal := .next (postEvent s prod ps)

/-! ### Register writes -/

/-- A write of POST_CH that names a reserved producer is refused (R283, R286). -/
def postChOk (prod prod2 : Nat) (merge : Bool) : Bool := decide (prod < 674) && (!merge || decide (prod2 < 674))

/-- The source a write of POST_CSEL may name (R288, R289, R294). -/
def postSrcOk (s : State) (i src every : Nat) : Bool :=
  decide (src < 256) ||
    (decide (src < 288) && decide (416 ≤ i ∧ i < 544) && every == 0 && flagF s (F.POST_CELL_FF (src - 256)))

/-- An enabled input names a cell's level (R294). -/
def levelUsed (s : State) (l : Nat) : Bool :=
  (List.range 128).any (fun k => flagF s (F.POST_CSEL_EN (416 + k)) && getF s (F.POST_CSEL_SRC (416 + k)) == 256 + l)

/-- After a write of POST_CSEL: the divider counts from it, and a cell input settles (R288). -/
def cselWritten (s : State) (i : Nat) : State :=
  let s := { s with post := { s.post with execs := tset s.post.execs i 0 } }
  if 416 ≤ i ∧ i < 544 then touchCell s ((i - 416) / 4) else s

/-- After a write of POST_CELL that changed LUT or FF: Q is cleared (R293). -/
def cellWritten (s : State) (l : Nat) (changed : Bool) : State :=
  touchCell (if changed then setB s (F.POST_CELL_Q l) false else s) l

/-- POST_SWFIRE: a 1 in bit b fires producer 588 + b (R286). -/
def swfireOp (s : State) (mask : Nat) : State :=
  (List.range 32).foldl (fun s b => if mask.testBit b then fire s (588 + b) else s) s

/-- SWFIRE (R286). -/
def execSwfire (m : Master) (mask : BitVec 32) (s : State) : Host.Outcome State Fault Refusal :=
  .next (regWrite m ⟨.POST_SWFIRE, 0, 0, 0⟩ s (fun s => some (swfireOp s mask.toNat)))

/-- CELL_CLR (R293). -/
def execCellClr (m : Master) (s : State) : Host.Outcome State Fault Refusal :=
  .next (regWrite m ⟨.POST_CTRL, 0, 0, 0⟩ s (fun s => some (clearCells s)))

end Sys2Proof.Machine
end

