-- ==== Sys2Proof/Machine/RegCore.lean ====
section
/-! DEFINITION. A 32-bit register write as the register sees it (R11 to R14, R489): the view, the value each field would take, and the
effect of the access codes. -/

namespace Sys2Proof.Machine

/-- One 32-bit write: its view and its data. -/
structure Wr where
  view : View
  v : Nat
deriving DecidableEq, Repr

/-- What a register write comes to: the state after it, and the code it fails with, if it fails. -/
abbrev WrRes := State × Option Err

/-- A write that is accepted. -/
def wrOk (s : State) : WrRes := (s, none)

/-- A write that is refused (R370, code REFUSED). -/
def wrRefused (s : State) : WrRes := (s, some .refused)

/-- A write that is refused where a condition holds, else has its effect. -/
def wrUnless (s : State) (bad : Bool) (t : State) : WrRes := if bad then wrRefused s else wrOk t

/-- The result of an operation that may refuse. -/
def wrOp (s : State) (t : Option State) : WrRes :=
  match t with
  | some s' => wrOk s'
  | none => wrRefused s

/-- The bits of the data that fall into a field. -/
def wrGet (w : Wr) (f : Fld) : Nat := w.v / 2 ^ f.key.lsb % 2 ^ f.width

/-- The value an RW field would take (R13). -/
def wrNew (s : State) (w : Wr) (f : Fld) : Nat :=
  match w.view with
  | .normal => wrGet w f
  | .toggle => getF s f ^^^ wrGet w f
  | .set => getF s f ||| wrGet w f
  | .clear => getF s f - (getF s f &&& wrGet w f)

/-- The write would change an RW field (R489). -/
def wrChanges (s : State) (w : Wr) (f : Fld) : Bool := wrNew s w f != getF s f

/-- The write strobes a WO field: a 1 through the normal view (R14, R489). -/
def wrStrobe (w : Wr) (f : Fld) : Bool := w.view == .normal && wrGet w f != 0

/-- The write carries a 1 for a WO field, through whatever view: it counts as a change (R489). -/
def wrOne (w : Wr) (f : Fld) : Bool := wrGet w f != 0

/-- A strobe whose operation may refuse: a 1 is refused through any view where the operation refuses (R489), and acts through the normal
view only (R14). -/
def wrTry (w : Wr) (f : Fld) (op : State → Option State) (s : State) : Option State :=
  if wrOne w f then (op s).map (fun t => if w.view = .normal then t else s) else some s

/-- The effect of a write on one field by its access code (R12 to R14): RW fields through every view; a latch bit clears where 1 is
written, a counter resets where zero is written, both through the normal view only. -/
def wrField (w : Wr) (s : State) (x : Fld × Acc) : State :=
  match x.2 with
  | .rw => setF s x.1 (wrNew s w x.1)
  | .w1c => if w.view = .normal then setF s x.1 (getF s x.1 - (getF s x.1 &&& wrGet w x.1)) else s
  | .cnt => if w.view = .normal ∧ wrGet w x.1 = 0 then setF s x.1 0 else s
  | .ro => s
  | .wo => s

/-- A write of a register without behaviour of its own. -/
def wrPlain (r : Reg) (w : Wr) (s : State) : State := (fieldsOf r).foldl (wrField w) s

/-- The write would change some RW field of the register (R489). -/
def wrAnyChange (r : Reg) (w : Wr) (s : State) : Bool := (fieldsOf r).any (fun x => x.2 == .rw && wrChanges s w x.1)

/-- A register all of whose RW fields are written only in some state (R489): refused where the write would change one in another. -/
def wrWhile (allowed : Bool) (r : Reg) (w : Wr) (s : State) : WrRes :=
  wrUnless s (!allowed && wrAnyChange r w s) (wrPlain r w s)

/-- A strobe's effect. -/
def wrDo (b : Bool) (f : State → State) (s : State) : State := if b then f s else s

/-- The effects of a write one after the other: the second meets what the first leaves; where one is refused the whole write is. -/
def wrThen (a : WrRes) (f : State → WrRes) : WrRes := match a with
  | (s, none) => f s
  | (s, some e) => (s, some e)

end Sys2Proof.Machine
end

