-- ==== Sys2Proof/Machine/RegFabric.lean ====
section
/-! DEFINITION. Register writes with behaviour of their own, chapters 09 to 12: Couch, syndrome engine, Post, capture, chain and
cluster. Each function is what a write of one register comes to, through any view. -/

namespace Sys2Proof.Machine

/-! ### Couch (chapter 09) -/

/-- COUCH_CTRL (R262): PF_CLR is accepted only while every quire is idle. -/
def wCouchCtrl (r : Reg) (w : Wr) (s : State) : WrRes :=
  wrOp s (wrTry w F.COUCH_CTRL_PF_CLR pfClrOp (wrPlain r w s))

/-- SE_CTRL (R271): STOP before START. -/
def wSeCtrl (_r : Reg) (w : Wr) (s : State) : WrRes :=
  let s := wrDo (wrStrobe w F.SE_CTRL_STOP) seStopOp s
  wrOk (wrDo (wrStrobe w F.SE_CTRL_START) seStartOp s)

/-- The engine is neither armed nor running. -/
def seStill (s : State) : Bool := !flagF s F.SE_STAT_ARMED && !flagF s F.SE_STAT_RUN

/-- SE_GEOM and SE_RWIN: written only while the engine is neither armed nor running. -/
def wSeHeld (r : Reg) (w : Wr) (s : State) : WrRes := wrWhile (seStill s) r w s

/-- SE_PORT: role 3 is refused; the role is exchanged over the link (R276). -/
def wSePort (r : Reg) (w : Wr) (s : State) : WrRes :=
  if wrNew s w (F.SE_PORT_ROLE r.i) = 3 then wrRefused s
  else wrThen (wrWhile (seStill s) r w s) (fun t => wrOk (linkChanged t r.i))

/-- DX_CFG: a reserved source is refused (R253). -/
def wDxCfg (r : Reg) (w : Wr) (s : State) : WrRes := wrUnless s (decide (928 ≤ wrNew s w (F.DX_CFG_SRC r.i))) (wrPlain r w s)

/-- XIN_CFG: an input that becomes enabled has delivered nothing yet (R257, Registers). -/
def wXinCfg (r : Reg) (w : Wr) (s : State) : WrRes :=
  let t := wrPlain r w s
  wrOk (if flagF s (F.XIN_CFG_EN r.i) = false ∧ flagF t (F.XIN_CFG_EN r.i) = true then setB t (F.XIN_CFG_DELIVERED r.i) false else t)

/-- FRULE_A: a reserved or continuous source is refused (R253, R266). -/
def wFrule (r : Reg) (w : Wr) (s : State) : WrRes := wrUnless s (decide (640 ≤ wrNew s w (F.FRULE_A_SRC r.i))) (wrPlain r w s)

/-- COUCH_SLOT: takes effect in the first tick at least 4 ticks after the write (R264). -/
def wCouchSlot (r : Reg) (w : Wr) (s : State) : WrRes :=
  let t := wrPlain r w s
  wrOk (couchAt t (regDelay s.now 4) (.slot r.i (getF t (F.COUCH_SLOT_AXIS r.i)) (getF t (F.COUCH_SLOT_RC_SLOT r.i))))

/-- COUCH_PF_XOR (R262). -/
def wPfXor (r : Reg) (w : Wr) (s : State) : WrRes :=
  wrOk (if w.view = .normal then couchAt s (regDelay s.now 4) (.pfXor r.i w.v) else s)

/-! ### Post (chapter 10) -/

/-- POST_CTRL (R293). -/
def wPostCtrl (_r : Reg) (w : Wr) (s : State) : WrRes := wrOk (wrDo (wrStrobe w F.POST_CTRL_CELL_CLR) clearCells s)

/-- POST_SWFIRE (R286). -/
def wSwfire (_r : Reg) (w : Wr) (s : State) : WrRes := wrOk (if w.view = .normal then swfireOp s w.v else s)

/-- POST_GRP (R285, R291). -/
def wPostGrp (_r : Reg) (w : Wr) (s : State) : WrRes := wrOk (groupWrite s (wrNew s w F.POST_GRP_EN))

/-- POST_CH: a reserved producer is refused (R283). -/
def wPostCh (r : Reg) (w : Wr) (s : State) : WrRes :=
  wrUnless s (!postChOk (wrNew s w (F.POST_CH_PROD r.i)) (wrNew s w (F.POST_CH_PROD2 r.i)) (wrNew s w (F.POST_CH_MERGE r.i) != 0))
    (wrPlain r w s)

/-- POST_CSEL (R288, R289, R294). -/
def wPostCsel (r : Reg) (w : Wr) (s : State) : WrRes :=
  wrUnless s (!postSrcOk s r.i (wrNew s w (F.POST_CSEL_SRC r.i)) (wrNew s w (F.POST_CSEL_EVERY r.i))) (cselWritten (wrPlain r w s) r.i)

/-- POST_CELL (R293, R294): FF of a cell that an enabled input names as a level stays set. -/
def wPostCell (r : Reg) (w : Wr) (s : State) : WrRes :=
  let changed := wrChanges s w (F.POST_CELL_LUT r.i) || wrChanges s w (F.POST_CELL_FF r.i)
  wrUnless s (flagF s (F.POST_CELL_FF r.i) && wrNew s w (F.POST_CELL_FF r.i) == 0 && levelUsed s r.i)
    (cellWritten (wrPlain r w s) r.i changed)

/-! ### Capture (chapter 11) -/

/-- A register of a capture unit: BUSY while Sizing holds the unit (R423). -/
def wCap (u : Nat) (s : State) (f : State → WrRes) : WrRes := if capHeldBySizing s u then (s, some .busy) else f s

/-- What a unit's configuration may not be (R301, R303, R312, and LO above HI). -/
def capBad (s : State) (u : Nat) : Bool :=
  !capSrcOk (getF s (F.CAP_CFG_SRC u)) || decide (10 < getF s (F.CAP_CFG_DEC u)) || decide (getS s (F.CAP_THR_HI u) < getS s (F.CAP_THR_LO u))
    || !capFits (getF s (F.CAP_PRE_COUNT u)) (getF s (F.CAP_POST_COUNT u)) (getF s (F.CAP_SEG_NLOG u))

/-- CAP_CFG, CAP_TRIG, CAP_THR, CAP_PRE, CAP_POST and CAP_SEG (R306): only in IDLE or DONE. -/
def wCapCfg (r : Reg) (w : Wr) (s : State) : WrRes :=
  wCap r.i s (fun s => if capBad (wrPlain r w s) r.i then wrRefused s else wrWhile (capStill s r.i) r w s)

/-- The other registers of a unit. -/
def wCapOther (r : Reg) (w : Wr) (s : State) : WrRes := wCap r.i s (fun s => wrOk (wrPlain r w s))

/-- CAP_CTRL (R305, R307, R313): STOP, CNT_CLR, ARM, FORCE in this order where a write carries several; a refusal refuses all. -/
def wCapCtrl (r : Reg) (w : Wr) (s : State) : WrRes :=
  let u := r.i
  wCap u s (fun s =>
    let t := wrDo (wrStrobe w (F.CAP_CTRL_STOP u)) (fun s => capStop s u true) s
    let t := (wrTry w (F.CAP_CTRL_CNT_CLR u) (capCntClrOp u) t).bind (wrTry w (F.CAP_CTRL_ARM u) (capArmOp u))
    wrOp s (t.map (wrDo (wrStrobe w (F.CAP_CTRL_FORCE u)) (fun s => after s (regDelay s.now 4) (.capForce u)))))

/-- CAP_RD (R313). -/
def wCapRd (r : Reg) (w : Wr) (s : State) : WrRes :=
  wCap r.i s (fun s => wrOp s (capRdOp r.i (wrNew s w (F.CAP_RD_COUNT r.i)) s))

/-! ### Chain and cluster (chapter 12) -/

/-- CL_CFG (R336): only while every quire is idle. -/
def wClCfg (_r : Reg) (w : Wr) (s : State) : WrRes :=
  let en := wrNew s w F.CL_CFG_EN != 0
  if en = flagF s F.CL_CFG_EN then wrOk s
  else if allIdle s then wrOk (clusterEnabled (setB s F.CL_CFG_EN en) en)
  else wrRefused s

/-- CL_CID (R328, R336): only while every quire is idle; every link carries the new value. -/
def wClCid (r : Reg) (w : Wr) (s : State) : WrRes :=
  wrThen (wrWhile (allIdle s) r w s) (fun t => wrOk ((List.range 8).foldl linkChanged t))

/-- A register marked "master": on a follower a write completes with an error (chapter 12, Registers). -/
def wMaster (f : Reg → Wr → State → WrRes) (r : Reg) (w : Wr) (s : State) : WrRes := if isMaster s then f r w s else wrRefused s

/-- CL_CMD (R345, R350): PREPARE before RESYNC where a write carries both. -/
def wClCmd (_r : Reg) (w : Wr) (s : State) : WrRes :=
  let t := wrTry w F.CL_CMD_PREPARE (fun s => preparOp s (wrGet w F.CL_CMD_ID)) s
  wrOp s (t.bind (wrTry w F.CL_CMD_RESYNC (fun s => clResyncOp s (wrGet w F.CL_CMD_TARGET))))

/-- CL_SHOT_CTRL (R341): MODE 3 and LEAD above the period are refused; MODE 0 discards a written boundary. -/
def wShotCtrl (r : Reg) (w : Wr) (s : State) : WrRes :=
  let mode := wrNew s w F.CL_SHOT_CTRL_MODE
  if mode = 3 ∨ getF s F.CL_SHOT_PER_VALUE < wrNew s w F.CL_SHOT_CTRL_LEAD then wrRefused s
  else
    let t := wrPlain r w s
    let t := if mode = 0 then { t with chain := { t.chain with written := none } } else t
    let t := if mode = 1 ∧ getF s F.CL_SHOT_CTRL_MODE ≠ 1 then { t with chain := { t.chain with phase := none, genFrom := s.now / 4 * 4 + 4 } } else t
    wrOk (commitIfDue t)

/-- CL_SHOT_PER (R341): a period below LEAD is refused. -/
def wShotPer (r : Reg) (w : Wr) (s : State) : WrRes :=
  wrUnless s (decide (wrNew s w F.CL_SHOT_PER_VALUE < getF s F.CL_SHOT_CTRL_LEAD)) (commitIfDue (wrPlain r w s))

/-- CL_SHOT_NEXT_HI (R341). -/
def wShotNext (_r : Reg) (w : Wr) (s : State) : WrRes := wrOp s (shotNextOp s (wrNew s w F.CL_SHOT_NEXT_HI_VALUE))

/-- CHN_PORT_CFG (R330, R332, R333): INV only while ROLE = 0; a request only where it changes. -/
def wPortCfg (r : Reg) (w : Wr) (s : State) : WrRes :=
  let p := r.i
  let role := wrNew s w (F.CHN_PORT_CFG_ROLE p)
  let req := wrNew s w (F.CHN_PORT_CFG_REQ p)
  if role = 3 ∨ req = 3 ∨ (getF s (F.CHN_PORT_CFG_ROLE p) ≠ 0 ∧ wrChanges s w (F.CHN_PORT_CFG_INV p) = true)
      ∨ (req ≠ getF s (F.CHN_PORT_CFG_REQ p) ∧ req ≠ 0 ∧ reqBarred s p = true) then wrRefused s
  else
    let t := setF s (F.CHN_PORT_CFG_INV p) (wrNew s w (F.CHN_PORT_CFG_INV p))
    let t := if role = getF s (F.CHN_PORT_CFG_ROLE p) then t else (roleWrite t p role).getD t
    wrOk (if req = getF s (F.CHN_PORT_CFG_REQ p) then t else (reqWrite t p req).getD t)

/-- CHN_EYE_CTRL (R335): VOFS −64 is refused. -/
def wEyeCtrl (r : Reg) (w : Wr) (s : State) : WrRes :=
  let vofs := wrNew s w F.CHN_EYE_CTRL_VOFS
  if vofs = 64 then wrRefused s
  else
    let t := wrTry w F.CHN_EYE_CTRL_START (fun s => eyeStart s (wrNew s w F.CHN_EYE_CTRL_PORT) (wrNew s w F.CHN_EYE_CTRL_LANE)
      (wrNew s w F.CHN_EYE_CTRL_DWELL) vofs (wrNew s w F.CHN_EYE_CTRL_PHASE)) s
    if wrStrobe w F.CHN_EYE_CTRL_START then wrOp s t else wrOp s (t.map (wrPlain r w))

end Sys2Proof.Machine
end

