-- ==== Sys2Proof/Machine/RegHost.lean ====
section
/-! DEFINITION. Register writes with behaviour of their own, chapters 13 to 17: host interfaces, PMBus, Sizing, power and the Loft. Each
function is what a write of one register comes to, through any view. -/

namespace Sys2Proof.Machine

/-- MEM_DWIN (R360): the base takes effect once the REG cycle of the write has ended. -/
def wDwin (r : Reg) (w : Wr) (s : State) : WrRes :=
  wrOk { wrPlain r w s with store := { s.store with dwin := (regDelay s.now 0, dwinBase s) } }

/-- MBX_CTRL (R391). -/
def wMbxCtrl (r : Reg) (w : Wr) (s : State) : WrRes :=
  let t := wrTry w F.MBX_CTRL_GO (mailboxGo (wrNew s w F.MBX_CTRL_LEN)) s
  if wrStrobe w F.MBX_CTRL_GO then wrOp s t else wrOp s (t.map (wrPlain r w))

/-- The transmit ring's place and size (R382): written only while the ring is empty. -/
def wEthRing (r : Reg) (w : Wr) (s : State) : WrRes := wrWhile (ringIdle s r.i) r w s

/-- ETH_TXR_WR (R382). -/
def wEthWr (r : Reg) (w : Wr) (s : State) : WrRes := wrOp s (txrWrite s r.i (wrNew s w (F.ETH_TXR_WR_COUNT r.i)))

/-- A word of the MSI-X table: a vector that is pending is sent once it is no longer masked (R378). -/
def wMsix (r : Reg) (w : Wr) (s : State) : WrRes :=
  let t := wrPlain r w s
  let v := r.i / 4
  if r.i % 4 = 3 ∧ bitF t (F.MSIX_TABLE_DATA r.i) 0 = false ∧ bitF t (F.MSIX_PBA_PENDING (v / 32)) (v % 32) = true then
    wrOk (msix (setBitF t (F.MSIX_PBA_PENDING (v / 32)) (v % 32) false) v)
  else wrOk t

/-- The address and length registers of a DMA channel (R380): not while it is busy. -/
def wDmaSet (r : Reg) (w : Wr) (s : State) : WrRes := wrWhile (!flagF s (F.DMA_STAT_BUSY r.i)) r w s

/-- The words a DMA channel would read from host memory in a copy, which the spec does not determine: free values. -/
def hostWords (s : State) (d : Nat) : List Nat :=
  (List.range (getF s (F.DMA_LEN_VALUE d) / 4)).map (fun k => leNat (freeBytes { s with free := s.free + 4 * k } 4))

/-- DMA_CTRL (R380); what host memory holds is not known to a plain register write. -/
def wDmaCtrl (r : Reg) (w : Wr) (s : State) : WrRes :=
  if wrStrobe w (F.DMA_CTRL_START r.i) then
    let dir := wrNew s w (F.DMA_CTRL_DIR r.i) != 0
    let data := if dir then [] else hostWords s r.i
    wrOp s ((dmaStart r.i dir data s).map (fun t => takeFrees t (4 * data.length)))
  else if wrOne w (F.DMA_CTRL_START r.i) && flagF s (F.DMA_STAT_BUSY r.i) then wrRefused s
  else wDmaSet r w s

/-- PMB_CFG (R404): only while BUSY = 0; SPEED 3 is refused. -/
def wPmbCfg (r : Reg) (w : Wr) (s : State) : WrRes :=
  if wrNew s w F.PMB_CFG_SPEED = 3 then wrRefused s else wrWhile (!flagF s F.PMB_STAT_BUSY) r w s

/-- PMB_CMD (R402 to R404): UP before DOWN where a write carries both. -/
def wPmbCmd (_r : Reg) (w : Wr) (s : State) : WrRes :=
  let s := wrDo (wrStrobe w F.PMB_CMD_UP) (pmbStart true) s
  wrOk (wrDo (wrStrobe w F.PMB_CMD_DOWN) (pmbStart false) s)

/-- The entry registers (R404): only while BUSY = 0 and the entry is not up; ACTION 3 is refused. -/
def wPmbEnt (r : Reg) (w : Wr) (s : State) : WrRes :=
  if r.name = .PMB_ENT_A ∧ wrNew s w (F.PMB_ENT_A_ACTION r.i) = 3 then wrRefused s
  else wrThen (wrWhile (!flagF s F.PMB_STAT_BUSY && !pmbIsUp s r.i) r w s) (fun t => wrOk (pmbShow t))

/-- A register of the PMBus master: in the instrument personality a write has no effect (R4). -/
def wPmb (f : Reg → Wr → State → WrRes) (r : Reg) (w : Wr) (s : State) : WrRes := if instrument s then wrOk s else f r w s

/-- SZ_CTRL: DT from 1 to 20; the temperature trigger is judged anew (R425). -/
def wSzCtrl (r : Reg) (w : Wr) (s : State) : WrRes :=
  let dt := wrNew s w F.SZ_CTRL_DT
  wrUnless s (decide (dt < 1 ∨ 20 < dt)) ((List.range 16).foldl szTempTrigger (wrPlain r w s))

/-- SZ_Q_CFG (R425, R427): only while no run of the quire is due or in progress. -/
def wSzCfg (r : Reg) (w : Wr) (s : State) : WrRes :=
  wrThen (wrWhile (szWritable s r.i) r w s) (fun t => wrOk (szTempTrigger t r.i))

/-- SZ_Q_CMD (R422, R425, R434): a refused press request refuses the whole write; RUN acts at once, ABORT after the REG
cycle. -/
def wSzCmd (r : Reg) (w : Wr) (s : State) : WrRes :=
  let q := r.i
  let press := wrTry w (F.SZ_Q_CMD_PRESS q) (fun s => pressRequest s q (wrGet w (F.SZ_Q_CMD_CH q))) s
  match press with
  | none => wrRefused s
  | some t =>
    let t := wrDo (wrStrobe w (F.SZ_Q_CMD_ABORT q)) (fun s => szAbortAt s q) t
    wrOk (wrDo (wrStrobe w (F.SZ_Q_CMD_RUN q)) (fun s => szTrigger s q) t)

/-- PWR_CTRL (R439, R455, R459): RESTART, STOP and a requested state that is not the present one; any refusal refuses the whole write. -/
def wPwrCtrl (_r : Reg) (w : Wr) (s : State) : WrRes :=
  let req := wrNew s w F.PWR_CTRL_REQ
  let t := setF s F.PWR_CTRL_RETAIN_VAT (wrNew s w F.PWR_CTRL_RETAIN_VAT)
  let t := wrTry w F.PWR_CTRL_RESTART restartOp t
  let t := t.map (wrDo (wrStrobe w F.PWR_CTRL_STOP) (fun s => stopCause s stopSoftware))
  let t := t.bind (fun t => powerWrite t req)
  wrOp s t

/-- PWR_SHOTCAP (R457). -/
def wShotCap (r : Reg) (w : Wr) (s : State) : WrRes := wrOk (wrPlain r w s)

/-- THM_CFG: GRACE from 1 to 100 (R455). -/
def wThmCfg (r : Reg) (w : Wr) (s : State) : WrRes :=
  let g := wrNew s w F.THM_CFG_GRACE
  wrUnless s (decide (g < 1 ∨ 100 < g)) (wrPlain r w s)

/-- LOFT_SCAN: a slot naming a reserved input is refused (R447). -/
def wLoftScan (r : Reg) (w : Wr) (s : State) : WrRes := wrUnless s (decide (45 ≤ wrNew s w (F.LOFT_SCAN_INPUT r.i))) (wrPlain r w s)

/-- LOFT_FILT (R448): K up to 10; the filter restarts at the next result. -/
def wLoftFilt (r : Reg) (w : Wr) (s : State) : WrRes :=
  let t := wrPlain r w s
  wrUnless s (decide (10 < wrNew s w (F.LOFT_FILT_K r.i))) { t with power := { t.power with fresh := tset t.power.fresh r.i true } }

end Sys2Proof.Machine
end

