-- ==== Sys2Proof/Machine/RegSignal.lean ====
section
/-! DEFINITION. Register writes with behaviour of their own, chapters 01 to 08: sequencers, drive, flux, bias, Deckle, Headbox and
Beater. Each function is what a write of one register comes to, through any view. -/

namespace Sys2Proof.Machine

/-- NOC_ARB: the value waits for the next arbitration frame (R39). -/
def wNocArb (r : Reg) (w : Wr) (s : State) : WrRes :=
  let s := wrPlain r w s
  wrOk { s with store := { s.store with arbWaits := true } }

/-! ### Sequencers (chapter 03) -/

/-- SEQ_CTRL (R74). -/
def wSeqCtrl (r : Reg) (w : Wr) (s : State) : WrRes := wrOk (seqRunOp r.i (wrNew s w (F.SEQ_CTRL_RUN r.i) != 0) (wrPlain r w s))

/-- SEQ_BAR (R344). -/
def wSeqBar (r : Reg) (w : Wr) (s : State) : WrRes := wrOk (barsWritten (wrPlain r w s))

/-- STRM_CTRL (R109, R362): EN = 1 starts the writer anew; EN = 0 stops it. DESIGN CHOICE: a write through any view that leaves EN at 1,
though it names CH only or nothing, counts as writing EN = 1 (log entry 64). -/
def wStrmCtrl (r : Reg) (w : Wr) (s : State) : WrRes :=
  if (streamOf s r.i r.j).outstanding ≠ [] then wrUnless s (wrAnyChange r w s) s
  else if wrNew s w (F.STRM_CTRL_EN r.i r.j) ≠ 0 then wrOp s (streamEnableOp r.i r.j (wrNew s w (F.STRM_CTRL_CH r.i r.j)) s)
  else wrOk (wrPlain r w s)

/-- THR_CTRL (R79, R491): STOP first, with FLUSH, then START. -/
def wThrCtrl (r : Reg) (w : Wr) (s : State) : WrRes :=
  let stop := wrStrobe w (F.THR_CTRL_STOP r.i r.j)
  let s := wrDo stop (fun s => threadStop s r.i r.j) (wrPlain r w s)
  let s := wrDo (stop && wrStrobe w (F.THR_CTRL_FLUSH r.i r.j)) (fun s => threadFlush s r.i r.j) s
  wrOk (wrDo (wrStrobe w (F.THR_CTRL_START r.i r.j)) (fun s => threadStart s r.i r.j) s)

/-- THR_PC and THR_WIN: refused while the thread is in RUN, STALL or WAIT. -/
def wThrHeld (r : Reg) (w : Wr) (s : State) : WrRes := wrWhile (!isActive (thrState s r.i r.j)) r w s

/-- Couch source numbers from 928 on are reserved (R253). -/
def sourceReserved (n : Nat) : Bool := decide (928 ≤ n)

/-- THR_SUB: refused while the thread is in RUN, STALL or WAIT, or with a reserved source (R253). -/
def wThrSub (r : Reg) (w : Wr) (s : State) : WrRes :=
  if sourceReserved (wrNew s w (F.THR_SUB_SRC r.i r.j r.k)) then wrRefused s else wThrHeld r w s

/-- The words of a segment descriptor (R104): rejected, and counted, while it is active. -/
def wSegment (r : Reg) (w : Wr) (s : State) : WrRes :=
  if getF s (F.SEG_W3_ACTIVE r.i r.j) = 0 then wrOk (wrPlain r w s)
  else (incF s (F.SEQ_CNT_SEG_SEGCONF r.i), some .segBusy)

/-! ### Drive (chapter 04) -/

/-- TONE_SPARE_CTRL (R144, R145). -/
def wToneSpare (r : Reg) (w : Wr) (s : State) : WrRes :=
  let s := wrDo (wrStrobe w (F.TONE_SPARE_CTRL_RELEASE r.i)) (toneReleaseOp r.i) (wrPlain r w s)
  wrOk (wrDo (wrStrobe w (F.TONE_SPARE_CTRL_FORCE r.i)) (fun s => toneForceOp r.i (getF s (F.TONE_SPARE_CTRL_TGT r.i)) s) s)

/-- The write of TONE_CTRL changes a field that R129 restricts; SLOT and PF_EN are not fields of a probe tone. -/
def toneCtrlChanges (q c : Nat) (w : Wr) (s : State) : Bool :=
  wrChanges s w (F.TONE_CTRL_PF_LATCH q c) || wrOne w (F.TONE_CTRL_FRAME_CLR q c)
    || (decide (c < 16) && (wrChanges s w (F.TONE_CTRL_SLOT q c) || wrChanges s w (F.TONE_CTRL_PF_EN q c)))

/-- TONE_CTRL (R122, R129). -/
def wToneCtrl (r : Reg) (w : Wr) (s : State) : WrRes :=
  if toneCtrlChanges r.i r.j w s && !quireIdle s r.i then wrRefused s
  else
    let t := setF s (F.TONE_CTRL_FTW_TIMED r.i r.j) (wrNew s w (F.TONE_CTRL_FTW_TIMED r.i r.j))
    let t := setF t (F.TONE_CTRL_PF_LATCH r.i r.j) (wrNew s w (F.TONE_CTRL_PF_LATCH r.i r.j))
    let t := if r.j < 16 then setF (setF t (F.TONE_CTRL_SLOT r.i r.j) (wrNew s w (F.TONE_CTRL_SLOT r.i r.j)))
      (F.TONE_CTRL_PF_EN r.i r.j) (wrNew s w (F.TONE_CTRL_PF_EN r.i r.j)) else t
    wrOk (wrDo (wrStrobe w (F.TONE_CTRL_FRAME_CLR r.i r.j)) (fun t => toneFrame t r.i r.j t.now 0) (keepShadow t r.i r.j))

/-- DRV_CFG (R129, R130, R133): written only while the quire is idle; a change of RANGE settles. -/
def wDrvCfg (r : Reg) (w : Wr) (s : State) : WrRes :=
  let range := wrNew s w (F.DRV_CFG_RANGE r.i r.j)
  wrThen (wrWhile (quireIdle s r.i) r w s) (fun t =>
    wrOk (if range = getF s (F.DRV_CFG_RANGE r.i r.j) then t else rangeOp r.i r.j range t))

/-- DRV_MUTE (R135). -/
def wDrvMute (r : Reg) (w : Wr) (s : State) : WrRes := wrOk (softMuteOp r.i (.drive (Fin.ofNat 5 r.j)) (wrNew s w (F.DRV_MUTE_MUTE r.i r.j) != 0) s)

/-- DRV_CW (R139). -/
def wDrvCw (r : Reg) (w : Wr) (s : State) : WrRes := wrOk (cwAmpOp r.i r.j (wrNew s w (F.DRV_CW_AMP r.i r.j)) (wrPlain r w s))

/-- DRV_PD_CTRL (R127). -/
def wDrvPdCtrl (r : Reg) (w : Wr) (s : State) : WrRes := wrOk (wrDo (wrStrobe w (F.DRV_PD_CTRL_COMMIT r.i r.j)) (pdCommitOp r.i r.j) s)

/-- DRV_PD_COEF: refused while Sizing owns it (R427). -/
def wDrvPdCoef (r : Reg) (w : Wr) (s : State) : WrRes := wrWhile (!flagF s (F.SZ_Q_CFG_OWN_PD r.i)) r w s

/-! ### Flux and bias (chapter 05) -/

/-- The write of FLX_CFG is refused (R160, R166). -/
def flxCfgRefused (q i : Nat) (w : Wr) (s : State) : Bool :=
  let range := wrChanges s w (F.FLX_CFG_SRANGE q i) || wrChanges s w (F.FLX_CFG_FRANGE q i)
  let other := wrChanges s w (F.FLX_CFG_EN q i) || wrChanges s w (F.FLX_CFG_PRESS_BYP q i) || wrChanges s w (F.FLX_CFG_MON_EXT q i)
  ((range || other) && !quireIdle s q) || (range && ladderCode s q i != 0) || wrNew s w (F.FLX_CFG_SRANGE q i) == 3

/-- FLX_CFG (R160, R165 to R167). -/
def wFlxCfg (r : Reg) (w : Wr) (s : State) : WrRes :=
  if flxCfgRefused r.i r.j w s then wrRefused s
  else
    let en := wrNew s w (F.FLX_CFG_EN r.i r.j)
    let t := setF s (F.FLX_CFG_HOLD r.i r.j) (wrNew s w (F.FLX_CFG_HOLD r.i r.j))
    let t := setF t (F.FLX_CFG_PRESS_BYP r.i r.j) (wrNew s w (F.FLX_CFG_PRESS_BYP r.i r.j))
    let t := setF t (F.FLX_CFG_MON_EXT r.i r.j) (wrNew s w (F.FLX_CFG_MON_EXT r.i r.j))
    wrThen (wrOp s (fluxRangeOp r.i r.j (wrNew s w (F.FLX_CFG_SRANGE r.i r.j)) (wrNew s w (F.FLX_CFG_FRANGE r.i r.j)) t)) (fun t =>
      wrOk (if en ≠ 0 then fluxEnableOp r.i r.j t else fluxDisableOp r.i r.j t))

/-- FLX_LADDER (R161). -/
def wFlxLadder (r : Reg) (w : Wr) (s : State) : WrRes := wrOk (ladderWriteOp r.i r.j (wrNew s w (F.FLX_LADDER_CODE r.i r.j)) s)

/-- FLX_MUTE (R168). -/
def wFlxMute (r : Reg) (w : Wr) (s : State) : WrRes := wrOk (softMuteOp r.i (.flux (Fin.ofNat 24 r.j)) (wrNew s w (F.FLX_MUTE_MUTE r.i r.j) != 0) s)

/-- A write of SEC_EN that would clear a bit Sizing owns (R427). -/
def secEnRefused (q i : Nat) (w : Wr) (s : State) : Bool :=
  (List.range 8).any (fun k => bitF s (F.SZ_Q_CFG_PRESS_SEC q) k && bitF s (F.FLX_PRESS_CTRL_SEC_EN q i) k
    && !(wrNew s w (F.FLX_PRESS_CTRL_SEC_EN q i)).testBit k)

/-- FLX_PRESS_CTRL (R158, R159, R427): CLR only while the quire is idle; a commit with an illegal value is refused. -/
def wFlxPress (r : Reg) (w : Wr) (s : State) : WrRes :=
  let clr := wrStrobe w (F.FLX_PRESS_CTRL_CLR r.i r.j)
  if secEnRefused r.i r.j w s || (wrOne w (F.FLX_PRESS_CTRL_CLR r.i r.j) && !quireIdle s r.i) then wrRefused s
  else
    let t := wrDo clr (pressClrOp r.i r.j) (wrPlain r w s)
    wrOp s (wrTry w (F.FLX_PRESS_CTRL_COMMIT r.i r.j) (pressCommitOp r.i r.j) t)

/-- FLX_IIR_C0, C1 and D: refused for a section Sizing owns (R427). -/
def wFlxIir (r : Reg) (w : Wr) (s : State) : WrRes := wrWhile (!bitF s (F.SZ_Q_CFG_PRESS_SEC r.i) r.k) r w s

/-- BIAS_CFG (R169, R171, R172): RANGE and SENSE only while the source is disabled; a change of EN ramps the source up or down. -/
def wBiasCfg (r : Reg) (w : Wr) (s : State) : WrRes :=
  let was := flagF s (F.BIAS_CFG_EN r.i r.j)
  if was && (wrChanges s w (F.BIAS_CFG_RANGE r.i r.j) || wrChanges s w (F.BIAS_CFG_SENSE r.i r.j)) then wrRefused s
  else
    let en := wrNew s w (F.BIAS_CFG_EN r.i r.j) != 0
    let t := wrPlain r w s
    wrOk (if en = was then t else if en then biasUp t r.i r.j else biasDown t r.i r.j)

/-- BIAS_SET (R170). -/
def wBiasSet (r : Reg) (w : Wr) (s : State) : WrRes := wrOk (biasSetOp r.i r.j (wrNew s w (F.BIAS_SET_CODE r.i r.j)) s)

/-- BIAS_SEQ (R172): UP before DOWN where a write carries both. -/
def wBiasSeq (r : Reg) (w : Wr) (s : State) : WrRes :=
  let s := wrDo (wrStrobe w (F.BIAS_SEQ_UP r.i)) (biasSeqOp r.i true) (wrPlain r w s)
  wrOk (wrDo (wrStrobe w (F.BIAS_SEQ_DOWN r.i)) (biasSeqOp r.i false) s)

/-! ### Deckle (chapter 06) -/

/-- DK_WIN_CFG (R178, R179): a new hysteresis disarms the latch as a new threshold does. -/
def wWinCfg (r : Reg) (w : Wr) (s : State) : WrRes :=
  let x := r.i
  let hyst := wrNew s w (F.DK_WIN_CFG_HYST x)
  let cfg := winCfgOp x (wrNew s w (F.DK_WIN_CFG_EN x) != 0) (wrNew s w (F.DK_WIN_CFG_TRIP_EN x) != 0)
    (wrNew s w (F.DK_WIN_CFG_CLR_SHOT x) != 0) (wrNew s w (F.DK_WIN_CFG_GROUP x)) s
  wrThen (wrOp s cfg) (fun t =>
    if hyst = getF s (F.DK_WIN_CFG_HYST x) then wrOk t
    else wrOp s (winThrOp x (getF t (F.DK_WIN_THR_UPPER x)) (getF t (F.DK_WIN_THR_LOWER x)) hyst t))

/-- DK_WIN_THR (R177, R178). -/
def wWinThr (r : Reg) (w : Wr) (s : State) : WrRes :=
  wrOp s (winThrOp r.i (wrNew s w (F.DK_WIN_THR_UPPER r.i)) (wrNew s w (F.DK_WIN_THR_LOWER r.i)) (getF s (F.DK_WIN_CFG_HYST r.i)) s)

/-- DK_GRP_CFG (R184, R493): ACTION 3 is refused. -/
def wGrpCfg (r : Reg) (w : Wr) (s : State) : WrRes :=
  wrUnless s (wrNew s w (F.DK_GRP_CFG_ACTION r.i) == 3) (tripUpdate (wrPlain r w s))

/-- DK_GRP_QMASK, DK_QMAP and DK_EXT (R493). -/
def wTripMap (r : Reg) (w : Wr) (s : State) : WrRes := wrOk (tripUpdate (wrPlain r w s))

/-- DK_LATCH (R180): the latches named by a 1 clear, unless their window is outside. -/
def wDkLatch (r : Reg) (w : Wr) (s : State) : WrRes :=
  if w.view = .normal then
    wrOk (tripUpdate ((List.range 32).foldl (fun s b => if w.v.testBit b ∧ 32 * r.i + b < 456 then winClear s (32 * r.i + b) else s) s))
  else wrOk s

/-- DK_EXT_CTRL (R187). -/
def wExtCtrl (_r : Reg) (w : Wr) (s : State) : WrRes :=
  let t := setF s F.DK_EXT_CTRL_CLR_SHOT (wrNew s w F.DK_EXT_CTRL_CLR_SHOT)
  let t := wrField w t (F.DK_EXT_CTRL_COUNT, .cnt)
  wrOk (wrDo (wrStrobe w F.DK_EXT_CTRL_LATCH) (latchClearOp .external) t)

/-- DK_RB (R188). -/
def wReadBack (_r : Reg) (w : Wr) (s : State) : WrRes := wrOp s (readBackOp (wrNew s w F.DK_RB_WIN) (wrNew s w F.DK_RB_SIDE != 0) s)

/-! ### Headbox (chapter 07) -/

/-- The ADC of a quire is switched off (R193). -/
def adcDown (q : Nat) (s : State) : State :=
  setB (setB { s with head := { s.head with adcBy := tset s.head.adcBy q none } } (F.HB_CTRL_ACQ_EN q) false) (F.HB_STAT_ADC_READY q) false

/-- HB_CTRL (R193, R196, R203). -/
def wHbCtrl (r : Reg) (w : Wr) (s : State) : WrRes :=
  let q := r.i
  if (wrChanges s w (F.HB_CTRL_ACQ_EN q) || wrChanges s w (F.HB_CTRL_LOOP q)) && !quireIdle s q then wrRefused s
  else
    let t := setF s (F.HB_CTRL_LOOP q) (wrNew s w (F.HB_CTRL_LOOP q))
    let t := if wrChanges s w (F.HB_CTRL_ACQ_EN q) then
      (if wrNew s w (F.HB_CTRL_ACQ_EN q) ≠ 0 then (acqEnableOp q t).getD t else adcDown q t) else t
    wrOp s (wrTry w (F.HB_CTRL_COMMIT q) (discCommitOp q) t)

/-- HB_RQ_CFG (R212, R217). -/
def wRqCfg (r : Reg) (w : Wr) (s : State) : WrRes :=
  wrOp s (resultCfgOp r.i (wrNew s w (F.HB_RQ_CFG_EN r.i) != 0) (wrNew s w (F.HB_RQ_CFG_SHOTREC r.i) != 0)
    (wrNew s w (F.HB_RQ_CFG_DEST r.i)) (wrNew s w (F.HB_RQ_CFG_DEPTH r.i)) s)

/-- HB_RQ_DST_LO, HI and SIZE (R217): what they leave enabled must be allowed. -/
def wRqDst (r : Reg) (w : Wr) (s : State) : WrRes :=
  let t := wrPlain r w s
  let en := flagF s (F.HB_RQ_CFG_EN r.i)
  wrUnless s (wrAnyChange r w s && !(resultWritable s r.i
    && (!en || resultCfgOk t r.i en (getF s (F.HB_RQ_CFG_DEST r.i)) (getF s (F.HB_RQ_CFG_DEPTH r.i))))) t

/-- HB_RQ_DST_RD (R214). -/
def wRqDstRd (r : Reg) (w : Wr) (s : State) : WrRes := wrOp s (dstRdOp r.i (wrNew s w (F.HB_RQ_DST_RD_SLOT r.i)) s)

/-- HB_RQ_POP (R215). -/
def wRqPop (r : Reg) (w : Wr) (s : State) : WrRes := wrOk (wrDo (wrStrobe w (F.HB_RQ_POP_POP r.i)) (popOp r.i) s)

/-- HB_SPARE_CTRL (R221). -/
def wHbSpare (r : Reg) (w : Wr) (s : State) : WrRes :=
  let s := wrDo (wrStrobe w (F.HB_SPARE_CTRL_RELEASE r.i)) (unitReleaseOp r.i) (wrPlain r w s)
  wrOk (wrDo (wrStrobe w (F.HB_SPARE_CTRL_FORCE r.i))
    (fun s => unitForceOp r.i (getF s (F.HB_SPARE_CTRL_KIND r.i)) (getF s (F.HB_SPARE_CTRL_TGT r.i)) s) s)

/-- HB_CELL_CFG: only while the quire is idle; the cell's shadow follows (R219). -/
def wCellCfg (r : Reg) (w : Wr) (s : State) : WrRes :=
  wrThen (wrWhile (quireIdle s r.i) r w s) (fun t => wrOk (keepCellShadow t r.i r.j))

/-- HB_CELL_PHASE (R199): takes effect at the first tick at least 8 ticks after the write. -/
def wCellPhase (r : Reg) (w : Wr) (s : State) : WrRes :=
  let v := wrNew s w (F.HB_CELL_PHASE_PHASE r.i r.j)
  wrOk (after (setF s (F.HB_CELL_PHASE_PHASE r.i r.j) v) (regDelay s.now 8) (.cellPhase r.i r.j v))

/-- HB_DISC_CFG: MODE 3 is refused (R202). -/
def wDiscCfg (r : Reg) (w : Wr) (s : State) : WrRes :=
  wrUnless s (wrNew s w (F.HB_DISC_CFG_MODE r.i r.j) == 3) (wrPlain r w s)

/-- What a descriptor write may not leave (R200, R217): a table beyond the weights, or over an enabled ring. -/
def weightBad (s : State) (q d : Nat) : Bool :=
  decide (8000 < getF s (F.WGT_W1_WLEN q d))
    || (!flagF s (F.WGT_W0_MODE q d) && decide (258048 < getF s (F.WGT_W0_START q d) + getF s (F.WGT_W1_WLEN q d)))
    || (flagF s (F.HB_RQ_CFG_EN q) && getF s (F.HB_RQ_CFG_DEST q) == 1
      && tableOverlaps s q d (getF s (F.HB_RQ_DST_LO_VALUE q)) (getF s (F.HB_RQ_DST_LO_VALUE q) + 8 * getF s (F.HB_RQ_DST_SIZE_VALUE q)))

/-- The words of a weight descriptor (R200, R201, R217). -/
def wWeight (r : Reg) (w : Wr) (s : State) : WrRes :=
  if getF s (F.WGT_W3_ACTIVE r.i r.j) = 0 then wrUnless s (weightBad (wrPlain r w s) r.i r.j) (wrPlain r w s)
  else (latch (incF s (F.HB_CNT_B_WCONF r.i)) (F.HB_LATCH_WCONF r.i) (quireEvent r.i 17), some .segBusy)

/-! ### Beater (chapter 08) -/

/-- BT_CTRL. -/
def wBtCtrl (r : Reg) (w : Wr) (s : State) : WrRes :=
  let s := beaterEnableOp r.i (wrNew s w (F.BT_CTRL_EN r.i) != 0) s
  let s := wrDo (wrStrobe w (F.BT_CTRL_RELEASE r.i)) (beaterReleaseOp r.i) s
  wrOk (wrDo (wrStrobe w (F.BT_CTRL_FORCE r.i)) (beaterForceOp r.i) s)

/-- The reservation a write of CTX_CTRL would make is refused (R229): phase 3, or a phase another context holds. -/
def phaseRefused (q c : Nat) (w : Wr) (s : State) : Bool :=
  let ph := wrNew s w (F.CTX_CTRL_PHASE q c)
  wrNew s w (F.CTX_CTRL_PHASE_EN q c) != 0 && (ph == 3 ||
    (List.range 16).any (fun d => d != c && flagF s (F.CTX_CTRL_PHASE_EN q d) && getF s (F.CTX_CTRL_PHASE q d) == ph))

/-- CTX_CTRL (R228, R229): STOP before START. -/
def wCtxCtrl (r : Reg) (w : Wr) (s : State) : WrRes :=
  let moves := wrChanges s w (F.CTX_CTRL_PHASE r.i r.j) || wrChanges s w (F.CTX_CTRL_PHASE_EN r.i r.j)
  if moves && (isActive (ctxState s r.i r.j) || phaseRefused r.i r.j w s) then wrRefused s
  else
    let s := wrDo (wrStrobe w (F.CTX_CTRL_STOP r.i r.j)) (fun s => ctxStop s r.i r.j) (wrPlain r w s)
    wrOk (wrDo (wrStrobe w (F.CTX_CTRL_START r.i r.j)) (ctxStartOp r.i r.j) s)

/-- CTX_PC and CTX_WIN: refused while the context is in RUN, STALL or WAIT. -/
def wCtxHeld (r : Reg) (w : Wr) (s : State) : WrRes := wrWhile (!isActive (ctxState s r.i r.j)) r w s

/-- The state as the writes of an address register still to take effect leave it (R234). -/
def ptrSettled (s : State) (q c p : Nat) (a : Bool) : State :=
  s.sched.foldl (fun t x => match x.2 with
    | .ctxPtr q' c' p' a' hi lo => if q' = q ∧ c' = c ∧ p' = p ∧ a' = a then ctxPtrEffect t q c p a hi lo else t
    | _ => t) s

/-- CTX_PTR_A and CTX_PTR_B: in force for instructions that issue after the REG cycle of the write (R234). -/
def wCtxPtr (r : Reg) (w : Wr) (s : State) : WrRes :=
  let a := r.name == .CTX_PTR_A
  let t := wrPlain r w (ptrSettled s r.i r.j r.k a)
  let hi := getF t (if a then F.CTX_PTR_A_LEN r.i r.j r.k else F.CTX_PTR_B_STEP r.i r.j r.k)
  let lo := getF t (if a then F.CTX_PTR_A_BASE r.i r.j r.k else F.CTX_PTR_B_OFS r.i r.j r.k)
  wrOk (after s (regDelay s.now 0) (.ctxPtr r.i r.j r.k a hi lo))

/-- CTX_IN: SHIFT above 8 is refused (R243). -/
def wCtxIn (r : Reg) (w : Wr) (s : State) : WrRes := wrUnless s (decide (8 < wrNew s w (F.CTX_IN_SHIFT r.i r.j))) (wrPlain r w s)

end Sys2Proof.Machine
end

