-- ==== Sys2Proof/Machine/RegWrite.lean ====
section
/-! DEFINITION. REGISTER_WRITE (R13, R370 to R377): every write of BAR0, through any view, of any size, by any master. -/

namespace Sys2Proof.Machine

/-- A register of the tone set of entry 32, the spare's, which is read-only (R150). -/
def spareEntry (r : Reg) : Bool :=
  match r.name with
  | .TONE_CTRL | .TONE_FTW_LO | .TONE_FTW_HI | .TONE_AT_LO | .TONE_AT_HI | .TONE_FRAME | .TONE_GAIN | .TONE_STAT | .TONE_LATCH
  | .TONE_CNT => r.j == 32
  | _ => false

/-- What a 32-bit write of a register comes to: registers with behaviour of their own, and the access codes for every other; a write of
the spare's read-only entry has no effect (R150). -/
def regEffect (r : Reg) (w : Wr) (s : State) : WrRes :=
  if spareEntry r then wrOk s else
  match r.name with
  | .NOC_ARB => wNocArb r w s
  | .SEQ_CTRL => wSeqCtrl r w s
  | .SEQ_BAR => wSeqBar r w s
  | .STRM_CTRL => wStrmCtrl r w s
  | .THR_CTRL => wThrCtrl r w s
  | .THR_PC | .THR_WIN => wThrHeld r w s
  | .THR_SUB => wThrSub r w s
  | .SEG_W0 | .SEG_W1 | .SEG_W2 | .SEG_W3 => wSegment r w s
  | .TONE_SPARE_CTRL => wToneSpare r w s
  | .TONE_CTRL => wToneCtrl r w s
  | .TONE_FTW_LO => wrOk (ftwHold s r.i (.tone (Fin.ofNat 32 r.j)) (wrNew s w (F.TONE_FTW_LO_FTW r.i r.j)))
  | .TONE_FTW_HI => wrOk (ftwCommitOp r.i (.tone (Fin.ofNat 32 r.j)) (wrNew s w (F.TONE_FTW_HI_FTW r.i r.j)) s)
  | .DRV_CFG => wDrvCfg r w s
  | .DRV_DELAY => wrWhile (quireIdle s r.i) r w s
  | .DRV_MUTE => wDrvMute r w s
  | .DRV_CW => wDrvCw r w s
  | .DRV_PD_CTRL => wDrvPdCtrl r w s
  | .DRV_PD_COEF => wDrvPdCoef r w s
  | .FLX_CFG => wFlxCfg r w s
  | .FLX_LADDER => wFlxLadder r w s
  | .FLX_MUTE => wFlxMute r w s
  | .FLX_PRESS_CTRL => wFlxPress r w s
  | .FLX_IIR_C0 | .FLX_IIR_C1 | .FLX_IIR_D => wFlxIir r w s
  | .BIAS_CFG => wBiasCfg r w s
  | .BIAS_SET => wBiasSet r w s
  | .BIAS_SEQ => wBiasSeq r w s
  | .DK_WIN_CFG => wWinCfg r w s
  | .DK_WIN_THR => wWinThr r w s
  | .DK_GRP_CFG => wGrpCfg r w s
  | .DK_GRP_QMASK | .DK_QMAP | .DK_EXT => wTripMap r w s
  | .DK_LATCH => wDkLatch r w s
  | .DK_EXT_CTRL => wExtCtrl r w s
  | .DK_RB => wReadBack r w s
  | .HB_CTRL => wHbCtrl r w s
  | .HB_RQ_CFG => wRqCfg r w s
  | .HB_RQ_DST_LO | .HB_RQ_DST_HI | .HB_RQ_DST_SIZE => wRqDst r w s
  | .HB_RQ_DST_RD => wRqDstRd r w s
  | .HB_RQ_POP => wRqPop r w s
  | .HB_SPARE_CTRL => wHbSpare r w s
  | .HB_CELL_CFG => wCellCfg r w s
  | .HB_CELL_FTW_LO => wrOk (ftwHold s r.i (.cell (Fin.ofNat 16 r.j)) (wrNew s w (F.HB_CELL_FTW_LO_FTW r.i r.j)))
  | .HB_CELL_FTW_HI => wrOk (ftwCommitOp r.i (.cell (Fin.ofNat 16 r.j)) (wrNew s w (F.HB_CELL_FTW_HI_FTW r.i r.j)) s)
  | .HB_CELL_PHASE => wCellPhase r w s
  | .HB_DISC_CFG => wDiscCfg r w s
  | .WGT_W0 | .WGT_W1 | .WGT_W2 | .WGT_W3 => wWeight r w s
  | .BT_CTRL => wBtCtrl r w s
  | .CTX_CTRL => wCtxCtrl r w s
  | .CTX_PC | .CTX_WIN => wCtxHeld r w s
  | .CTX_IN => wCtxIn r w s
  | .CTX_PTR_A | .CTX_PTR_B => wCtxPtr r w s
  | .COUCH_CTRL => wCouchCtrl r w s
  | .SE_CTRL => wSeCtrl r w s
  | .SE_GEOM | .SE_RWIN => wSeHeld r w s
  | .SE_PORT => wSePort r w s
  | .DX_CFG => wDxCfg r w s
  | .XIN_CFG => wXinCfg r w s
  | .FRULE_A => wFrule r w s
  | .COUCH_SLOT => wCouchSlot r w s
  | .COUCH_PF_XOR => wPfXor r w s
  | .POST_CTRL => wPostCtrl r w s
  | .POST_SWFIRE => wSwfire r w s
  | .POST_GRP => wPostGrp r w s
  | .POST_CH => wPostCh r w s
  | .POST_CSEL => wPostCsel r w s
  | .POST_CELL => wPostCell r w s
  | .CAP_CFG | .CAP_TRIG | .CAP_THR | .CAP_PRE | .CAP_POST | .CAP_SEG => wCapCfg r w s
  | .CAP_AUTO | .CAP_TT_LO | .CAP_TT_HI | .CAP_TPER | .CAP_LATCH | .CAP_IGN_A | .CAP_IGN_B | .CAP_STAT | .CAP_WR => wCapOther r w s
  | .CAP_CTRL => wCapCtrl r w s
  | .CAP_RD => wCapRd r w s
  | .CL_CFG => wClCfg r w s
  | .CL_CID => wClCid r w s
  | .CL_CMD => wMaster wClCmd r w s
  | .CL_AGREE | .CL_EXCL_LO | .CL_EXCL_HI | .CL_MEMB_LO | .CL_MEMB_HI | .CL_BARPART_LO | .CL_BARPART_HI =>
    wMaster (fun r w s => wrOk (wrPlain r w s)) r w s
  | .CL_SHOT_CTRL => wShotCtrl r w s
  | .CL_SHOT_PER => wShotPer r w s
  | .CL_SHOT_NEXT_HI => wShotNext r w s
  | .CHN_PORT_CFG => wPortCfg r w s
  | .CHN_EYE_CTRL => wEyeCtrl r w s
  | .MEM_DWIN => wDwin r w s
  | .MBX_CTRL => wMbxCtrl r w s
  | .ETH_TXR_LO | .ETH_TXR_HI | .ETH_TXR_SIZE => wEthRing r w s
  | .ETH_TXR_WR => wEthWr r w s
  | .MSIX_TABLE => wMsix r w s
  | .DMA_HOST_LO | .DMA_HOST_HI | .DMA_DEV | .DMA_LEN => wDmaSet r w s
  | .DMA_CTRL => wDmaCtrl r w s
  | .PMB_CFG => wPmb wPmbCfg r w s
  | .PMB_CMD => wPmb wPmbCmd r w s
  | .PMB_ENT_A | .PMB_ENT_B => wPmb wPmbEnt r w s
  | .PMB_LATCH => wPmb (fun r w s => wrOk (wrPlain r w s)) r w s
  | .SZ_CTRL => wSzCtrl r w s
  | .SZ_Q_CFG => wSzCfg r w s
  | .SZ_Q_CMD => wSzCmd r w s
  | .PWR_CTRL => wPwrCtrl r w s
  | .PWR_SHOTCAP => wShotCap r w s
  | .THM_CFG => wThmCfg r w s
  | .LOFT_SCAN => wLoftScan r w s
  | .LOFT_FILT => wLoftFilt r w s
  | _ => wrOk (wrPlain r w s)

/-! ### The access (R371 to R376) -/

/-- The security block (R371). -/
def inSecurity (addr : Nat) : Bool := addr / 0x10000 == 0x304

/-- A master is a management core. -/
def isCore : Master → Bool
  | .core _ => true
  | _ => false

/-- An aligned 32-bit write (R371, R375): REFUSED in the security block unless by a management core; NO_OBJECT where no register lies;
POWERED_OFF where its block is off; else the register's rule. -/
def write32 (m : Master) (addr v : Nat) (s : State) : WrRes :=
  if inSecurity addr && !isCore m then wrRefused s
  else
    match regAt addr with
    | none => (s, some .noObject)
    | some r => if regPowered s r then regEffect r ⟨viewAt addr, v % 2 ^ 32⟩ s else (s, some .poweredOff)

/-- Some bytes of the mailbox request buffer are written: narrow writes are accepted there. -/
def mbxBytes (r : Reg) (addr n v : Nat) (s : State) : WrRes :=
  let old := getF s (F.MBX_REQ_DATA r.i)
  let sh := 256 ^ (addr % 4)
  let keep := old % sh + old / (sh * 256 ^ n) * (sh * 256 ^ n)
  wrOk (setF s (F.MBX_REQ_DATA r.i) (keep + v % 256 ^ n * sh))

/-- A write narrower than 32 bits, or of an odd size below 64 (R372): NARROW, but for the mailbox request buffer. -/
def writeNarrow (m : Master) (addr n v : Nat) (s : State) : WrRes :=
  if inSecurity addr && !isCore m then wrRefused s
  else
    match regAt (addr - addr % 4) with
    | none => (s, some .noObject)
    | some r =>
      if r.name = .MBX_REQ ∧ viewAt addr = .normal ∧ (n = 1 ∨ n = 2) then mbxBytes r addr n v s else (s, some .narrow)

/-- The size and alignment of an access are allowed for a register (R372), for n bytes. -/
def regAligned (addr n : Nat) : Bool :=
  if n = 1 then true else if n = 2 then addr % 2 == 0
  else if n = 4 ∨ n = 8 then addr % 4 == 0
  else addr % 4 == 0 || decide (addr % 4 + n ≤ 4)

/-- A write to BAR0 (R372, R373): a 64-bit write is two ascending 32-bit writes, and reports the first that failed; a longer one reaches no
register. -/
def regAccess (m : Master) (addr size v : Nat) (s : State) : WrRes :=
  let n := size / 8
  if 8 < n then (s, some .noObject)
  else if !regAligned addr n then (s, some .misaligned)
  else if n = 4 then write32 m addr v s
  else if n = 8 then
    let a := write32 m addr (v % 2 ^ 32) s
    let b := write32 m (addr + 4) (v / 2 ^ 32) a.1
    (b.1, match a.2 with
      | some e => some e
      | none => b.2)
  else writeNarrow m addr n v s

/-- A write to BAR0 with its outcome reported (R376). -/
def registerWrite (m : Master) (addr size v : Nat) (s : State) : State :=
  let x := regAccess m addr size v s
  match x.2 with
  | none => emit x.1 (.response m 0)
  | some e => busError x.1 m true size false addr e

/-- An address of BAR0 lies in a region that is down (R25). -/
def addrStalls (s : State) (addr : Nat) : Bool :=
  match regAt (addr - addr % 4) with
  | some r => accessStalls s r
  | none => false

/-- REGISTER_WRITE (R13); it waits while its region is down (R25). -/
def execRegisterWrite (m : Master) (addr size val : Nat) (s : State) : Host.Outcome State Fault Refusal :=
  .next (if addrStalls s addr then holdAccess s (.registerWrite m addr size val) else registerWrite m addr size val s)

end Sys2Proof.Machine
end

