-- ==== Sys2Proof/Machine/RegRead.lean ====
section
/-! DEFINITION. What a read of a register returns: the fields it holds, and those that show other state (R12, R50). The opcode table has
commands only for the reads with an effect. -/

namespace Sys2Proof.Machine

/-- The mask of the numbers below n with a property. -/
def maskWhere (n : Nat) (p : Nat → Bool) : Nat := ((List.range n).map (fun k => if p k then 2 ^ k else 0)).sum

/-- The fields a register holds; write-only fields read as zero (R12). -/
def heldBits (s : State) (r : Reg) : Nat := ((fieldsOf r).map (fun x => if x.2 = .wo then 0 else getF s x.1 * 2 ^ x.1.key.lsb)).sum

/-- The sign bit applied to the sample of a drive tone that enters now (R123). -/
def tonePf (s : State) (q c : Nat) : Bool :=
  decide (c < 16) && flagF s (F.TONE_CTRL_PF_EN q c) &&
    (if flagF s (F.TONE_CTRL_PF_LATCH q c) then (toneOf s q c).pfHeld else signInForce s (16 * q + getF s (F.TONE_CTRL_SLOT q c)))

/-- A MEAS of the quire waits for a credit (HB_RQ_STAT.STARVED). -/
def starved (s : State) (q : Nat) : Bool :=
  (List.range 16).any (fun t => thrState s q t == stStall && getF s (F.THR_STAT_WCAUSE q t) == 2)

/-- The head packet, where software reads it (DEST = 0). -/
def headRead (s : State) (q : Nat) : Option Queued := if getF s (F.HB_RQ_CFG_DEST q) = 0 then headOf s q else none

/-- What CL_SHOT_NEXT reads (R341): the earliest boundary announced and not yet reached, else the next to be announced, else the value written
last. -/
def shotNextRead (s : State) : Nat :=
  match (s.seq.announced.filter (fun b => decide (s.now < b))).min? with
  | some b => b
  | none => (genNext s 0).getD (getF s F.CL_SHOT_NEXT_LO_VALUE + 2 ^ 32 * getF s F.CL_SHOT_NEXT_HI_VALUE)

/-- A register marked "master", which reads as zero on a follower (chapter 12, Registers). -/
def masterOnly (r : Reg) : Bool :=
  match r.name with
  | .CL_CMD | .CL_AGREE | .CL_EXCL_LO | .CL_EXCL_HI | .CL_MEMB_LO | .CL_MEMB_HI | .CL_BARPART_LO | .CL_BARPART_HI => true
  | _ => false

/-- What a register reads: SEQ_STAT, THR_PC, CTX_PC, STRM_LEVEL, THR_TT, TONE_STAT, DRV_QSTAT, the result queue, BT_STAT, COUCH_PF, PWR_SHOTEFF, CL_SHOT_NEXT
and TB_TSTAT show state that lies elsewhere. The PMBus registers read as zero in the instrument personality (R4). -/
def readOwn (s : State) (r : Reg) : Nat :=
  match r.name with
  | .SEQ_STAT => 2 ^ 16 * maskWhere 16 (fun t => isActive (thrState s r.i t)) + maskWhere 16 (fun t => thrState s r.i t == stFault)
  | .BT_STAT => 2 ^ 16 * maskWhere 16 (fun c => isActive (ctxState s r.i c)) + maskWhere 16 (fun c => ctxState s r.i c == stFault)
  | .THR_PC => if (thread s r.i r.j).started then (thread s r.i r.j).pc else heldBits s r
  | .CTX_PC => if (ctxOf s r.i r.j).started then (ctxOf s r.i r.j).pc else heldBits s r
  | .STRM_LEVEL => ((streamOf s r.i r.j).write - readPos s r.i r.j) % 2 ^ 21
  | .THR_TT_LO => (thread s r.i r.j).tt % 2 ^ 32
  | .THR_TT_HI => (thread s r.i r.j).tt / 2 ^ 32 % 2 ^ 32
  | .TONE_STAT => heldBits s r + 2 ^ 5 * (tonePf s r.i r.j).toNat + (playerOf s ⟨r.i, .tone, r.j⟩).active.toNat
  | .DRV_QSTAT => (quireIdle s r.i).toNat
  | .HB_RQ_COUNT => countOf s r.i
  | .HB_RQ_STAT => 2 ^ 3 * (starved s r.i).toNat + 2 ^ 2 * (results s r.i).stopped.toNat + 2 * (countOf s r.i == 0).toNat
  | .HB_RQ_HEAD => match headRead s r.i with | some x => 2 ^ 8 + x.words.length % 16 | none => 0
  | .HB_RQ_DATA => match headRead s r.i with | some x => x.words.getD r.j 0 | none => 0
  | .COUCH_PF => ((List.range 16).map (fun k => 4 ^ k * (frameShown s (16 * r.i + k) % 4))).sum
  | .PWR_SHOTEFF => minPeriod s % 2 ^ 24
  | .TB_TSTAT => heldBits s r + 2 ^ 10 * (!s.time.meas.isEmpty).toNat
  | .CL_SHOT_NEXT_LO => shotNextRead s % 2 ^ 32
  | .CL_SHOT_NEXT_HI => shotNextRead s / 2 ^ 32 % 2 ^ 32
  | .PMB_CFG | .PMB_CMD | .PMB_STAT | .PMB_LATCH | .PMB_ENT_A | .PMB_ENT_B | .PMB_ENT_STAT | .PMB_ENT_MEAS =>
    if instrument s then 0 else heldBits s r
  | _ => if masterOnly r && !isMaster s then 0 else heldBits s r

/-- What a register reads; the spare tone's entry reads as the set of the tone the spare serves, or zero (R150). -/
def readReg (s : State) (r : Reg) : Nat :=
  if spareEntry r then
    if flagF s (F.TONE_SPARE_STAT_IN_USE r.i) then readOwn s { r with j := getF s (F.TONE_SPARE_STAT_TARGET r.i) } else 0
  else readOwn s r

end Sys2Proof.Machine
end

