-- ==== Sys2Proof/Machine/SecOps.lean ====
section
/-! DEFINITION. What the security entries of the dictionary do (R405 to R414, R433): signed objects, the customer root, client keys,
firmware images, quotes, calibration sets. -/

namespace Sys2Proof.Machine

/-! ### Signed objects (R406) -/

/-- A signed object verifies against a root (R406). -/
def objVerifies (root : Root) (o : SignedObj) : Bool := o.digestOk && o.sigOk && o.signer == root

/-- An object that fails verification is discarded whole: AUTH, counted (R406). -/
def verifyFails (s : State) : WrRes := (incF s F.SEC_CNT_VERIFY_FAIL, some .auth)

/-- The key store is closed by debug level 2 (R414). -/
def keysClosed (s : State) : Bool := flagF s F.SEC_STAT_KS_CLOSED

/-- The customer root can verify an object (R407, R416). -/
def customerRoot (s : State) : Bool := s.sec.rootProv && !s.sec.rootRevoked

/-! ### The customer root (R407) -/

/-- A write of a WL field or entry that no longer accepts writes (R377): counted, its register recorded, producer 551. The BAR0 offset
recorded for a dictionary entry is not given: a free value. -/
def lockViolation (s : State) : State :=
  fire (setF (takeFree (incF s F.BUS_CNT_LOCKVIO)) F.BUS_LOCK_ADDR_ADDR (Config.freeNat s.free)) 551

/-- The customer root slot is empty. -/
def rootEmpty (s : State) : Bool := !s.sec.rootProv && !s.sec.rootRevoked

/-- A write of 0x1200:02 (R407): the first provisions the root; a later one is refused and counts as a lock violation. -/
def rootProvision (s : State) (modulus : List Nat) : WrRes :=
  if !rootEmpty s then (lockViolation s, some .refused)
  else if modulus.length ≠ 512 then (s, some .type)
  else wrOk (setB { s with sec := { s.sec with rootProv := true, rootHash := Config.sha512 modulus } } F.SEC_STAT_ROOT_PROV true)

/-! ### Client keys (R408) -/

/-- A session of a key is closed, with the staged writes it made (R388). -/
def closeSessions (s : State) (p : Session → Bool) : State :=
  let gone := (s.host.sessions.filter p).map (·.id)
  { s with host := { s.host with
      sessions := s.host.sessions.filter (fun x => !p x), staged := s.host.staged.filter (fun w => !gone.contains w.session)
      partials := s.host.partials.filter (fun x => !gone.contains x.1.1) } }

/-- A certificate is installed (R408): for Operator and Integrator under the customer root, for Vendor under the vendor root. -/
def keyInstall (s : State) (o : SignedObj) (id priv : Nat) : WrRes :=
  let root : Root := if priv = 3 then .vendor else .customer
  if keysClosed s || s.sec.zeroized then (s, some .auth)
  else if !objVerifies root o || (priv != 3 && !customerRoot s) || decide (priv < 1 ∨ 3 < priv) then verifyFails s
  else
    let rest := s.sec.keys.filter (fun k => k.id != id)
    if 32 ≤ rest.length then (s, some .busy)
    else wrOk { s with sec := { s.sec with keys := rest ++ [⟨id, priv⟩] } }

/-- An entry is removed, and every session it opened closes (R408). -/
def keyRemove (s : State) (id : Nat) : WrRes :=
  if s.sec.keys.any (fun k => k.id == id) then
    wrOk (closeSessions { s with sec := { s.sec with keys := s.sec.keys.filter (fun k => k.id != id) } } (fun x => x.key == id))
  else wrRefused s

/-! ### Firmware images (R409 to R412) -/

/-- The image in a slot that reads as valid (R367, R409): its SVN, and whether it verifies. -/
def imageAt (s : State) (k : Slot) : Option (Nat × Bool) :=
  match k with
  | .flash => tget s.sec.images none .flash
  | k =>
    match recordOf s (.image k) with
    | some r => (match r.valid, r.content with
      | true, .image svn ok => some (svn, ok)
      | _, _ => none)
    | none => tget s.sec.images none k

/-- The code of SEC_STAT.BOOT_SRC for a slot. -/
def slotCode : Slot → Nat
  | .a => 0
  | .b => 1
  | .flash => 2

/-- The other of slots A and B. -/
def otherSlot : Slot → Slot
  | .a => .b
  | _ => .a

/-- The slot an image write goes to (R410): the one that does not run; with the flash image running, the one not preferred. -/
def inactiveSlot (s : State) : Slot :=
  if getF s F.SEC_STAT_BOOT_SRC = 0 then .b else if getF s F.SEC_STAT_BOOT_SRC = 1 then .a else otherSlot s.sec.preferred

/-- A firmware image written to 0x1220:01 (R410): verified, stored, made the preferred image in trial with a count of 3. -/
def imageWrite (s : State) (o : SignedObj) : WrRes :=
  if !objVerifies .vendor o || decide (o.svn < s.sec.fuse) then verifyFails s
  else
    match queueStore s ⟨.image (inactiveSlot s), .image o.svn true⟩ with
    | none => (s, some .busy)
    | some t => wrOk { t with sec := { t.sec with preferred := inactiveSlot s, trial := true, count := 3 } }

/-- The running image is confirmed (R410): it leaves trial, and the fuse counter advances to its SVN. -/
def imageConfirm (s : State) : State :=
  let ran := slotCode s.sec.preferred == getF s F.SEC_STAT_BOOT_SRC
  let fuse := min 128 (max s.sec.fuse (getF s F.SEC_SVN_IMAGE))
  let s := { s with sec := { s.sec with trial := s.sec.trial && !ran, fuse := fuse } }
  setF (if ran then setB s F.SEC_STAT_TRIAL false else s) F.SEC_SVN_FUSE fuse

/-! ### Quotes (R413) -/

/-- The flags of a quote (R413). -/
def quoteFlags (s : State) : Nat :=
  getF s F.SEC_STAT_TRIAL + 2 * s.sec.rootProv.toNat + 4 * s.sec.rootRevoked.toNat + 8 * getF s F.SEC_STAT_UNSIGNED_CODE

/-- The digest of the calibration set of a quire. -/
def setDigest (s : State) (q : Nat) : List Nat := leBytes 64 (Config.sha512 (Config.pointBytes (setPoints (szOf s q))))

/-- The 316 bytes of a quote's content (R413). -/
def quoteContent (s : State) (nonce : List Nat) : List Nat :=
  nonce ++ leBytes 8 (ownUid s) ++ [getF s F.CHIP_IDENT_ORDER, getF s F.CHIP_PERS_ACTIVE, getF s F.SEC_STAT_DBG_LEVEL, quoteFlags s]
    ++ leBytes 4 s.sec.fuse ++ leBytes 64 (Config.imageHash (getF s F.SEC_STAT_BOOT_SRC) (getF s F.SEC_SVN_IMAGE))
    ++ leBytes 64 (if s.sec.rootProv then s.sec.rootHash else 0)
    ++ leBytes 64 (Config.sha512 ((List.range 16).flatMap (setDigest s))) ++ leBytes 64 (Config.bundleHash s.free)
    ++ leBytes 8 s.now ++ leBytes 4 (getF s F.CL_EPOCH_EPOCH)

/-- A nonce written to 0x1210:01 makes the device form a quote (R413); none with the key store closed or erased (R414, R417). -/
def quoteForm (s : State) (nonce : List Nat) : WrRes :=
  if keysClosed s || s.sec.zeroized then (s, some .auth)
  else if nonce.length ≠ 32 then (s, some .type)
  else
    let c := quoteContent s nonce
    wrOk (takeFree { s with sec := { s.sec with quote := some (c ++ leBytes 512 (Config.quoteSig c)) } })

/-! ### Calibration sets (R433) -/

/-- A factory set is offered (R406, R411, R433). -/
def factorySet (s : State) (q : Nat) (o : SignedObj) (ps : List SzPoint) : WrRes :=
  if !objVerifies .vendor o || decide (o.svn < s.sec.factorySvn) then verifyFails s
  else if !szWritable s q then wrRefused s
  else
    match queueStore s ⟨.factorySet q, .points ps⟩ with
    | none => (s, some .busy)
    | some t => wrOk (factoryWrite { t with sec := { t.sec with factorySvn := max t.sec.factorySvn o.svn } } q ps)

/-- A field set is offered (R433): refused with a failing point, with more points than a set holds, or while a run is due. -/
def fieldSet (s : State) (q : Nat) (ps : List (SzPoint × List Nat)) : WrRes :=
  if !szWritable s q || !pointsOk ps || decide (8 < (szOf s q).factory.length + (recordPoints (ps.map (·.1))).length) then wrRefused s
  else
    match queueStore s ⟨.fieldSet q, .points (ps.map (·.1))⟩ with
    | none => (s, some .busy)
    | some t => wrOk (fieldWrite t q (ps.map (·.1)))

end Sys2Proof.Machine
end

