-- ==== Sys2Proof/Machine/Dict.lean ====
section
/-! DEFINITION. The object dictionary (R392 to R400): its entries, their values, and what a write of each does. -/

namespace Sys2Proof.Machine

/-- The types of values (R394): a number of so many bytes, a BOOL, a STRING, a BLOB. -/
inductive DTy where
  | num (bytes : Nat)
  | bool
  | str
  | blob
deriving DecidableEq, Repr

/-- The access rights (R393). -/
inductive DAcc where
  | ro | wo | rw | rws | wl
deriving DecidableEq, Repr

/-- A subindex (R393): type, access, read and write privilege, greatest value, stageable. -/
structure DEntry where
  ty : DTy
  acc : DAcc
  rp : Nat
  wp : Nat
  max : Nat
  stage : Bool
deriving DecidableEq, Repr

/-- A read-only entry for Operators. -/
def dRo (ty : DTy) : DEntry := ⟨ty, .ro, 1, 1, 0, false⟩

/-- A stored number: read by Operators, written by Integrators. -/
def dRws (bytes max : Nat) : DEntry := ⟨.num bytes, .rws, 1, 2, max, false⟩

/-- A stored BOOL: read by Operators, written by Integrators. -/
def dFlag : DEntry := ⟨.bool, .rws, 1, 2, 1, false⟩

/-- Identity and device commands (R396, R400). -/
def dictDevice (i sub : Nat) : Option DEntry :=
  if i = 0x1000 then
    (if sub = 1 ∨ sub = 2 then some (dRo .str) else if sub = 4 then some (dRo (.num 8))
     else if 3 ≤ sub ∧ sub ≤ 10 then some (dRo (.num 1)) else none)
  else if i = 0x10F0 then
    (if sub = 1 ∨ sub = 2 then some ⟨.num 4, .wo, 2, 2, 2 ^ 32 - 1, false⟩ else if sub = 3 then some (dRo (.num 2)) else none)
  else none

/-- Communication (R400). -/
def dictComm (i sub : Nat) : Option DEntry :=
  if i = 0x1100 ∨ i = 0x1101 then
    (match sub with
     | 1 | 3 => some dFlag
     | 2 => some (dRws 1 1)
     | 4 => some (dRo (.num 8))
     | 5 => some (dRws 4 (2 ^ 32 - 1))
     | 6 => some (dRws 1 32)
     | 7 => some (dRws 2 4094)
     | 10 => some (dRws 2 65535)
     | 11 => some (dRo (.num 4))
     | _ => none)
  else if i = 0x1110 then
    (match sub with
     | 1 => some (dRo (.num 1))
     | 2 => some (dRws 2 65535)
     | 3 => some dFlag
     | 4 => some (dRo (.num 4))
     | _ => none)
  else none

/-- Security (R407 to R413). -/
def dictSecurity (i sub : Nat) : Option DEntry :=
  if i = 0x1200 ∧ sub = 2 then some ⟨.blob, .wl, 1, 0, 0, false⟩
  else if i = 0x1200 ∧ sub = 3 then some (dRo .blob)
  else if i = 0x1201 ∧ (sub = 1 ∨ sub = 2) then some ⟨.blob, .wo, 2, 2, 0, false⟩
  else if i = 0x1210 ∧ sub = 1 then some ⟨.blob, .wo, 1, 1, 0, false⟩
  else if i = 0x1210 ∧ sub = 2 then some (dRo .blob)
  else if i = 0x1220 ∧ sub = 1 then some ⟨.blob, .wo, 2, 2, 0, false⟩
  else if i = 0x1220 ∧ sub = 2 then some ⟨.num 4, .wo, 2, 2, 2 ^ 32 - 1, false⟩
  else none

/-- Post (R297): PRESUMED numbering (log entry 93): 0x2200 + n, subindex 1 POST_CH n, 2 POST_CELL n, 3 to 5 POST_CSEL n, 256 + n,
512 + n. -/
def postReg (i sub : Nat) : Option Reg :=
  let n := i - 0x2200
  if i < 0x2200 ∨ 0x2300 ≤ i then none
  else if sub = 1 then some ⟨.POST_CH, n, 0, 0⟩
  else if sub = 2 ∧ n < 32 then some ⟨.POST_CELL, n, 0, 0⟩
  else if 3 ≤ sub ∧ sub ≤ 5 ∧ 256 * (sub - 3) + n < 593 then some ⟨.POST_CSEL, 256 * (sub - 3) + n, 0, 0⟩
  else none

/-- Time, cluster, Post, Loft, log, calibration (R58, R297, R397, R433, R447, R465). -/
def dictFabric (i sub : Nat) : Option DEntry :=
  if (postReg i sub).isSome then some ⟨.num 4, .rw, 1, 2, 2 ^ 32 - 1, false⟩ else
  if i = 0x2000 then
    (if sub = 1 then some (dRo (.num 1)) else if sub = 2 then some (dRo (.num 8)) else if sub = 3 then some (dRws 1 127) else none)
  else if i = 0x2101 then (if 1 ≤ sub ∧ sub ≤ 8 then some (dRo (.num 4)) else none)
  else if i = 0x2110 then
    (if sub = 1 ∨ sub = 2 then some (dRo (.num 2)) else if sub = 3 then some ⟨.bool, .wo, 2, 2, 1, false⟩ else none)
  else if i = 0x2310 then (if 1 ≤ sub ∧ sub ≤ 45 then some (dRo (.num 4)) else none)
  else if i = 0x2320 then (if sub = 1 then some (dRo .blob) else if sub = 2 then some (dRo (.num 4)) else none)
  else if i = 0x2400 then (if sub = 1 then some (dRws 1 20) else if sub = 2 then some dFlag else none)
  else if 0x2410 ≤ i ∧ i < 0x2420 then
    (match sub with
     | 1 => some ⟨.blob, .wo, 2, 2, 0, false⟩
     | 2 => some ⟨.blob, .rw, 2, 2, 0, false⟩
     | 3 => some (dRo (.num 1))
     | 4 => some (dRo .blob)
     | 5 => some dFlag
     | _ => none)
  else none

/-- Drive tones and outputs (R400), bias sources (R171; PRESUMED numbering: subindex 1 the voltage measured, 2 the current, log entry 93),
and the user store (R396). -/
def dictSignal (i sub : Nat) : Option DEntry :=
  if 0x4000 ≤ i ∧ i < 0x4100 then
    (match sub with
     | 1 => some ⟨.num 8, .rw, 1, 1, 2 ^ 48 - 1, true⟩
     | 2 => some ⟨.num 2, .rws, 1, 1, 65535, true⟩
     | 3 => some (dRws 1 15)
     | 4 => some dFlag
     | 5 | 6 => some (dRo .bool)
     | _ => none)
  else if 0x4100 ≤ i ∧ i < 0x4140 then
    (match sub with
     | 1 => some ⟨.bool, .rw, 1, 1, 1, false⟩
     | 2 => some (dRws 1 3)
     | 3 => some (dRws 1 255)
     | 4 => some (dRws 1 1)
     | 5 | 6 => some ⟨.num 2, .rws, 1, 1, 65535, true⟩
     | 7 => some (dRo .bool)
     | 8 => some (dRo (.num 2))
     | _ => none)
  else if 0x4400 ≤ i ∧ i < 0x4420 then (if sub = 1 ∨ sub = 2 then some (dRo (.num 2)) else none)
  else if 0x5000 ≤ i ∧ i < 0x6000 then (if sub = 1 then some ⟨.blob, .rw, 1, 2, 0, false⟩ else none)
  else none

/-- The entry of an index and a subindex from 1 on; an index or subindex not defined: none (R392). -/
def dictSub (i sub : Nat) : Option DEntry :=
  if i < 0x1100 then dictDevice i sub
  else if i < 0x1200 then dictComm i sub
  else if i < 0x2000 then dictSecurity i sub
  else if i < 0x3000 then dictFabric i sub
  else dictSignal i sub

/-- The number of subindices of an index (R17). -/
def dictCount (i : Nat) : Nat := ((List.range 255).filter (fun k => (dictSub i (k + 1)).isSome)).length

/-- The entry of an index and subindex (R392); subindex 0 is the number of those that follow it, read-only (R17). -/
def dictEntry (i sub : Nat) : Option DEntry :=
  if sub = 0 then (if dictCount i = 0 then none else some (dRo (.num 1))) else dictSub i sub

/-! ### Entries that map onto a register field (R400) -/

/-- The register and field an entry maps onto. -/
def dictReg (i sub : Nat) : Option (Reg × Fld) :=
  if i = 0x2000 ∧ sub = 1 then some (⟨.TB_TSTAT, 0, 0, 0⟩, F.TB_TSTAT_STATE)
  else if i = 0x2101 then some (⟨.TB_PORT_DELAY, sub - 1, 0, 0⟩, F.TB_PORT_DELAY_DELAY (sub - 1))
  else if i = 0x2400 then
    some (⟨.SZ_CTRL, 0, 0, 0⟩, if sub = 1 then F.SZ_CTRL_DT else F.SZ_CTRL_AUTO)
  else if 0x2410 ≤ i ∧ i < 0x2420 ∧ sub = 3 then some (⟨.SZ_Q_STAT, i - 0x2410, 0, 0⟩, F.SZ_Q_STAT_POINTS (i - 0x2410))
  else if 0x2410 ≤ i ∧ i < 0x2420 ∧ sub = 5 then some (⟨.SZ_Q_CFG, i - 0x2410, 0, 0⟩, F.SZ_Q_CFG_LINE_EN (i - 0x2410))
  else if 0x4000 ≤ i ∧ i < 0x4100 then
    let q := (i - 0x4000) / 16
    let c := (i - 0x4000) % 16
    (match sub with
     | 2 => some (⟨.TONE_GAIN, q, c, 0⟩, F.TONE_GAIN_GAIN q c)
     | 3 => some (⟨.TONE_CTRL, q, c, 0⟩, F.TONE_CTRL_SLOT q c)
     | 4 => some (⟨.TONE_CTRL, q, c, 0⟩, F.TONE_CTRL_PF_EN q c)
     | 5 => some (⟨.TONE_STAT, q, c, 0⟩, F.TONE_STAT_FAILED q c)
     | 6 => some (⟨.TONE_STAT, q, c, 0⟩, F.TONE_STAT_SUBST q c)
     | _ => none)
  else if 0x4100 ≤ i ∧ i < 0x4140 then
    let q := (i - 0x4100) / 4
    let o := (i - 0x4100) % 4
    (match sub with
     | 1 => some (⟨.DRV_CFG, q, o, 0⟩, F.DRV_CFG_EN q o)
     | 2 => some (⟨.DRV_CFG, q, o, 0⟩, F.DRV_CFG_RANGE q o)
     | 3 => some (⟨.DRV_DELAY, q, o, 0⟩, F.DRV_DELAY_FINE q o)
     | 4 => some (⟨.DRV_CFG, q, o, 0⟩, F.DRV_CFG_MODE q o)
     | 5 => some (⟨.DRV_CW, q, o, 0⟩, F.DRV_CW_AMP q o)
     | 6 => some (⟨.DRV_CW, q, o, 0⟩, F.DRV_CW_RAMP q o)
     | 7 => some (⟨.DRV_STAT, q, o, 0⟩, F.DRV_STAT_MUTED q o)
     | 8 => some (⟨.DRV_CNT, q, o, 0⟩, F.DRV_CNT_CLIP q o)
     | _ => none)
  else none

/-- A write a management core makes to a register (R370, R376, R399). -/
def coreWrite (s : State) (addr size v : Nat) : WrRes :=
  let x := regAccess (.core 0) addr size v s
  match x.2 with
  | none => x
  | some e => (busError x.1 (.core 0) true size false addr e, some e)

/-- The word that leaves every RW field of a register as it is but one. -/
def wordWith (s : State) (r : Reg) (f : Fld) (v : Nat) : Nat :=
  ((fieldsOf r).map (fun x => if x.2 = .rw then (if x.1.key = f.key then v else getF s x.1) * 2 ^ x.1.key.lsb else 0)).sum

/-- The registers of a tone's frequency word. -/
def toneFtwReg (i : Nat) : Reg := ⟨.TONE_FTW_LO, (i - 0x4000) / 16, (i - 0x4000) % 16, 0⟩

/-! ### Values -/

/-- The default of an entry that maps onto no register (R400). -/
def dictDefault (s : State) (i sub : Nat) : Nat :=
  if i = 0x1100 ∨ i = 0x1101 then
    (match sub with
     | 1 => (instrument s).toNat
     | 2 => 1
     | 3 => 1
     | 6 => 24
     | 10 => 5170
     | _ => 0)
  else if i = 0x1110 ∧ sub = 2 then 30
  else 0

/-- The number an entry holds (R400). -/
def dictNumber (s : State) (i sub : Nat) : Nat :=
  if sub = 0 then dictCount i else
  match dictReg i sub with
  | some (_, f) => getF s f
  | none =>
    if i = 0x1000 then
      (if sub = 3 then getF s F.CHIP_IDENT_ORDER else if sub = 4 then ownUid s
       else if sub = 10 then getF s F.CHIP_PERS_ACTIVE else if sub = 5 then getF s F.CHIP_IDENT_DIE_REV else Config.identity i sub)
    else if i = 0x10F0 then s.host.refused
    else if (i = 0x1100 ∨ i = 0x1101) ∧ (sub = 4 ∨ sub = 11) then Config.identity i (16 * dictNat s i 2 1 + sub)
    else if i = 0x1110 ∧ sub = 1 then (s.host.sessions.filter (·.isOpen)).length
    else if i = 0x1110 ∧ sub = 4 then s.host.discarded
    else if i = 0x2000 ∧ sub = 2 then s.now
    else if i = 0x2110 ∧ sub = 1 then (if s.host.staged = [] then 0 else s.host.changeId)
    else if i = 0x2110 ∧ sub = 2 then s.host.staged.length
    else if i = 0x2310 then Config.identity i sub
    else if 0x2200 ≤ i ∧ i < 0x2300 then (match postReg i sub with
      | some r => readReg s r
      | none => 0)
    else if 0x4400 ≤ i ∧ i < 0x4420 then
      let b := biasOf s ((i - 0x4400) / 2) ((i - 0x4400) % 2)
      if sub = 1 then b.volt else b.curr
    else if i = 0x2320 then s.power.lost
    else if 0x4000 ≤ i ∧ i < 0x4100 then
      getF s (F.TONE_FTW_LO_FTW (toneFtwReg i).i (toneFtwReg i).j) + 2 ^ 32 * getF s (F.TONE_FTW_HI_FTW (toneFtwReg i).i (toneFtwReg i).j)
    else dictNat s i sub (dictDefault s i sub)

/-- The text of a name (R400). -/
def textBytes (x : String) : List Nat := x.toList.map (·.toNat)

/-- The bytes a STRING or BLOB entry holds; none where it holds nothing to read (R413). -/
def dictBlob (s : State) (i sub : Nat) : Option (List Nat) :=
  if i = 0x1000 then some (textBytes (if sub = 1 then "Zorile Microsystems" else "ZQ-C256"))
  else if i = 0x1200 then some (if sub = 3 then leBytes 64 (if s.sec.rootProv then s.sec.rootHash else 0) else [])
  else if i = 0x1210 then s.sec.quote
  else if i = 0x2320 then some ((List.range (32 * s.power.log.length)).map (fun k => (Config.logByte k).toNat))
  else if 0x2410 ≤ i ∧ i < 0x2420 then
    some (if sub = 4 then setDigest s (i - 0x2410) else Config.pointBytes (setRecordOf (szOf s (i - 0x2410))))
  else
    match recordData s (.user i) with
    | some (.bytes l) => some l
    | _ => some []

/-- The value of an entry as a read returns it (R393, R394); WO reads as zero of its type. -/
def dictRead (s : State) (i sub : Nat) (e : DEntry) : Except Err (List Nat) :=
  let off := match dictReg i sub with
    | some (r, _) => !regPowered s r
    | none => decide (0x4000 ≤ i ∧ i < 0x4100) && !regPowered s (toneFtwReg i)
  if sub ≠ 0 && off then .error .poweredOff
  else
    match e.ty with
    | .num n => .ok (leBytes n (if e.acc = .wo then 0 else dictNumber s i sub))
    | .bool => .ok [if e.acc = .wo then 0 else dictNumber s i sub % 2]
    | .str | .blob => if e.acc = .wo then .ok [] else (match dictBlob s i sub with
      | some l => .ok l
      | none => .error .noObject)

/-! ### Checks of a write (R393, R394) -/

/-- A complete value has its type's length and encoding, and lies in its range. -/
def valueErr (e : DEntry) (val : List Nat) : Option Err :=
  match e.ty with
  | .num n => if val.length ≠ n then some .type else if e.max < leNat val then some .refused else none
  | .bool => if val.length ≠ 1 ∨ 1 < leNat val then some .type else none
  | .str => if 255 < val.length then some .type else none
  | .blob => if 2 ^ 24 < val.length then some .type else none

/-! ### Effects of a write -/

/-- The stored entries (R396), in ascending order. -/
def rwsEntries : List (Nat × Nat) :=
  let subs := fun (l : List Nat) (subs : List Nat) => l.flatMap (fun i => subs.map (fun k => (i, k)))
  subs [0x1100, 0x1101] [1, 2, 3, 5, 6, 7, 10] ++ [(0x1110, 2), (0x1110, 3), (0x2000, 3), (0x2400, 1), (0x2400, 2)]
    ++ subs ((List.range 16).map (· + 0x2410)) [5] ++ subs ((List.range 256).map (· + 0x4000)) [2, 3, 4]
    ++ subs ((List.range 64).map (· + 0x4100)) [2, 3, 4, 5, 6]

/-- The bytes of a stored entry's present value. -/
def rwsValue (s : State) (x : Nat × Nat) : List Nat :=
  match dictEntry x.1 x.2 with
  | some ⟨.num n, _, _, _, _, _⟩ => leBytes n (dictNumber s x.1 x.2)
  | _ => [dictNumber s x.1 x.2 % 2]

/-- A store of every RWS value is queued (R396). -/
def storeAll (s : State) : WrRes :=
  match queueStore s ⟨.values, .values (rwsEntries.map (fun x => (x, rwsValue s x)))⟩ with
  | some t => wrOk t
  | none => (s, some .busy)

/-- A store of an empty record is queued: defaults at the next reset (R396). -/
def storeDefaults (s : State) : WrRes :=
  match queueStore s ⟨.values, .values []⟩ with
  | some t => wrOk t
  | none => (s, some .busy)

/-- The staged set is discarded (R397). -/
def discardStaged (s : State) : State := { s with host := { s.host with staged := [] } }

/-- A write of an entry that maps onto no register and is a plain setting; a port that is disabled drops its link. -/
def dictSet (s : State) (i sub v : Nat) : State :=
  let s := setDict s i sub v
  if (i = 0x1100 ∨ i = 0x1101) ∧ sub = 1 ∧ v = 0 then ethLink s (i - 0x1100) false else s

/-- A signed object in a BLOB entry (R406 to R413, R433). -/
def dictSigned (s : State) (i sub : Nat) (val : List Nat) : WrRes :=
  if i = 0x1200 then rootProvision s val
  else if i = 0x1201 ∧ sub = 1 then (match Config.readCert val with
    | some (o, id, priv) => keyInstall s o id priv
    | none => verifyFails s)
  else if i = 0x1201 then (if val.length = 16 then keyRemove s (leNat val) else (s, some .type))
  else if i = 0x1210 then quoteForm s val
  else if i = 0x1220 then (match Config.readObj val with
    | some o => imageWrite s o
    | none => verifyFails s)
  else if sub = 1 then (match Config.readObj val with
    | some o => factorySet s (i - 0x2410) o ((Config.readPoints val).map (·.1))
    | none => verifyFails s)
  else fieldSet s (i - 0x2410) (Config.readPoints val)

/-- The paths from the output of one combinational logic cell through a channel to an input of another (R297). -/
def postEdges (s : State) : List (Nat × Nat) :=
  let comb := fun l => !flagF s (F.POST_CELL_FF l)
  (List.range 128).flatMap (fun k =>
    let n := getF s (F.POST_CSEL_SRC (416 + k))
    if flagF s (F.POST_CSEL_EN (416 + k)) && decide (n < 256) && comb (k / 4) then
      ((List.range 32).filter (fun l => comb l && carries s n (556 + l))).map (fun l => (l, k / 4))
    else [])

/-- The cells that paths lead to from some cells, in so many steps at most. -/
def postReach (edges : List (Nat × Nat)) : Nat → List Nat → List Nat
  | 0, l => l
  | n + 1, l => postReach edges n (l ++ ((edges.filter (fun e => l.contains e.1 && !l.contains e.2)).map (·.2)).eraseDups)

/-- A change of Post's configuration closes a cycle in which no cell has FF = 1: one of its new paths leads back to where it starts (R297). -/
def closesCycle (s t : State) : Bool :=
  let old := postEdges s
  let new := postEdges t
  new.any (fun e => !old.contains e && (postReach new 32 [e.2]).contains e.1)

/-- A Post register is written through the dictionary: checked before it is applied (R297). -/
def postDictWrite (s : State) (r : Reg) (v : Nat) : WrRes :=
  let x := coreWrite s (regAddr r) 32 v
  if x.2.isNone && closesCycle s x.1 then (s, some .config) else x

/-- A complete value acts on its entry (R393, R396, R400). -/
def dictApply (s : State) (i sub : Nat) (val : List Nat) : WrRes :=
  let v := leNat val
  match dictReg i sub with
  | some (r, f) => coreWrite s (regAddr r) 32 (wordWith s r f v)
  | none =>
    if i = 0x10F0 then
      (if sub = 1 then (if v = 0x53544F52 then storeAll s else wrRefused s) else if v = 0x44464C54 then storeDefaults s else wrRefused s)
    else if i = 0x2110 then wrOk (if v = 1 then discardStaged s else s)
    else if i = 0x1220 ∧ sub = 2 then (if v = 0x434F4E46 then wrOk (imageConfirm s) else wrRefused s)
    else if i = 0x1200 ∨ i = 0x1201 ∨ i = 0x1210 ∨ i = 0x1220 ∨ (0x2410 ≤ i ∧ i < 0x2420) then dictSigned s i sub val
    else if 0x4000 ≤ i ∧ i < 0x4100 then coreWrite s (regAddr (toneFtwReg i)) 64 v
    else if 0x2200 ≤ i ∧ i < 0x2300 then (match postReg i sub with
      | some r => postDictWrite s r v
      | none => (s, some .noObject))
    else if 0x5000 ≤ i then (match queueStore s ⟨.user i, .bytes val⟩ with
      | some t => wrOk t
      | none => (s, some .busy))
    else wrOk (dictSet s i sub v)

/-- A write joins the staged set (R397). -/
def stageWrite (s : State) (session change i sub : Nat) (val : List Nat) : WrRes :=
  if s.chain.prepared.isSome then (s, some .busy)
  else
    let s := if s.host.changeId = change then s else discardStaged s
    let s := { s with host := { s.host with changeId := change } }
    if 4096 ≤ s.host.staged.length ∨ 262144 < (s.host.staged.map (·.value.length)).sum + val.length then (s, some .stageFull)
    else wrOk { s with host := { s.host with staged := s.host.staged ++ [⟨session, i, sub, val⟩] } }

/-- A complete value: staged, or acting at once (R397). -/
def writeValue (s : State) (session : Nat) (e : DEntry) (stage : Bool) (change i sub : Nat) (val : List Nat) : WrRes :=
  match valueErr e val with
  | some c => (s, some c)
  | none =>
    if stage then (if e.stage then stageWrite s session change i sub val else wrRefused s)
    else dictApply s i sub val

/-- The bytes of a segmented value received so far, from a session, for an entry. -/
def setPartial (s : State) (session i sub : Nat) (l : List Nat) : State :=
  { s with host := { s.host with partials := tset s.host.partials (session, i, sub) l } }

/-- A segment of a STRING or BLOB (R389). -/
def writeSegment (s : State) (session : Nat) (e : DEntry) (stage last : Bool) (change i sub offset : Nat) (val : List Nat) : WrRes :=
  let got := tget s.host.partials [] (session, i, sub)
  if offset ≠ got.length then (setPartial s session i sub [], some .type)
  else if last then writeValue (setPartial s session i sub []) session e stage change i sub (got ++ val)
  else wrOk (setPartial s session i sub (got ++ val))

/-- A WRITE of a session with a privilege (R18, R389, R393). -/
def dictWrite (s : State) (session priv : Nat) (stage last : Bool) (change i sub offset : Nat) (val : List Nat) : WrRes :=
  match dictEntry i sub with
  | none => (s, some .noObject)
  | some e =>
    if e.acc = .ro then (s, some .readOnly)
    else if priv < e.wp then (s, some .accessDenied)
    else
      match e.ty with
      | .str | .blob => writeSegment s session e stage last change i sub offset val
      | _ => if offset ≠ 0 then (s, some .type) else writeValue s session e stage change i sub val

end Sys2Proof.Machine
end

