-- ==== Sys2Proof/Machine/Felt.lean ====
section
/-! DEFINITION. Felt (R384 to R391): sessions, requests and their responses, notifications; and the security entries as requests. -/

namespace Sys2Proof.Machine

/-! ### Who is served (R387, R391, R409, R412) -/

/-- A message not served: no response, counted (R386, R387, 0x1110:04). -/
def feltDiscard (s : State) : State := { s with host := { s.host with discarded := s.host.discarded + 1 } }

/-- The management firmware runs and its complex is powered. -/
def feltUp (s : State) : Bool := s.sec.running && domainOn s 128

/-- The boot ROM holds for a recovery image: no candidate qualified (R409, R412). -/
def recovering (s : State) : Bool := !s.sec.running && getF s F.SEC_STAT_BOOT_SRC == 3 && !s.power.booting

/-- A message of this route can have arrived: the port receives; or a mailbox request is in progress and not yet answered. -/
def routeOpen (s : State) : Via → Bool
  | .eth e => portUp s e
  | .mailbox => flagF s F.MBX_STAT_BUSY && s.host.mbx.isNone

/-- The response of a request leaves (R384), or waits to be written to the mailbox (R391). -/
def answer (s : State) (via : Via) (session seq : Nat) (r : FeltRsp) : State :=
  match via with
  | .eth _ => emit s (.felt session seq r)
  | .mailbox => { s with host := { s.host with mbx := some (session, seq, r) } }

/-- What a message does on its route: the ROM without an image answers NO_OBJECT on the mailbox (R412). -/
def routed (s : State) (via : Via) (session seq type : Nat) (act : State → State) : State :=
  if !routeOpen s via then s
  else if feltUp s then act s
  else if recovering s && via == .mailbox then answer s via session seq ⟨type + 128, Err.noObject.code, []⟩
  else s

/-! ### Sessions (R385, R388) -/

/-- A session as the device holds it. -/
def sessionOf (s : State) (p : Session → Bool) : Option Session := s.host.sessions.find? p

/-- A change of the session of an identifier. -/
def updSession (s : State) (id : Nat) (f : Session → Session) : State :=
  { s with host := { s.host with sessions := s.host.sessions.map (fun x => if x.id = id then f x else x) } }

/-- A session or an attempt not older than 10 s holds its slot (R385, R388). -/
def holdsSlot (s : State) (x : Session) : Bool := x.isOpen || decide (s.now ≤ x.asked + 5000000000)

/-- Every slot of a route is in use (R388): eight on Ethernet, one on the mailbox. -/
def slotsFull (s : State) (via : Via) : Bool :=
  let used := s.host.sessions.filter (holdsSlot s)
  match via with
  | .eth _ => decide (8 ≤ (used.filter (fun x => x.via != .mailbox)).length)
  | .mailbox => used.any (fun x => x.via == .mailbox)

/-- Why a HELLO is refused, if it is (R385, R388, R414, R417). -/
def helloErr (s : State) (via : Via) (priv key : Nat) : Option Err :=
  match s.sec.keys.find? (fun k => k.id == key) with
  | none => some .auth
  | some k =>
    if keysClosed s || s.sec.zeroized || decide (k.priv < priv) || s.host.sessions.any (fun x => x.isOpen && x.priv == 3) then some .auth
    else if priv = 0 then some .refused
    else if slotsFull s via then some .busy
    else none

/-- HELLO (R385): a session identifier is assigned and a CHALLENGE answered with a nonce and the UID. -/
def hello (s : State) (via : Via) (seq priv key : Nat) : State :=
  match helloErr s via priv key with
  | some e => answer s via 0 seq ⟨0x81, e.code, []⟩
  | none =>
    let id := s.host.nextId
    let keep := s.host.sessions.filter (holdsSlot s)
    let body := freeBytes s 32 ++ leBytes 4 id ++ leBytes 8 (ownUid s)
    let s := { takeFrees s 32 with host := { s.host with
      sessions := keep ++ [⟨id, via, key, priv, false, s.now, none, s.now, 0, []⟩], nextId := id + 1 } }
    answer s via id seq ⟨0x81, 0, body⟩

/-- HELLO (R385). -/
def execFeltHello (via : Via) (seq : Nat) (priv : Fin 4) (key : Nat) (s : State) : Host.Outcome State Fault Refusal :=
  .next (routed s via 0 seq 1 (fun s => hello s via seq priv key))

/-- The attempt of a session is answered in time with a valid signature of a key the store still holds (R385). -/
def openOk (s : State) (x : Session) (sigOk : Bool) : Bool :=
  sigOk && decide (s.now ≤ x.asked + 5000000000) && s.sec.keys.any (fun k => k.id == x.key) && !keysClosed s

/-- OPEN (R385, R387): ACCEPT with the privilege and the encrypted session key, or AUTH. -/
def openSession (s : State) (via : Via) (session seq : Nat) (sigOk : Bool) : State :=
  match sessionOf s (fun x => x.id == session && x.via == via) with
  | none => answer s via session seq ⟨0x82, Err.auth.code, []⟩
  | some x =>
    if x.isOpen then
      (match x.last with
       | some (n, some r) => if n = seq then answer s via session seq r else feltDiscard s
       | _ => feltDiscard s)
    else if openOk s x sigOk then
      let r : FeltRsp := ⟨0x82, 0, x.priv :: freeBytes s 512⟩
      answer (updSession (takeFrees s 512) session (fun x => { x with isOpen := true, heard := s.now, last := some (seq, some r) }))
        via session seq r
    else answer (closeSessions s (fun y => y.id == session)) via session seq ⟨0x82, Err.auth.code, []⟩

/-- OPEN (R385). -/
def execFeltOpen (via : Via) (session seq : Nat) (sigOk : Bool) (s : State) : Host.Outcome State Fault Refusal :=
  .next (routed s via session seq 2 (fun s => openSession s via session seq sigOk))

/-! ### Requests (R386, R387, R389, R391) -/

/-- What the device knows of who asks: session (0: none) and privilege. -/
structure Asker where
  session : Nat
  priv : Nat
deriving DecidableEq, Repr

/-- A request's effect and response; a request with no response answers none. -/
abbrev ReqRes := State × Option FeltRsp

/-- A sessionless mailbox request is served at Operator privilege (R391): with 0x1110:03 set, or where the rule serves it always. -/
def operatorServed (s : State) (always : Bool) : Bool := dictNat s 0x1110 3 0 == 1 || always

/-- A request without a session (R391, R407): served on the mailbox only, and only without a tag. -/
def sessionless (s : State) (h : FeltHead) (always : Bool) (act : State → Asker → ReqRes) : State :=
  if h.via == .mailbox && h.auth && operatorServed s always then
    (match act s ⟨0, 1⟩ with
     | (t, some r) => answer t h.via 0 h.seq r
     | (t, none) => t)
  else feltDiscard s

/-- A request of an open session acts, and its response is kept (R387). -/
def sessionAct (s : State) (h : FeltHead) (x : Session) (act : State → Asker → ReqRes) : State :=
  let r := act s ⟨x.id, x.priv⟩
  let t := updSession r.1 x.id (fun y => { y with heard := s.now, last := some (h.seq, r.2) })
  match r.2 with
  | some m => answer t h.via x.id h.seq m
  | none => t

/-- A request with the SEQ accepted last: its stored response again (R387). -/
def sessionAgain (s : State) (h : FeltHead) (x : Session) : State :=
  let s := updSession s x.id (fun y => { y with heard := s.now })
  match x.last with
  | some (_, some r) => answer s h.via x.id h.seq r
  | _ => s

/-- A request (R386, R387). -/
def feltServe (s : State) (h : FeltHead) (always : Bool) (act : State → Asker → ReqRes) : State :=
  if h.session = 0 then sessionless s h always act
  else
    match sessionOf s (fun x => x.isOpen && x.id == h.session && x.via == h.via) with
    | none => feltDiscard s
    | some x =>
      if !h.auth then feltDiscard s
      else
        match x.last with
        | some (n, _) => if h.seq < n then feltDiscard s else if h.seq = n then sessionAgain s h x else sessionAct s h x act
        | none => sessionAct s h x act

/-- A request of a type arrives. -/
def feltRequest (s : State) (h : FeltHead) (type : Nat) (always : Bool) (act : State → Asker → ReqRes) : State :=
  routed s h.via h.session h.seq type (fun s => feltServe s h always act)

/-- The response of a type to an access. -/
def rspOf (type : Nat) (r : WrRes) : ReqRes :=
  (r.1, some ⟨type, match r.2 with
    | some e => e.code
    | none => 0, []⟩)

/-! ### READ and WRITE (R389) -/

/-- The response to a READ of a value from an offset: its whole length, then at most so many bytes. -/
def readBody (l : List Nat) (offset maxlen : Nat) : List Nat := leBytes 4 l.length ++ (l.drop offset).take (min maxlen 1396)

/-- A READ (R389, R393). -/
def readAct (i sub offset maxlen : Nat) (s : State) (a : Asker) : ReqRes :=
  let err := fun (e : Err) => (s, some (⟨0x90, e.code, []⟩ : FeltRsp))
  match dictEntry i sub with
  | none => err .noObject
  | some e =>
    if a.priv < e.rp then err .accessDenied
    else if offset ≠ 0 ∧ e.ty ≠ .str ∧ e.ty ≠ .blob then err .type
    else
      match dictRead s i sub e with
      | .error c => err c
      | .ok l => (s, some ⟨0x90, 0, readBody l offset maxlen⟩)

/-- READ (R389). -/
def execFeltRead (h : FeltHead) (index sub offset maxlen : Nat) (s : State) : Host.Outcome State Fault Refusal :=
  .next (feltRequest s h 0x10 false (readAct index sub offset maxlen))

/-- The one write served to any mailbox request (R391, R407): 0x1200:02 while the customer root slot is empty. -/
def rootWrite (s : State) (index sub : Nat) : Bool := index == 0x1200 && sub == 2 && rootEmpty s

/-- A WRITE (R389). -/
def writeAct (stage last : Bool) (i sub offset change : Nat) (val : List Nat) (s : State) (a : Asker) : ReqRes :=
  rspOf 0x91 (dictWrite s a.session a.priv stage last change i sub offset val)

/-- WRITE (R389). -/
def execFeltWrite (h : FeltHead) (stage last : Bool) (index sub offset change : Nat) (val : List Nat) (s : State) :
    Host.Outcome State Fault Refusal :=
  .next (feltRequest s h 0x11 (rootWrite s index sub) (writeAct stage last index sub offset change (val.map (· % 256))))

/-- A WRITE of a whole number to an entry. -/
def writeNum (s : State) (h : FeltHead) (i sub bytes v : Nat) : State :=
  feltRequest s h 0x11 false (writeAct false true i sub 0 0 (leBytes bytes v))

/-- STORE_ALL (R396). -/
def execStoreAll (h : FeltHead) (s : State) : Host.Outcome State Fault Refusal := .next (writeNum s h 0x10F0 1 4 0x53544F52)

/-- RESTORE_DEFAULTS (R396). -/
def execRestoreDefaults (h : FeltHead) (s : State) : Host.Outcome State Fault Refusal := .next (writeNum s h 0x10F0 2 4 0x44464C54)

/-- DISCARD_STAGED (R397). -/
def execDiscardStaged (h : FeltHead) (s : State) : Host.Outcome State Fault Refusal := .next (writeNum s h 0x2110 3 1 1)

/-! ### The session's own requests (R388, R389) -/

/-- SUBSCRIBE (R389, R391): the mask of notifications; refused on the mailbox. -/
def subscribeAct (via : Via) (mask : Nat) (s : State) (a : Asker) : ReqRes :=
  if via == .mailbox then (s, some ⟨0x92, Err.refused.code, []⟩)
  else (updSession s a.session (fun x => { x with subs := mask % 2 ^ 32 }), some ⟨0x92, 0, []⟩)

/-- SUBSCRIBE (R389). -/
def execFeltSubscribe (h : FeltHead) (mask : Nat) (s : State) : Host.Outcome State Fault Refusal :=
  .next (feltRequest s h 0x12 false (subscribeAct h.via mask))

/-- KEEPALIVE (R389). -/
def execFeltKeepalive (h : FeltHead) (s : State) : Host.Outcome State Fault Refusal :=
  .next (feltRequest s h 0x16 false (fun s _ => (s, some ⟨0x96, 0, []⟩)))

/-- CLOSE (R388): the session closes, and its staged writes are discarded. -/
def closeAct (s : State) (a : Asker) : ReqRes := (closeSessions s (fun x => x.id == a.session), some ⟨0x97, 0, []⟩)

/-- CLOSE (R388). -/
def execFeltClose (h : FeltHead) (s : State) : Host.Outcome State Fault Refusal := .next (feltRequest s h 0x17 false closeAct)

/-- The idle time in ticks (0x1110:02). -/
def idleTicks (s : State) : Nat := dictNat s 0x1110 2 30 * 500000000

/-- SESSION_IDLE_TIMEOUT (R388): a session without a valid request for the idle time closes. -/
def execSessionIdleTimeout (session : Nat) (s : State) : Host.Outcome State Fault Refusal :=
  .next (if feltUp s then closeSessions s (fun x => x.isOpen && x.id == session && decide (x.heard + idleTicks s ≤ s.now)) else s)

/-! ### Notifications (R390) -/

/-- A new NOTIFY of a session leaves (R390). -/
def sendNotify (s : State) (x : Session) (n count time : Nat) : State :=
  let note : Notify := ⟨n, s.host.nextSeq, count, time, s.now, 0, 0⟩
  let s := updSession s x.id (fun y => { y with notes := y.notes.filter (fun m => m.n != n) ++ [note] })
  emit { s with host := { s.host with nextSeq := s.host.nextSeq + 1 } } (.notify x.id note.seq n count time)

/-- An event of n while its NOTIFY is unacknowledged adds to the pending count, which saturates. -/
def pendNotify (s : State) (x : Session) (n : Nat) : State :=
  updSession s x.id (fun y => { y with notes := y.notes.map (fun m =>
    if m.n = n then { m with more := min 65535 (m.more + 1), moreTime := s.now } else m) })

/-- Host notification n acts (R379, R390): its MSI-X vector where enabled, and a NOTIFY to every session subscribed to it. -/
def hostNotify (s : State) (n : Nat) : State :=
  let s := if bitF s F.PCI_NOTIFY_EN_EN n then msix s n else s
  if feltUp s then
    (s.host.sessions.filter (fun x => x.isOpen && x.subs.testBit n)).foldl
      (fun s x => if x.notes.any (fun m => m.n == n) then pendNotify s x n else sendNotify s x n 1 s.now) s
  else s

/-- The unacknowledged NOTIFY of a device SEQ is acknowledged; a pending count follows at once as a new NOTIFY (R390). -/
def ackNotify (s : State) (session devseq : Nat) : State :=
  match sessionOf s (fun x => x.isOpen && x.id == session) with
  | none => s
  | some x =>
    match x.notes.find? (fun m => m.seq == devseq) with
    | none => s
    | some m =>
      let s := updSession s session (fun y => { y with notes := y.notes.filter (fun k => k.seq != devseq) })
      if m.more = 0 then s else sendNotify s x m.n m.more m.moreTime

/-- NOTIFY_ACK (R390): it has no response. -/
def execFeltNotifyAck (h : FeltHead) (devseq : Nat) (s : State) : Host.Outcome State Fault Refusal :=
  .next (feltRequest s h 0x13 false (fun s a => (ackNotify s a.session devseq, none)))

/-- The same NOTIFY is sent again 100 ms after it was sent last (R390). -/
def resendNotify (s : State) (session n : Nat) : State :=
  match sessionOf s (fun x => x.isOpen && x.id == session) with
  | none => s
  | some x =>
    match x.notes.find? (fun m => m.n == n && decide (m.sent + 50000000 ≤ s.now)) with
    | none => s
    | some m =>
      emit (updSession s session (fun y => { y with notes := y.notes.map (fun k => if k.n = n then { k with sent := s.now } else k) }))
        (.notify session m.seq n m.count m.time)

/-- NOTIFY_RESEND (R390). -/
def execFeltNotifyResend (session : Nat) (n : Fin 32) (s : State) : Host.Outcome State Fault Refusal :=
  .next (if feltUp s then resendNotify s session n else s)

/-! ### Security entries (R407 to R413, R433) -/

/-- A complete value written to an entry of the security or calibration chapters: the entry's privilege, then its effect. -/
def secAct (i sub : Nat) (act : State → WrRes) (s : State) (a : Asker) : ReqRes :=
  match dictEntry i sub with
  | none => rspOf 0x91 (s, some .noObject)
  | some e => rspOf 0x91 (if a.priv < e.wp then (s, some .accessDenied) else act s)

/-- ROOT_PROVISION (R407). -/
def execRootProvision (h : FeltHead) (modulus : List Nat) (s : State) : Host.Outcome State Fault Refusal :=
  .next (feltRequest s h 0x11 (rootEmpty s) (secAct 0x1200 2 (fun s => rootProvision s modulus)))

/-- KEY_INSTALL (R408). -/
def execKeyInstall (h : FeltHead) (obj : SignedObj) (id priv : Nat) (s : State) : Host.Outcome State Fault Refusal :=
  .next (feltRequest s h 0x11 false (secAct 0x1201 1 (fun s => keyInstall s obj id priv)))

/-- KEY_REMOVE (R408). -/
def execKeyRemove (h : FeltHead) (id : Nat) (s : State) : Host.Outcome State Fault Refusal :=
  .next (feltRequest s h 0x11 false (secAct 0x1201 2 (fun s => keyRemove s id)))

/-- IMAGE_WRITE (R410). -/
def execImageWrite (h : FeltHead) (obj : SignedObj) (s : State) : Host.Outcome State Fault Refusal :=
  .next (feltRequest s h 0x11 false (secAct 0x1220 1 (fun s => imageWrite s obj)))

/-- IMAGE_CONFIRM (R410). -/
def execImageConfirm (h : FeltHead) (s : State) : Host.Outcome State Fault Refusal :=
  .next (feltRequest s h 0x11 false (secAct 0x1220 2 (fun s => wrOk (imageConfirm s))))

/-- QUOTE_REQUEST (R413). -/
def execQuoteRequest (h : FeltHead) (nonce : List Nat) (s : State) : Host.Outcome State Fault Refusal :=
  .next (feltRequest s h 0x11 false (secAct 0x1210 1 (fun s => quoteForm s (nonce.map (· % 256)))))

/-- QUOTE_READ (R413). -/
def execQuoteRead (h : FeltHead) (offset maxlen : Nat) (s : State) : Host.Outcome State Fault Refusal :=
  .next (feltRequest s h 0x10 false (readAct 0x1210 2 offset maxlen))

/-- FACTORY_SET_WRITE (R433). -/
def execFactorySetWrite (h : FeltHead) (q : Fin 16) (obj : SignedObj) (ps : List SzPoint) (s : State) : Host.Outcome State Fault Refusal :=
  .next (feltRequest s h 0x11 false (secAct (0x2410 + q) 1 (fun s => factorySet s q obj ps)))

/-- FIELD_SET_WRITE (R433). -/
def execFieldSetWrite (h : FeltHead) (q : Fin 16) (ps : List (SzPoint × List Nat)) (s : State) : Host.Outcome State Fault Refusal :=
  .next (feltRequest s h 0x11 false (secAct (0x2410 + q) 2 (fun s => fieldSet s q ps)))

end Sys2Proof.Machine
end

