-- ==== Sys2Proof/Machine/Reset.lean ====
section
/-! DEFINITION. Reset and boot (R2, R3, R395, R409, R410, R416, R441 to R445, R474, R476), recovery (R412), the debug port (R414). -/

namespace Sys2Proof.Machine

/-! ### What a reset leaves -/

/-- Register fields that a reset does not change: fuse and strap values, and the outputs of detectors that run on. -/
def keptByReset (k : FKey) : Bool :=
  match k.reg.name with
  | .CHIP_IDENT | .CHIP_PERS => true
  | .PWR_STAT => k.lsb == 8 || k.lsb == 12
  | _ => false

/-- Zeroization completed (R416): the wrap secret all ones, the key store zero, the customer root revoked. -/
def zeroFinish (x : SecState) : SecState := if x.zeroized then { x with erased := true, keys := [], rootRevoked := true } else x

/-- The registers of the security block that show fuses. -/
def fusesShow (s : State) : State :=
  let s := setB (setB s F.SEC_STAT_ZEROIZED s.sec.zeroized) F.SEC_STAT_ROOT_REVOKED s.sec.rootRevoked
  setF (setB s F.SEC_STAT_ROOT_PROV s.sec.rootProv) F.SEC_SVN_FUSE s.sec.fuse

/-- The switched domains after a reset: all off while it lasts; then on, but for converter dies that may not run (R442, R460). -/
def resetDomains (s : State) : State :=
  if s.power.inReset then setDomains s 0 144 false
  else
    (List.range 4).foldl (fun s g => if dieMayRun s g then setDomains s (80 + 8 * g) 8 true else setDomains s (80 + 8 * g) 8 false)
      (setDomains (setDomains s 0 80 true) 112 32 true)

/-- The device resets (R476): a store under way is aborted (R369); what stays is in fuses, MRAM, the Loft's ring and the boot flash.
`held`: reset lasts until RESET_N rises. -/
def chipReset (s : State) (held hot : Bool) : State :=
  let records := (storeAbort s).store.records
  let t := { State.reset with
    regs := s.regs.filter (fun x => keptByReset x.1)
    free := s.free
    post := { State.reset.post with ps := s.post.ps, base := s.post.ps }
    store := { State.reset.store with records := records }
    sec := zeroFinish { s.sec with quote := none, nonce := none, lockUntil := 0, running := false, scan := none }
    power := { State.reset.power with
      inReset := held, loftOn := s.power.loftOn, hot := hot, log := s.power.log, ring := s.power.ring, lost := s.power.lost }
    emitted := s.emitted
    pending := s.pending }
  resetDomains (fusesShow t)

/-- A reset with its cause (PWR_RST_CAUSE). -/
def resetFor (s : State) (bit : Nat) (held : Bool) : State :=
  setF (chipReset s held (decide (bit = 3))) F.PWR_RST_CAUSE_CAUSE (2 ^ bit)

/-- RESET_N falls (R476): after a trip the cause is the trip (R460). -/
def resetFall (s : State) : State := if s.power.inReset then s else resetFor s (if s.power.tripped then 3 else 1) true

/-- RESET_N_FALL (R476). -/
def execResetNFall (s : State) : Host.Outcome State Fault Refusal := .next (resetFall s)

/-- The majority of three samples (R474). -/
def majority (a b c : Bool) : Bool := (a && b) || (a && c) || (b && c)

/-- RESET_N rises (R2, R3, R474): the straps are sampled, the fuse governing the personality, and boot begins. -/
def resetRise (s : State) (pers master : Bool) : State :=
  if s.power.inReset && s.power.loftOn then
    let s := setB (setB s F.CHIP_PERS_STRAP pers) F.CHIP_PERS_MASTER master
    let s := if flagF s F.CHIP_PERS_FUSED then s else setB s F.CHIP_PERS_ACTIVE pers
    resetDomains { s with power := { s.power with inReset := false, booting := true }, sec := { s.sec with scan := none } }
  else s

/-- RESET_N_RISE (R474): with the three samples of PERS and of MASTER. -/
def execResetNRise (pers master : Bool × Bool × Bool) (s : State) : Host.Outcome State Fault Refusal :=
  .next (resetRise s (majority pers.1 pers.2.1 pers.2.2) (majority master.1 master.2.1 master.2.2))

/-- VDD_IO falls below its range while RESET_N is high (R476). -/
def execVddIoFall (s : State) : Host.Outcome State Fault Refusal := .next (if s.power.inReset then s else resetFor s 0 true)

/-- VDD_LOFT crosses its power-on reset threshold (R442): the always-on domain starts, in reset, or stops; the Loft's ring is lost. -/
def loftPower (s : State) (on : Bool) : State :=
  if on = s.power.loftOn then s
  else
    let t := resetFor s 0 true
    { t with power := { t.power with loftOn := on, ring := [] } }

/-- LOFT_POWER_ON (R442). -/
def execLoftPowerOn (on : Bool) (s : State) : Host.Outcome State Fault Refusal := .next (loftPower s on)

/-- The VDD_CORE reset detector asserts (R445): logged (R465), and the device resets. In Dormant the rail may be removed (R441). -/
def brownOut (s : State) : State :=
  if s.power.inReset ∨ s.power.tripped = true ∨ powerState s = 3 then s else resetFor (logEvent s .brownOut 20) 2 false

/-- BROWN_OUT (R445). -/
def execBrownOut (s : State) : Host.Outcome State Fault Refusal := .next (brownOut s)

/-- ZEROIZE (R416): the ZEROIZED fuse is blown, the device resets, and the secrets are destroyed. -/
def zeroize (s : State) : State :=
  if s.power.loftOn then resetFor { s with sec := { s.sec with zeroized := true } } 4 s.power.inReset else s

/-- ZEROIZE (R416). -/
def execZeroize (s : State) : Host.Outcome State Fault Refusal := .next (zeroize s)

/-! ### Boot (R395, R409, R410) -/

/-- The boot record as a boot finds it (R410): in trial the count decreases, and at zero the record reverts to the other image. -/
def trialBoot (x : SecState) : SecState :=
  if x.trial then
    (if x.count = 0 then { x with preferred := otherSlot x.preferred, trial := false } else { x with count := x.count - 1 })
  else x

/-- An image qualifies: it verifies, and its SVN is at least the fuse counter (R409). -/
def qualifies (s : State) (k : Slot) : Option (Slot × Nat) :=
  match imageAt s k with
  | some (svn, ok) => if ok && decide (s.sec.fuse ≤ svn) then some (k, svn) else none
  | none => none

/-- The first candidate that qualifies (R409). -/
def bootImage (s : State) : Option (Slot × Nat) :=
  [s.sec.preferred, otherSlot s.sec.preferred, .flash].findSome? (qualifies s)

/-- One stored value is applied, or its refusal counted (R395). -/
def loadValue (s : State) (x : (Nat × Nat) × List Nat) : State :=
  let r : WrRes := match dictEntry x.1.1 x.1.2 with
    | none => (s, some .noObject)
    | some e => (match valueErr e x.2 with
      | some c => (s, some c)
      | none => dictApply s x.1.1 x.1.2 x.2)
  if r.2.isSome then { r.1 with host := { r.1.host with refused := r.1.host.refused + 1 } } else r.1

/-- The stored values are loaded (R395): none from an invalid record. -/
def loadStored (s : State) : State :=
  match recordData s .values with
  | some (.values l) => l.foldl loadValue s
  | _ => s

/-- The calibration sets of a quire are loaded (R366, R429). -/
def loadSets (s : State) (q : Nat) : State :=
  let s := match recordData s (.factorySet q) with
    | some (.points l) => factoryWrite s q l
    | _ => s
  match recordData s (.fieldSet q) with
  | some (.points l) => fieldWrite s q l
  | _ => s

/-- Records found invalid at this boot are counted, saturating (R367). -/
def countInvalid (s : State) : State :=
  setF s F.REAM_STAT_INVALID (min 255 ((s.store.records.filter (fun x => match x.2 with
    | some r => !r.valid
    | none => false)).length))

/-- Log entries held in the Loft's ring are stored, unless a supply warning keeps stores from running (R465). -/
def ringStored (s : State) : State :=
  if flagF s F.PWR_STAT_CORE_WARN then s else { s with power := { s.power with log := s.power.log ++ s.power.ring, ring := [] } }

/-- The boot ROM runs (R409): the first qualifying image takes over and loads what is stored, or the ROM holds for recovery. -/
def boot (s : State) : State :=
  if s.power.booting && !s.power.inReset && s.power.loftOn && !s.power.tripped then
    let s := { s with sec := trialBoot (zeroFinish s.sec), power := { s.power with booting := false } }
    match bootImage s with
    | some (k, svn) =>
      let s := setB (setF s F.SEC_STAT_BOOT_SRC (slotCode k)) F.SEC_STAT_TRIAL (s.sec.trial && k == s.sec.preferred)
      let s := setF { s with sec := { s.sec with running := true } } F.SEC_SVN_IMAGE svn
      (List.range 16).foldl loadSets (loadStored (ringStored (countInvalid s)))
    | none => setF s F.SEC_STAT_BOOT_SRC 3
  else s

/-- BOOT (R409). -/
def execBoot (s : State) : Host.Outcome State Fault Refusal := .next (boot s)

/-! ### Recovery (R412) -/

/-- The recovery message (R412): a vendor-signed image that satisfies the fuse counter goes to slot A, preferred and not in trial, and the
device resets, with a cause the spec does not give; another is discarded with AUTH (R406). -/
def recoveryImage (s : State) (seq : Nat) (o : SignedObj) : State :=
  if !routeOpen s .mailbox || !recovering s || !domainOn s 128 then s
  else if objVerifies .vendor o && decide (s.sec.fuse ≤ o.svn) then
    let s := setRecord s (.image .a) ⟨true, ((recordOf s (.image .a)).map (·.seq)).getD 0 + 1, .image o.svn true⟩
    let s := takeFree { s with sec := { s.sec with preferred := .a, trial := false, count := 0 } }
    setF (chipReset s false false) F.PWR_RST_CAUSE_CAUSE (Config.freeNat s.free)
  else answer (incF s F.SEC_CNT_VERIFY_FAIL) .mailbox 0 seq ⟨0xB0, Err.auth.code, []⟩

/-- RECOVERY_IMAGE (R412). -/
def execRecoveryImage (seq : Nat) (obj : SignedObj) (s : State) : Host.Outcome State Fault Refusal := .next (recoveryImage s seq obj)

/-! ### The debug port (R414) -/

/-- The port answers: its ball domain is powered and the device out of reset and Dormant. -/
def debugUp (s : State) : Bool := !s.power.inReset && domainOn s 128

/-- The port returns a fresh nonce, unless the second after a failed token runs (R414). -/
def debugNonce (s : State) : State :=
  if !debugUp s || decide (s.now < s.sec.lockUntil) then s
  else
    let v := Config.freeNat s.free
    let s := takeFree s
    emit { s with sec := { s.sec with nonce := some v } } (.debugNonce v)

/-- Boundary-scan cells cover the digital I/O balls, and no other signal ball (R415). -/
def scanCovers : Sys2Proof.BallKind → Bool
  | .digital => true
  | .drive | .probe | .readout | .flux | .bias | .chain => false

/-- EXTEST or INTEST is accepted only while RESET_N is low, and drives the balls it covers (R415). -/
def scanOp (s : State) (op : Sys2Proof.ScanOp) (cells : List Sys2Proof.ScanCell) : State :=
  if s.power.inReset then
    { s with sec := { s.sec with scan := some (op, (cells.filter (fun c => scanCovers c.kind)).map (fun c => (c.ball, c.level))) } }
  else s

/-- DEBUG_NONCE_REQUEST (R414). -/
def execDebugNonceRequest (s : State) : Host.Outcome State Fault Refusal := .next (debugNonce s)

/-- The root a debug level's token needs (R414). -/
def debugRoot (level : Nat) : Root := if level = 1 then .customer else .vendor

/-- A token's object verifies (R406, R417): level 1 under a customer root in force, level 2 under the vendor root. -/
def tokenVerifies (s : State) (o : SignedObj) (level : Nat) : Bool :=
  objVerifies (debugRoot level) o && (level == 2 || (level == 1 && customerRoot s && !s.sec.zeroized))

/-- A token arrives (R414): the port opens at its level, or the failure is counted and the next nonce held back for 1 s. -/
def debugToken (s : State) (o : SignedObj) (nonce level : Nat) (uidOk : Bool) : State :=
  if !debugUp s then s
  else
    let used := { s with sec := { s.sec with nonce := none } }
    if tokenVerifies s o level && s.sec.nonce == some nonce && uidOk then
      let s := setF used F.SEC_STAT_DBG_LEVEL (max level (getF s F.SEC_STAT_DBG_LEVEL))
      if level = 2 then setB s F.SEC_STAT_KS_CLOSED true else s
    else
      let s := incF { used with sec := { used.sec with lockUntil := s.now + 500000000 } } F.SEC_CNT_DBG_FAIL
      if tokenVerifies s o level then s else incF s F.SEC_CNT_VERIFY_FAIL

/-- What is shifted in over the JTAG balls comes to (R414, R415); a boundary-scan instruction has no nonce, level or UID. -/
def debugWord (s : State) (nonce level : Nat) (uidOk : Bool) : Sys2Proof.DebugWord → State
  | .token o => debugToken s o nonce level uidOk
  | .scan op cells => scanOp s op cells

/-- DEBUG_TOKEN (R414, R415). -/
def execDebugToken (word : DebugWord) (nonce : Nat) (level : Fin 4) (uidOk : Bool) (s : State) : Host.Outcome State Fault Refusal :=
  .next (debugWord s nonce level uidOk word)

end Sys2Proof.Machine
end

