-- ==== Sys2Proof/Machine/Loft.lean ====
section
/-! DEFINITION. The Loft: wakes and the return from Dormant (R441, R450), the rails' return (R442), the housekeeping ADC (R447 to R449). -/

namespace Sys2Proof.Machine

/-! ### Wakes (R441, R450) -/

/-- Register fields that Dormant and the wake from it leave: the always-on blocks (R436), and what R441 and R453 keep. -/
def keptByWake (k : FKey) : Bool :=
  let a := regAddr k.reg
  keptByReset k || (decide (0x300000 ≤ a) && decide (a < 0x400000)) || (decide (0x420000 ≤ a) && decide (a < 0x430000))
    || (decide (0x3030000 ≤ a) && decide (a < 0x3050000)) || k.reg.name == .PWR_RST_CAUSE
    || (k.reg.name == .THM_ZONE && k.lsb == 28)

/-- The return from Dormant (R441): the full boot begins; Post, the Loft, the PMBus master and retained memories stay. -/
def dormantWake (s : State) : State :=
  let t := { State.reset with
    regs := s.regs.filter (fun x => keptByWake x.1)
    mem := s.mem
    free := s.free
    post := s.post
    store := { State.reset.store with records := (storeAbort s).store.records, bad := s.store.bad.filter (fun k => staysDormant s (k, 0)) }
    host := { State.reset.host with pmb := s.host.pmb, vcmd := s.host.vcmd }
    sec := { s.sec with running := false }
    power := { State.reset.power with
      log := s.power.log, ring := s.power.ring, lost := s.power.lost
      outside := s.power.outside, inside := s.power.inside, fresh := s.power.fresh }
    emitted := s.emitted
    pending := s.pending }
  resetDomains t

/-- The falling edge of WAKE_N is a Post producer (R286). -/
def wakeEdge (s : State) (w : WakeSource) : State :=
  match w with
  | .pin => fire s 525
  | _ => s

/-- A wake source acts (R450); from Dormant in the embedded personality the Loft issues PMB_CMD.UP (R441). -/
def wakeAct (s : State) (w : WakeSource) : State :=
  let t := wakeOp (wakeEdge s w) w
  if t.power.waking && !s.power.waking then pmbStart true t else t

/-- The waiting wake proceeds: the removed rails are back (R441). -/
def wakeGo (s : State) : State := if s.power.waking && powerState s == 3 then dormantWake s else s

/-- WAKE (R450): a source acts; `rails`: every rail the wake needs is present. -/
def execWake (w : WakeSource) (rails : Bool) (s : State) : Host.Outcome State Fault Refusal :=
  .next (if s.power.inReset ∨ s.power.tripped then s else if rails then wakeGo (wakeAct s w) else wakeAct s w)

/-- SIGNAL_DETECT (R334, R450): a port in Deep starts training, and its detector is a wake source. -/
def execSignalDetect (p : Fin 8) (s : State) : Host.Outcome State Fault Refusal :=
  .next (if s.power.inReset ∨ s.power.tripped then s else wakeAct (if domainOn s (134 + p) then signalDetect s p else s) (.chain p))

/-- SUPPLY_RAIL_RETURN (R441, R442, R446): the converter rails of a region are good, and its domains may switch on; or the rails removed in
Dormant are back. -/
def execSupplyRailReturn (g : Option (Fin 4)) (s : State) : Host.Outcome State Fault Refusal :=
  .next (match g with
    | some g =>
      let s := setBitF s F.PWR_STAT_RGOOD g true
      if s.power.inReset ∨ s.power.tripped ∨ domainOn s (80 + 8 * g) then s else dieOn s g
    | none => wakeGo s)

/-! ### The housekeeping ADC (R447 to R449) -/

/-- A filter's step (R448): y + (x − y) / 2^K. The precision of the division is not given: the result lies between y and x and within two
codes of the exact value, otherwise free. -/
def filterStep (s : State) (k : Nat) (y x : Int) : Int :=
  if k = 0 then x
  else max (min y x) (min (max y x) (y + (x - y) / 2 ^ k + (Config.freeNat s.free % 4 : Nat) - 1))

/-- A filter takes a result of its slot (R448): it restarts at the first result after a write. -/
def filterTake (s : State) (f : Nat) (x : Int) : State :=
  if tget s.power.fresh true f then
    setS { s with power := { s.power with fresh := tset s.power.fresh f false } } (F.LOFT_FOUT_Y f) x
  else takeFree (setS s (F.LOFT_FOUT_Y f) (filterStep s (getF s (F.LOFT_FILT_K f)) (getS s (F.LOFT_FOUT_Y f)) x))

/-- A decision unit's consecutive results outside and inside its thresholds (R449). -/
def decCount (s : State) (d : Nat) (y : Int) : State :=
  let hi := toSigned 16 (getF s (F.LOFT_DEC_A_HI d))
  let lo := toSigned 16 (getF s (F.LOFT_DEC_A_LO d))
  let h : Int := getF s (F.LOFT_DEC_B_HYST d)
  let o := if hi < y ∨ y < lo then tget s.power.outside 0 d + 1 else 0
  let i := if lo + h < y ∧ y < hi - h then tget s.power.inside 0 d + 1 else 0
  { s with power := { s.power with outside := tset s.power.outside d (min o 256), inside := tset s.power.inside d (min i 256) } }

/-- A decision unit takes a result of its filter (R449, R450): asserted after PERSIST results outside, released after PERSIST inside. -/
def decTake (s : State) (d : Nat) (y : Int) : State :=
  let s := decCount s d y
  let n := max 1 (getF s (F.LOFT_DEC_B_PERSIST d))
  if flagF s (F.LOFT_DEC_B_OUT d) then
    (if n ≤ tget s.power.inside 0 d then setB s (F.LOFT_DEC_B_OUT d) false else s)
  else if n ≤ tget s.power.outside 0 d then
    let s := fire (setB s (F.LOFT_DEC_B_OUT d) true) (517 + d)
    if flagF s (F.LOFT_DEC_B_WAKE d) then wakeAct s (.decision (Fin.ofNat 8 d)) else s
  else s

/-- The filters of a slot take a result, and the units that watch them. -/
def filterRun (s : State) (f : Nat) (x : Int) : State :=
  let s := filterTake s f x
  (List.range 8).foldl (fun s d =>
    if flagF s (F.LOFT_DEC_B_EN d) && getF s (F.LOFT_DEC_B_FILT d) == f then decTake s d (getS s (F.LOFT_FOUT_Y f)) else s) s

/-- A result of a test bus that selects a bias source is its measured voltage or current (R171, R447). -/
def biasMeasured (s : State) (slot : Nat) (x : Int) : State :=
  let inp := getF s (F.LOFT_SCAN_INPUT slot)
  let sub := getF s (F.LOFT_SCAN_SUB slot)
  if 24 ≤ inp ∧ inp ≤ 27 ∧ 96 ≤ sub ∧ sub ≤ 111 then
    let q := 4 * (inp - 24) + sub % 8 / 2
    let b := sub % 2
    setBias s q b (if sub < 104 then { biasOf s q b with volt := ofSigned 16 x } else { biasOf s q b with curr := ofSigned 16 x })
  else s

/-- A conversion of a slot completes (R447, R448). -/
def loftConversion (s : State) (slot : Nat) (x : Int) : State :=
  if s.power.loftOn && flagF s (F.LOFT_SCAN_EN slot) then
    let s := biasMeasured (setB (setS s (F.LOFT_DATA_RESULT slot) x) (F.LOFT_DATA_VALID slot) true) slot x
    (List.range 16).foldl (fun s f =>
      if flagF s (F.LOFT_FILT_EN f) && getF s (F.LOFT_FILT_SLOT f) == slot then filterRun s f x else s) s
  else s

/-- LOFT_CONVERSION (R447). -/
def execLoftConversion (slot : Fin 64) (result : BitVec 16) (s : State) : Host.Outcome State Fault Refusal :=
  .next (loftConversion s slot result.toInt)

end Sys2Proof.Machine
end

