-- ==== Sys2Proof/Machine/Boundary.lean ====
section
/-! DEFINITION. The shot boundary (R30, R342) and the commit applied at it (R347, R398). -/

namespace Sys2Proof.Machine

/-- The shot that ends has its record, and the next one begins (R110, R209). -/
def nextShot (s : State) : State :=
  let s := shotRecords s
  { s with bounds := s.now :: s.bounds, seq := { s.seq with announced := s.seq.announced.filter (fun b => decide (s.now < b)) } }

/-- What still stands at the boundary taints the new shot (R24, R186, R349, R444, R446). -/
def shotTaints (s : State) : State :=
  let s := (List.range 24).foldl (fun s k => railTaint s (432 + k)) (dipTaints (restoreTaints s))
  if flagF s F.CL_STAT_OUT_EPOCH then addTaint s ⟨s.now, none, .fenced⟩ else s

/-- The calibration of one quire (R127, R158, R203): shadows committed and waiting come into force. -/
def quireCalibration (s : State) (q : Nat) : State :=
  let s := (List.range 5).foldl (fun s o => if flagF s (F.DRV_PD_CTRL_PENDING q o) then pdApply s q o else s) s
  let s := (List.range 24).foldl (fun s i => if flagF s (F.FLX_PRESS_CTRL_PENDING q i) then pressApply s q i else s) s
  if flagF s (F.HB_CTRL_PENDING q) then discApplyAt s q s.now else s

/-- The calibration step (R30): committed shadows, then Sizing's values. -/
def calibrationStep (s : State) : State := sizingBoundary ((List.range 16).foldl quireCalibration s)

/-- The prepared change is applied and its epoch adopted (R347, R398). -/
def commitApply (s : State) (epoch : Nat) : State :=
  let writes := s.host.shadow
  let s := writes.foldl (fun s w => (dictApply s w.index w.sub w.value).1) (dropShadow s)
  fire (latch (setF s F.CL_EPOCH_EPOCH epoch) F.CL_LATCH_COMMITTED 641) 542

/-- A master's agreement has reached its tick (CL_AGREE.STATE). -/
def agreementDone (s : State) : State :=
  match s.chain.agree with
  | some a => if a.t = some s.now then setAgree { s with chain := { s.chain with agree := none } } 0 0 0 else s
  | none => s

/-- The mode-change step (R30, R347). -/
def modeStep (s : State) : State :=
  let s := match s.chain.prepared with
    | some e => if s.chain.learned = some s.now then commitApply s e else s
    | none => s
  agreementDone s

/-- The Deckle latches configured to clear with the shot are cleared (R180, R187). -/
def deckleShotClear (s : State) : State :=
  let s := (List.range 456).foldl (fun s w => if flagF s (F.DK_WIN_CFG_CLR_SHOT w) then winClear s w else s) s
  tripUpdate (if flagF s F.DK_EXT_CTRL_CLR_SHOT then extClear s else s)

/-- The latch-clear step (R30): frames (R262), event flags (R97), Deckle latches (R180, R187). -/
def latchClearStep (s : State) : State :=
  let s := (List.range 16).foldl (fun s q => if flagF s (F.SEQ_CTRL_EVCLR_SHOT q) then setF s (F.SEQ_EVFLAG_FLAG q) 0 else s) (shotClear s)
  deckleShotClear s

/-- A shot boundary (R30): calibration, mode change, latch clear, time correction, in this order; an armed engine starts (R271). -/
def boundaryOp (s : State) : State :=
  let s := shotTaints (nextShot (fire s 31))
  seBoundary (trimAtBoundary (latchClearStep (modeStep (calibrationStep s))))

/-- SHOT_BOUNDARY (R30, R342): in a tick that is a boundary, once. -/
def execShotBoundary (s : State) : Host.Outcome State Fault Refusal := .next (if boundaryDue s then boundaryOp s else s)

/-- COMMIT_APPLY (R347): the tick of a learned commit is acted on as a boundary. -/
def execCommitApply (s : State) : Host.Outcome State Fault Refusal :=
  .next (if s.chain.learned = some s.now ∧ boundaryDue s = true then boundaryOp s else s)

end Sys2Proof.Machine
end

