-- ==== Sys2Proof/Machine/Stalls.lean ====
section
/-! DEFINITION. Accesses that a region which was down has held (R25, R463), and the row that ends the wait. -/

namespace Sys2Proof.Machine

/-- The outcome of a command that accesses registers or windows of a region. -/
def heldOutcome (c : Instr) (s : State) : Option (Host.Outcome State Fault Refusal) :=
  match c with
  | .registerWrite m addr size val => some (execRegisterWrite m addr size val s)
  | .windowWrite m addr size val => some (execWindowWrite m addr size val s)
  | .dmaStart m d dir data => some (execDmaStart m d dir data s)
  | .ctxStart m q c => some (execCtxStart m q c s)
  | .ctxStop m q c => some (execCtxStop m q c s)
  | .beaterEnable m q en => some (execBeaterEnable m q en s)
  | .beaterForce m q => some (execBeaterForce m q s)
  | .beaterRelease m q => some (execBeaterRelease m q s)
  | .biasSetWrite m q b code => some (execBiasSetWrite m q b code s)
  | .biasSeqUp m q => some (execBiasSeqUp m q s)
  | .biasSeqDown m q => some (execBiasSeqDown m q s)
  | .drvEnable m q o => some (execDrvEnable m q o s)
  | .rangeChange m q o range => some (execRangeChange m q o range s)
  | .softwareMute m q o mute => some (execSoftwareMute m q o mute s)
  | .cwAmpWrite m q o amp => some (execCwAmpWrite m q o amp s)
  | .toneSpareForce m q c => some (execToneSpareForce m q c s)
  | .toneSpareRelease m q => some (execToneSpareRelease m q s)
  | .ladderWrite m q i code => some (execLadderWrite m q i code s)
  | .fluxEnable m q i => some (execFluxEnable m q i s)
  | .fluxDisable m q i => some (execFluxDisable m q i s)
  | .fluxRangeChange m q i srange frange => some (execFluxRangeChange m q i srange frange s)
  | .acqEnable m q => some (execAcqEnable m q s)
  | .discCommit m q => some (execDiscCommit m q s)
  | .readoutSpareForce m q tone n => some (execReadoutSpareForce m q tone n s)
  | .readoutSpareRelease m q => some (execReadoutSpareRelease m q s)
  | .streamEnable m q n ch => some (execStreamEnable m q n ch s)
  | .pressCommit m q i => some (execPressCommit m q i s)
  | .pressClr m q i => some (execPressClr m q i s)
  | .dstRdWrite m q slot => some (execDstRdWrite m q slot s)
  | .resultPop m q => some (execResultPop m q s)
  | .resultQueueEnable m q shotrec dest depth => some (execResultQueueEnable m q shotrec dest depth s)
  | .threadStop m q t => some (execThreadStop m q t s)
  | .threadFlush m q t => some (execThreadFlush m q t s)
  | .seqRun m q run => some (execSeqRun m q run s)
  | .threadStart m q t => some (execThreadStart m q t s)
  | .ftwCommit m q u hi => some (execFtwCommit m q u hi s)
  | .frameClr m q c => some (execFrameClr m q c s)
  | .pdCommit m q o => some (execPdCommit m q o s)
  | .dkWinThrWrite m w upper lower hyst => some (execDkWinThrWrite m w upper lower hyst s)
  | .dkMapWrite m x => some (execDkMapWrite m x s)
  | .captureArm m u => some (execCaptureArm m u s)
  | .captureStop m u => some (execCaptureStop m u s)
  | .captureForce m u => some (execCaptureForce m u s)
  | .captureCntClr m u => some (execCaptureCntClr m u s)
  | .capRdWrite m u val => some (execCapRdWrite m u val s)
  | _ => none

/-- A held access is carried out; while its region is still down it is held again. -/
def heldRun (s : State) (c : Instr) : State :=
  match heldOutcome c s with
  | some (.next t) => t
  | _ => s

/-- The accesses held are tried again, oldest first. -/
def heldResume (s : State) : State := s.store.stalled.foldl heldRun { s with store := { s.store with stalled := [] } }

/-- VATMAN_RESTART_COMPLETE (R26, R463): the region's traffic moves again, and substitutions its Vatman's fault abandoned begin again. -/
def execVatmanRestartComplete (g : Fin 4) (router : Bool) (s : State) : Host.Outcome State Fault Refusal :=
  .next (if (tget s.power.vatman 0 g.val).testBit router.toNat then
    let s := setVatman s g router.toNat false
    heldResume (if router then s else substsAgain s g)
  else s)

end Sys2Proof.Machine
end

