-- ==== Sys2Proof/Machine/Tasks.lean ====
section
/-! DEFINITION. Task inputs that act on a sampled consumer (R288, R290, R291). -/

namespace Sys2Proof.Machine

/-- A bias input acts (R172, R291): with both of a quire in one cycle, the down sequence runs. -/
def taskBias (s : State) (q : Nat) (up same : Bool) : State := biasSeqOp q (up && !same) s

/-- A Couch flag input acts (R255, R291): with set and clear in one cycle, the flag is set. -/
def taskFlag (s : State) (f : Nat) (set same : Bool) : State := couchFlag s f (set || same)

/-- A capture trigger input acts (R291): after an arm of the same cycle. -/
def taskTrigger (s : State) (u : Nat) (same : Bool) : State := capPostTrigger (if same then capPostArm s u else s) u

/-- What a sampled input does (R288). -/
def taskAct (s : State) (i : Nat) (same : Bool) : State :=
  if i < 256 then setEventFlag s (i / 16) (i % 16) same
  else if i < 288 then taskBias s ((i - 256) / 2) (i % 2 == 0) same
  else if i < 320 then taskFlag s (i - 288) true same
  else if i < 352 then taskFlag s (i - 320) false same
  else if i < 368 then taskTrigger s (i - 352) same
  else if i < 384 then capPostArm s (i - 368)
  else if i < 544 then s
  else if i < 576 then hostNotify s (i - 544)
  else if i < 592 then szTrigger s (i - 576)
  else wakeAct s .post

/-- One task execution (R290): the events that reached the input in one cycle count as one, later ones wait for the next; the divider may
withhold it; a consumer that is powered down discards it (R299). -/
def taskExecution (s : State) (i : Nat) (same : Bool) : State :=
  let p := cycleEvents i (tget s.post.arrived [] i)
  if p.1 = [] then s
  else
    let s := { s with post := { s.post with arrived := tset s.post.arrived i p.2 } }
    if inputOff s i then incF s (F.POST_CCNT_OFF i)
    else
      let r := execution s i p.1.length
      if r.2 then taskAct r.1 i same else r.1

/-- TASK_EXECUTION (R290): of input i; `same`: the other input of its consumer acts in the same cycle (R291); of an event flag's
input, a WAIT or BRE still to issue clears the flag in the same cycle (R97). -/
def execTaskExecution (i : Fin 593) (same : Bool) (s : State) : Host.Outcome State Fault Refusal := .next (taskExecution s i same)

end Sys2Proof.Machine
end

