-- ==== Sys2Proof/Machine/Tick.lean ====
section
/-! DEFINITION. A tick of device time (R47): what was placed at it takes effect, and the work of every tick is done. -/

namespace Sys2Proof.Machine

/-! ### Effects placed at a tick -/

/-- The rewind mark of a stream is released (R106). -/
def unmark (s : State) (q n pos : Nat) : State :=
  let x := streamOf s q n
  setStream s q n { x with marks := x.marks.erase pos }

/-- An effect placed at this tick takes place. -/
def actEffect (s : State) : Act → State
  | .drvMute q o v => drvSwMute s q o v
  | .flxMute q i v => flxSwMute s q i v
  | .cwRamp q o amp len => cwRampEffect s q o amp len
  | .cellPhase q j v => cellPhaseEffect s q j v
  | .credit q => creditArrives s q
  | .ladder q i v => ladderEffect s q i v
  | .bias q b v => biasEffect s q b v
  | .capForce u => capForceEffect s u
  | .capArm u => capArmEffect s u
  | .capCount u => capCount s u
  | .armClear q t mask => armClear s q t mask
  | .armSource src again => armSourceEffect s src again
  | .peak q => peakUpdate s q
  | .hold q i code => deglitch s q i code
  | .settle q o => settleOn s q o
  | .ranging q i => rangingOn s q i
  | .toneMove q => toneMoveDone s q
  | .unitMove q => unitMoveDone s q
  | .segRel c => segOut s c
  | .unmark q n pos => unmark s q n pos
  | .playEnd c tick => playEndEffect s c tick
  | .outEpoch tick => outOfEpoch s tick
  | .stopMute => stopMute s
  | .portIdle p => idleEnter s p
  | .stepEnd => stepMute s false
  | .szAbort q => szAbortEffect s q
  | .ctxPtr q c p a hi lo => ctxPtrEffect s q c p a hi lo

/-- Clears of subscriptions come before the deliveries of their tick (R88, R89). -/
def Act.isClear : Act → Bool
  | .armClear _ _ _ | .armSource _ _ => true
  | _ => false

/-- The effects due at this tick of which a test holds take place, in the order they were placed. -/
def actsDue (s : State) (p : Act → Bool) : State :=
  let due := s.sched.filter (fun x => decide (x.1 ≤ s.now) && p x.2)
  let s := { s with sched := s.sched.filter (fun x => !(decide (x.1 ≤ s.now) && p x.2)) }
  due.foldl (fun s x => actEffect s x.2) s

/-! ### The work of every tick -/

/-- The pipelines of every drive and probe output (R113, R125). -/
def wavesTick (s : State) : State :=
  (List.range 16).foldl (fun s q => (List.range 5).foldl (fun s o => waveTick s q o) s) s

/-- HB_STAT.OVL reads 1 only while the ADCW word with the overload is the present one (R195). -/
def ovlClear (s : State) (q : Nat) : State :=
  match tget s.head.ovlWord none q with
  | some w => if 48 * (w + 1) ≤ 128 * s.now then setB s (F.HB_STAT_OVL q) false else s
  | none => s

/-- The per-tick work of a quire: the overload flag, the queue's largest count (R195, R216). -/
def quireTick (s : State) (q : Nat) : State := peakUpdate (ovlClear s q) q

/-- Threads that wait for an event flag are served, contexts that wait for a credit, threads that stall tested again, contexts that wait for an
entry, streams that ran dry (R78, R108, R228, R248). -/
def retestAll (s : State) : State :=
  let s := { s with seq := { s.seq with evKeep := [] } }
  let s := (List.range 16).foldl eventWakes s
  let s := (List.range 16).foldl creditGrants s
  let s := s.seq.threads.foldl (fun s x => retest s x.1.1 x.1.2) s
  let s := s.beater.ctxs.foldl (fun s x => ctxWake s x.1.1 x.1.2) s
  s.seq.streams.foldl (fun s x => streamResume s x.1.1 x.1.2) s

/-- In ENFORCE every quire that has become idle is power-gated (R456). -/
def gateTick (s : State) : State := if getF s F.THM_STAT_STATE = 2 then (List.range 16).foldl quireGate s else s

/-- A tick (R47): the samples of the tick before, clears of subscriptions, deliveries, effects placed, arrivals in queues, then what is tested in every tick. -/
def tick (s : State) : State :=
  let s := wavesTick <| pressTick (fabricTick { s with now := s.now + 1 })
  let s := beaterTick (couchTick (actsDue s Act.isClear))
  let s := retestAll (transitTick (actsDue s (fun _ => true)))
  let s := (List.range 16).foldl quireTick s
  stopFinish (gateTick (sizingTick (wallTick s)))

/-- DEVICE_TIME_TICK (R47, R48): device time runs once the dividers have started. -/
def execDeviceTimeTick (s : State) : Host.Outcome State Fault Refusal := .next (if s.time.started then tick s else s)

end Sys2Proof.Machine
end

