-- ==== Sys2Proof/Machine/Dispatch.lean ====
section
/-! DEFINITION. Dispatch: one arm per command. -/

namespace Sys2Proof.Machine

/-- The effect of a command on everything but the queue of waiting commands. -/
def exec (i : Instr) (s : State) : Host.Outcome State Fault Refusal :=
  match i with
  | .resetNFall => Sys2Proof.Machine.execResetNFall s
  | .resetNRise pers master => Sys2Proof.Machine.execResetNRise pers master s
  | .boot => Sys2Proof.Machine.execBoot s
  | .loftPowerOn on => Sys2Proof.Machine.execLoftPowerOn on s
  | .vddIoFall => Sys2Proof.Machine.execVddIoFall s
  | .registerWrite m addr size val => Sys2Proof.Machine.execRegisterWrite m addr size val s
  | .windowWrite m addr size val => Sys2Proof.Machine.execWindowWrite m addr size val s
  | .shotBoundary => Sys2Proof.Machine.execShotBoundary s
  | .bridgeParityError w => Sys2Proof.Machine.execBridgeParityError w s
  | .bridgeLaneSwitch g lane => Sys2Proof.Machine.execBridgeLaneSwitch g lane s
  | .bridgeLaneSwitchDone g lane => Sys2Proof.Machine.execBridgeLaneSwitchDone g lane s
  | .cellFault c => Sys2Proof.Machine.execCellFault c s
  | .quireRestore q w => Sys2Proof.Machine.execQuireRestore q w s
  | .quireRestoreComplete r => Sys2Proof.Machine.execQuireRestoreComplete r s
  | .vatmanFault g router => Sys2Proof.Machine.execVatmanFault g router s
  | .vatmanRestartComplete g router => Sys2Proof.Machine.execVatmanRestartComplete g router s
  | .nocArbApply => Sys2Proof.Machine.execNocArbApply s
  | .refEdgeTimeout => Sys2Proof.Machine.execRefEdgeTimeout s
  | .refFreqWindowEnd inRange => Sys2Proof.Machine.execRefFreqWindowEnd inRange s
  | .dandyLock => Sys2Proof.Machine.execDandyLock s
  | .tbTimeLoRead => Sys2Proof.Machine.execTbTimeLoRead s
  | .timingCellRx p c => Sys2Proof.Machine.execTimingCellRx p c s
  | .measurementComplete p => Sys2Proof.Machine.execMeasurementComplete p s
  | .rootTrimMove => Sys2Proof.Machine.execRootTrimMove s
  | .ptpSyncRx e domain interval origin => Sys2Proof.Machine.execPtpSyncRx e domain interval origin s
  | .ptpFollowUpRx e domain origin => Sys2Proof.Machine.execPtpFollowUpRx e domain origin s
  | .ptpDelayReqTx => Sys2Proof.Machine.execPtpDelayReqTx s
  | .ptpDelayRespRx e domain t4 => Sys2Proof.Machine.execPtpDelayRespRx e domain t4 s
  | .tbWctNsRead => Sys2Proof.Machine.execTbWctNsRead s
  | .txDescriptorTake e => Sys2Proof.Machine.execTxDescriptorTake e s
  | .timedLaunch e => Sys2Proof.Machine.execTimedLaunch e s
  | .normalFrameTx e => Sys2Proof.Machine.execNormalFrameTx e s
  | .frameTxComplete e => Sys2Proof.Machine.execFrameTxComplete e s
  | .nop q t rsv => Sys2Proof.Machine.execNop q t rsv s
  | .halt q t rsv => Sys2Proof.Machine.execHalt q t rsv s
  | .play q t a l cond ch seg sa amp ofs sub => Sys2Proof.Machine.execPlay q t a l cond ch seg sa amp ofs sub s
  | .flux q t a l cond ch seg amp ofs sub => Sys2Proof.Machine.execFlux q t a l cond ch seg amp ofs sub s
  | .fluxMode1 q t a l cond ch code rsv ofs sub => Sys2Proof.Machine.execFluxMode1 q t a l cond ch code rsv ofs sub s
  | .meas q t rsv ch wgt len arm ofs sub => Sys2Proof.Machine.execMeas q t rsv ch wgt len arm ofs sub s
  | .frame q t rsv ch mode src ofs val => Sys2Proof.Machine.execFrame q t rsv ch mode src ofs val s
  | .sjump q t rsv ch seg => Sys2Proof.Machine.execSjump q t rsv ch seg s
  | .waitImm q t rsv imm => Sys2Proof.Machine.execWaitImm q t rsv imm s
  | .waitReg q t rsv reg => Sys2Proof.Machine.execWaitReg q t rsv reg s
  | .waitEvent q t rsv ev clr gap => Sys2Proof.Machine.execWaitEvent q t rsv ev clr gap s
  | .waitd q t rsv sub reb sd wr gap tmo => Sys2Proof.Machine.execWaitd q t rsv sub reb sd wr gap tmo s
  | .waitdTimeout q t => Sys2Proof.Machine.execWaitdTimeout q t s
  | .br q t rsv tgt => Sys2Proof.Machine.execBr q t rsv tgt s
  | .bre q t rsv ev neg clr tgt => Sys2Proof.Machine.execBre q t rsv ev neg clr tgt s
  | .brc q t rsv cc immb sa sb imm tgt => Sys2Proof.Machine.execBrc q t rsv cc immb sa sb imm tgt s
  | .brp q t rsv sub neg reb gap tgt => Sys2Proof.Machine.execBrp q t rsv sub neg reb gap tgt s
  | .loop q t rsv src reg cnt last => Sys2Proof.Machine.execLoop q t rsv src reg cnt last s
  | .sync q t rsv scope bar gap => Sys2Proof.Machine.execSync q t rsv scope bar gap s
  | .alu q t rsv sd sa sb fn => Sys2Proof.Machine.execAlu q t rsv sd sa sb fn s
  | .alui q t rsv sd sa fn imm => Sys2Proof.Machine.execAlui q t rsv sd sa fn imm s
  | .get q t rsv sd sel => Sys2Proof.Machine.execGet q t rsv sd sel s
  | .barrierRelease scope q bar => Sys2Proof.Machine.execBarrierRelease scope q bar s
  | .barrierTimeout q t => Sys2Proof.Machine.execBarrierTimeout q t s
  | .commandPlay q kind n => Sys2Proof.Machine.execCommandPlay q kind n s
  | .segmentIterationEnd q kind n => Sys2Proof.Machine.execSegmentIterationEnd q kind n s
  | .streamWrite q n => Sys2Proof.Machine.execStreamWrite q n s
  | .streamUnderrun q n => Sys2Proof.Machine.execStreamUnderrun q n s
  | .streamEnable m q n ch => Sys2Proof.Machine.execStreamEnable m q n ch s
  | .threadStart m q t => Sys2Proof.Machine.execThreadStart m q t s
  | .threadStop m q t => Sys2Proof.Machine.execThreadStop m q t s
  | .threadFlush m q t => Sys2Proof.Machine.execThreadFlush m q t s
  | .seqRun m q run => Sys2Proof.Machine.execSeqRun m q run s
  | .ftwCommit m q u hi => Sys2Proof.Machine.execFtwCommit m q u hi s
  | .ftwEffect q u => Sys2Proof.Machine.execFtwEffect q u s
  | .frameClr m q c => Sys2Proof.Machine.execFrameClr m q c s
  | .pdCommit m q o => Sys2Proof.Machine.execPdCommit m q o s
  | .drvEnable m q o => Sys2Proof.Machine.execDrvEnable m q o s
  | .rangeChange m q o range => Sys2Proof.Machine.execRangeChange m q o range s
  | .rangeSettled q o => Sys2Proof.Machine.execRangeSettled q o s
  | .softwareMute m q o mute => Sys2Proof.Machine.execSoftwareMute m q o mute s
  | .cwAmpWrite m q o amp => Sys2Proof.Machine.execCwAmpWrite m q o amp s
  | .cwRampEnd q o => Sys2Proof.Machine.execCwRampEnd q o s
  | .toneFault q c why => Sys2Proof.Machine.execToneFault q c why s
  | .toneSubstitution q pass => Sys2Proof.Machine.execToneSubstitution q pass s
  | .toneSpareForce m q c => Sys2Proof.Machine.execToneSpareForce m q c s
  | .toneSpareRelease m q => Sys2Proof.Machine.execToneSpareRelease m q s
  | .ladderWrite m q idx code => Sys2Proof.Machine.execLadderWrite m q idx code s
  | .ladderRampUpdate q idx => Sys2Proof.Machine.execLadderRampUpdate q idx s
  | .deglitchHoldEnd q idx => Sys2Proof.Machine.execDeglitchHoldEnd q idx s
  | .fluxEnable m q idx => Sys2Proof.Machine.execFluxEnable m q idx s
  | .fluxSwitchClose q idx => Sys2Proof.Machine.execFluxSwitchClose q idx s
  | .fluxDisable m q idx => Sys2Proof.Machine.execFluxDisable m q idx s
  | .fluxSwitchOpen q idx => Sys2Proof.Machine.execFluxSwitchOpen q idx s
  | .fluxRangeChange m q idx srange frange => Sys2Proof.Machine.execFluxRangeChange m q idx srange frange s
  | .fluxRangeSettled q idx => Sys2Proof.Machine.execFluxRangeSettled q idx s
  | .pressCommit m q idx => Sys2Proof.Machine.execPressCommit m q idx s
  | .pressClr m q idx => Sys2Proof.Machine.execPressClr m q idx s
  | .biasSetWrite m q b code => Sys2Proof.Machine.execBiasSetWrite m q b code s
  | .biasRampUpdate q b => Sys2Proof.Machine.execBiasRampUpdate q b s
  | .biasIlim q b on => Sys2Proof.Machine.execBiasIlim q b on s
  | .biasSeqUp m q => Sys2Proof.Machine.execBiasSeqUp m q s
  | .biasSeqDown m q => Sys2Proof.Machine.execBiasSeqDown m q s
  | .biasSeqDwellEnd q => Sys2Proof.Machine.execBiasSeqDwellEnd q s
  | .windowCrossing w level => Sys2Proof.Machine.execWindowCrossing w level s
  | .windowInside w level => Sys2Proof.Machine.execWindowInside w level s
  | .windowArm w => Sys2Proof.Machine.execWindowArm w s
  | .dkWinThrWrite m w upper lower hyst => Sys2Proof.Machine.execDkWinThrWrite m w upper lower hyst s
  | .dkMapWrite m w => Sys2Proof.Machine.execDkMapWrite m w s
  | .dkLatchClear m l => Sys2Proof.Machine.execDkLatchClear m l s
  | .tripinFall low => Sys2Proof.Machine.execTripinFall low s
  | .thresholdReadback m win upper => Sys2Proof.Machine.execThresholdReadback m win upper s
  | .readbackDone result => Sys2Proof.Machine.execReadbackDone result s
  | .acqEnable m q => Sys2Proof.Machine.execAcqEnable m q s
  | .adcReady q => Sys2Proof.Machine.execAdcReady q s
  | .adcOverload q word sample => Sys2Proof.Machine.execAdcOverload q word sample s
  | .windowResult q j codes => Sys2Proof.Machine.execWindowResult q j codes s
  | .recordEnqueue q => Sys2Proof.Machine.execRecordEnqueue q s
  | .discCommit m q => Sys2Proof.Machine.execDiscCommit m q s
  | .resultQueueEnable m q shotrec dest depth => Sys2Proof.Machine.execResultQueueEnable m q shotrec dest depth s
  | .resultMove q => Sys2Proof.Machine.execResultMove q s
  | .dstRdWrite m q slot => Sys2Proof.Machine.execDstRdWrite m q slot s
  | .resultPop m q => Sys2Proof.Machine.execResultPop m q s
  | .readoutCellFault q j why => Sys2Proof.Machine.execReadoutCellFault q j why s
  | .readoutSubstitution q pass => Sys2Proof.Machine.execReadoutSubstitution q pass s
  | .readoutSpareForce m q tone n => Sys2Proof.Machine.execReadoutSpareForce m q tone n s
  | .readoutSpareRelease m q => Sys2Proof.Machine.execReadoutSpareRelease m q s
  | .beaterNop q c p => Sys2Proof.Machine.execBeaterNop q c p s
  | .mpy q c p => Sys2Proof.Machine.execMpy q c p s
  | .mac q c p => Sys2Proof.Machine.execMac q c p s
  | .msu q c p => Sys2Proof.Machine.execMsu q c p s
  | .dsq q c p => Sys2Proof.Machine.execDsq q c p s
  | .dsqa q c p => Sys2Proof.Machine.execDsqa q c p s
  | .lda q c p => Sys2Proof.Machine.execLda q c p s
  | .addv q c p => Sys2Proof.Machine.execAddv q c p s
  | .adda q c p => Sys2Proof.Machine.execAdda q c p s
  | .suba q c p => Sys2Proof.Machine.execSuba q c p s
  | .sha q c p => Sys2Proof.Machine.execSha q c p s
  | .clr q c p => Sys2Proof.Machine.execClr q c p s
  | .minx q c p => Sys2Proof.Machine.execMinx q c p s
  | .gex q c p => Sys2Proof.Machine.execGex q c p s
  | .cmp q c p => Sys2Proof.Machine.execCmp q c p s
  | .tst q c p => Sys2Proof.Machine.execTst q c p s
  | .stv q c p => Sys2Proof.Machine.execStv q c p s
  | .abs q c p => Sys2Proof.Machine.execAbs q c p s
  | .ldal q c p => Sys2Proof.Machine.execLdal q c p s
  | .beaterHalt q c rsv => Sys2Proof.Machine.execBeaterHalt q c rsv s
  | .beaterBr q c rsv tgt => Sys2Proof.Machine.execBeaterBr q c rsv tgt s
  | .brf q c rsv cc tgt => Sys2Proof.Machine.execBrf q c rsv cc tgt s
  | .beaterLoop q c rsv rot stg1 src cnt vr last => Sys2Proof.Machine.execBeaterLoop q c rsv rot stg1 src cnt vr last s
  | .waitin q c rsv vr tmo => Sys2Proof.Machine.execWaitin q c rsv vr tmo s
  | .waitinTimeout q c => Sys2Proof.Machine.execWaitinTimeout q c s
  | .outp q c rsv out src imm gate vr => Sys2Proof.Machine.execOutp q c rsv out src imm gate vr s
  | .outr q c rsv vr last tag => Sys2Proof.Machine.execOutr q c rsv vr last tag s
  | .setp q c rsv p field imm => Sys2Proof.Machine.execSetp q c rsv p field imm s
  | .ldi q c rsv vr imm => Sys2Proof.Machine.execLdi q c rsv vr imm s
  | .rot q c rsv n => Sys2Proof.Machine.execRot q c rsv n s
  | .ctxStart m q c => Sys2Proof.Machine.execCtxStart m q c s
  | .ctxStop m q c => Sys2Proof.Machine.execCtxStop m q c s
  | .beaterEnable m q en => Sys2Proof.Machine.execBeaterEnable m q en s
  | .engineFault q => Sys2Proof.Machine.execEngineFault q s
  | .engineSubstitution g => Sys2Proof.Machine.execEngineSubstitution g s
  | .beaterForce m q => Sys2Proof.Machine.execBeaterForce m q s
  | .beaterRelease m q => Sys2Proof.Machine.execBeaterRelease m q s
  | .decisionCellRx p entries => Sys2Proof.Machine.execDecisionCellRx p entries s
  | .cellSlot p lane => Sys2Proof.Machine.execCellSlot p lane s
  | .pfXor m w mask => Sys2Proof.Machine.execPfXor m w mask s
  | .pfClr m => Sys2Proof.Machine.execPfClr m s
  | .seStart m => Sys2Proof.Machine.execSeStart m s
  | .seStop m => Sys2Proof.Machine.execSeStop m s
  | .roundClose => Sys2Proof.Machine.execRoundClose s
  | .decodePass => Sys2Proof.Machine.execDecodePass s
  | .decodePassEnd => Sys2Proof.Machine.execDecodePassEnd s
  | .boundaryEntryRx p index round => Sys2Proof.Machine.execBoundaryEntryRx p index round s
  | .postEvent prod ps => Sys2Proof.Machine.execPostEvent prod ps s
  | .taskExecution idx same => Sys2Proof.Machine.execTaskExecution idx same s
  | .swfire m mask => Sys2Proof.Machine.execSwfire m mask s
  | .cellClr m => Sys2Proof.Machine.execCellClr m s
  | .captureArm m u => Sys2Proof.Machine.execCaptureArm m u s
  | .captureStop m u => Sys2Proof.Machine.execCaptureStop m u s
  | .captureForce m u => Sys2Proof.Machine.execCaptureForce m u s
  | .captureCntClr m u => Sys2Proof.Machine.execCaptureCntClr m u s
  | .prefillDone u => Sys2Proof.Machine.execPrefillDone u s
  | .captureTrigger u w k code more => Sys2Proof.Machine.execCaptureTrigger u w k code more s
  | .autoTimeout u => Sys2Proof.Machine.execAutoTimeout u s
  | .recordComplete u codes corrupt off lostAt => Sys2Proof.Machine.execRecordComplete u codes corrupt off lostAt s
  | .rearmEnd u => Sys2Proof.Machine.execRearmEnd u s
  | .capRdWrite m u val => Sys2Proof.Machine.execCapRdWrite m u val s
  | .portRoleWrite m p role => Sys2Proof.Machine.execPortRoleWrite m p role s
  | .trainEnd p => Sys2Proof.Machine.execTrainEnd p s
  | .trainTimeout p => Sys2Proof.Machine.execTrainTimeout p s
  | .linkCellRx p lane c own => Sys2Proof.Machine.execLinkCellRx p lane c own s
  | .cellCrcFail p lane word => Sys2Proof.Machine.execCellCrcFail p lane word s
  | .portReqWrite m p req => Sys2Proof.Machine.execPortReqWrite m p req s
  | .idleCellRx p st => Sys2Proof.Machine.execIdleCellRx p st s
  | .signalDetect p => Sys2Proof.Machine.execSignalDetect p s
  | .eyeScanStart m p lane dwell vofs phase => Sys2Proof.Machine.execEyeScanStart m p lane dwell vofs phase s
  | .eyeScanDone count => Sys2Proof.Machine.execEyeScanDone count s
  | .heartbeatSend => Sys2Proof.Machine.execHeartbeatSend s
  | .heartbeat p src h => Sys2Proof.Machine.execHeartbeat p src h s
  | .masterTimeout => Sys2Proof.Machine.execMasterTimeout s
  | .join p src uid bars => Sys2Proof.Machine.execJoin p src uid bars s
  | .assign p src uid dev epoch => Sys2Proof.Machine.execAssign p src uid dev epoch s
  | .refuse p src uid => Sys2Proof.Machine.execRefuse p src uid s
  | .part p src bars => Sys2Proof.Machine.execPart p src bars s
  | .shotAnnounce => Sys2Proof.Machine.execShotAnnounce s
  | .shot p src b prev => Sys2Proof.Machine.execShot p src b prev s
  | .shotNextWrite m hi => Sys2Proof.Machine.execShotNextWrite m hi s
  | .barArrive p src bar tt => Sys2Proof.Machine.execBarArrive p src bar tt s
  | .barRelease p src bar r => Sys2Proof.Machine.execBarRelease p src bar r s
  | .clPrepare m id => Sys2Proof.Machine.execClPrepare m id s
  | .prepare p src epoch id => Sys2Proof.Machine.execPrepare p src epoch id s
  | .ack p src epoch code => Sys2Proof.Machine.execAck p src epoch code s
  | .prepareTimeout => Sys2Proof.Machine.execPrepareTimeout s
  | .commit p src epoch t => Sys2Proof.Machine.execCommit p src epoch t s
  | .cancel p src epoch => Sys2Proof.Machine.execCancel p src epoch s
  | .commitApply => Sys2Proof.Machine.execCommitApply s
  | .clResync m target => Sys2Proof.Machine.execClResync m target s
  | .resync p src dst epoch => Sys2Proof.Machine.execResync p src dst epoch s
  | .eccWriteback cls addr => Sys2Proof.Machine.execEccWriteback cls addr s
  | .scrubPass found met => Sys2Proof.Machine.execScrubPass found met s
  | .lpddr6Training cap rate failed => Sys2Proof.Machine.execLpddr6Training cap rate failed s
  | .lpddr6Recal ch => Sys2Proof.Machine.execLpddr6Recal ch s
  | .lpddr6Refresh ch bank => Sys2Proof.Machine.execLpddr6Refresh ch bank s
  | .reamStoreStart => Sys2Proof.Machine.execReamStoreStart s
  | .reamStoreComplete => Sys2Proof.Machine.execReamStoreComplete s
  | .dmaStart m d dir data => Sys2Proof.Machine.execDmaStart m d dir data s
  | .dmaDone d => Sys2Proof.Machine.execDmaDone d s
  | .ethFrameRx e f => Sys2Proof.Machine.execEthFrameRx e f s
  | .feltHello via seq priv key => Sys2Proof.Machine.execFeltHello via seq priv key s
  | .feltOpen via session seq sigOk => Sys2Proof.Machine.execFeltOpen via session seq sigOk s
  | .feltRead h index sub offset maxlen => Sys2Proof.Machine.execFeltRead h index sub offset maxlen s
  | .feltWrite h stage last index sub offset change val => Sys2Proof.Machine.execFeltWrite h stage last index sub offset change val s
  | .feltSubscribe h mask => Sys2Proof.Machine.execFeltSubscribe h mask s
  | .feltNotifyAck h devseq => Sys2Proof.Machine.execFeltNotifyAck h devseq s
  | .feltKeepalive h => Sys2Proof.Machine.execFeltKeepalive h s
  | .feltClose h => Sys2Proof.Machine.execFeltClose h s
  | .feltNotifyResend session n => Sys2Proof.Machine.execFeltNotifyResend session n s
  | .sessionIdleTimeout session => Sys2Proof.Machine.execSessionIdleTimeout session s
  | .mailboxGo m len => Sys2Proof.Machine.execMailboxGo m len s
  | .mailboxResponse => Sys2Proof.Machine.execMailboxResponse s
  | .storeAll h => Sys2Proof.Machine.execStoreAll h s
  | .restoreDefaults h => Sys2Proof.Machine.execRestoreDefaults h s
  | .discardStaged h => Sys2Proof.Machine.execDiscardStaged h s
  | .pmbUp m => Sys2Proof.Machine.execPmbUp m s
  | .pmbDown m => Sys2Proof.Machine.execPmbDown m s
  | .pmbPoll cmd vout => Sys2Proof.Machine.execPmbPoll cmd vout s
  | .pmbEntryTimeout => Sys2Proof.Machine.execPmbEntryTimeout s
  | .pmbDelayEnd => Sys2Proof.Machine.execPmbDelayEnd s
  | .pmbMonitorRound l => Sys2Proof.Machine.execPmbMonitorRound l s
  | .pmbSalert low l => Sys2Proof.Machine.execPmbSalert low l s
  | .rootProvision h modulus => Sys2Proof.Machine.execRootProvision h modulus s
  | .keyInstall h obj id priv => Sys2Proof.Machine.execKeyInstall h obj id priv s
  | .keyRemove h id => Sys2Proof.Machine.execKeyRemove h id s
  | .imageWrite h obj => Sys2Proof.Machine.execImageWrite h obj s
  | .imageConfirm h => Sys2Proof.Machine.execImageConfirm h s
  | .recoveryImage seq obj => Sys2Proof.Machine.execRecoveryImage seq obj s
  | .quoteRequest h nonce => Sys2Proof.Machine.execQuoteRequest h nonce s
  | .quoteRead h offset maxlen => Sys2Proof.Machine.execQuoteRead h offset maxlen s
  | .debugToken word nonce level uidOk => Sys2Proof.Machine.execDebugToken word nonce level uidOk s
  | .zeroize => Sys2Proof.Machine.execZeroize s
  | .sizingRun m q => Sys2Proof.Machine.execSizingRun m q s
  | .pressFitRequest m q ch => Sys2Proof.Machine.execPressFitRequest m q ch s
  | .sizingAbort m q => Sys2Proof.Machine.execSizingAbort m q s
  | .tempUpdate q t => Sys2Proof.Machine.execTempUpdate q t s
  | .sizingIdleRunStart q => Sys2Proof.Machine.execSizingIdleRunStart q s
  | .procedureComplete q proc values => Sys2Proof.Machine.execProcedureComplete q proc values s
  | .factorySetWrite h q obj ps => Sys2Proof.Machine.execFactorySetWrite h q obj ps s
  | .fieldSetWrite h q ps => Sys2Proof.Machine.execFieldSetWrite h q ps s
  | .powerReq m req => Sys2Proof.Machine.execPowerReq m req s
  | .powerTransitionComplete => Sys2Proof.Machine.execPowerTransitionComplete s
  | .wake w rails => Sys2Proof.Machine.execWake w rails s
  | .coreWarning => Sys2Proof.Machine.execCoreWarning s
  | .coreWarningRelease => Sys2Proof.Machine.execCoreWarningRelease s
  | .brownOut => Sys2Proof.Machine.execBrownOut s
  | .railLoss g => Sys2Proof.Machine.execRailLoss g s
  | .loftConversion slot result => Sys2Proof.Machine.execLoftConversion slot result s
  | .thermalSample l => Sys2Proof.Machine.execThermalSample l s
  | .sensorSelfTest failed => Sys2Proof.Machine.execSensorSelfTest failed s
  | .graceExpiry => Sys2Proof.Machine.execGraceExpiry s
  | .pwrStop m => Sys2Proof.Machine.execPwrStop m s
  | .orderlyStop => Sys2Proof.Machine.execOrderlyStop s
  | .stopPowerdown => Sys2Proof.Machine.execStopPowerdown s
  | .pwrRestart m => Sys2Proof.Machine.execPwrRestart m s
  | .thermalTrip n => Sys2Proof.Machine.execThermalTrip n s
  | .coreFault q => Sys2Proof.Machine.execCoreFault q s
  | .coreSubstitution g pass => Sys2Proof.Machine.execCoreSubstitution g pass s
  | .watchdogExpiry core => Sys2Proof.Machine.execWatchdogExpiry core s
  | .mgmtCoreRestart core => Sys2Proof.Machine.execMgmtCoreRestart core s
  | .deviceTimeTick => Sys2Proof.Machine.execDeviceTimeTick s
  | .phaseLoopOutOfLock p lane => Sys2Proof.Machine.execPhaseLoopOutOfLock p lane s
  | .supplyRailReturn g => Sys2Proof.Machine.execSupplyRailReturn g s
  | .biasTmoExpiry => Sys2Proof.Machine.execBiasTmoExpiry s
  | .pcieLinkChange width speed => Sys2Proof.Machine.execPcieLinkChange width speed s
  | .ethLinkChange e up => Sys2Proof.Machine.execEthLinkChange e up s
  | .debugNonceRequest => Sys2Proof.Machine.execDebugNonceRequest s

end Sys2Proof.Machine
end

