-- ==== Sys2Proof/Machine/Program.lean ====
section
/-! DEFINITION. The words of stored programs (R94, R239 to R241): the instruction a 64-bit word of sequencer or Beater program memory spells,
and the word of an instruction. A sequencer instruction and a Beater instruction reach this block as commands; these definitions say which
word of program memory each stands for. -/

namespace Sys2Proof.Machine

/-- Bits lo + n - 1 to lo of a word. -/
def bitsFrom (w lo n : Nat) : Nat := w / 2 ^ lo % 2 ^ n

/-- A bit of a word. -/
def wordBit (w i : Nat) : Bool := bitsFrom w i 1 == 1

/-- Bits of a word as a bounded number. -/
def fieldAt (w lo n : Nat) : Fin (2 ^ n) := Fin.ofNat (2 ^ n) (bitsFrom w lo n)

/-- Bits of a word as a bit vector. -/
def bvAt (w lo n : Nat) : BitVec n := BitVec.ofNat n (bitsFrom w lo n)

/-- Some of the reserved bits, each range given by its lowest bit and width, are set. -/
def reservedSet (w : Nat) (l : List (Nat × Nat)) : Bool := l.any (fun r => bitsFrom w r.1 r.2 != 0)

/-- The instruction a word spells to a sequencer thread (R94). An opcode not listed, and WAIT mode 3, spell an instruction with a reserved
value, which faults its thread with cause 1 as R94 says of them. -/
def threadInstr (q t : Fin 16) (w : Nat) : Instr :=
  let wrong := Instr.nop q t true
  match bitsFrom w 58 6 with
  | 0x00 => .nop q t (reservedSet w [(0, 58)])
  | 0x01 => .halt q t (reservedSet w [(0, 58)])
  | 0x04 => .play q t (wordBit w 57) (wordBit w 56) (fieldAt w 52 4) (fieldAt w 47 5) (fieldAt w 37 10) (wordBit w 36) (bvAt w 20 16)
      (fieldAt w 6 14) (fieldAt w 0 6)
  | 0x05 =>
    if wordBit w 46 then
      .fluxMode1 q t (wordBit w 57) (wordBit w 56) (fieldAt w 52 4) (fieldAt w 47 5) (bvAt w 26 20) (reservedSet w [(20, 6)]) (fieldAt w 6 14)
        (fieldAt w 0 6)
    else
      .flux q t (wordBit w 57) (wordBit w 56) (fieldAt w 52 4) (fieldAt w 47 5) (fieldAt w 36 10) (bvAt w 20 16) (fieldAt w 6 14)
        (fieldAt w 0 6)
  | 0x06 => .meas q t (reservedSet w [(56, 2), (20, 3)]) (fieldAt w 52 4) (fieldAt w 44 8) (fieldAt w 31 13) (fieldAt w 23 8)
      (fieldAt w 6 14) (fieldAt w 0 6)
  | 0x07 => .frame q t (reservedSet w [(53, 5)]) (fieldAt w 48 5) (wordBit w 47) (wordBit w 46) (fieldAt w 32 14) (bvAt w 0 32)
  | 0x08 => .sjump q t (reservedSet w [(54, 4), (0, 38)]) (fieldAt w 48 6) (fieldAt w 38 10)
  | 0x0C =>
    let rsv := reservedSet w [(46, 1)]
    match bitsFrom w 56 2 with
    | 0 => .waitImm q t rsv (bvAt w 0 32)
    | 1 => .waitReg q t rsv (fieldAt w 52 4)
    | 2 => .waitEvent q t rsv (fieldAt w 48 4) (wordBit w 47) (fieldAt w 32 14)
    | _ => wrong
  | 0x0D => .waitd q t (reservedSet w [(46, 3), (0, 16)]) (fieldAt w 55 3) (wordBit w 54) (fieldAt w 50 4) (wordBit w 49) (fieldAt w 32 14)
      (fieldAt w 16 16)
  | 0x10 => .br q t (reservedSet w [(17, 41)]) (fieldAt w 0 17)
  | 0x11 => .bre q t (reservedSet w [(17, 35)]) (fieldAt w 54 4) (wordBit w 53) (wordBit w 52) (fieldAt w 0 17)
  | 0x12 => .brc q t (reservedSet w [(34, 12), (17, 1)]) (fieldAt w 55 3) (wordBit w 54) (fieldAt w 50 4) (fieldAt w 46 4) (bvAt w 18 16)
      (fieldAt w 0 17)
  | 0x13 => .brp q t (reservedSet w [(17, 22)]) (fieldAt w 55 3) (wordBit w 54) (wordBit w 53) (fieldAt w 39 14) (fieldAt w 0 17)
  | 0x14 => .loop q t (reservedSet w [(34, 3), (0, 17)]) (wordBit w 57) (fieldAt w 53 4) (fieldAt w 37 16) (fieldAt w 17 17)
  | 0x18 => .sync q t (reservedSet w [(0, 38)]) (fieldAt w 56 2) (fieldAt w 52 4) (fieldAt w 38 14)
  | 0x20 => .alu q t (reservedSet w [(0, 42)]) (fieldAt w 54 4) (fieldAt w 50 4) (fieldAt w 46 4) (fieldAt w 42 4)
  | 0x21 => .alui q t (reservedSet w [(46, 4), (32, 10)]) (fieldAt w 54 4) (fieldAt w 50 4) (fieldAt w 42 4) (bvAt w 0 32)
  | 0x22 => .get q t (reservedSet w [(0, 50)]) (fieldAt w 54 4) (fieldAt w 50 4)
  | _ => wrong

/-- A flag as a bit at a place. -/
def bitAt (b : Bool) (lo : Nat) : Nat := if b then 2 ^ lo else 0

/-- The fields OFS and SUB of a command instruction. -/
def timeBits (ofs sub : Nat) : Nat := ofs * 2 ^ 6 + sub

/-- The fields A, L, COND and CH of a set member. -/
def memberBits (a l : Bool) (cond ch : Nat) : Nat := bitAt a 57 + bitAt l 56 + cond * 2 ^ 52 + ch * 2 ^ 47

/-- The word of a sequencer instruction whose reserved bits are zero (R94); none where the command is no sequencer instruction. -/
def threadWord (i : Instr) : Option Nat :=
  match i with
  | .nop _ _ false => some 0
  | .halt _ _ false => some (1 * 2 ^ 58)
  | .play _ _ a l cond ch seg sa amp ofs sub =>
    some (4 * 2 ^ 58 + memberBits a l cond ch + seg * 2 ^ 37 + bitAt sa 36 + amp.toNat * 2 ^ 20 + timeBits ofs sub)
  | .flux _ _ a l cond ch seg amp ofs sub =>
    some (5 * 2 ^ 58 + memberBits a l cond ch + seg * 2 ^ 36 + amp.toNat * 2 ^ 20 + timeBits ofs sub)
  | .fluxMode1 _ _ a l cond ch code false ofs sub =>
    some (5 * 2 ^ 58 + memberBits a l cond ch + 2 ^ 46 + code.toNat * 2 ^ 26 + timeBits ofs sub)
  | .meas _ _ false ch wgt len arm ofs sub =>
    some (6 * 2 ^ 58 + ch * 2 ^ 52 + wgt * 2 ^ 44 + len * 2 ^ 31 + arm * 2 ^ 23 + timeBits ofs sub)
  | .frame _ _ false ch mode src ofs val => some (7 * 2 ^ 58 + ch * 2 ^ 48 + bitAt mode 47 + bitAt src 46 + ofs * 2 ^ 32 + val.toNat)
  | .sjump _ _ false ch seg => some (8 * 2 ^ 58 + ch * 2 ^ 48 + seg * 2 ^ 38)
  | .waitImm _ _ false imm => some (0x0C * 2 ^ 58 + imm.toNat)
  | .waitReg _ _ false reg => some (0x0C * 2 ^ 58 + 1 * 2 ^ 56 + reg * 2 ^ 52)
  | .waitEvent _ _ false ev clr gap => some (0x0C * 2 ^ 58 + 2 * 2 ^ 56 + ev * 2 ^ 48 + bitAt clr 47 + gap * 2 ^ 32)
  | .waitd _ _ false sub reb sd wr gap tmo =>
    some (0x0D * 2 ^ 58 + sub * 2 ^ 55 + bitAt reb 54 + sd * 2 ^ 50 + bitAt wr 49 + gap * 2 ^ 32 + tmo * 2 ^ 16)
  | .br _ _ false tgt => some (0x10 * 2 ^ 58 + tgt)
  | .bre _ _ false ev neg clr tgt => some (0x11 * 2 ^ 58 + ev * 2 ^ 54 + bitAt neg 53 + bitAt clr 52 + tgt)
  | .brc _ _ false cc immb sa sb imm tgt =>
    some (0x12 * 2 ^ 58 + cc * 2 ^ 55 + bitAt immb 54 + sa * 2 ^ 50 + sb * 2 ^ 46 + imm.toNat * 2 ^ 18 + tgt)
  | .brp _ _ false sub neg reb gap tgt => some (0x13 * 2 ^ 58 + sub * 2 ^ 55 + bitAt neg 54 + bitAt reb 53 + gap * 2 ^ 39 + tgt)
  | .loop _ _ false src reg cnt last => some (0x14 * 2 ^ 58 + bitAt src 57 + reg * 2 ^ 53 + cnt * 2 ^ 37 + last * 2 ^ 17)
  | .sync _ _ false scope bar gap => some (0x18 * 2 ^ 58 + scope * 2 ^ 56 + bar * 2 ^ 52 + gap * 2 ^ 38)
  | .alu _ _ false sd sa sb fn => some (0x20 * 2 ^ 58 + sd * 2 ^ 54 + sa * 2 ^ 50 + sb * 2 ^ 46 + fn * 2 ^ 42)
  | .alui _ _ false sd sa fn imm => some (0x21 * 2 ^ 58 + sd * 2 ^ 54 + sa * 2 ^ 50 + fn * 2 ^ 42 + imm.toNat)
  | .get _ _ false sd sel => some (0x22 * 2 ^ 58 + sd * 2 ^ 54 + sel * 2 ^ 50)
  | _ => none

/-- A memory lane's fields, each 13 bits below its enable, and its stage (R239). -/
def laneAt (w en stage : Nat) : Lane :=
  { en := wordBit w en, wr := wordBit w (en - 1), r := fieldAt w (en - 6) 5, p := fieldAt w (en - 9) 3, m := fieldAt w (en - 12) 3,
    stage := fieldAt w stage 3 }

/-- The fields of a parallel instruction beside OP (R239). -/
def parAt (w : Nat) : Par :=
  { ad := fieldAt w 55 2, as := fieldAt w 53 2, va := fieldAt w 48 5, vb := fieldAt w 43 5, x := laneAt w 42 11, y := laneAt w 29 8,
    so := fieldAt w 14 3, rsv := reservedSet w [(0, 8)] }

/-- The parallel instruction of an operation code (R240); a reserved code spells one with a reserved value. -/
def parInstr (q c : Fin 16) (op : Nat) (p : Par) : Instr :=
  match op with
  | 0x00 => .beaterNop q c p
  | 0x01 => .mpy q c p
  | 0x02 => .mac q c p
  | 0x03 => .msu q c p
  | 0x04 => .dsq q c p
  | 0x05 => .dsqa q c p
  | 0x06 => .lda q c p
  | 0x07 => .addv q c p
  | 0x08 => .adda q c p
  | 0x09 => .suba q c p
  | 0x0A => .sha q c p
  | 0x0B => .clr q c p
  | 0x0C => .minx q c p
  | 0x0D => .gex q c p
  | 0x0E => .cmp q c p
  | 0x0F => .tst q c p
  | 0x10 => .stv q c p
  | 0x11 => .abs q c p
  | 0x12 => .ldal q c p
  | _ => .beaterNop q c { p with rsv := true }

/-- The instruction a word spells to a Beater context (R239 to R241). -/
def contextInstr (q c : Fin 16) (w : Nat) : Instr :=
  if wordBit w 63 then
    match bitsFrom w 57 6 with
    | 0x00 => .beaterHalt q c (reservedSet w [(0, 57)])
    | 0x01 => .beaterBr q c (reservedSet w [(13, 44)]) (fieldAt w 0 13)
    | 0x02 => .brf q c (reservedSet w [(13, 41)]) (fieldAt w 54 3) (fieldAt w 0 13)
    | 0x03 => .beaterLoop q c (reservedSet w [(26, 5), (0, 13)]) (wordBit w 56) (fieldAt w 53 3) (wordBit w 52) (fieldAt w 36 16)
        (fieldAt w 31 5) (fieldAt w 13 13)
    | 0x04 => .waitin q c (reservedSet w [(0, 36)]) (fieldAt w 52 5) (fieldAt w 36 16)
    | 0x05 => .outp q c (reservedSet w [(0, 45)]) (fieldAt w 55 2) (fieldAt w 53 2) (fieldAt w 51 2) (wordBit w 50) (fieldAt w 45 5)
    | 0x06 => .outr q c (reservedSet w [(0, 44)]) (fieldAt w 52 5) (wordBit w 51) (fieldAt w 44 7)
    | 0x07 => .setp q c (reservedSet w [(16, 36)]) (fieldAt w 54 3) (fieldAt w 52 2) (bvAt w 0 16)
    | 0x08 => .ldi q c (reservedSet w [(24, 28)]) (fieldAt w 52 5) (bvAt w 0 24)
    | 0x09 => .rot q c (reservedSet w [(0, 53)]) (fieldAt w 53 4)
    | _ => .beaterHalt q c true
  else parInstr q c (bitsFrom w 57 6) (parAt w)

/-- The word of a memory lane's fields (R239). -/
def laneBits (l : Lane) (en stage : Nat) : Nat :=
  bitAt l.en en + bitAt l.wr (en - 1) + l.r * 2 ^ (en - 6) + l.p * 2 ^ (en - 9) + l.m * 2 ^ (en - 12) + l.stage * 2 ^ stage

/-- The word of a parallel instruction whose reserved bits are zero (R239). -/
def parWord (op : Nat) (p : Par) : Option Nat :=
  if p.rsv then none
  else
    some (op * 2 ^ 57 + p.ad * 2 ^ 55 + p.as * 2 ^ 53 + p.va * 2 ^ 48 + p.vb * 2 ^ 43 + laneBits p.x 42 11 + laneBits p.y 29 8
      + p.so * 2 ^ 14)

/-- The word of a Beater instruction whose reserved bits are zero (R239 to R241); none where the command is no Beater instruction. -/
def contextWord (i : Instr) : Option Nat :=
  match i with
  | .beaterNop _ _ p => parWord 0x00 p
  | .mpy _ _ p => parWord 0x01 p
  | .mac _ _ p => parWord 0x02 p
  | .msu _ _ p => parWord 0x03 p
  | .dsq _ _ p => parWord 0x04 p
  | .dsqa _ _ p => parWord 0x05 p
  | .lda _ _ p => parWord 0x06 p
  | .addv _ _ p => parWord 0x07 p
  | .adda _ _ p => parWord 0x08 p
  | .suba _ _ p => parWord 0x09 p
  | .sha _ _ p => parWord 0x0A p
  | .clr _ _ p => parWord 0x0B p
  | .minx _ _ p => parWord 0x0C p
  | .gex _ _ p => parWord 0x0D p
  | .cmp _ _ p => parWord 0x0E p
  | .tst _ _ p => parWord 0x0F p
  | .stv _ _ p => parWord 0x10 p
  | .abs _ _ p => parWord 0x11 p
  | .ldal _ _ p => parWord 0x12 p
  | .beaterHalt _ _ false => some (2 ^ 63)
  | .beaterBr _ _ false tgt => some (2 ^ 63 + 1 * 2 ^ 57 + tgt)
  | .brf _ _ false cc tgt => some (2 ^ 63 + 2 * 2 ^ 57 + cc * 2 ^ 54 + tgt)
  | .beaterLoop _ _ false rot stg1 src cnt vr last =>
    some (2 ^ 63 + 3 * 2 ^ 57 + bitAt rot 56 + stg1 * 2 ^ 53 + bitAt src 52 + cnt * 2 ^ 36 + vr * 2 ^ 31 + last * 2 ^ 13)
  | .waitin _ _ false vr tmo => some (2 ^ 63 + 4 * 2 ^ 57 + vr * 2 ^ 52 + tmo * 2 ^ 36)
  | .outp _ _ false out src imm gate vr =>
    some (2 ^ 63 + 5 * 2 ^ 57 + out * 2 ^ 55 + src * 2 ^ 53 + imm * 2 ^ 51 + bitAt gate 50 + vr * 2 ^ 45)
  | .outr _ _ false vr last tag => some (2 ^ 63 + 6 * 2 ^ 57 + vr * 2 ^ 52 + bitAt last 51 + tag * 2 ^ 44)
  | .setp _ _ false p field imm => some (2 ^ 63 + 7 * 2 ^ 57 + p * 2 ^ 54 + field * 2 ^ 52 + imm.toNat)
  | .ldi _ _ false vr imm => some (2 ^ 63 + 8 * 2 ^ 57 + vr * 2 ^ 52 + imm.toNat)
  | .rot _ _ false n => some (2 ^ 63 + 9 * 2 ^ 57 + n * 2 ^ 53)
  | _ => none

/-- The instruction a thread fetches: what its program memory holds at its address (R94, R358). -/
def threadFetch (s : State) (q t : Fin 16) : Instr := threadInstr q t (memRead s (progKey q.val (thread s q.val t.val).pc) 8)

/-- The instruction a Beater context fetches (R225, R358). -/
def contextFetch (s : State) (q c : Fin 16) : Instr := contextInstr q c (memRead s (0x6000000 + q.val * 0x80000 + 8 * (ctxOf s q.val c.val).pc) 8)

end Sys2Proof.Machine
end

