-- ==== Sys2Proof/WellFormed.lean ====
section
/-! DEFINITION. Well-formed commands: every operand fits the field, cell or message that carries it. Operands whose type already says so
need no check. -/

namespace Sys2Proof

/-- A list of bytes. -/
def bytesOk (l : List Nat) : Bool := l.all (fun b => decide (b < 256))

/-- The head of a Felt request fits its 32-bit fields (R384). -/
def FeltHead.wf (h : FeltHead) : Bool := decide (h.session < 2 ^ 32) && decide (h.seq < 2 ^ 32)

/-- A command's operands fit the fields that carry them. -/
def wellFormed (i : Instr) : Bool :=
  match i with
  | .resetNFall => true
  | .resetNRise _ _ => true
  | .boot => true
  | .loftPowerOn _ => true
  | .vddIoFall => true
  | .registerWrite _ addr size val => decide (addr < 2 ^ 26) && decide (size % 8 = 0) && decide (8 ≤ size) && decide (val < 2 ^ size)
  | .windowWrite _ addr size val => decide (addr < 2 ^ 31) && decide (size % 8 = 0) && decide (8 ≤ size) && decide (val < 2 ^ size)
  | .shotBoundary => true
  | .bridgeParityError _ => true
  | .bridgeLaneSwitch _ _ => true
  | .bridgeLaneSwitchDone _ _ => true
  | .cellFault _ => true
  | .quireRestore _ _ => true
  | .quireRestoreComplete _ => true
  | .vatmanFault _ _ => true
  | .vatmanRestartComplete _ _ => true
  | .nocArbApply => true
  | .refEdgeTimeout => true
  | .refFreqWindowEnd _ => true
  | .dandyLock => true
  | .tbTimeLoRead => true
  | .timingCellRx _ c => decide (c.tdep < 2 ^ 64) && decide (c.echoDep < 2 ^ 64) && decide (c.echoArr < 2 ^ 64) && decide (-32768 ≤ c.fasym) && decide (c.fasym < 32768)
  | .measurementComplete _ => true
  | .rootTrimMove => true
  | .ptpSyncRx _ domain interval _ => decide (domain < 256) && decide (-128 ≤ interval) && decide (interval < 128)
  | .ptpFollowUpRx _ domain _ => decide (domain < 256)
  | .ptpDelayReqTx => true
  | .ptpDelayRespRx _ domain _ => decide (domain < 256)
  | .tbWctNsRead => true
  | .txDescriptorTake _ => true
  | .timedLaunch _ => true
  | .normalFrameTx _ => true
  | .frameTxComplete _ => true
  | .nop _ _ _ => true
  | .halt _ _ _ => true
  | .play _ _ _ _ _ _ _ _ _ _ _ => true
  | .flux _ _ _ _ _ _ _ _ _ _ => true
  | .fluxMode1 _ _ _ _ _ _ _ _ _ _ => true
  | .meas _ _ _ _ _ _ _ _ _ => true
  | .frame _ _ _ _ _ _ _ _ => true
  | .sjump _ _ _ _ _ => true
  | .waitImm _ _ _ _ => true
  | .waitReg _ _ _ _ => true
  | .waitEvent _ _ _ _ _ _ => true
  | .waitd _ _ _ _ _ _ _ _ _ => true
  | .waitdTimeout _ _ => true
  | .br _ _ _ _ => true
  | .bre _ _ _ _ _ _ _ => true
  | .brc _ _ _ _ _ _ _ _ _ => true
  | .brp _ _ _ _ _ _ _ _ => true
  | .loop _ _ _ _ _ _ _ => true
  | .sync _ _ _ _ _ _ => true
  | .alu _ _ _ _ _ _ _ => true
  | .alui _ _ _ _ _ _ _ => true
  | .get _ _ _ _ _ => true
  | .barrierRelease _ _ _ => true
  | .barrierTimeout _ _ => true
  | .commandPlay _ _ _ => true
  | .segmentIterationEnd _ _ _ => true
  | .streamWrite _ _ => true
  | .streamUnderrun _ _ => true
  | .streamEnable _ _ _ _ => true
  | .threadStart _ _ _ => true
  | .threadStop _ _ _ => true
  | .threadFlush _ _ _ => true
  | .seqRun _ _ _ => true
  | .ftwCommit _ _ _ _ => true
  | .ftwEffect _ _ => true
  | .frameClr _ _ _ => true
  | .pdCommit _ _ _ => true
  | .drvEnable _ _ _ => true
  | .rangeChange _ _ _ _ => true
  | .rangeSettled _ _ => true
  | .softwareMute _ _ _ _ => true
  | .cwAmpWrite _ _ _ _ => true
  | .cwRampEnd _ _ => true
  | .toneFault _ _ _ => true
  | .toneSubstitution _ _ => true
  | .toneSpareForce _ _ _ => true
  | .toneSpareRelease _ _ => true
  | .ladderWrite _ _ _ _ => true
  | .ladderRampUpdate _ _ => true
  | .deglitchHoldEnd _ _ => true
  | .fluxEnable _ _ _ => true
  | .fluxSwitchClose _ _ => true
  | .fluxDisable _ _ _ => true
  | .fluxSwitchOpen _ _ => true
  | .fluxRangeChange _ _ _ _ _ => true
  | .fluxRangeSettled _ _ => true
  | .pressCommit _ _ _ => true
  | .pressClr _ _ _ => true
  | .biasSetWrite _ _ _ _ => true
  | .biasRampUpdate _ _ => true
  | .biasIlim _ _ _ => true
  | .biasSeqUp _ _ => true
  | .biasSeqDown _ _ => true
  | .biasSeqDwellEnd _ => true
  | .windowCrossing _ _ => true
  | .windowInside _ _ => true
  | .windowArm _ => true
  | .dkWinThrWrite _ _ _ _ _ => true
  | .dkMapWrite _ _ => true
  | .dkLatchClear _ _ => true
  | .tripinFall _ => true
  | .thresholdReadback _ _ _ => true
  | .readbackDone _ => true
  | .acqEnable _ _ => true
  | .adcReady _ => true
  | .adcOverload _ _ _ => true
  | .windowResult _ _ codes => codes.all (fun c => decide (-2048 ≤ c) && decide (c < 2048))
  | .recordEnqueue _ => true
  | .discCommit _ _ => true
  | .resultQueueEnable _ _ _ _ _ => true
  | .resultMove _ => true
  | .dstRdWrite _ _ _ => true
  | .resultPop _ _ => true
  | .readoutCellFault _ _ _ => true
  | .readoutSubstitution _ _ => true
  | .readoutSpareForce _ _ _ _ => true
  | .readoutSpareRelease _ _ => true
  | .beaterNop _ _ _ => true
  | .mpy _ _ _ => true
  | .mac _ _ _ => true
  | .msu _ _ _ => true
  | .dsq _ _ _ => true
  | .dsqa _ _ _ => true
  | .lda _ _ _ => true
  | .addv _ _ _ => true
  | .adda _ _ _ => true
  | .suba _ _ _ => true
  | .sha _ _ _ => true
  | .clr _ _ _ => true
  | .minx _ _ _ => true
  | .gex _ _ _ => true
  | .cmp _ _ _ => true
  | .tst _ _ _ => true
  | .stv _ _ _ => true
  | .abs _ _ _ => true
  | .ldal _ _ _ => true
  | .beaterHalt _ _ _ => true
  | .beaterBr _ _ _ _ => true
  | .brf _ _ _ _ _ => true
  | .beaterLoop _ _ _ _ _ _ _ _ _ => true
  | .waitin _ _ _ _ _ => true
  | .waitinTimeout _ _ => true
  | .outp _ _ _ _ _ _ _ _ => true
  | .outr _ _ _ _ _ _ => true
  | .setp _ _ _ _ _ _ => true
  | .ldi _ _ _ _ _ => true
  | .rot _ _ _ _ => true
  | .ctxStart _ _ _ => true
  | .ctxStop _ _ _ => true
  | .beaterEnable _ _ _ => true
  | .engineFault _ => true
  | .engineSubstitution _ => true
  | .beaterForce _ _ => true
  | .beaterRelease _ _ => true
  | .decisionCellRx _ _ => true
  | .cellSlot _ _ => true
  | .pfXor _ _ _ => true
  | .pfClr _ => true
  | .seStart _ => true
  | .seStop _ => true
  | .roundClose => true
  | .decodePass => true
  | .decodePassEnd => true
  | .boundaryEntryRx _ _ _ => true
  | .postEvent _ _ => true
  | .taskExecution _ _ => true
  | .swfire _ _ => true
  | .cellClr _ => true
  | .captureArm _ _ => true
  | .captureStop _ _ => true
  | .captureForce _ _ => true
  | .captureCntClr _ _ => true
  | .prefillDone _ => true
  | .captureTrigger _ _ _ _ _ => true
  | .autoTimeout _ => true
  | .recordComplete _ _ _ _ _ => true
  | .rearmEnd _ => true
  | .capRdWrite _ _ _ => true
  | .portRoleWrite _ _ _ => true
  | .trainEnd _ => true
  | .trainTimeout _ => true
  | .linkCellRx _ _ c _ => decide (c.uid < 2 ^ 64) && decide (c.cid < 2 ^ 32) && decide (-32768 ≤ c.fasym) && decide (c.fasym < 32768)
  | .cellCrcFail _ _ _ => true
  | .portReqWrite _ _ _ => true
  | .idleCellRx _ _ => true
  | .signalDetect _ => true
  | .eyeScanStart _ _ _ _ _ _ => true
  | .eyeScanDone _ => true
  | .heartbeatSend => true
  | .heartbeat _ _ h => decide (h.cid < 2 ^ 32) && decide (h.uid < 2 ^ 64) && decide (h.epoch < 2 ^ 32) && decide (h.pendEpoch < 2 ^ 32) && decide (h.pendT < 2 ^ 32)
  | .masterTimeout => true
  | .join _ _ uid _ => decide (uid < 2 ^ 64)
  | .assign _ _ uid _ epoch => decide (uid < 2 ^ 64) && decide (epoch < 2 ^ 32)
  | .refuse _ _ uid => decide (uid < 2 ^ 64)
  | .part _ _ _ => true
  | .shotAnnounce => true
  | .shot _ _ b _ => decide (b < 2 ^ 64)
  | .shotNextWrite _ _ => true
  | .barArrive _ _ _ tt => decide (tt < 2 ^ 64)
  | .barRelease _ _ _ r => decide (r < 2 ^ 64)
  | .clPrepare _ _ => true
  | .prepare _ _ epoch id => decide (epoch < 2 ^ 32) && decide (id < 2 ^ 16)
  | .ack _ _ epoch code => decide (epoch < 2 ^ 32) && decide (code < 256)
  | .prepareTimeout => true
  | .commit _ _ epoch t => decide (epoch < 2 ^ 32) && decide (t < 2 ^ 64)
  | .cancel _ _ epoch => decide (epoch < 2 ^ 32)
  | .commitApply => true
  | .clResync _ _ => true
  | .resync _ _ _ epoch => decide (epoch < 2 ^ 32)
  | .eccWriteback _ _ => true
  | .scrubPass _ _ => true
  | .lpddr6Training _ _ _ => true
  | .lpddr6Recal _ => true
  | .lpddr6Refresh _ _ => true
  | .reamStoreStart => true
  | .reamStoreComplete => true
  | .dmaStart _ _ _ data => data.all (fun v => decide (v < 2 ^ 32))
  | .dmaDone _ => true
  | .ethFrameRx _ _ => true
  | .feltHello _ seq _ key => decide (seq < 2 ^ 32) && decide (key < 2 ^ 128)
  | .feltOpen _ session seq _ => decide (session < 2 ^ 32) && decide (seq < 2 ^ 32)
  | .feltRead h index sub offset maxlen => h.wf && decide (index < 2 ^ 16) && decide (sub < 256) && decide (offset < 2 ^ 32) && decide (maxlen < 2 ^ 16)
  | .feltWrite h _ _ index sub offset change val => h.wf && decide (index < 2 ^ 16) && decide (sub < 256) && decide (offset < 2 ^ 32) && decide (change < 2 ^ 16) && bytesOk val
  | .feltSubscribe h mask => h.wf && decide (mask < 2 ^ 32)
  | .feltNotifyAck h devseq => h.wf && decide (devseq < 2 ^ 32)
  | .feltKeepalive h => h.wf
  | .feltClose h => h.wf
  | .feltNotifyResend session _ => decide (session < 2 ^ 32)
  | .sessionIdleTimeout session => decide (session < 2 ^ 32)
  | .mailboxGo _ _ => true
  | .mailboxResponse => true
  | .storeAll h => h.wf
  | .restoreDefaults h => h.wf
  | .discardStaged h => h.wf
  | .pmbUp _ => true
  | .pmbDown _ => true
  | .pmbPoll _ _ => true
  | .pmbEntryTimeout => true
  | .pmbDelayEnd => true
  | .pmbMonitorRound _ => true
  | .pmbSalert _ _ => true
  | .rootProvision h modulus => h.wf && bytesOk modulus
  | .keyInstall h _ id priv => h.wf && decide (id < 2 ^ 128) && decide (priv < 256)
  | .keyRemove h id => h.wf && decide (id < 2 ^ 128)
  | .imageWrite h _ => h.wf
  | .imageConfirm h => h.wf
  | .recoveryImage seq _ => decide (seq < 2 ^ 32)
  | .quoteRequest h nonce => h.wf && bytesOk nonce
  | .quoteRead h offset maxlen => h.wf && decide (offset < 2 ^ 32) && decide (maxlen < 2 ^ 16)
  | .debugToken _ nonce _ _ => decide (nonce < 2 ^ 256)
  | .zeroize => true
  | .sizingRun _ _ => true
  | .pressFitRequest _ _ _ => true
  | .sizingAbort _ _ => true
  | .tempUpdate _ _ => true
  | .sizingIdleRunStart _ => true
  | .procedureComplete _ _ _ => true
  | .factorySetWrite h _ _ _ => h.wf
  | .fieldSetWrite h _ _ => h.wf
  | .powerReq _ _ => true
  | .powerTransitionComplete => true
  | .wake _ _ => true
  | .coreWarning => true
  | .coreWarningRelease => true
  | .brownOut => true
  | .railLoss _ => true
  | .loftConversion _ _ => true
  | .thermalSample l => decide (l.length = 64)
  | .sensorSelfTest _ => true
  | .graceExpiry => true
  | .pwrStop _ => true
  | .orderlyStop => true
  | .stopPowerdown => true
  | .pwrRestart _ => true
  | .thermalTrip _ => true
  | .coreFault _ => true
  | .coreSubstitution _ _ => true
  | .watchdogExpiry _ => true
  | .mgmtCoreRestart _ => true
  | .deviceTimeTick => true
  | .phaseLoopOutOfLock _ _ => true
  | .supplyRailReturn _ => true
  | .biasTmoExpiry => true
  | .pcieLinkChange _ _ => true
  | .ethLinkChange _ _ => true
  | .debugNonceRequest => true

end Sys2Proof
end

