-- ==== Sys2Proof/Safety.lean ====
section
/-! DEFINITION. The terms in which statements about the machine are made: a command completes, a step is safe, what a command leaves as it
was. -/

namespace Sys2Proof.Machine

/-- A command completes on a state: it answers a next state, and P holds of it. -/
def completes (c : Instr) (s : State) (P : State → Prop) : Prop := ∃ t, exec c s = .next t ∧ P t

/-- A step is safe: it answers a next state. -/
def safeStep (s : State) : Prop := ∃ t, step s = .next t

/-- The parts of the state beside its register fields. -/
inductive Part where
  | mem | now | free | sched | bounds | taints | post | seq | out | deckle | head | beater | couch | capture | time | chain | store
  | host | sec | sizing | power | emitted | pending
deriving DecidableEq, Repr

/-- A part of the state is as it was. -/
def Part.kept (p : Part) (s t : State) : Prop :=
  match p with
  | .mem => t.mem = s.mem
  | .now => t.now = s.now
  | .free => t.free = s.free
  | .sched => t.sched = s.sched
  | .bounds => t.bounds = s.bounds
  | .taints => t.taints = s.taints
  | .post => t.post = s.post
  | .seq => t.seq = s.seq
  | .out => t.out = s.out
  | .deckle => t.deckle = s.deckle
  | .head => t.head = s.head
  | .beater => t.beater = s.beater
  | .couch => t.couch = s.couch
  | .capture => t.capture = s.capture
  | .time => t.time = s.time
  | .chain => t.chain = s.chain
  | .store => t.store = s.store
  | .host => t.host = s.host
  | .sec => t.sec = s.sec
  | .sizing => t.sizing = s.sizing
  | .power => t.power = s.power
  | .emitted => t.emitted = s.emitted
  | .pending => t.pending = s.pending

/-- Every part of the state is as it was but those listed, and every register field reads as before but those listed. -/
def onlyChanges (parts : List Part) (fields : List Fld) (s t : State) : Prop :=
  (∀ p : Part, p ∉ parts → p.kept s t) ∧ (∀ f : Fld, (∀ x ∈ fields, x.key ≠ f.key) → getF t f = getF s f)

/-- Every part of the state is as it was but those listed, and every field of every register but those named reads as before. -/
def onlyIn (parts : List Part) (names : List RegName) (s t : State) : Prop :=
  (∀ p : Part, p ∉ parts → p.kept s t) ∧ (∀ f : Fld, f.key.reg.name ∉ names → getF t f = getF s f)

/-- The device answers an access with a code, and sends nothing else. -/
def answered (m : Master) (code : Nat) (s t : State) : Prop := t.emitted = s.emitted ++ [.response m code]

/-- An access is turned away with a code: it is counted, recorded and signalled, and has no other effect (R376). -/
def turnedAway (m : Master) (code : Nat) (s t : State) : Prop :=
  (∃ l, t.emitted = s.emitted ++ l ++ [.response m code]) ∧ getF t F.BUS_CNT_ERR = (getF s F.BUS_CNT_ERR + 1) % 2 ^ 16 ∧
  onlyIn [.emitted] [.BUS_CNT, .BUS_ERR_STAT, .BUS_ERR_ADDR, .MSIX_PBA] s t

/-- A command that writes a register whose block is powered, and whose region is not down, is answered without error, and P holds then. -/
def accepted (m : Master) (r : Reg) (c : Instr) (s : State) (P : State → Prop) : Prop :=
  regPowered s r = true → accessStalls s r = false → completes c s (fun t => answered m 0 s t ∧ P t)

/-- A command that writes a register whose block is powered, and whose region is not down, is refused (R375, R376). -/
def refused (m : Master) (r : Reg) (c : Instr) (s : State) : Prop :=
  regPowered s r = true → accessStalls s r = false → completes c s (turnedAway m 1 s)

/-- A thread may issue its next instruction: it runs or stalls, its core is enabled and issues, and the instruction lies in its window. -/
def mayIssue (s : State) (q t : Nat) : Prop := canIssue s q t = true ∧ pcInWindow s q t = true

/-- Nothing but one thread has changed, and of the registers only the state and cause it shows. -/
def onlyThread (s u : State) (q t : Nat) : Prop :=
  onlyChanges [.seq] [F.THR_STAT_STATE q t, F.THR_STAT_WCAUSE q t] s u ∧
  (∀ q' t', (q', t') ≠ (q, t) → thread u q' t' = thread s q' t') ∧ { u.seq with threads := s.seq.threads } = s.seq

/-- The registers a late command, a fault of a thread and the taint of a shot mark (R33, R80, R110, R209). -/
def lateRegs : List RegName := [.THR_STAT, .THR_LATCH, .THR_CNT, .SEQ_CNT_LATE, .HB_RQ_CNT, .HB_RQ_CREDIT]

/-- The registers an idle quire's power gating touches (R456), and the abandoning of its Sizing procedure (R422). -/
def gateRegs : List RegName := [.PWR_DOM, .QERR_STAT, .SZ_Q_CNT, .SZ_Q_LATCH, .SZ_Q_STAT]

/-- What a change of the Deckle's trips can reach (R182 to R186, R422): the outputs, flux channels and bias sources, the late commands of their
players, a Sizing procedure. -/
def tripParts : List Part := [.out, .sched, .post, .seq, .taints, .head, .sizing]
def tripRegs : List RegName :=
  [.DK_GRP_CFG, .DRV_STAT, .DRV_CNT, .DRV_LATCH, .FLX_STAT, .FLX_CNT, .FLX_LATCH, .FLX_LADDER_NOW, .BIAS_STAT, .BIAS_LATCH, .BIAS_NOW,
   .BIAS_SEQ, .THR_LATCH, .THR_CNT, .SEQ_CNT_LATE, .HB_RQ_CNT, .HB_RQ_CREDIT, .SZ_Q_CNT, .SZ_Q_LATCH, .SZ_Q_STAT]

/-- The thread is in RUN, at the instruction after the one it was at, its loops taken into account. -/
def goesOn (s u : State) (q t : Nat) : Prop := thrState u q t = stRun ∧ (thread u q t).pc = (thread s q t).next.pc

/-- A Beater context may issue its next instruction: it runs or stalls, its engine issues, and the instruction is a good word in its window. -/
def ctxMayIssue (s : State) (q c : Nat) : Prop :=
  ctxCanIssue s q c = true ∧ getF s (F.CTX_WIN_BASE q c) ≤ (ctxOf s q c).pc ∧ (ctxOf s q c).pc ≤ getF s (F.CTX_WIN_LIMIT q c) ∧
  wordBad s (0x6000000 + q * 0x80000 + 8 * (ctxOf s q c).pc) = false

/-- A parallel instruction runs: it issues, its fields are in range, no two parts write one register, its lanes stay in their banks and load
good words (R228, R233, R240). -/
def parRuns (s : State) (q c : Nat) (p : Sys2Proof.Par) (stv : Bool) : Prop :=
  ctxMayIssue s q c ∧ parBad s q c p = false ∧ doubleWrite s q c p stv = false ∧ laneFits s q c false p.x = true ∧
  laneFits s q c true p.y = true ∧ laneBad s q c false p.x = false ∧ laneBad s q c true p.y = false

/-- The context is in RUN, at the instruction after the one it was at, its loops taken into account; the other contexts are as they were. -/
def ctxGoesOn (s u : State) (q c : Nat) : Prop :=
  ctxState u q c = stRun ∧ (ctxOf u q c).pc = (ctxFollow (ctxOf s q c).pc (rrbOf s q c) (ctxOf s q c).loops).1 ∧
  (∀ q' c', (q', c') ≠ (q, c) → ctxOf u q' c' = ctxOf s q' c')

/-- Every byte of memory reads as before. -/
def bytesKept (s t : State) : Prop := ∀ a, memByte t a = memByte s a

/-- What going out of epoch reaches (R56, R348, R349, R491): outputs, threads and their commands, taints, the registers that show them. -/
def fenceParts : List Part := [.taints, .post, .seq, .out, .head, .time, .sizing]
def fenceRegs : List RegName :=
  [.CL_STAT, .CL_LATCH, .TB_TSTAT, .TB_TLATCH, .DRV_STAT, .DRV_CNT, .DRV_LATCH, .FLX_STAT, .FLX_CNT, .FLX_LATCH, .SEG_W3, .WGT_W3]
    ++ lateRegs ++ gateRegs

/-- The device is out of epoch as R348 says: no thread is active, every drive and probe output is muted by the fence. -/
def isOutOfEpoch (t : State) : Prop :=
  flagF t F.CL_STAT_OUT_EPOCH = true ∧ (∀ q k : Fin 16, isActive (thrState t q k) = false) ∧
  (∀ (q : Fin 16) (o : Fin 5), flagF t (F.DRV_STAT_FENCE q o) = true ∧ flagF t (F.DRV_STAT_MUTED q o) = true)

/-- The bytes of memory from a key on, so many of them, may change; every other byte reads as before. -/
def bytesKeptBut (key n : Nat) (s t : State) : Prop := ∀ a, a < key ∨ key + n ≤ a → memByte t a = memByte s a

/-- What a chain port's change of state reaches (R55, R330, R338): its own registers, the parent and the time status that follows it. -/
def linkParts : List Part := [.post, .couch, .time, .chain]
def linkRegs : List RegName :=
  [.CHN_PORT_STAT, .CHN_PORT_SKEW, .CHN_PORT_CNT_B, .CHN_PORT_LATCH, .CHN_EYE_STAT, .CL_STAT, .TB_TSTAT, .TB_EVCNT, .TB_TLATCH, .TB_PORT_DELAY]

/-- The device answers an access with an error code, after signalling it where none was recorded, and no byte of memory changes (R376). -/
def errorAnswered (m : Master) (code : Nat) (s t : State) : Prop :=
  (∃ l, t.emitted = s.emitted ++ l ++ [.response m code]) ∧ getF t F.BUS_CNT_ERR = (getF s F.BUS_CNT_ERR + 1) % 2 ^ 16 ∧ t.mem = s.mem

/-- The registers a failed access is counted and recorded in (R376). -/
def errorRegs : List RegName := [.BUS_CNT, .BUS_ERR_STAT, .BUS_ERR_ADDR, .MSIX_PBA]

/-- The registers to which the chapters' tables give access codes and no behaviour of their own (R1, R12 to R14). -/
def plainRegs : List RegName :=
  [.CHIP_IDENT, .CHIP_PERS, .CHIP_FAULT_STAT, .CHIP_FAULT_LATCH, .TB_REF_STAT, .TB_TIME_LO, .TB_TIME_HI, .TB_TSTAT, .TB_TLATCH, .TB_OFFSET,
   .TB_PHASE, .TB_EVCNT, .TB_WCT_NS, .TB_WCT_SEC_LO, .TB_WCT_SEC_HI, .TB_WCT_DT_LO, .TB_WCT_DT_HI, .TB_WCT_STAT, .TB_WCT_OFFSET,
   .TB_WCT_RATE, .TB_LAUNCH_CNT, .TB_PORT_DELAY, .TB_PORT_ASYM, .SEQ_STAT, .SEQ_LAH, .SEQ_SYNC, .SEQ_SYNC_TMO, .SEQ_EVFLAG, .SEQ_CNT_LATE,
   .SEQ_CNT_SEG, .SEQ_CNT_STALL, .STRM_RING, .STRM_SRC_LO, .STRM_SRC_HI, .STRM_SRC_LEN, .STRM_LEVEL, .STRM_STAT, .STRM_CNT, .THR_STAT,
   .THR_LATCH, .THR_TT_LO, .THR_TT_HI, .THR_START_LO, .THR_START_HI, .THR_CNT, .TONE_SPARE_STAT, .TONE_SPARE_CNT, .DRV_STAT, .DRV_LATCH,
   .DRV_CNT, .DRV_QSTAT, .FLX_LADDER_NOW, .FLX_SLOW_RAMP, .FLX_STAT, .FLX_LATCH, .FLX_CNT, .FLX_XGAIN, .FLX_FIR, .BIAS_NOW, .BIAS_RAMP,
   .BIAS_STAT, .BIAS_LATCH, .DK_WIN_CNT, .DK_STAT, .DK_RB_DATA, .HB_STAT, .HB_LATCH, .HB_CNT_A, .HB_CNT_B, .HB_RQ_CREDIT, .HB_RQ_COUNT,
   .HB_RQ_PEAK, .HB_RQ_STAT, .HB_RQ_CNT, .HB_RQ_DST_WR, .HB_RQ_HEAD, .HB_SPARE_STAT, .HB_SPARE_CNT, .HB_RQ_DATA, .HB_DISC_ROT,
   .HB_DISC_OFS_I, .HB_DISC_OFS_Q, .HB_DISC_THR0, .HB_DISC_THR1, .HB_CELL_STAT, .HB_CELL_LAST_I, .HB_CELL_LAST_Q, .HB_CELL_LATCH,
   .HB_CELL_CNT, .BT_STAT, .BT_ESTAT, .BT_LATCH, .BT_CNT, .BT_OUT, .CTX_STAT, .CTX_LATCH, .CTX_CNT, .CTX_IX, .COUCH_LATCH, .COUCH_CNT,
   .COUCH_PSRC, .SE_STAT, .SE_LATCH, .SE_CNT_A, .SE_CNT_B, .SE_CNT_C, .SE_ROUND, .SE_LOG, .SE_GERR, .COUCH_PORT, .FRULE_B, .COUCH_PF,
   .POST_GRP_ONCE, .POST_CHCNT, .POST_GCNT, .POST_CCNT, .CL_UID_LO, .CL_UID_HI, .CL_STAT, .CL_EPOCH, .CL_LATCH, .CL_PREP_TMO, .CL_MTMO,
   .CL_SHOT_NEXT_LO, .CHN_EYE_RES, .CHN_EYE_STAT, .CHN_PORT_STAT, .CHN_PORT_LATCH, .CHN_PORT_CNT_A, .CHN_PORT_CNT_B, .CHN_PORT_SKEW,
   .CHN_PEER_UID_LO, .CHN_PEER_UID_HI, .MEM_ECC_CNT, .MEM_ECC_LATCH, .MEM_UE_ADDR, .MEM_SCRUB, .MEM_DDR_STAT, .MEM_DDR_CNT, .REAM_STAT,
   .REAM_CNT, .BUS_ERR_STAT, .BUS_ERR_ADDR, .BUS_CNT, .BUS_LOCK_ADDR, .MBX_STAT, .MBX_REQ, .MBX_RSP, .ETH_STAT, .ETH_TXR_RD, .ETH_TXCNT,
   .PCI_LINK, .PCI_NOTIFY_EN, .MSIX_PBA, .DMA_STAT, .PMB_STAT, .PMB_ENT_STAT, .PMB_ENT_MEAS, .SEC_STAT, .SEC_SVN, .SEC_CNT, .SZ_Q_STAT,
   .SZ_Q_TEMP, .SZ_Q_LATCH, .SZ_Q_REJ, .SZ_Q_CNT, .PWR_STAT, .PWR_LATCH, .PWR_CNT, .PWR_RST_CAUSE, .PWR_SHOTEFF, .PWR_STOP, .THM_STAT,
   .THM_LATCH, .THM_CNT, .PWR_DOM, .THM_ZONE, .LOFT_WAKE, .LOFT_WAKE_SRC, .LOFT_DATA, .LOFT_FOUT, .LOFT_DEC_A, .LOFT_DEC_B, .QERR_STAT,
   .QERR_LATCH, .QERR_CNT]

/-- What a write through a view leaves in a field of such a register, by its access code (R12 to R14): an RW field takes the data, or has its ones
toggled, set or cleared; a latch bit clears where a one, a counter where a zero is written, through the normal view only. -/
def fieldWritten (s : State) (view : View) (v : Nat) (x : Fld × Acc) : Nat :=
  let old := getF s x.1
  let new := v / 2 ^ x.1.key.lsb % 2 ^ x.1.width
  match x.2, view with
  | .rw, .normal => new
  | .rw, .toggle => old ^^^ new
  | .rw, .set => old ||| new
  | .rw, .clear => old &&& (2 ^ x.1.width - 1 - new)
  | .w1c, .normal => old &&& (2 ^ x.1.width - 1 - new)
  | .cnt, .normal => if new = 0 then 0 else old
  | _, _ => old

/-- Such a register has been written through a view: each field holds what the write leaves there. -/
def regWritten (s t : State) (r : Reg) (view : View) (v : Nat) : Prop := ∀ x ∈ fieldsOf r, getF t x.1 = fieldWritten s view v x

/-- Every register field that a reset does not keep reads its reset value, but for the registers named. -/
def asReset (names : List RegName) (t : State) : Prop :=
  ∀ f : Fld, keptByReset f.key = false → f.key.reg.name ∉ names → getF t f = f.rst

/-- What a reset leaves (R369, R409, R410, R416, R465, R476): what fuses, MRAM and the boot flash hold; no memory, no session, no thread. -/
def isReset (s t : State) : Prop :=
  t.mem = [] ∧ t.store.records = (storeAbort s).store.records ∧ t.power.log = s.power.log ∧ t.host = State.reset.host ∧ t.seq = State.reset.seq ∧
  t.out = State.reset.out ∧ t.time = State.reset.time ∧ t.chain = State.reset.chain ∧ t.power.booting = true ∧ t.sec.images = s.sec.images ∧
  t.emitted = s.emitted ∧ t.pending = s.pending ∧ asReset [.PWR_DOM, .PWR_RST_CAUSE, .SEC_STAT, .SEC_SVN] t

/-- The registers a tick of device time reaches: states, readings, latches and counters, and the values Sizing places. -/
def tickRegs : List RegName :=
  [.BIAS_CFG, .BIAS_NOW, .BIAS_SEQ, .BIAS_STAT, .BT_ESTAT, .BT_OUT, .CAP_LATCH, .CAP_STAT, .CAP_WR, .CHN_EYE_STAT, .CHN_PORT_SKEW, .CHN_PORT_STAT,
   .CL_LATCH, .CL_STAT, .CTX_IN, .CTX_IX, .CTX_PTR_A, .CTX_PTR_B, .CTX_STAT,
   .DRV_CNT, .DRV_DELAY, .DRV_LATCH, .DRV_PD_COEF, .DRV_STAT, .FLX_CNT, .FLX_IIR_C0, .FLX_IIR_C1, .FLX_IIR_D, .FLX_LADDER_NOW, .FLX_LATCH, .FLX_STAT,
   .FLX_XGAIN, .HB_CELL_STAT, .HB_RQ_CNT, .HB_RQ_CREDIT, .HB_RQ_PEAK, .HB_SPARE_STAT, .HB_STAT, .POST_CELL, .PWR_DOM, .PWR_LATCH, .QERR_STAT, .SEG_W3,
   .SEQ_CNT_LATE, .SEQ_CNT_SEG, .SEQ_EVFLAG, .SE_STAT, .SZ_Q_CNT, .SZ_Q_LATCH, .SZ_Q_STAT, .TB_EVCNT, .TB_PORT_DELAY, .TB_TLATCH, .TB_TSTAT, .THM_STAT,
   .THR_CNT, .THR_LATCH, .THR_STAT, .THR_SUB, .TONE_SPARE_STAT, .TONE_STAT, .WGT_W3, .XIN_CFG]

/-- The registers a shot boundary reaches where no change of mode is prepared: the calibration of R30, the latches it clears, the time it
corrects. -/
def boundaryRegs : List RegName :=
  [.BIAS_CFG, .BIAS_LATCH, .BIAS_NOW, .BIAS_SEQ, .BIAS_STAT, .CHN_EYE_STAT, .CHN_PORT_LATCH, .CHN_PORT_SKEW, .CHN_PORT_STAT, .CL_AGREE, .CL_LATCH,
   .CL_STAT, .DK_EXT_CTRL, .DK_GRP_CFG, .DK_LATCH, .DK_STAT, .DK_WIN_CNT, .DRV_CNT, .DRV_DELAY, .DRV_LATCH, .DRV_PD_COEF, .DRV_PD_CTRL, .DRV_STAT, .FLX_CNT, .FLX_FIR,
   .FLX_IIR_C0, .FLX_IIR_C1, .FLX_IIR_D, .FLX_LADDER_NOW, .FLX_LATCH, .FLX_PRESS_CTRL, .FLX_STAT, .FLX_XGAIN, .HB_CELL_STAT, .HB_CTRL, .HB_RQ_CNT,
   .HB_RQ_CREDIT, .PWR_DOM, .QERR_STAT, .SEG_W3, .SEQ_CNT_LATE, .SEQ_EVFLAG, .SE_STAT, .SZ_Q_CNT, .SZ_Q_LATCH, .SZ_Q_STAT, .TB_EVCNT, .TB_PHASE,
   .TB_TLATCH, .TB_TSTAT, .THR_CNT, .THR_LATCH, .THR_STAT, .TONE_GAIN, .WGT_W3]

/-- LOFT_WAKE_SRC shows a source (R441, R450). -/
def wakeRecorded (t : State) (w : WakeSource) : Bool :=
  match w with
  | .pin => flagF t F.LOFT_WAKE_SRC_PIN
  | .post => flagF t F.LOFT_WAKE_SRC_POST
  | .decision _ => flagF t F.LOFT_WAKE_SRC_DEC
  | .chain p => bitF t F.LOFT_WAKE_SRC_CHAIN p

/-! ### Felt requests (R384 to R391) -/

/-- The open session a request is of. -/
def feltSession (s : State) (h : FeltHead) : Option Session := sessionOf s (fun y => y.isOpen && y.id == h.session && y.via == h.via)

/-- A request reaches the firmware: its port is up, or its mailbox request waits for a response. -/
def feltArrives (s : State) (h : FeltHead) : Prop := routeOpen s h.via = true ∧ feltUp s = true

/-- A request is served: it arrives, of an open session x, authenticated, with a SEQ above the last accepted. -/
def feltAsks (s : State) (h : FeltHead) (x : Session) : Prop :=
  feltArrives s h ∧ h.session ≠ 0 ∧ h.auth = true ∧ feltSession s h = some x ∧ (x.last = none ∨ (x.last.map (·.1)).getD 0 < h.seq)

/-- The one response of the firmware: a message on the port, or what the mailbox is to be given. -/
def feltOut (s t : State) (via : Via) (session seq : Nat) (r : FeltRsp) : Prop :=
  match via with
  | .eth _ => t.emitted = s.emitted ++ [.felt session seq r] ∧ t.host.mbx = s.host.mbx
  | .mailbox => t.emitted = s.emitted ∧ t.host.mbx = some (session, seq, r)

/-- What the firmware answers a request of a session: one message with a type, a status and a body. -/
def feltSent (s t : State) (h : FeltHead) (x : Session) (type status : Nat) (body : List Nat) : Prop :=
  feltOut s t h.via x.id h.seq ⟨type, status, body⟩

/-- The sessions after a request of session x that changed it by f: its SEQ, response and the time it was heard are kept (R387, R388). -/
def feltKept (s t : State) (h : FeltHead) (x : Session) (r : Option FeltRsp) (f : Session → Session) : Prop :=
  t.host.sessions = s.host.sessions.map (fun y => if y.id = x.id then { f y with heard := t.now, last := some (h.seq, r) } else y)

/-- A request answered and kept. -/
def feltDone (s t : State) (h : FeltHead) (x : Session) (type status : Nat) (body : List Nat) : Prop :=
  feltSent s t h x type status body ∧ feltKept s t h x (some ⟨type, status, body⟩) id

/-- What the management complex holds is as it was, but for the sessions and the response that waits for the mailbox. -/
def feltRest (s t : State) : Prop := { t.host with sessions := s.host.sessions, mbx := s.host.mbx } = s.host

/-- A request answered with an error code, and with no other effect. -/
def feltRefused (c : Instr) (s : State) (h : FeltHead) (x : Session) (type code : Nat) : Prop :=
  completes c s (fun t => feltDone s t h x type code [] ∧ onlyIn [.host, .emitted] [] s t ∧ feltRest s t)

/-- A message is not served: it is discarded and counted (R386, R387). -/
def feltDropped (c : Instr) (s : State) : Prop :=
  completes c s (fun t => t.host = { s.host with discarded := s.host.discarded + 1 } ∧ onlyIn [.host] [] s t)

/-- A request of no session is served at Operator privilege: untagged, on the mailbox, and enabled (R391). -/
def feltOperator (s : State) (h : FeltHead) : Prop :=
  feltArrives s h ∧ h.session = 0 ∧ h.via = .mailbox ∧ h.auth = true ∧ dictNat s 0x1110 3 0 = 1

end Sys2Proof.Machine
end

