-- ==== Sys2Proof/Certificates/Slice0/Obligations.lean ====
section
/-! DEFINITION. The statements about this model. Each says which numbered rules of spec/ it rests on. -/

open Sys2Proof Sys2Proof.Machine

/-- ALU, ALUI and GET write their result into SD (R94); NOP writes nothing; each goes on to the next instruction and changes nothing but its own thread. -/
def Obligations.ThreadArithmetic : Prop :=
  ∀ (s : State) (q t sd sa sb : Fin 16) (imm : BitVec 32), mayIssue s q t →
    let a := sreg s q t sa
    let b := sreg s q t sb
    let x := thread s q t
    let gives := fun (c : Instr) (v : Word) => completes c s (fun u =>
      sreg u q t sd = v ∧ goesOn s u q t ∧ (thread u q t).tt = x.tt ∧ (∀ r : Fin 16, r ≠ sd → sreg u q t r = sreg s q t r) ∧ onlyThread s u q t)
    let both := fun (fn : Fin 16) (f : Word → Word → Word) =>
      gives (.alu q t false sd sa sb fn) (f a b) ∧ gives (.alui q t false sd sa fn imm) (f a imm)
    both 0 (· + ·) ∧ both 1 (· - ·) ∧ both 2 (· &&& ·) ∧ both 3 (· ||| ·) ∧ both 4 (· ^^^ ·) ∧
    both 5 (fun a b => a <<< (b.toNat % 32)) ∧ both 6 (fun a b => a >>> (b.toNat % 32)) ∧
    both 7 (fun a b => a.sshiftRight (b.toNat % 32)) ∧ both 8 (· * ·) ∧
    both 9 (fun a b => if a.toInt < b.toInt then a else b) ∧ both 10 (fun a b => if a.toInt < b.toInt then b else a) ∧ both 11 (fun _ b => b) ∧
    gives (.get q t false sd 0) (BitVec.ofNat 32 s.now) ∧ gives (.get q t false sd 1) (BitVec.ofNat 32 (s.now / 2 ^ 32)) ∧
    gives (.get q t false sd 2) (BitVec.ofNat 32 x.tt) ∧ gives (.get q t false sd 3) (BitVec.ofNat 32 (x.tt / 2 ^ 32)) ∧
    gives (.get q t false sd 4) (BitVec.ofNat 32 (16 * q.val + t.val)) ∧
    (x.tt < s.now + 2 ^ 31 → s.now ≤ x.tt + 2 ^ 31 → gives (.get q t false sd 5) (BitVec.ofInt 32 ((x.tt : Int) - s.now))) ∧
    gives (.get q t false sd 6) (BitVec.ofNat 32 (getF s (F.SEQ_EVFLAG_FLAG q))) ∧
    gives (.nop q t false) (sreg s q t sd)

/-- WAIT advances TT by an immediate or a register (R71); a WAIT on an event flag that is set rebases TT to at least now + GAP and clears the flag if
told to (it stays set where a set of the same tick keeps it, R291), and with the flag clear the thread enters WAIT (R76). Its reading of what the
rules leave open is the model's (log entries 28, 100). -/
def Obligations.ThreadWaits : Prop :=
  ∀ (s : State) (q t reg ev : Fin 16) (imm : BitVec 32) (clr : Bool) (gap : Fin 16384), mayIssue s q t →
    let x := thread s q t
    completes (.waitImm q t false imm) s (fun u => (thread u q t).tt = (x.tt + imm.toNat) % 2 ^ 64 ∧ goesOn s u q t ∧ onlyThread s u q t) ∧
    completes (.waitReg q t false reg) s (fun u =>
      (thread u q t).tt = (x.tt + (sreg s q t reg).toNat) % 2 ^ 64 ∧ goesOn s u q t ∧ onlyThread s u q t) ∧
    (bitF s (F.SEQ_EVFLAG_FLAG q) ev = true →
      completes (.waitEvent q t false ev clr gap) s (fun u =>
        (thread u q t).tt = max x.tt (s.now + gap.val) ∧ goesOn s u q t ∧
        bitF u (F.SEQ_EVFLAG_FLAG q) ev = (!clr || s.seq.evKeep.contains (q.val, ev.val)) ∧
        onlyChanges [.seq] [F.THR_STAT_STATE q t, F.THR_STAT_WCAUSE q t, F.SEQ_EVFLAG_FLAG q] s u)) ∧
    (bitF s (F.SEQ_EVFLAG_FLAG q) ev = false →
      completes (.waitEvent q t false ev clr gap) s (fun u =>
        thrState u q t = stWait ∧ getF u (F.THR_STAT_WCAUSE q t) = 4 ∧ (thread u q t).tt = x.tt ∧ onlyThread s u q t))

/-- WAITD and BRP with a valid subscription go on at once, with the predicate in SD or the branch it decides, TT rebased with REB; without one the
thread enters WAIT; the timeout of a WAITD wakes it with bit 31 of SD set (R76). Its reading of what the rules leave open is the model's (log entry
28). -/
def Obligations.ThreadSubscriptions : Prop :=
  ∀ (s : State) (q t sd : Fin 16) (sub : Fin 8) (neg reb wr : Bool) (gap : Fin 16384) (tmo : Fin 65536) (tgt : Fin 131072),
    let x := thread s q t
    let rebased := if reb then max x.tt (s.now + gap.val) else x.tt
    (mayIssue s q t → subValid s q t sub = true →
      completes (.waitd q t false sub reb sd wr gap tmo) s (fun u =>
        (if wr then sreg u q t sd = BitVec.ofNat 32 (predicate s q t sub).toNat else sreg u q t sd = sreg s q t sd) ∧
        (thread u q t).tt = rebased ∧ goesOn s u q t ∧ onlyThread s u q t) ∧
      completes (.brp q t false sub neg reb gap tgt) s (fun u =>
        thrState u q t = stRun ∧ (thread u q t).tt = rebased ∧
        (predicate s q t sub ≠ neg → (thread u q t).pc = tgt.val) ∧
        (predicate s q t sub = neg → (thread u q t).pc = x.next.pc) ∧ onlyThread s u q t)) ∧
    (mayIssue s q t → subValid s q t sub = false →
      completes (.waitd q t false sub reb sd wr gap tmo) s (fun u =>
        thrState u q t = stWait ∧ getF u (F.THR_STAT_WCAUSE q t) = 5 ∧ onlyThread s u q t) ∧
      completes (.brp q t false sub neg reb gap tgt) s (fun u =>
        thrState u q t = stWait ∧ getF u (F.THR_STAT_WCAUSE q t) = 5 ∧ onlyThread s u q t)) ∧
    (x.wait = some (.sub sub reb true sd gap.val tmo.val) → 0 < tmo.val → x.since + tmo.val ≤ s.now →
      completes (.waitdTimeout q t) s (fun u =>
        thrState u q t = stRun ∧ sreg u q t sd = BitVec.ofNat 32 (2 ^ 31) ∧ (thread u q t).wait = none ∧ onlyThread s u q t))

/-- BR, BRE and BRC take their target where their condition holds and go on otherwise; BRE with CLR clears the flag it finds set; LOOP opens a level
with its count, and with a count of zero it skips its body (R75, R94, R97, R98). -/
def Obligations.ThreadBranches : Prop :=
  ∀ (s : State) (q t ev sa sb reg : Fin 16) (tgt : Fin 131072) (immb neg clr src : Bool) (imm : BitVec 16) (cnt : Fin 65536),
    mayIssue s q t →
    let x := thread s q t
    let a := sreg s q t sa
    let b := if immb then imm.signExtend 32 else sreg s q t sb
    let flag := bitF s (F.SEQ_EVFLAG_FLAG q) ev
    let at' := fun (u : State) (n : Nat) => thrState u q t = stRun ∧ (thread u q t).pc = n
    let brc := fun (cc : Fin 8) (p : Prop) =>
      (p → completes (.brc q t false cc immb sa sb imm tgt) s (fun u => at' u tgt ∧ onlyThread s u q t)) ∧
      (¬p → completes (.brc q t false cc immb sa sb imm tgt) s (fun u => at' u x.next.pc ∧ onlyThread s u q t))
    let count := if src then (sreg s q t reg).toNat else cnt.val
    completes (.br q t false tgt) s (fun u => at' u tgt ∧ onlyThread s u q t) ∧
    brc 0 (a = b) ∧ brc 1 (a ≠ b) ∧ brc 2 (a.toInt < b.toInt) ∧ brc 3 (b.toInt ≤ a.toInt) ∧ brc 4 (a.toNat < b.toNat) ∧
    brc 5 (b.toNat ≤ a.toNat) ∧
    completes (.bre q t false ev neg clr tgt) s (fun u => at' u (if flag ≠ neg then tgt.val else x.next.pc) ∧
      bitF u (F.SEQ_EVFLAG_FLAG q) ev = (flag && (!clr || s.seq.evKeep.contains (q.val, ev.val))) ∧
      onlyChanges [.seq] [F.THR_STAT_STATE q t, F.THR_STAT_WCAUSE q t, F.SEQ_EVFLAG_FLAG q] s u) ∧
    (x.loops = [] → x.pc < tgt.val → 0 < count →
      completes (.loop q t false src reg cnt tgt) s (fun u =>
        at' u (x.pc + 1) ∧ (thread u q t).loops = [⟨x.pc + 1, tgt.val, count⟩] ∧ onlyThread s u q t)) ∧
    (x.loops = [] → x.pc < tgt.val → count = 0 →
      completes (.loop q t false src reg cnt tgt) s (fun u => at' u (tgt.val + 1) ∧ (thread u q t).loops = [] ∧ onlyThread s u q t))

/-- PLAY, FLUX in both modes, MEAS and FRAME outside an alternate set leave for their channel's queue, which they reach two ticks on, with their play
tick TT + OFS (R71, R77, R86); MEAS reserves a result credit (R96); SJUMP's request reaches the player two ticks on (R102). A member of an alternate
set (A = 1) opens the set, joins one of its channel and play time, and with L sends it off whole (R90). Its reading of what the rules leave open is
the model's (log entries 26, 27, 32). -/
def Obligations.ThreadCommands : Prop :=
  (∀ (s : State) (q t cond : Fin 16) (ch : Fin 32) (mch : Fin 16) (seg : Fin 1024) (sa l : Bool) (amp : BitVec 16) (ofs : Fin 16384)
      (sub : Fin 64) (code : BitVec 20) (wgt arm : Fin 256) (len : Fin 8192) (mode src : Bool) (val : BitVec 32) (jch : Fin 64),
      mayIssue s q t → setOf s q t = .none → lookaheadHeld s q t = false →
      let p := (thread s q t).tt + ofs.val
      let f := (64 * p + sub.val + 11) / 12 * 12
      let scale : Int := if sa then ((sreg s q t (Fin.ofNat 16 amp.toNat)).setWidth 16).toInt else amp.toInt
      let value := if src then sreg s q t (Fin.ofNat 16 val.toNat) else val
      let sends := fun (c : Instr) (k : Chan) (e : Entry) (fs : List Fld) => completes c s (fun u =>
        u.seq.transit = s.seq.transit ++ [(s.now + 2, k, e)] ∧ goesOn s u q t ∧ (thread u q t).tt = (thread s q t).tt ∧
        onlyChanges [.seq] (F.THR_STAT_STATE q t :: F.THR_STAT_WCAUSE q t :: fs) s u)
      (queueFull s ⟨q, .tone, ch⟩ = false → flagF s (F.SEG_W1_FMT q seg) = false → (sa = true → amp.toNat < 16) →
        sends (.play q t false l cond ch seg sa amp ofs sub) ⟨q, .tone, ch⟩ ⟨t, p, sub, [(none, .segment seg scale 0)]⟩ []) ∧
      (ch.val < 24 → queueFull s ⟨q, .flux, ch⟩ = false →
        sends (.flux q t false l cond ch seg amp ofs sub) ⟨q, .flux, ch⟩ ⟨t, f / 64, f % 64, [(none, .segment seg amp.toInt 0)]⟩ [] ∧
        sends (.fluxMode1 q t false l cond ch code false ofs sub) ⟨q, .flux, ch⟩ ⟨t, f / 64, f % 64, [(none, .ladder code.toInt)]⟩ []) ∧
      (queueFull s ⟨q, .readout, mch⟩ = false → getF s (F.HB_RQ_CREDIT_FREE q) ≠ 0 → 0 < len.val → len.val ≤ 8000 →
        sends (.meas q t false mch wgt len arm ofs sub) ⟨q, .readout, mch⟩ ⟨t, p, sub, [(none, .meas wgt len arm)]⟩ [F.HB_RQ_CREDIT_FREE q]) ∧
      (queueFull s ⟨q, .readout, mch⟩ = false → 0 < getF s (F.HB_RQ_CREDIT_FREE q) → getF s (F.HB_RQ_CREDIT_FREE q) < 1024 →
        0 < len.val → len.val ≤ 8000 → completes (.meas q t false mch wgt len arm ofs sub) s (fun u =>
          getF u (F.HB_RQ_CREDIT_FREE q) = getF s (F.HB_RQ_CREDIT_FREE q) - 1)) ∧
      (queueFull s ⟨q, .tone, ch⟩ = false →
        sends (.frame q t false ch mode src ofs val) ⟨q, .tone, ch⟩ ⟨t, p, 0, [(none, .frame mode value.toNat)]⟩ []) ∧
      (jch.val < 56 →
        completes (.sjump q t false jch seg) s (fun u =>
          u.seq.jumps = s.seq.jumps ++ [(s.now + 2, jumpChan q jch, seg.val, t.val)] ∧ goesOn s u q t ∧
          onlyChanges [.seq] [F.THR_STAT_STATE q t, F.THR_STAT_WCAUSE q t] s u))) ∧
  (∀ (s : State) (q t cond : Fin 16) (ch : Fin 32) (seg : Fin 1024) (amp : BitVec 16) (ofs : Fin 16384) (sub : Fin 64) (ms : List (Option Cond × CmdBody)),
      mayIssue s q t → lookaheadHeld s q t = false → queueFull s ⟨q, .tone, ch⟩ = false → flagF s (F.SEG_W1_FMT q seg) = false →
      let k : Chan := ⟨q, .tone, ch⟩
      let p := (thread s q t).tt + ofs.val
      let m : Option Cond × CmdBody := (some ⟨decide (8 ≤ cond.val), cond.val % 8⟩, .segment seg amp.toInt 0)
      let play := fun (l : Bool) => Instr.play q t true l cond ch seg false amp ofs sub
      (setOf s q t = .none →
        completes (play false) s (fun u => setOf u q t = .building k ⟨t, p, sub, [m]⟩ ∧ goesOn s u q t ∧ onlyThread s u q t) ∧
        completes (play true) s (fun u => u.seq.transit = s.seq.transit ++ [(s.now + 2, k, ⟨t, p, sub, [m]⟩)] ∧ setOf u q t = .none ∧ goesOn s u q t)) ∧
      (setOf s q t = .building k ⟨t, p, sub, ms⟩ → ms.length < 4 →
        completes (play false) s (fun u => setOf u q t = .building k ⟨t, p, sub, ms ++ [m]⟩ ∧ goesOn s u q t ∧ onlyThread s u q t) ∧
        completes (play true) s (fun u => u.seq.transit = s.seq.transit ++ [(s.now + 2, k, ⟨t, p, sub, ms ++ [m]⟩)] ∧ setOf u q t = .none ∧ goesOn s u q t)))

/-- An instruction fetched outside the thread's window, or with a reserved value, faults the thread (R80, R94, R112): FAULT with cause 2 or 1, the LATE
latch set, TT and program address as they were; a command its queue has no room for stalls the thread and places nothing (R82). Its reading of what
the rules leave open is the model's (log entries 25, 26). -/
def Obligations.ThreadFaults : Prop :=
  ∀ (s : State) (q t sd sa sb : Fin 16) (ch : Fin 32) (seg : Fin 1024) (amp : BitVec 16) (ofs : Fin 16384) (sub : Fin 64) (fn : Fin 16) (tgt : Fin 131072),
    canIssue s q t = true →
    let faults := fun (c : Instr) (cause : Nat) => completes c s (fun u =>
      thrState u q t = stFault ∧ getF u (F.THR_STAT_FCAUSE q t) = cause ∧ flagF u (F.THR_LATCH_FAULT q t) = true ∧
      flagF u (F.THR_LATCH_LATE q t) = true ∧ (thread u q t).tt = (thread s q t).tt ∧ (thread u q t).pc = (thread s q t).pc ∧
      onlyIn [.seq, .post, .taints, .head] lateRegs s u)
    (pcInWindow s q t = false → faults (.nop q t false) 2 ∧ faults (.halt q t false) 2 ∧ faults (.br q t false tgt) 2) ∧
    (pcInWindow s q t = true → faults (.nop q t true) 1 ∧ faults (.halt q t true) 1 ∧ faults (.br q t true tgt) 1) ∧
    (pcInWindow s q t = true → 12 ≤ fn.val → faults (.alu q t false sd sa sb fn) 1) ∧
    (mayIssue s q t → thrState s q t = stRun → lookaheadHeld s q t = false → queueFull s ⟨q, .tone, ch⟩ = true → setOf s q t = .none →
      flagF s (F.SEG_W1_FMT q seg) = false →
      completes (.play q t false false 0 ch seg false amp ofs sub) s (fun u =>
        thrState u q t = stStall ∧ getF u (F.THR_STAT_WCAUSE q t) = 1 ∧ (thread u q t).pc = (thread s q t).pc ∧ u.seq.transit = s.seq.transit ∧
        onlyIn [.seq] [.THR_STAT, .THR_CNT, .SEQ_CNT_STALL] s u))

/-- START puts a thread into RUN at its start address and time, with its subscriptions cleared (R72, R79, R88); HALT and STOP put it into DONE (R79,
R491); FLUSH removes its commands on their way and in queues (R491); clearing RUN stops every thread (R74). Its reading of what the rules leave open
is the model's (log entry 29). -/
def Obligations.ThreadControl : Prop :=
  ∀ (s : State) (m : Master) (q t : Fin 16),
    let x := thread s q t
    let r : Reg := ⟨.THR_CTRL, q, t, 0⟩
    let ended := [Part.seq, .post, .taints, .head, .sizing, .emitted]
    (isActive (thrState s q t) = false → mayStart s q = true →
      accepted m r (.threadStart m q t) s (fun u =>
        thrState u q t = stRun ∧ (thread u q t).pc = getF s (F.THR_PC_PC q t) ∧ (thread u q t).tt = startTime s q t ∧
        (thread u q t).loops = [] ∧ (∀ n : Fin 8, subValid u q t n = false) ∧
        onlyIn [.seq, .sizing, .post, .emitted] [.THR_STAT, .THR_SUB, .SZ_Q_CNT, .SZ_Q_LATCH, .SZ_Q_STAT] s u)) ∧
    (isActive (thrState s q t) = false → mayStart s q = false →
      accepted m r (.threadStart m q t) s (fun u =>
        flagF u (F.THR_LATCH_START_REF q t) = true ∧ thrState u q t = thrState s q t ∧ thread u q t = x ∧ onlyIn [.post, .emitted] [.THR_LATCH] s u)) ∧
    (mayIssue s q t → completes (.halt q t false) s (fun u =>
      thrState u q t = stDone ∧ (thread u q t).pc = x.next.pc ∧ (thread u q t).set = .none ∧
      onlyIn [.seq, .post, .taints, .head, .sizing] (lateRegs ++ gateRegs) s u)) ∧
    (isActive (thrState s q t) = true →
      accepted m r (.threadStop m q t) s (fun u =>
        thrState u q t = stDone ∧ (thread u q t).pc = x.pc ∧ (thread u q t).tt = x.tt ∧ u.seq.transit = s.seq.transit ∧
        onlyIn ended (lateRegs ++ gateRegs) s u) ∧
      accepted m r (.threadFlush m q t) s (fun u =>
        thrState u q t = stDone ∧ u.seq.transit = s.seq.transit.filter (fun e => !(e.2.1.q == q.val && e.2.2.t == t.val)) ∧
        (∀ n : Fin 32, (queueOf u ⟨q, .tone, n⟩).all (fun e => e.t != t.val) = true) ∧
        onlyIn ended (lateRegs ++ gateRegs ++ [.SEG_W3, .WGT_W3]) s u)) ∧
    accepted m ⟨.SEQ_CTRL, q, 0, 0⟩ (.seqRun m q true) s (fun u =>
      flagF u (F.SEQ_CTRL_RUN q) = true ∧ onlyChanges [.emitted] [F.SEQ_CTRL_RUN q] s u) ∧
    accepted m ⟨.SEQ_CTRL, q, 0, 0⟩ (.seqRun m q false) s (fun u =>
      flagF u (F.SEQ_CTRL_RUN q) = false ∧ (∀ r : Fin 16, isActive (thrState u q r) = false) ∧ u.seq.transit = s.seq.transit ∧
      onlyIn ended (lateRegs ++ gateRegs ++ [.SEQ_CTRL]) s u)

/-- SYNC makes a thread arrive at a barrier of its mask and wait there, or, at a shot barrier, go on at the next announced boundary; a barrier whose
last participant has arrived releases, its participants going on at R + GAP, with R the largest TT, and for device and cluster scope at least the
last arrival's tick plus the margin; SEQ_SYNC_TMO ticks of waiting fault the thread with cause 4 (R99, R100). -/
def Obligations.Barriers : Prop :=
  ∀ (s : State) (q t p bar : Fin 16) (scope : Fin 4) (kind : Fin 3) (gap : Fin 16384) (b : Nat),
    let x := thread s q t
    (mayIssue s q t → barMasked s q t bar = true → scope.val < 3 → (scope.val = 2 → flagF s F.CL_CFG_EN = false) →
      completes (.sync q t false scope bar gap) s (fun u =>
        thrState u q t = stWait ∧ getF u (F.THR_STAT_WCAUSE q t) = 6 ∧ (thread u q t).wait = some (.barrier scope bar gap) ∧
        (thread u q t).tt = x.tt ∧ onlyThread s u q t)) ∧
    (mayIssue s q t → barMasked s q t bar = false → scope.val < 3 →
      completes (.sync q t false scope bar gap) s (fun u => thrState u q t = stFault ∧ getF u (F.THR_STAT_FCAUSE q t) = 5 ∧
        onlyIn [.seq, .post, .taints, .head] lateRegs s u)) ∧
    (mayIssue s q t → boundFrom s x.tt = some b →
      completes (.sync q t false 3 bar gap) s (fun u => (thread u q t).tt = (b + gap.val) % 2 ^ 64 ∧ goesOn s u q t ∧ onlyThread s u q t)) ∧
    (mayIssue s q t → boundFrom s x.tt = none →
      completes (.sync q t false 3 bar gap) s (fun u =>
        thrState u q t = stWait ∧ getF u (F.THR_STAT_WCAUSE q t) = 7 ∧ (thread u q t).tt = x.tt ∧ onlyThread s u q t)) ∧
    (barFull s kind p bar = true → barLast s kind p bar < s.now → (kind = 2 → flagF s F.CL_CFG_EN = false) →
      (q.val, t.val) ∈ barThreads s kind p bar → x.wait = some (.barrier kind bar gap) →
      let r := if kind = 0 then barTT s kind p bar else max (barTT s kind p bar) (barLast s kind p bar + barMargin s kind bar)
      completes (.barrierRelease kind p bar) s (fun u =>
        thrState u q t = stRun ∧ (thread u q t).wait = none ∧ (thread u q t).tt = (r + gap.val) % 2 ^ 64 ∧
        quireEvent q 23 ∈ u.post.fired ∧ onlyIn [.seq, .post] [.THR_STAT] s u)) ∧
    (x.wait = some (.barrier kind bar gap) → getF s (F.SEQ_SYNC_TMO_TMO q) ≠ 0 → x.since + getF s (F.SEQ_SYNC_TMO_TMO q) ≤ s.now →
      completes (.barrierTimeout q t) s (fun u =>
        thrState u q t = stFault ∧ getF u (F.THR_STAT_FCAUSE q t) = 4 ∧ flagF u (F.THR_LATCH_SYNC_TMO q t) = true ∧ (thread u q t).wait = none ∧
        (∀ q' t' : Fin 16, (q', t') ≠ (q, t) → (thread u q' t').wait = (thread s q' t').wait) ∧
        onlyIn [.seq, .post, .taints, .head, .sizing] (lateRegs ++ gateRegs) s u))

/-- The command at the head of a channel's queue takes effect at its play tick: the selected segment plays, a frame command sets or adds to the frame
phase, an unresolved set counts as a late command, a measurement opens its window (R32, R84, R85, R92, R93, R96). Its reading of what the rules
leave open is the model's (log entries 15, 31, 90). -/
def Obligations.CommandPlay : Prop :=
  ∀ (s : State) (q : Fin 16) (n : Fin 32) (j : Fin 16) (e : Entry) (rest : List Entry) (d : Nat) (amp : Int) (spos w len arm val : Nat) (rep : Bool),
    let k : Chan := ⟨q, .tone, n⟩
    let r : Chan := ⟨q, .readout, j⟩
    let due := fun (c : Chan) => queueOf s c = e :: rest ∧ e.tick ≤ s.now ∧ getF s F.THM_STAT_STATE ≠ 2
    (due k → e.members.all (fun m => isSegment m.2) = true → e.members ≠ [] → resolved s q e.t e.members = true →
      selected s q e.t e.members = some (.segment d amp spos) → settling s k = false → tripHeld s k = false → toneDead s k = false →
      completes (.commandPlay q .tone n) s (fun u =>
        queueOf u k = rest ∧ (playerOf u k).active = true ∧ (playerOf u k).seg = d ∧ (playerOf u k).amp = amp ∧ (playerOf u k).tick = e.tick ∧
        (playerOf u k).sub = e.sub ∧ (playerOf u k).t = e.t ∧ onlyIn [.seq, .out] [.SEG_W3] s u)) ∧
    (due k → e.members.all (fun m => isSegment m.2) = true → e.members ≠ [] → resolved s q e.t e.members = false →
      completes (.commandPlay q .tone n) s (fun u =>
        queueOf u k = rest ∧ flagF u (F.THR_LATCH_PRED q e.t) = true ∧ flagF u (F.THR_LATCH_LATE q e.t) = true ∧
        (playerOf u k).active = false ∧ onlyIn [.seq, .post, .taints, .head] (.SEG_W3 :: lateRegs) s u)) ∧
    (due k → e.members = [(none, .frame rep val)] →
      completes (.commandPlay q .tone n) s (fun u =>
        queueOf u k = rest ∧ (toneOf u q n).frame = (if rep then val else (toneOf s q n).frame + val) % 2 ^ 32 ∧
        playerOf u k = playerOf s k ∧ onlyIn [.seq, .out] [.TONE_FRAME] s u)) ∧
    (due r → e.members = [(none, .meas w len arm)] → cellServes s q j = true →
      completes (.commandPlay q .readout ⟨j.val, by omega⟩) s (fun u =>
        queueOf u r = rest ∧ flagF u (F.HB_CELL_STAT_BUSY q j) = true ∧
        (cellOf u q j).wins = (cellOf s q j).wins ++
          [⟨e.t, w, e.tick, e.sub, len, (cellOf s q j).disc, false, [], flagF s (F.HB_CELL_STAT_SUBST q j)⟩] ∧
        onlyIn [.seq, .head, .sched, .couch] [.HB_CELL_STAT] s u))

/-- At the end of an iteration a player honours a pending jump, goes on to its next iteration, or ends (R102). Its reading of what the rules leave open
is the model's (log entry 30). -/
def Obligations.SegmentIterations : Prop :=
  ∀ (s : State) (q : Fin 16) (k : ChanKind) (n : Fin 32) (jump : Jump) (left : Nat),
    let c : Chan := ⟨q, k, n⟩
    let p := playerOf s c
    let due := p.active = true ∧ p.closed = false ∧ fTick s c p ≤ s.now
    let ends := fun (P : Player → Prop) => completes (.segmentIterationEnd q k n) s (fun u =>
      P (playerOf u c) ∧ (∀ c' : Chan, c' ≠ c → playerOf u c' = playerOf s c') ∧ onlyIn [.seq, .sched] [.SEG_W3] s u)
    (due → honoured p (fTick s c p) = some jump → ends (fun v => v.active = true ∧ v.seg = jump.seg ∧ v.amp = p.amp)) ∧
    (due → honoured p (fTick s c p) = none → p.left = none → ends (fun v => v.active = true ∧ v.seg = p.seg ∧ v.left = none)) ∧
    (due → honoured p (fTick s c p) = none → p.left = some (left + 1) → ends (fun v => v.active = true ∧ v.seg = p.seg ∧ v.left = some left)) ∧
    (due → honoured p (fTick s c p) = none → p.left = some 0 → ends (fun v => v.active = false ∨ v.closed = true))

/-- Enabling a stream zeroes its positions, and is refused while a command of the stream is outstanding (R109); the writer stores one burst of at most
64 samples up to the fence and the end of the source, into its ring only (R106); an underrun is latched and counted (R108). Its reading of what the
rules leave open is the model's (log entries 34, 64). -/
def Obligations.Streams : Prop :=
  ∀ (s : State) (m : Master) (q : Fin 16) (n : Fin 4) (ch : Fin 32),
    let x := streamOf s q n
    let limit := fencePos s q n + ringLen s q n
    let k := min 64 (min (limit - x.write) (sourceLen s q n - x.write))
    let p := playerOf s ⟨q, .tone, getF s (F.STRM_CTRL_CH q n)⟩
    let r : Reg := ⟨.STRM_CTRL, q, n, 0⟩
    (x.outstanding = [] → sourceFits s q n = true → accepted m r (.streamEnable m q n ch) s (fun u =>
      flagF u (F.STRM_CTRL_EN q n) = true ∧ getF u (F.STRM_CTRL_CH q n) = ch.val ∧ streamOf u q n = Stream.init ∧
      flagF u (F.STRM_STAT_DONE q n) = false ∧ onlyIn [.seq, .emitted] [.STRM_CTRL, .STRM_STAT] s u)) ∧
    (x.outstanding ≠ [] → flagF s (F.STRM_CTRL_EN q n) = false → refused m r (.streamEnable m q n ch) s) ∧
    (streamWaits s q n = false → flagF s (F.STRM_CTRL_EN q n) = true → getF s (F.STRM_RING_LEN q n) ≠ 0 → x.under = false →
      x.write < sourceLen s q n → x.write < limit →
      completes (.streamWrite q n) s (fun u =>
        (streamOf u q n).write = x.write + k ∧ (flagF u (F.STRM_STAT_DONE q n) = decide (sourceLen s q n ≤ x.write + k)) ∧
        (k = 1 → memWord u (streamKey s q n x.write) = memWord s (sourceKey s q n x.write)) ∧
        (∀ a, (∀ i, i < k → a < streamKey s q n (x.write + i) ∨ streamKey s q n (x.write + i) + 4 ≤ a) → memByte u a = memByte s a) ∧
        onlyIn [.seq, .mem] [.STRM_STAT] s u)) ∧
    (p.active = true → segStream s q p.seg = true → streamNo s q p.seg = n.val → streamWritten s q n (readPos s q n) = false →
      completes (.streamUnderrun q n) s (fun u =>
        (streamOf u q n).under = true ∧ flagF u (F.STRM_STAT_UNDERRUN q n) = true ∧
        getF u (F.STRM_CNT_UNDERRUN q n) = (getF s (F.STRM_CNT_UNDERRUN q n) + 1) % 2 ^ (F.STRM_CNT_UNDERRUN q n).width ∧
        onlyIn [.seq, .post, .taints, .head] [.STRM_STAT, .STRM_CNT, .HB_RQ_CNT, .HB_RQ_CREDIT] s u))

/-- Writing the high half of a frequency word commits it with the held low half; without FTW_TIMED it takes effect eight ticks or more after the write,
and a timed one at its tick; at its tick the word comes into force (R118, R119, R199). Its reading of what the rules leave open is the model's (log
entries 36, 37). -/
def Obligations.FrequencyWords : Prop :=
  ∀ (s : State) (m : Master) (q : Fin 16) (c : Fin 32) (j : Fin 16) (hi : Fin 65536) (w tick : Nat),
    let t := toneOf s q c
    let d := cellOf s q j
    let start := getF s (F.TONE_AT_LO_TICK q c) + 2 ^ 32 * getF s (F.TONE_AT_HI_TICK q c)
    let early := regDelay s.now 8
    let regs := [RegName.TONE_FTW_LO, .TONE_FTW_HI, .TONE_STAT, .TONE_LATCH]
    (flagF s (F.TONE_CTRL_FTW_TIMED q c) = false → accepted m ⟨.TONE_FTW_HI, q, c, 0⟩ (.ftwCommit m q (.tone c) hi) s (fun u =>
      (toneOf u q c).pend = some (t.heldLo + 2 ^ 32 * hi.val, early) ∧ (toneOf u q c).ftw = t.ftw ∧ flagF u (F.TONE_STAT_FTW_PEND q c) = true ∧
      onlyIn [.out, .post, .emitted] regs s u)) ∧
    (flagF s (F.TONE_CTRL_FTW_TIMED q c) = true → early ≤ start → accepted m ⟨.TONE_FTW_HI, q, c, 0⟩ (.ftwCommit m q (.tone c) hi) s (fun u =>
      (toneOf u q c).pend = some (t.heldLo + 2 ^ 32 * hi.val, start) ∧ onlyIn [.out, .post, .emitted] regs s u)) ∧
    (flagF s (F.TONE_CTRL_FTW_TIMED q c) = true → start < early → accepted m ⟨.TONE_FTW_HI, q, c, 0⟩ (.ftwCommit m q (.tone c) hi) s (fun u =>
      (toneOf u q c).pend = some (t.heldLo + 2 ^ 32 * hi.val, early) ∧ flagF u (F.TONE_LATCH_FTW_LATE q c) = true ∧
      onlyIn [.out, .post, .emitted] regs s u)) ∧
    accepted m ⟨.HB_CELL_FTW_HI, q, j, 0⟩ (.ftwCommit m q (.cell j) hi) s (fun u =>
      (cellOf u q j).pend = some (d.heldLo + 2 ^ 32 * hi.val, early) ∧ flagF u (F.HB_CELL_STAT_FTW_PEND q j) = true ∧
      onlyIn [.head, .post, .emitted] [.HB_CELL_FTW_LO, .HB_CELL_FTW_HI, .HB_CELL_STAT, .HB_CELL_LATCH] s u) ∧
    (t.pend = some (w, tick) → tick ≤ s.now → completes (.ftwEffect q (.tone c)) s (fun u =>
      (toneOf u q c).ftw = w ∧ (toneOf u q c).pend = none ∧ (toneOf u q c).frame = t.frame ∧ flagF u (F.TONE_STAT_FTW_PEND q c) = false ∧
      onlyIn [.out] [.TONE_STAT] s u)) ∧
    (d.pend = some (w, tick) → tick ≤ s.now → completes (.ftwEffect q (.cell j)) s (fun u =>
      (cellOf u q j).ftw = w ∧ (cellOf u q j).pend = none ∧ (cellOf u q j).phase = d.phase ∧ flagF u (F.HB_CELL_STAT_FTW_PEND q j) = false ∧
      onlyIn [.head] [.HB_CELL_STAT] s u))

/-- FRAME_CLR zeroes the frame phase of a tone and DRV_CFG.EN enables an output, both only while the quire is idle (R122, R129, R133); gains and
coefficients committed come into force at once in an idle quire and wait for the boundary in another (R127). Its reading of what the rules leave
open is the model's (log entries 37, 90). -/
def Obligations.IdleWrites : Prop :=
  ∀ (s : State) (m : Master) (q : Fin 16) (c : Fin 32) (o : Fin 5),
    (quireIdle s q = true → accepted m ⟨.TONE_CTRL, q, c, 0⟩ (.frameClr m q c) s (fun u =>
      (toneOf u q c).frame = 0 ∧ getF u (F.TONE_FRAME_FRAME q c) = 0 ∧ (toneOf u q c).ftw = (toneOf s q c).ftw ∧
      onlyIn [.out, .emitted] [.TONE_FRAME] s u)) ∧
    (quireIdle s q = false → refused m ⟨.TONE_CTRL, q, c, 0⟩ (.frameClr m q c) s) ∧
    (quireIdle s q = true → accepted m ⟨.DRV_CFG, q, o, 0⟩ (.drvEnable m q o) s (fun u =>
      flagF u (F.DRV_CFG_EN q o) = true ∧ onlyIn [.emitted] [.DRV_CFG] s u)) ∧
    (quireIdle s q = false → flagF s (F.DRV_CFG_EN q o) = false → refused m ⟨.DRV_CFG, q, o, 0⟩ (.drvEnable m q o) s) ∧
    (quireIdle s q = true → c.val ∈ outputTones o → accepted m ⟨.DRV_PD_CTRL, q, o, 0⟩ (.pdCommit m q o) s (fun u =>
      getF u (F.TONE_GAIN_ACTIVE q c) = getF s (F.TONE_GAIN_GAIN q c) % 2 ^ (F.TONE_GAIN_ACTIVE q c).width ∧
      (∀ k : Fin 24, tget u.out.pd 0 (q.val, o.val, k.val) = getF s (F.DRV_PD_COEF_COEF q o k)) ∧
      flagF u (F.DRV_PD_CTRL_PENDING q o) = false ∧ onlyIn [.out, .emitted] [.TONE_GAIN, .DRV_PD_CTRL] s u)) ∧
    (quireIdle s q = false → accepted m ⟨.DRV_PD_CTRL, q, o, 0⟩ (.pdCommit m q o) s (fun u =>
      flagF u (F.DRV_PD_CTRL_PENDING q o) = true ∧ onlyIn [.emitted] [.DRV_PD_CTRL] s u))

/-- A range change mutes the output from the second tick after its write until the range has settled (R130); a software mute and a new CW amplitude take
effect four ticks or more after their write (R135, R139); a CW ramp ends at its target (R139). Its reading of what the rules leave open is the
model's (log entries 37, 38, 90). -/
def Obligations.DriveOutputs : Prop :=
  ∀ (s : State) (m : Master) (q : Fin 16) (o : Fin 5) (i : Fin 24) (range : Fin 4) (mute : Bool) (amp : BitVec 16) (ramp : CwRamp),
    let regs := [RegName.DRV_CFG, .DRV_STAT, .DRV_CNT, .DRV_LATCH]
    (quireIdle s q = true → getF s (F.DRV_CFG_RANGE q o) ≠ range.val → accepted m ⟨.DRV_CFG, q, o, 0⟩ (.rangeChange m q o range) s (fun u =>
      getF u (F.DRV_CFG_RANGE q o) = range.val ∧ u.sched = s.sched ++ [(regDelay s.now 1, .settle q o)] ∧
      (outputOf u q o).settleBy = regDelay s.now 1 + 1000 ∧ onlyIn [.out, .sched, .emitted] regs s u)) ∧
    (flagF (settleOn s q o) (F.DRV_STAT_SETTLING q o) = true ∧ flagF (settleOn s q o) (F.DRV_STAT_MUTED q o) = true) ∧
    (quireIdle s q = false → getF s (F.DRV_CFG_RANGE q o) ≠ range.val → refused m ⟨.DRV_CFG, q, o, 0⟩ (.rangeChange m q o range) s) ∧
    completes (.rangeSettled q o) s (fun u =>
      flagF u (F.DRV_STAT_SETTLING q o) = false ∧ flagF u (F.DRV_STAT_MUTED q o) = drvCause u q o ∧
      getF u (F.DRV_CFG_RANGE q o) = getF s (F.DRV_CFG_RANGE q o) ∧ onlyIn [.out, .post] regs s u) ∧
    accepted m ⟨.DRV_MUTE, q, o, 0⟩ (.softwareMute m q (.drive o) mute) s (fun u =>
      flagF u (F.DRV_MUTE_MUTE q o) = mute ∧ flagF u (F.DRV_STAT_SW_MUTE q o) = mute ∧
      u.sched = s.sched ++ [(regDelay s.now 4, .drvMute q o mute)] ∧ onlyIn [.sched, .emitted] [.DRV_MUTE, .DRV_STAT] s u) ∧
    accepted m ⟨.FLX_MUTE, q, i, 0⟩ (.softwareMute m q (.flux i) mute) s (fun u =>
      flagF u (F.FLX_MUTE_MUTE q i) = mute ∧ u.sched = s.sched ++ [(regDelay s.now 4, .flxMute q i mute)] ∧
      onlyIn [.sched, .emitted] [.FLX_MUTE, .FLX_STAT] s u) ∧
    accepted m ⟨.DRV_CW, q, o, 0⟩ (.cwAmpWrite m q o amp) s (fun u =>
      getS u (F.DRV_CW_AMP q o) = amp.toInt ∧ u.sched = s.sched ++ [(regDelay s.now 4, .cwRamp q o amp.toInt (getF s (F.DRV_CW_RAMP q o)))] ∧
      onlyIn [.sched, .emitted] [.DRV_CW] s u) ∧
    ((outputOf s q o).ramp = some ramp → ramp.start + ramp.len ≤ s.now → completes (.cwRampEnd q o) s (fun u =>
      (outputOf u q o).cwAmp = ramp.target ∧ (outputOf u q o).ramp = none ∧ flagF u (F.DRV_STAT_CW_RAMPING q o) = false ∧
      onlyIn [.out] [.DRV_STAT] s u))

/-- A ladder write holds its code and takes effect eight ticks or more later; a ramping ladder moves by at most STEP codes an update and stops at its
target (R161); the deglitcher's hold ends (R162). A flux channel is enabled at 0 V behind its open switch, which closes 2 µs later; disabled, its
ladder ramps to zero before the switch opens (R165); with the converter die off the switch stays open (R164); both only while the quire is idle
(R166); a range change is accepted only at a ladder code of zero, and holds the channel from the second tick after its write (R167). Its reading of
what the rules leave open is the model's (log entries 37, 42, 89). -/
def Obligations.FluxLadderAndSwitch : Prop :=
  ∀ (s : State) (m : Master) (q : Fin 16) (i : Fin 24) (code : BitVec 20) (ramp : Ramp) (held : Int) (tick : Nat) (sr : Fin 4) (fr : Bool),
    let now := ladderCode s q i
    let step := getF s (F.FLX_SLOW_RAMP_STEP q i)
    let next : Int := if now ≤ ramp.target then min ramp.target (now + step) else max ramp.target (now - step)
    let r : Reg := ⟨.FLX_CFG, q, i, 0⟩
    let f := fluxOf s q i
    let en := flagF s (F.FLX_CFG_EN q i)
    (accepted m ⟨.FLX_LADDER, q, i, 0⟩ (.ladderWrite m q i code) s (fun u =>
      getS u (F.FLX_LADDER_CODE q i) = code.toInt ∧ u.sched = s.sched ++ [(regDelay s.now 8, .ladder q i code.toInt)] ∧ ladderCode u q i = now ∧
      onlyIn [.sched, .emitted] [.FLX_LADDER] s u)) ∧
    ((fluxOf s q i).ramp = some ramp → ramp.kind = .steps → ramp.next ≤ s.now → -(2 ^ 19) ≤ ramp.target → ramp.target < 2 ^ 19 →
      getF s (F.FLX_LADDER_NOW_CODE q i) < 2 ^ 20 → completes (.ladderRampUpdate q i) s (fun u =>
        ladderCode u q i = next ∧ (next = ramp.target → (fluxOf u q i).ramp = none ∧ flagF u (F.FLX_LADDER_NOW_RAMPING q i) = false) ∧
        (next ≠ ramp.target → (fluxOf u q i).ramp = some { ramp with next := ramp.next + 256 }) ∧
        onlyIn [.out] [.FLX_LADDER_NOW, .FLX_CNT] s u)) ∧
    ((fluxOf s q i).holdEnd = some (tick, held) → tick ≤ s.now → completes (.deglitchHoldEnd q i) s (fun u =>
      (fluxOf u q i).holdEnd = none ∧ flagF u (F.FLX_LADDER_NOW_HOLDING q i) = false ∧ ladderCode u q i = now ∧
      onlyIn [.out] [.FLX_LADDER_NOW] s u)) ∧
    (quireIdle s q = true → en = false → accepted m r (.fluxEnable m q i) s (fun u =>
      flagF u (F.FLX_CFG_EN q i) = true ∧ ladderCode u q i = 0 ∧
      (fluxOf u q i).closeAt = (if fluxPowered s q then some (s.now + 1000) else none) ∧
      flagF u (F.FLX_STAT_SWITCH q i) = flagF s (F.FLX_STAT_SWITCH q i) ∧ onlyIn [.out, .emitted] [.FLX_CFG, .FLX_LADDER_NOW] s u)) ∧
    (quireIdle s q = false → en = false → refused m r (.fluxEnable m q i) s) ∧
    (f.closeAt = some tick → tick ≤ s.now → completes (.fluxSwitchClose q i) s (fun u =>
      flagF u (F.FLX_STAT_SWITCH q i) = (flagF s (F.FLX_STAT_SWITCH q i) || (fluxPowered s q && !flagF s (F.FLX_STAT_STOP q i))) ∧
      (fluxOf u q i).closeAt = none ∧
      (fluxPowered s q = true → flagF s (F.FLX_STAT_STOP q i) = false → f.tripAct = none → f.faulty = false → getF s (F.FLX_SLOW_RAMP_STEP q i) = 0 →
        getS s (F.FLX_LADDER_CODE q i) ≠ 0 → getF s (F.FLX_LADDER_CODE q i) < 2 ^ 20 → ladderCode u q i = getS s (F.FLX_LADDER_CODE q i)) ∧
      onlyIn [.out, .sched] [.FLX_STAT, .FLX_LADDER_NOW, .FLX_CNT] s u)) ∧
    (quireIdle s q = true → en = true → flagF s (F.FLX_STAT_SWITCH q i) = true → accepted m r (.fluxDisable m q i) s (fun u =>
      flagF u (F.FLX_CFG_EN q i) = false ∧ (fluxOf u q i).opening = true ∧ flagF u (F.FLX_STAT_SWITCH q i) = true ∧
      (f.tripAct = none → (fluxOf u q i).ramp.map (·.target) = some 0) ∧ ladderCode u q i = ladderCode s q i ∧
      onlyIn [.out, .post, .emitted] [.FLX_CFG, .FLX_LADDER_NOW, .FLX_STAT, .FLX_CNT, .FLX_LATCH] s u)) ∧
    (quireIdle s q = false → en = true → refused m r (.fluxDisable m q i) s) ∧
    (f.opening = true → ladderCode s q i = 0 → s.power.stop = none → completes (.fluxSwitchOpen q i) s (fun u =>
      flagF u (F.FLX_STAT_SWITCH q i) = false ∧ (fluxOf u q i).opening = false ∧ onlyIn [.out] [.FLX_STAT, .FLX_LADDER_NOW] s u)) ∧
    (quireIdle s q = true → sr ≠ 3 → ladderCode s q i = 0 → getF s (F.FLX_CFG_SRANGE q i) ≠ sr.val →
      accepted m r (.fluxRangeChange m q i sr fr) s (fun u =>
        getF u (F.FLX_CFG_SRANGE q i) = sr.val ∧ flagF u (F.FLX_CFG_FRANGE q i) = fr ∧ (fluxOf u q i).rangeBy = regDelay s.now 1 + 5000 ∧
        u.sched = s.sched ++ [(regDelay s.now 1, .ranging q i)] ∧ onlyIn [.out, .sched, .emitted] [.FLX_CFG] s u)) ∧
    (flagF (rangingOn s q i) (F.FLX_STAT_RANGING q i) = true ∧ onlyChanges [] [F.FLX_STAT_RANGING q i] s (rangingOn s q i)) ∧
    (quireIdle s q = false ∨ sr = 3 ∨ ladderCode s q i ≠ 0 → getF s (F.FLX_CFG_SRANGE q i) ≠ sr.val →
      refused m r (.fluxRangeChange m q i sr fr) s) ∧
    completes (.fluxRangeSettled q i) s (fun u =>
      flagF u (F.FLX_STAT_RANGING q i) = false ∧ onlyChanges [] [F.FLX_STAT_RANGING q i] s u)

/-- A Press commit with D = -1 in an enabled section is refused; else the shadow comes into force at once in an idle quire and waits for the boundary in
another (R158); CLR zeroes the state of the sections and the delay line, only while the quire is idle (R159). Its reading of what the rules leave
open is the model's (log entries 43, 89). -/
def Obligations.Press : Prop :=
  ∀ (s : State) (m : Master) (q : Fin 16) (i : Fin 24) (k : Fin 8) (n : Fin 32),
    let r : Reg := ⟨.FLX_PRESS_CTRL, q, i, 0⟩
    (bitF s (F.FLX_PRESS_CTRL_SEC_EN q i) k = true → getF s (F.FLX_IIR_D_COEF q i k) = 2 ^ 23 → refused m r (.pressCommit m q i) s) ∧
    (pressRefused s q i = false → quireIdle s q = true → accepted m r (.pressCommit m q i) s (fun u =>
      pressVal u q i 0 (3 * k) = getF s (F.FLX_IIR_C0_COEF q i k) ∧ pressVal u q i 0 (3 * k + 1) = getF s (F.FLX_IIR_C1_COEF q i k) ∧
      pressVal u q i 0 (3 * k + 2) = getF s (F.FLX_IIR_D_COEF q i k) ∧ pressVal u q i 0 (64 + n) = getF s (F.FLX_FIR_COEF q i n) ∧
      pressVal u q i 0 128 = getF s (F.FLX_PRESS_CTRL_SEC_EN q i) ∧ flagF u (F.FLX_PRESS_CTRL_PENDING q i) = false ∧
      onlyIn [.out, .emitted] [.FLX_PRESS_CTRL, .FLX_XGAIN] s u)) ∧
    (pressRefused s q i = false → quireIdle s q = false → accepted m r (.pressCommit m q i) s (fun u =>
      flagF u (F.FLX_PRESS_CTRL_PENDING q i) = true ∧ onlyIn [.emitted] [.FLX_PRESS_CTRL] s u)) ∧
    (quireIdle s q = true → accepted m r (.pressClr m q i) s (fun u =>
      (fluxOf u q i).iir = List.replicate 8 (0, 0) ∧ (fluxOf u q i).fir = List.replicate 32 0 ∧ onlyIn [.out, .emitted] [] s u)) ∧
    (quireIdle s q = false → refused m r (.pressClr m q i) s)

/-- A bias write takes effect eight ticks or more later, and a ramping source moves by at most STEP codes an update (R170); current limiting is latched
(R171); the sequences of a pair bring its sources up in order and down in reverse order, with a pause between (R172). Its reading of what the rules
leave open is the model's (log entries 37, 41, 89). -/
def Obligations.BiasSources : Prop :=
  ∀ (s : State) (m : Master) (q : Fin 16) (b : Fin 2) (code : BitVec 16) (ramp : Ramp) (on : Bool) (x : BiasSeq) (tick : Nat),
    let now := biasNow s q b
    let step := getF s (F.BIAS_RAMP_STEP q b)
    let next : Int := if now ≤ ramp.target then min ramp.target (now + step) else max ramp.target (now - step)
    let first := getF s (F.BIAS_SEQ_ORDER q)
    let r : Reg := ⟨.BIAS_SEQ, q, 0, 0⟩
    let pair := [RegName.BIAS_CFG, .BIAS_NOW, .BIAS_SEQ, .BIAS_STAT]
    accepted m ⟨.BIAS_SET, q, b, 0⟩ (.biasSetWrite m q b code) s (fun u =>
      getF u (F.BIAS_SET_CODE q b) = code.toNat ∧ u.sched = s.sched ++ [(regDelay s.now 8, .bias q b code.toNat)] ∧
      onlyIn [.sched, .emitted] [.BIAS_SET] s u) ∧
    ((biasOf s q b).ramp = some ramp → ramp.kind = .steps → ramp.next ≤ s.now → (biasOf s q b).opening = false → step ≠ 0 →
      getF s (F.BIAS_NOW_CODE q b) < 2 ^ 16 → biasVal s q b (ofSigned 16 ramp.target) = ramp.target →
      completes (.biasRampUpdate q b) s (fun u =>
        biasNow u q b = next ∧ (next = ramp.target → (biasOf u q b).ramp = none) ∧ onlyIn [.out, .post] [.BIAS_NOW, .BIAS_SEQ] s u)) ∧
    completes (.biasIlim q b on) s (fun u =>
      flagF u (F.BIAS_STAT_ILIM q b) = on ∧ (on = true → flagF u (F.BIAS_LATCH_ILIM q b) = true) ∧
      onlyIn [.post] [.BIAS_STAT, .BIAS_LATCH] s u) ∧
    (biasPowered s q = true → accepted m r (.biasSeqUp m q) s (fun u =>
      flagF u (F.BIAS_SEQ_BUSY q) = true ∧ flagF u (F.BIAS_CFG_EN q first) = true ∧ flagF u (F.BIAS_STAT_SWITCH q first) = true ∧
      tget u.out.seqs none q.val = some ⟨true, false, none⟩ ∧ onlyIn [.out, .emitted] pair s u)) ∧
    (biasPowered s q = false → accepted m r (.biasSeqUp m q) s (fun u => onlyIn [.emitted] [] s u) ∧
      accepted m r (.biasSeqDown m q) s (fun u => onlyIn [.emitted] [] s u)) ∧
    (first < 2 → biasPowered s q = true → accepted m r (.biasSeqDown m q) s (fun u =>
      flagF u (F.BIAS_SEQ_BUSY q) = true ∧ (biasOf u q (1 - first)).opening = true ∧
      ((biasOf s q (1 - first)).tripAct = none → (biasOf s q (1 - first)).faulty = false →
        (biasOf u q (1 - first)).ramp.map (·.target) = some 0) ∧ onlyIn [.out, .emitted] pair s u)) ∧
    (tget s.out.seqs none q.val = some x → x.dwell = some tick → tick ≤ s.now → completes (.biasSeqDwellEnd q) s (fun u =>
      tget u.out.seqs none q.val = some { x with second := true, dwell := none } ∧
      (x.up = true → flagF u (F.BIAS_CFG_EN q (1 - first)) = true) ∧ (x.up = false → (biasOf u q first).opening = true) ∧
      onlyIn [.out] pair s u))

/-- A window whose input goes beyond a threshold becomes outside, is counted, and, armed, sets its latch; its group then trips the outputs it reaches;
it comes inside again only within the hysteresis (R177, R180 to R183); arming with the input beyond sets the latch at once (R178). Its reading of
what the rules leave open is the model's (log entries 44, 45, 89). -/
def Obligations.DeckleWindows : Prop :=
  ∀ (s : State) (w : Fin 456) (level : Int) (g : Fin 32) (q : Fin 16) (o : Fin 5) (tick : Nat),
    let crosses := winOn s w = true ∧ winOutside s w = false ∧ beyond s w level = true
    let tripped := fun (u : State) => flagF s (F.DK_WIN_CFG_TRIP_EN w) = true → reaches s g q o = true → flagF s (F.DRV_STAT_TRIP q o) = false →
      flagF u (F.DK_GRP_CFG_ASSERTED g) = true ∧ flagF u (F.DRV_STAT_TRIP q o) = true ∧ flagF u (F.DRV_STAT_MUTED q o) = true
    (crosses → (windowOf s w).armed = false → completes (.windowCrossing w level) s (fun u =>
      winOutside u w = true ∧ winLatched u w = winLatched s w ∧ (windowOf u w).level = level ∧
      getF u (F.DK_WIN_CNT_CROSS w) = (getF s (F.DK_WIN_CNT_CROSS w) + 1) % 2 ^ (F.DK_WIN_CNT_CROSS w).width ∧
      onlyIn [.deckle] [.DK_STAT, .DK_WIN_CNT] s u)) ∧
    (crosses → (windowOf s w).armed = true → winLatched s w = false → getF s (F.DK_WIN_CFG_GROUP w) = g.val →
      completes (.windowCrossing w level) s (fun u =>
        winOutside u w = true ∧ winLatched u w = true ∧ (464 + g.val) ∈ u.post.fired ∧ tripped u ∧
        onlyIn (.deckle :: tripParts) (.DK_STAT :: .DK_WIN_CNT :: .DK_LATCH :: tripRegs) s u)) ∧
    (winOn s w = true → winOutside s w = true → within s w level = true → completes (.windowInside w level) s (fun u =>
      winOutside u w = false ∧ winLatched u w = winLatched s w ∧ onlyIn [.deckle] [.DK_STAT] s u)) ∧
    (winOn s w = true → winOutside s w = true → within s w level = false → completes (.windowInside w level) s (fun u =>
      winOutside u w = true ∧ onlyIn [.deckle] [] s u)) ∧
    ((windowOf s w).armAt = some tick → tick ≤ s.now → winOn s w = true → beyond s w (windowOf s w).level = true → winLatched s w = false →
      getF s (F.DK_WIN_CFG_GROUP w) = g.val → completes (.windowArm w) s (fun u =>
        (windowOf u w).armed = true ∧ winLatched u w = true ∧ tripped u ∧
        onlyIn (.deckle :: tripParts) (.DK_WIN_CNT :: .DK_LATCH :: tripRegs) s u)) ∧
    ((windowOf s w).armAt = some tick → tick ≤ s.now → beyond s w (windowOf s w).level = false → winOutside s w = false →
      completes (.windowArm w) s (fun u => (windowOf u w).armed = true ∧ (windowOf u w).armAt = none ∧ onlyIn [.deckle] [] s u))

/-- Thresholds with L ≥ U are refused, and others disarm an enabled window for 2 µs (R178); a map write acts at once, a window enabled with its input
beyond goes outside, and ACTION 3 is refused (R178, R493); a window latch clears unless its window is outside, and the external latch unless the pin
is low (R180, R187); a threshold read-back is refused while one runs, and its result stands in DK_RB_DATA (R188). Its reading of what the rules
leave open is the model's (log entries 44, 89). -/
def Obligations.DeckleWrites : Prop :=
  ∀ (s : State) (m : Master) (w : Fin 456) (upper lower : Fin 1024) (hyst : Fin 8) (g : Fin 32) (q : Fin 16) (line action : Fin 4) (ramp : Fin 65536) (mask : BitVec 16)
    (map : BitVec 31) (ext : BitVec 32) (win : Fin 512) (side trip clr : Bool) (result : BitVec 16) (v x : Nat),
    let thr := Instr.dkWinThrWrite m w upper lower hyst
    (upper ≤ lower → refused m ⟨.DK_WIN_THR, w, 0, 0⟩ thr s) ∧
    (lower < upper → beyond s w (windowOf s w).level = false → winOutside s w = false → lower.val ≤ (windowOf s w).level →
      (windowOf s w).level ≤ upper.val → accepted m ⟨.DK_WIN_THR, w, 0, 0⟩ thr s (fun u =>
        getF u (F.DK_WIN_THR_UPPER w) = upper.val ∧ getF u (F.DK_WIN_THR_LOWER w) = lower.val ∧ getF u (F.DK_WIN_CFG_HYST w) = hyst.val ∧
        (flagF s (F.DK_WIN_CFG_EN w) = true → (windowOf u w).armed = false ∧ (windowOf u w).armAt = some (s.now + 1000)) ∧
        onlyIn [.deckle, .emitted] [.DK_WIN_THR, .DK_WIN_CFG] s u)) ∧
    (action ≠ 3 → accepted m ⟨.DK_GRP_CFG, g, 0, 0⟩ (.dkMapWrite m (.group g action line ramp)) s (fun u =>
      getF u (F.DK_GRP_CFG_ACTION g) = action.val ∧ getF u (F.DK_GRP_CFG_LINE g) = line.val ∧
      onlyIn (.emitted :: tripParts) tripRegs s u)) ∧
    accepted m ⟨.DK_GRP_QMASK, g, 0, 0⟩ (.dkMapWrite m (.qmask g mask)) s (fun u =>
      getF u (F.DK_GRP_QMASK_QMASK g) = mask.toNat ∧ onlyIn (.emitted :: tripParts) (.DK_GRP_QMASK :: tripRegs) s u) ∧
    accepted m ⟨.DK_QMAP, q, line, 0⟩ (.dkMapWrite m (.qmap q line map)) s (fun u =>
      getF u (F.DK_QMAP_MAP q line) = map.toNat ∧ onlyIn (.emitted :: tripParts) (.DK_QMAP :: tripRegs) s u) ∧
    accepted m ⟨.DK_EXT, 0, 0, 0⟩ (.dkMapWrite m (.ext ext)) s (fun u =>
      getF u F.DK_EXT_GMASK = ext.toNat ∧ onlyIn (.emitted :: tripParts) (.DK_EXT :: tripRegs) s u) ∧
    (w.val ≠ 453 → flagF s (F.DK_WIN_CFG_EN w) = false → beyond s w (windowOf s w).level = false → accepted m ⟨.DK_WIN_CFG, w, 0, 0⟩ (.dkMapWrite m (.cfg w true trip clr g)) s (fun u =>
      flagF u (F.DK_WIN_CFG_EN w) = true ∧ getF u (F.DK_WIN_CFG_GROUP w) = g.val ∧ winOutside u w = false ∧
      (windowOf u w).armed = false ∧ (windowOf u w).armAt = some (s.now + 1000) ∧
      onlyIn (.emitted :: .deckle :: tripParts) (.DK_WIN_CFG :: .DK_STAT :: tripRegs) s u)) ∧
    (w.val ≠ 453 → flagF s (F.DK_WIN_CFG_EN w) = false → winPowered s w = true → beyond s w (windowOf s w).level = true →
      accepted m ⟨.DK_WIN_CFG, w, 0, 0⟩ (.dkMapWrite m (.cfg w true trip clr g)) s (fun u =>
        winOutside u w = true ∧ winLatched u w = winLatched s w ∧ (windowOf u w).armAt = some (s.now + 1000) ∧
        onlyIn (.emitted :: .deckle :: tripParts) (.DK_WIN_CFG :: .DK_STAT :: .DK_WIN_CNT :: tripRegs) s u)) ∧
    (action = 3 → refused m ⟨.DK_GRP_CFG, g, 0, 0⟩ (.dkMapWrite m (.group g action line ramp)) s) ∧
    (winOutside s w = false → accepted m ⟨.DK_LATCH, w.val / 32, 0, 0⟩ (.dkLatchClear m (.window w)) s (fun u =>
      winLatched u w = false ∧ onlyIn (.emitted :: tripParts) (.DK_LATCH :: tripRegs) s u)) ∧
    (winOutside s w = true → winLatched s w = true → accepted m ⟨.DK_LATCH, w.val / 32, 0, 0⟩ (.dkLatchClear m (.window w)) s (fun u =>
      winLatched u w = true ∧ onlyIn (.emitted :: tripParts) (.DK_WIN_CNT :: tripRegs) s u)) ∧
    completes (.tripinFall true) s (fun u =>
      flagF u F.DK_EXT_CTRL_LATCH = true ∧ flagF u F.DK_EXT_CTRL_PIN = false ∧ onlyIn tripParts (.DK_EXT_CTRL :: tripRegs) s u) ∧
    (flagF s F.DK_EXT_CTRL_PIN = true → accepted m ⟨.DK_EXT_CTRL, 0, 0, 0⟩ (.dkLatchClear m .external) s (fun u =>
      flagF u F.DK_EXT_CTRL_LATCH = false ∧ onlyIn (.emitted :: tripParts) (.DK_EXT_CTRL :: tripRegs) s u)) ∧
    (flagF s F.DK_RB_BUSY = false → win.val < 456 → accepted m ⟨.DK_RB, 0, 0, 0⟩ (.thresholdReadback m win side) s (fun u =>
      flagF u F.DK_RB_BUSY = true ∧ u.deckle.rb = some (win.val, side.toNat) ∧ onlyIn [.deckle, .emitted] [.DK_RB] s u)) ∧
    (flagF s F.DK_RB_BUSY = true ∨ 456 ≤ win.val → refused m ⟨.DK_RB, 0, 0, 0⟩ (.thresholdReadback m win side) s) ∧
    (s.deckle.rb = some (v, x) → completes (.readbackDone result) s (fun u =>
      getF u F.DK_RB_DATA_RESULT = (if winPowered s v then result.toNat else 0) ∧ flagF u F.DK_RB_DATA_ERR = !(winPowered s v) ∧
      flagF u F.DK_RB_BUSY = false ∧ onlyIn [.deckle] [.DK_RB, .DK_RB_DATA] s u))

/-- Acquisition is enabled in an idle quire and its ADC becomes ready where it is powered (R192, R193); an overloaded sample is latched and marks the
windows it lies in (R195); an overload counts its ADC word once. Its reading of what the rules leave open is the model's (log entries 46, 91). -/
def Obligations.Acquisition : Prop :=
  ∀ (s : State) (m : Master) (q j : Fin 16) (word : Nat) (k : Fin 16) (w : OpenWin),
    let r : Reg := ⟨.HB_CTRL, q, 0, 0⟩
    let en := flagF s (F.HB_CTRL_ACQ_EN q)
    let sample := 16 * word + k.val
    (quireIdle s q = true → en = false → accepted m r (.acqEnable m q) s (fun u =>
      flagF u (F.HB_CTRL_ACQ_EN q) = true ∧ flagF u (F.HB_STAT_ADC_READY q) = flagF s (F.HB_STAT_ADC_READY q) ∧
      onlyIn [.head, .emitted] [.HB_CTRL] s u)) ∧
    (quireIdle s q = false → en = false → refused m r (.acqEnable m q) s) ∧
    (adcPowered s q = true → completes (.adcReady q) s (fun u => flagF u (F.HB_STAT_ADC_READY q) = true ∧ onlyIn [.head] [.HB_STAT] s u)) ∧
    (adcPowered s q = false → completes (.adcReady q) s (fun u => onlyIn [] [] s u)) ∧
    (w ∈ (cellOf s q j).wins → 128 * w.p + 2 * w.sub ≤ 3 * sample → 3 * sample < 128 * (w.p + w.len) →
      completes (.adcOverload q word k) s (fun u =>
        { w with ovl := true } ∈ (cellOf u q j).wins ∧ onlyIn [.head, .post] [.HB_CNT_A, .HB_LATCH, .HB_STAT] s u)) ∧
    (tget s.head.ovlWord none q.val ≠ some word → completes (.adcOverload q word k) s (fun u =>
      getF u (F.HB_CNT_A_OVL q) = (getF s (F.HB_CNT_A_OVL q) + 1) % 2 ^ (F.HB_CNT_A_OVL q).width ∧ flagF u (F.HB_LATCH_OVL q) = true ∧
      flagF u (F.HB_STAT_OVL q) = true)) ∧
    (tget s.head.ovlWord none q.val = some word → completes (.adcOverload q word k) s (fun u =>
      getF u (F.HB_CNT_A_OVL q) = getF s (F.HB_CNT_A_OVL q)))

/-- At E + 14 a window's result is formed: I and Q are the rounded sums, the state follows the discriminator's rule in modes 0 and 1, the descriptor is
released and the record is ready at E + 16 (R198, R202, R204, R206); a commit with THR1 < THR0 in mode 1 is refused, and another brings the shadows
into force at once in an idle quire, at the boundary in another (R202, R203). Its reading of what the rules leave open is the model's (log entries
46, 47, 91). -/
def Obligations.WindowResults : Prop :=
  ∀ (s : State) (m : Master) (q j : Fin 16) (codes : List Int) (w : OpenWin),
    let i := roundIQ (windowSum s q j w codes).re
    let v := roundIQ (windowSum s q j w codes).im
    let turned := (w.disc.c * i + w.disc.s * v) / 2 ^ 15 - w.disc.ofsI
    let result := fun (P : State → Prop) => dueWindow s q j = some w → w.bad = [] → completes (.windowResult q j codes) s P
    let shadow := fun (k : Nat) => (getF s (F.HB_DISC_CFG_MODE q k), getS s (F.HB_DISC_THR0_VALUE q k), getS s (F.HB_DISC_THR1_VALUE q k))
    result (fun u =>
      getF u (F.HB_CELL_LAST_I_VALUE q j) = ofSigned 32 i ∧ getF u (F.HB_CELL_LAST_Q_VALUE q j) = ofSigned 32 v ∧
      (cellOf u q j).wins = (cellOf s q j).wins.erase w ∧ flagF u (F.HB_CELL_STAT_LAST_VALID q j) = true ∧
      (w.p + w.len - 1 + 16, Packet.meas j w.t w.wgt w.sub w.p w.len i v w.spare false (windowOvl w codes) false false true
        (discState w.disc i v) true) ∈ (results u q).ready ∧
      onlyIn [.head, .couch, .beater, .post, .taints]
        [.HB_CELL_STAT, .HB_CELL_LAST_I, .HB_CELL_LAST_Q, .HB_CELL_LATCH, .HB_CELL_CNT, .WGT_W3, .CTX_IN, .CTX_CNT, .CTX_LATCH, .HB_RQ_CNT,
         .HB_RQ_CREDIT] s u) ∧
    (w.disc.mode = 0 → result (fun u =>
      getF u (F.HB_CELL_STAT_LAST_STATE q j) = if turned < w.disc.thr0 then 0 else 1)) ∧
    (w.disc.mode = 1 → result (fun u =>
      getF u (F.HB_CELL_STAT_LAST_STATE q j) = if turned < w.disc.thr0 then 0 else if turned < w.disc.thr1 then 1 else 2)) ∧
    ((shadow j).1 = 1 → (shadow j).2.2 < (shadow j).2.1 → refused m ⟨.HB_CTRL, q, 0, 0⟩ (.discCommit m q) s) ∧
    (discRefused s q = false → quireIdle s q = true → accepted m ⟨.HB_CTRL, q, 0, 0⟩ (.discCommit m q) s (fun u =>
      (cellOf u q j).disc.mode = (shadow j).1 ∧ (cellOf u q j).disc.thr0 = (shadow j).2.1 ∧ (cellOf u q j).disc.thr1 = (shadow j).2.2 ∧
      (cellOf u q j).disc.c = getS s (F.HB_DISC_ROT_COS q j) ∧ (cellOf u q j).disc.s = getS s (F.HB_DISC_ROT_SIN q j) ∧
      flagF u (F.HB_CTRL_PENDING q) = false ∧ onlyIn [.head, .emitted] [.HB_CTRL] s u)) ∧
    (discRefused s q = false → quireIdle s q = false → accepted m ⟨.HB_CTRL, q, 0, 0⟩ (.discCommit m q) s (fun u =>
      flagF u (F.HB_CTRL_PENDING q) = true ∧ (cellOf u q j).disc = (cellOf s q j).disc ∧ onlyIn [.emitted] [.HB_CTRL] s u))

/-- Enabling the result path grants DEPTH credits and resets the ring and the sequence numbers (R208, R212, R214); the ready packet that comes first
enters the queue with the next sequence number (R208, R210); the mover takes the head packet to the ring slot of DST_WR, and stops at a full ring; a
pop and a write of DST_RD free what they consume (R214, R215). Its reading of what the rules leave open is the model's (log entry 48). -/
def Obligations.ResultQueue : Prop :=
  ∀ (s : State) (m : Master) (q : Fin 16) (rec : Bool) (dest : Fin 4) (depth : Fin 1024) (slot : BitVec 32) (x : Nat × Packet) (h : Queued),
    let rp := results s q
    let wr := getF s (F.HB_RQ_DST_WR_SLOT q)
    let size := getF s (F.HB_RQ_DST_SIZE_VALUE q)
    let used := (wr + 2 ^ 32 - slot.toNat) % 2 ^ 32
    let fits := fun (p : Packet) => match p with
      | .meas _ t g sub _ _ _ _ _ _ _ _ _ _ _ _ => decide (t < 16 ∧ g < 256 ∧ sub < 64)
      | _ => true
    let moves := getF s (F.HB_RQ_CFG_DEST q) ≠ 0 ∧ flagF s (F.HB_RQ_CFG_EN q) = true ∧ regionUp s (q.val / 4) = true ∧
      flagF s F.MEM_DDR_STAT_READY = true ∧ headOf s q = some h
    (resultWritable s q = true → resultCfgOk s q true dest depth = true → accepted m ⟨.HB_RQ_CFG, q, 0, 0⟩ (.resultQueueEnable m q rec dest depth) s
      (fun u => flagF u (F.HB_RQ_CFG_EN q) = true ∧ getF u (F.HB_RQ_CREDIT_FREE q) = depth.val ∧ getF u (F.HB_RQ_DST_WR_SLOT q) = 0 ∧
        getF u (F.HB_RQ_DST_RD_SLOT q) = 0 ∧ (results u q).seq = 0 ∧ flagF u (F.HB_RQ_CFG_SHOTREC q) = rec ∧
        onlyIn [.head, .emitted] [.HB_RQ_CFG, .HB_RQ_CREDIT, .HB_RQ_DST_WR, .HB_RQ_DST_RD] s u)) ∧
    (quireIdle s q = false → flagF s (F.HB_RQ_CFG_EN q) = false → refused m ⟨.HB_RQ_CFG, q, 0, 0⟩ (.resultQueueEnable m q rec dest depth) s) ∧
    (firstPacket (rp.ready.filter (fun y => decide (y.1 ≤ s.now) && mayWrite s q y.2)) = some x → completes (.recordEnqueue q) s (fun u =>
      (results u q).seq = (rp.seq + 1) % 256 ∧ (results u q).queue.dropLast = rp.queue ∧
      (results u q).queue.getLast?.map (·.tick) = some s.now ∧
      (fits x.2 = true → (results u q).queue.getLast?.map (fun e => e.words.getD 1 0 / 2 ^ 24) = some rp.seq) ∧
      onlyIn [.head, .beater, .post, .taints] [.CTX_IN, .CTX_CNT, .CTX_LATCH, .HB_CNT_A, .HB_CNT_B, .HB_LATCH, .HB_RQ_CNT, .HB_RQ_CREDIT] s u)) ∧
    (moves → ringFull s q = false → completes (.resultMove q) s (fun u =>
      (results u q).queue = rp.queue.tail ∧ getF u (F.HB_RQ_DST_WR_SLOT q) = (wr + 1) % 2 ^ 32 ∧
      u.sched = s.sched ++ [(s.now + 2, .credit q)] ∧ memWord u (ringKey s q) = (h.words.getD 0 0) % 2 ^ 32 ∧
      (∀ a, a < ringKey s q ∨ ringKey s q + 32 ≤ a → memByte u a = memByte s a) ∧
      onlyIn [.head, .sched, .mem] [.HB_RQ_DST_WR] s u)) ∧
    (moves → ringFull s q = true → rp.stopped = false → completes (.resultMove q) s (fun u =>
      (results u q).queue = rp.queue ∧ (results u q).stopped = true ∧ flagF u (F.HB_LATCH_DEST_FULL q) = true ∧
      onlyIn [.head, .post] [.HB_RQ_CNT, .HB_LATCH] s u)) ∧
    (used ≤ size → accepted m ⟨.HB_RQ_DST_RD, q, 0, 0⟩ (.dstRdWrite m q slot) s (fun u =>
      getF u (F.HB_RQ_DST_RD_SLOT q) = slot.toNat ∧ (used ≠ size → (results u q).stopped = false) ∧
      onlyIn [.head, .emitted] [.HB_RQ_DST_RD] s u)) ∧
    (size < used → refused m ⟨.HB_RQ_DST_RD, q, 0, 0⟩ (.dstRdWrite m q slot) s) ∧
    (getF s (F.HB_RQ_CFG_DEST q) = 0 → headOf s q = some h → accepted m ⟨.HB_RQ_POP, q, 0, 0⟩ (.resultPop m q) s (fun u =>
      (results u q).queue = rp.queue.tail ∧ u.sched = s.sched ++ [(s.now + 2, .credit q)] ∧ onlyIn [.head, .sched, .emitted] [] s u)) ∧
    (headOf s q = none → accepted m ⟨.HB_RQ_POP, q, 0, 0⟩ (.resultPop m q) s (fun u => onlyIn [.emitted] [] s u))

/-- A faulty drive tone contributes zero from two ticks before it was found, and the spare is sent for (R142); a corrected error is only counted (R23);
the substitution lets the spare serve it; FORCE and RELEASE move a tone to the free spare and back 64 ticks or more after the write (R144, R145).
The windows a faulty cell's own hardware serves are lost and the free spare unit is sent for (R220); the substitution lets the unit serve the item;
FORCE and RELEASE move an item to the free unit and back in the same way (R221). Its reading of what the rules leave open is the model's (log
entries 39, 47, 90, 91). -/
def Obligations.ToneAndReadoutSpares : Prop :=
  ∀ (s : State) (m : Master) (q c j : Fin 16) (why : FaultCause) (e tick : Nat) (tone : Bool) (kind : Fin 2) (n : Fin 16),
    let target := getF s (F.TONE_SPARE_STAT_TARGET q)
    let rt : Reg := ⟨.TONE_SPARE_CTRL, q, 0, 0⟩
    let r : Reg := ⟨.HB_SPARE_CTRL, q, 0, 0⟩
    let at' := regDelay s.now 64
    let fails := fun (audited : Prop) => resetNow s q = false ∧ (why = .audit ∧ audited ∨ why = .ecc ∨ why = .parity)
    (fails (s.now % 16 = c.val) → toneSpareFree s q = true → completes (.toneFault q ⟨c.val, by omega⟩ why) s (fun u =>
      flagF u (F.TONE_STAT_FAILED q c) = true ∧ flagF u (F.TONE_LATCH_FAULT q c) = true ∧ flagF u (F.TONE_SPARE_STAT_BUSY q) = true ∧
      (toneOf u q c).zeroFrom = some (s.now - 2) ∧ tget u.out.subst none q.val = some (c.val, s.now) ∧ bitF u F.CHIP_FAULT_LATCH_QUIRE q = true ∧
      onlyIn [.out, .seq, .post, .taints, .head, .power]
        ([.TONE_STAT, .TONE_LATCH, .TONE_CNT, .TONE_SPARE_CNT, .TONE_SPARE_STAT, .CHIP_FAULT_LATCH] ++ lateRegs) s u)) ∧
    (vatmanUp s (q.val / 4) = true → tget s.out.subst none q.val = some (e, tick) → completes (.toneSubstitution q true) s (fun u =>
      flagF u (F.TONE_SPARE_STAT_IN_USE q) = true ∧ getF u (F.TONE_SPARE_STAT_TARGET q) = e % 16 ∧ flagF u (F.TONE_STAT_SUBST q e) = true ∧
      (toneOf u q e).zeroFrom = none ∧ tget u.out.subst none q.val = none ∧
      onlyIn [.out, .post, .power] [.TONE_SPARE_STAT, .TONE_SPARE_CNT, .TONE_STAT] s u)) ∧
    (toneSpareFree s q = true → flagF s (F.TONE_STAT_FAILED q c) = false → accepted m rt (.toneSpareForce m q c) s (fun u =>
      flagF u (F.TONE_SPARE_STAT_BUSY q) = true ∧ u.sched = s.sched ++ [(regDelay s.now 64, .toneMove q)] ∧
      tget u.out.move none q.val = some (true, c.val) ∧ onlyIn [.out, .sched, .emitted] [.TONE_SPARE_CTRL, .TONE_SPARE_STAT] s u)) ∧
    (toneSpareFree s q = false → accepted m rt (.toneSpareForce m q c) s (fun u => onlyIn [.emitted] [.TONE_SPARE_CTRL] s u)) ∧
    (flagF s (F.TONE_SPARE_STAT_IN_USE q) = true → tget s.out.move none q.val = none → flagF s (F.TONE_SPARE_STAT_FORCED q) = true →
      accepted m rt (.toneSpareRelease m q) s (fun u =>
        flagF u (F.TONE_SPARE_STAT_BUSY q) = true ∧ u.sched = s.sched ++ [(regDelay s.now 64, .toneMove q)] ∧
        tget u.out.move none q.val = some (false, target) ∧ onlyIn [.out, .sched, .emitted] [.TONE_SPARE_STAT] s u)) ∧
    (why = .corrected → completes (.toneFault q ⟨c.val, by omega⟩ why) s (fun u =>
      getF u (F.TONE_CNT_CORR q c) = (getF s (F.TONE_CNT_CORR q c) + 1) % 2 ^ (F.TONE_CNT_CORR q c).width ∧
      onlyChanges [] [F.TONE_CNT_CORR q c] s u)) ∧
    (fails (unitAudits s q 0 j = true) → unitFree s q = true → completes (.readoutCellFault q j why) s (fun u =>
      flagF u (F.HB_CELL_STAT_FAILED q j) = true ∧ flagF u (F.HB_CELL_LATCH_FAULT q j) = true ∧
      (cellOf u q j).wins = (cellOf s q j).wins.filter (·.spare) ∧
      flagF u (F.HB_CELL_STAT_BUSY q j) = (cellOf s q j).wins.any (·.spare) ∧ tget u.head.subst none q.val = some (0, j.val, s.now) ∧
      flagF u (F.HB_SPARE_STAT_BUSY q) = true ∧
      onlyIn [.head, .couch, .post, .taints, .power]
        ([.HB_CELL_STAT, .HB_CELL_LATCH, .HB_LATCH, .HB_SPARE_STAT, .HB_SPARE_CNT, .CHIP_FAULT_LATCH, .WGT_W3] ++ lateRegs) s u)) ∧
    (vatmanUp s (q.val / 4) = true → tget s.head.subst none q.val = some (kind.val, n.val, tick) → completes (.readoutSubstitution q true) s (fun u =>
      flagF u (F.HB_SPARE_STAT_IN_USE q) = true ∧ getF u (F.HB_SPARE_STAT_KIND q) = kind.val ∧ getF u (F.HB_SPARE_STAT_TARGET q) = n.val ∧
      flagF u (itemSubst q kind n) = true ∧ flagF u (F.HB_STAT_SUBST q) = true ∧ tget u.head.subst none q.val = none ∧
      onlyIn [.head, .out, .post, .power] [.HB_SPARE_STAT, .HB_SPARE_CNT, .HB_CELL_STAT, .TONE_STAT, .HB_STAT] s u)) ∧
    (unitFree s q = true → flagF s (itemFailed q tone.toNat n) = false → accepted m r (.readoutSpareForce m q tone n) s (fun u =>
      tget u.head.move none q.val = some (true, tone.toNat, n.val) ∧ flagF u (F.HB_SPARE_STAT_BUSY q) = true ∧
      u.sched = s.sched ++ [(at', .unitMove q)] ∧ onlyIn [.head, .sched, .emitted] [.HB_SPARE_CTRL, .HB_SPARE_STAT] s u)) ∧
    (unitFree s q = false → accepted m r (.readoutSpareForce m q tone n) s (fun u => onlyIn [.emitted] [.HB_SPARE_CTRL] s u)) ∧
    (flagF s (F.HB_SPARE_STAT_IN_USE q) = true → flagF s (F.HB_SPARE_STAT_FORCED q) = true → tget s.head.move none q.val = none →
      accepted m r (.readoutSpareRelease m q) s (fun u =>
        tget u.head.move none q.val = some (false, getF s (F.HB_SPARE_STAT_KIND q), getF s (F.HB_SPARE_STAT_TARGET q)) ∧
        u.sched = s.sched ++ [(at', .unitMove q)] ∧ onlyIn [.head, .sched, .emitted] [.HB_SPARE_STAT] s u))

/-- The operations of the Beater's datapath leave in AD the exact result of their function, saturated to 56 bits, with SAT set where it was clipped
(R231, R232, R240); the other accumulators stay, and no word of memory changes when it issues. -/
def Obligations.BeaterArithmetic : Prop :=
  ∀ (s : State) (q c : Fin 16) (p : Par), parRuns s q c p false → stageActs s q c p.so = true →
    let va := (vreg s q c p.va).toInt
    let vb := (vreg s q c p.vb).toInt
    let a := accOf s q c p.ad
    let b := accOf s q c p.as
    let gives := fun (i : Instr) (v : Int) => completes i s (fun u =>
      accOf u q c p.ad = max (-(2 ^ 55)) (min (2 ^ 55 - 1) v) ∧ (∀ n : Fin 4, n ≠ p.ad → accOf u q c n = accOf s q c n) ∧
      flagF u (F.CTX_STAT_SAT q c) = (flagF s (F.CTX_STAT_SAT q c) || decide (v < -(2 ^ 55)) || decide (2 ^ 55 - 1 < v)) ∧
      ctxGoesOn s u q c ∧ onlyIn [.beater, .post] [.CTX_STAT, .CTX_CNT, .CTX_LATCH, .CTX_IX, .CTX_PTR_B] s u)
    gives (.mpy q c p) (va * vb) ∧ gives (.mac q c p) (a + va * vb) ∧ gives (.msu q c p) (a - va * vb) ∧
    gives (.dsq q c p) ((va - vb) ^ 2) ∧ gives (.dsqa q c p) (a + (va - vb) ^ 2) ∧
    gives (.lda q c p) (va * 2 ^ 23) ∧ gives (.addv q c p) (a + va * 2 ^ 23) ∧ gives (.ldal q c p) va ∧
    gives (.adda q c p) (a + b) ∧ gives (.suba q c p) (a - b) ∧ gives (.clr q c p) 0 ∧
    gives (.abs q c p) (if a < 0 then -a else a) ∧
    gives (.sha q c p) (if p.vb.val < 16 then a * 2 ^ p.vb.val else a / 2 ^ (32 - p.vb.val))

/-- MINX and GEX set IX by a comparison of accumulators, CMP and TST set N and Z, STV rounds an accumulator into a V register (R232, R240). In every
parallel instruction, BEATER_NOP among them, each of the two lanes that acts moves one word at its pointer's address, of the mode's form: a load
brings the word of its bank into its V register, with the stores whose write cycle has come; a store sets out for its bank, written three cycles on;
and the offset of each pointer follows the modes, lane X first (R225, R230, R233, R235, R240). A store whose cycle is over stands in its bank, and
in no other byte. A field out of range faults the context with cause 1, two writes of one V register with cause 6, a lane outside its bank with
cause 4 (R228, R233, R238, R240). Its reading of what the rules leave open is the model's (log entries 49, 92). -/
def Obligations.BeaterCompareAndLanes : Prop :=
  ∀ (s : State) (q c : Fin 16) (p : Par) (n word v : Nat) (k : Fin 8),
    let a := accOf s q c p.ad
    let b := accOf s q c p.as
    let acts := stageActs s q c p.so = true
    let rounded := (a + 2 ^ (22 + p.vb.val)) / 2 ^ (23 + p.vb.val)
    let vphys := fun (u : State) (n : Nat) => (ctxOf u q c).v.toList.getD (physV (rrbOf s q c) n) 0
    let accs := fun (u : State) => ∀ n : Fin 4, accOf u q c n = accOf s q c n
    let ofs := fun (i : Fin 8) => (getF s (F.CTX_PTR_B_OFS q c i) : Int)
    let step := fun (i : Fin 8) => getS s (F.CTX_PTR_B_STEP q c i)
    let len := fun (i : Fin 8) => (ptrLen s q c i : Int)
    let ix : Int := ixOf s q c
    let addr := fun (l : Lane) => getF s (F.CTX_PTR_A_BASE q c l.p) +
      ((ofs l.p + if l.m = 3 then ix * step l.p else if l.m = 4 then step l.p else 0) % len l.p).toNat
    let key := fun (y : Bool) (l : Lane) => beaterKey q y (addr l)
    let moved := fun (l : Lane) (o : Nat) =>
      let by' := fun (d : Int) => ((o + d) % len k).toNat % 2 ^ 16
      if laneActs s q c l = true ∧ l.p = k then
        (if l.m = 1 then by' 1 else if l.m = 2 ∨ l.m = 4 then by' (step k) else if l.m = 5 then by' ix else o)
      else o
    let stored := fun (y : Bool) (l : Lane) =>
      if laneActs s q c l = true ∧ l.wr = true then [BankStore.mk (n + 3) (key y l) ((vreg s q c l.r).signExtend 32).toNat] else []
    let loaded := fun (u : State) (y : Bool) (l : Lane) =>
      laneActs s q c l = true → l.wr = false → vphys u l.r = BitVec.ofNat 24 (bankWord s n (key y l))
    let lanes := fun (i : Instr) => completes i s (fun u =>
      loaded u false p.x ∧ loaded u true p.y ∧ u.beater.stores = s.beater.stores ++ stored false p.x ++ stored true p.y ∧
      getF u (F.CTX_PTR_B_OFS q c k) = moved p.y (moved p.x (getF s (F.CTX_PTR_B_OFS q c k))) ∧ ctxGoesOn s u q c ∧ u.mem = s.mem)
    let forms := [Instr.beaterNop, Instr.mpy, Instr.mac, Instr.msu, Instr.dsq, Instr.dsqa, Instr.lda, Instr.addv, Instr.adda, Instr.suba,
      Instr.sha, Instr.clr, Instr.minx, Instr.gex, Instr.cmp, Instr.tst, Instr.abs, Instr.ldal]
    let regs := [RegName.CTX_STAT, .CTX_IX, .CTX_PTR_B]
    let faults := fun (i : Instr) (cause : Nat) => completes i s (fun u =>
      ctxState u q c = stFault ∧ getF u (F.CTX_STAT_FCAUSE q c) = cause ∧ flagF u (F.CTX_LATCH_FAULT q c) = true ∧
      onlyIn [.beater, .head, .post] [.CTX_STAT, .CTX_LATCH, .HB_RQ_CREDIT] s u)
    let flags := fun (i : Instr) (v : Int) => parRuns s q c p false → acts → completes i s (fun u =>
      flagF u (F.CTX_STAT_N q c) = decide (v < 0) ∧ flagF u (F.CTX_STAT_Z q c) = decide (v = 0) ∧ accs u ∧ ctxGoesOn s u q c ∧
      onlyIn [.beater] regs s u)
    (parRuns s q c p false → acts → completes (.minx q c p) s (fun u =>
      (b < a → accOf u q c p.ad = max (-(2 ^ 55)) (min (2 ^ 55 - 1) b) ∧ ixOf u q c = p.vb.val) ∧
      (a ≤ b → accOf u q c p.ad = a ∧ ixOf u q c = ixOf s q c) ∧ (∀ n : Fin 4, n ≠ p.ad → accOf u q c n = accOf s q c n) ∧ ctxGoesOn s u q c ∧
      onlyIn [.beater, .post] (.CTX_CNT :: .CTX_LATCH :: regs) s u)) ∧
    (parRuns s q c p false → acts → completes (.gex q c p) s (fun u =>
      (b ≤ a → ixOf u q c = p.vb.val) ∧ (a < b → ixOf u q c = ixOf s q c) ∧ accs u ∧ ctxGoesOn s u q c ∧ onlyIn [.beater] regs s u)) ∧
    flags (.cmp q c p) (a - b) ∧ flags (.tst q c p) a ∧
    (parRuns s q c p true → acts → p.vb.val ≤ 24 → completes (.stv q c p) s (fun u =>
      (vphys u p.va).toInt = max (-(2 ^ 23)) (min (2 ^ 23 - 1) rounded) ∧
      flagF u (F.CTX_STAT_SAT q c) = (flagF s (F.CTX_STAT_SAT q c) || decide (rounded < -(2 ^ 23)) || decide (2 ^ 23 - 1 < rounded)) ∧
      accs u ∧ ctxGoesOn s u q c ∧ onlyIn [.beater, .post] (.CTX_CNT :: .CTX_LATCH :: regs) s u)) ∧
    (parRuns s q c p false → completes (.beaterNop q c p) s (fun u => accs u ∧ ctxGoesOn s u q c ∧ onlyIn [.beater] regs s u)) ∧
    (parRuns s q c p false → issueCycle s q c = some n → ∀ f ∈ forms, lanes (f q c p)) ∧
    (parRuns s q c p true → p.vb.val ≤ 24 → issueCycle s q c = some n → lanes (.stv q c p)) ∧
    (ctxMayIssue s q c → parBad s q c p = true → ∀ f ∈ forms, faults (f q c p) 1) ∧
    (ctxMayIssue s q c → 24 < p.vb.val → faults (.stv q c p) 1) ∧
    (ctxMayIssue s q c → parBad s q c p = false → doubleWrite s q c p false = true → ∀ f ∈ forms, faults (f q c p) 6) ∧
    (ctxMayIssue s q c → parBad s q c p = false → doubleWrite s q c p false = false →
      laneFits s q c false p.x = false ∨ laneFits s q c true p.y = false → ∀ f ∈ forms, faults (f q c p) 4) ∧
    (s.beater.stores = [⟨n, word, v⟩] →
      let u := storesSettle s none (n + 1)
      memWord u word = v % 2 ^ 32 ∧ u.beater.stores = [] ∧ (∀ b, b < word ∨ word + 4 ≤ b → memByte u b = memByte s b))

/-- Control of a context: HALT ends it, BR and BRF branch, LOOP opens a level inside at most one other, SETP writes an address register, LDI a V
register, ROT turns the rotating registers (R228, R236, R237, R241); a reserved bit or value faults the context with cause 1, a fetch outside its
window with cause 2, a LOOP too deep with cause 3 (R228, R237). -/
def Obligations.BeaterControl : Prop :=
  ∀ (s : State) (q c : Fin 16) (tgt : Fin 8192) (cc : Fin 8) (rot src : Bool) (stg : Fin 8) (cnt : Fin 65536) (vr : Fin 32) (ptr : Fin 8) (field : Fin 4)
    (imm : BitVec 16) (v : BitVec 24) (n : Fin 16),
    let x := ctxOf s q c
    let count := if src then (vreg s q c vr).toNat % 65536 else cnt.val
    let zero := flagF s (F.CTX_STAT_Z q c)
    let neg := flagF s (F.CTX_STAT_N q c)
    let holds := [zero, !zero, neg, !neg, neg || zero, !(neg || zero), flagF s (F.CTX_STAT_SAT q c)].getD cc.val false
    let regs := [RegName.CTX_STAT, .CTX_IX]
    let at' := fun (u : State) (a : Nat) => ctxState u q c = stRun ∧ (ctxOf u q c).pc = a
    let runs := ctxMayIssue s q c
    let faults := fun (i : Instr) (cause : Nat) => completes i s (fun u =>
      ctxState u q c = stFault ∧ getF u (F.CTX_STAT_FCAUSE q c) = cause ∧ flagF u (F.CTX_LATCH_FAULT q c) = true ∧ (ctxOf u q c).pkt = none ∧
      (ctxOf u q c).pc = x.pc ∧ onlyIn [.beater, .head, .post] [.CTX_STAT, .CTX_LATCH, .HB_RQ_CREDIT] s u)
    let fields := fun (w : State) => [getF w (F.CTX_PTR_A_BASE q c ptr), getF w (F.CTX_PTR_A_LEN q c ptr), getF w (F.CTX_PTR_B_STEP q c ptr), getF w (F.CTX_PTR_B_OFS q c ptr)]
    let nests := match x.loops with
      | [] => true
      | [l] => !l.rot && decide (tgt.val ≤ l.last)
      | _ => false
    let deep := match x.loops with
      | [] => false
      | l :: r => l.rot || !r.isEmpty
    let beyondOuter := match x.loops with
      | [] => false
      | l :: _ => decide (l.last < tgt.val)
    let skip := ctxFollow tgt (rrbOf s q c) x.loops
    let loop := Instr.beaterLoop q c false rot stg src cnt vr tgt
    (runs → completes (.beaterHalt q c false) s (fun u =>
      ctxState u q c = stDone ∧ (ctxOf u q c).pkt = none ∧ onlyIn [.beater, .head] (.HB_RQ_CREDIT :: regs) s u)) ∧
    (runs → completes (.beaterBr q c false tgt) s (fun u => at' u tgt ∧ onlyIn [.beater] regs s u)) ∧
    (runs → cc.val < 7 → holds = true → completes (.brf q c false cc tgt) s (fun u => at' u tgt ∧ onlyIn [.beater] regs s u)) ∧
    (runs → cc.val < 7 → holds = false → completes (.brf q c false cc tgt) s (fun u => ctxGoesOn s u q c ∧ onlyIn [.beater] regs s u)) ∧
    (runs → nests = true → x.pc < tgt.val → 0 < count → completes loop s (fun u =>
      at' u (x.pc + 1) ∧
      (ctxOf u q c).loops = ⟨x.pc + 1, tgt.val, if rot then count + stg.val else count, rot, 0, count, stg.val + 1⟩ :: x.loops ∧
      onlyIn [.beater] regs s u)) ∧
    (runs → nests = true → x.pc < tgt.val → count = 0 → completes loop s (fun u =>
      at' u skip.1 ∧ (ctxOf u q c).loops = skip.2.1 ∧ onlyIn [.beater] regs s u)) ∧
    (runs → tgt.val ≤ x.pc ∨ beyondOuter = true → faults loop 1) ∧ (runs → x.pc < tgt.val → beyondOuter = false → deep = true → faults loop 3) ∧
    (runs → completes (.setp q c false ptr field imm) s (fun u =>
      (fields u).getD field 0 = imm.toNat ∧ (∀ k : Fin 4, k ≠ field → (fields u).getD k 0 = (fields s).getD k 0) ∧ ctxGoesOn s u q c ∧
      onlyIn [.beater] (.CTX_PTR_A :: .CTX_PTR_B :: regs) s u)) ∧
    (runs → completes (.ldi q c false vr v) s (fun u =>
      (ctxOf u q c).v.toList.getD (physV (rrbOf s q c) vr) 0 = v ∧ (∀ k : Fin 4, accOf u q c k = accOf s q c k) ∧ ctxGoesOn s u q c ∧
      onlyIn [.beater] regs s u)) ∧
    (runs → completes (.rot q c false n) s (fun u =>
      rrbOf u q c = (ctxFollow x.pc ((rrbOf s q c + 16 - n.val) % 16) x.loops).2.2 ∧ (ctxOf u q c).v = x.v ∧ ctxGoesOn s u q c ∧
      onlyIn [.beater] regs s u)) ∧
    (runs → ∀ i ∈ [Instr.beaterHalt q c true, .beaterBr q c true tgt, .brf q c true cc tgt, .brf q c false 7 tgt, .beaterLoop q c true rot stg src cnt vr tgt,
      .setp q c true ptr field imm, .ldi q c true vr v, .rot q c true n], faults i 1) ∧
    (ctxCanIssue s q c = true → x.pc < getF s (F.CTX_WIN_BASE q c) ∨ getF s (F.CTX_WIN_LIMIT q c) < x.pc →
      ∀ i ∈ [Instr.beaterHalt q c false, .beaterBr q c false tgt, .brf q c false cc tgt, loop, .setp q c false ptr field imm, .ldi q c false vr v,
        .rot q c false n], faults i 2)

/-- WAITIN takes the head input entry, scaled, with its tag, or waits, and after its timeout goes on with zeros and the TIMEOUT tag (R243); OUTP sends a
value to its output two ticks on unless the entry taken was bad and GATE is set (R245, R246); OUTR's first word reserves a credit or stalls, and END
or the sixth word closes the packet (R248). Its reading of what the rules leave open is the model's (log entries 49, 92). -/
def Obligations.BeaterInputOutput : Prop :=
  ∀ (s : State) (q c : Fin 16) (vr : Fin 32) (tmo : Fin 65536) (out imm : Fin 4) (src : Fin 3) (gate : Bool) (tag : Fin 128) (last : Bool) (e : InEntry)
    (w since : Nat),
    let x := ctxOf s q c
    let v := fun (u : State) (n : Nat) => (ctxOf u q c).v.toList.getD (physV (rrbOf s q c) n) 0
    let shift := getF s (F.CTX_IN_SHIFT q c)
    let scaled := fun (i : Int) => max (-(2 ^ 23)) (min (2 ^ 23 - 1) (if shift = 0 then i else (i + 2 ^ (shift - 1)) / 2 ^ shift))
    let out' := [ixOf s q c, imm.val, (vreg s q c vr).toNat].getD src.val 0 % 4
    let word := ((vreg s q c vr).signExtend 32).toNat
    let credit := getF s (F.HB_RQ_CREDIT_FREE q)
    let regs := [RegName.CTX_STAT, .CTX_IX]
    let pkt := x.pkt.getD ⟨s.now, tag.val, []⟩
    let words := pkt.words ++ [word]
    let has := x.pkt.isSome = true ∨ x.credit = true
    (ctxMayIssue s q c → vr.val ≤ 29 → headEntry s q c = some e → completes (.waitin q c false vr tmo) s (fun u =>
      (v u vr).toInt = scaled e.i ∧ (v u (vr.val + 1)).toInt = scaled e.q ∧ v u (vr.val + 2) = BitVec.ofNat 24 (entryTag e) ∧ ixOf u q c = 0 ∧
      (ctxOf u q c).inq = x.inq.tail ∧ (ctxOf u q c).bad = (e.late || e.flushed || e.corrupt) ∧ ctxGoesOn s u q c ∧
      onlyIn [.beater] (.CTX_IN :: regs) s u)) ∧
    (ctxMayIssue s q c → vr.val ≤ 29 → headEntry s q c = none → completes (.waitin q c false vr tmo) s (fun u =>
      ctxState u q c = stWait ∧ getF u (F.CTX_STAT_WCAUSE q c) = 8 ∧ (ctxOf u q c).wait = some (vr.val, tmo.val, s.now) ∧
      onlyIn [.beater] regs s u)) ∧
    (ctxMayIssue s q c → 29 < vr.val → completes (.waitin q c false vr tmo) s (fun u =>
      ctxState u q c = stFault ∧ getF u (F.CTX_STAT_FCAUSE q c) = 1 ∧ onlyIn [.beater, .head, .post] [.CTX_STAT, .CTX_LATCH, .HB_RQ_CREDIT] s u)) ∧
    (x.wait = some (vr.val, w, since) → vr.val ≤ 29 → 0 < w → since + w ≤ s.now → headEntry s q c = none → engineIssues s q = true →
      completes (.waitinTimeout q c) s (fun u =>
        v u vr = 0 ∧ v u (vr.val + 1) = 0 ∧ v u (vr.val + 2) = BitVec.ofNat 24 (2 ^ 23) ∧ (ctxOf u q c).bad = true ∧ (ctxOf u q c).wait = none ∧
        ctxGoesOn s u q c ∧ onlyIn [.beater] regs s u)) ∧
    (ctxMayIssue s q c → (gate && x.bad) = false → completes (.outp q c false out ⟨src.val, by omega⟩ imm gate vr) s (fun u =>
      (q.val, out.val, s.now + 2, out') ∈ u.beater.outs ∧ ctxGoesOn s u q c ∧
      onlyIn [.beater, .post] (.BT_CNT :: .BT_LATCH :: regs) s u)) ∧
    (ctxMayIssue s q c → gate = true → x.bad = true → completes (.outp q c false out ⟨src.val, by omega⟩ imm gate vr) s (fun u =>
      u.beater.outs = s.beater.outs ∧ ctxGoesOn s u q c ∧ onlyIn [.beater] regs s u)) ∧
    (ctxMayIssue s q c → has ∨ creditTaken s q c = false → completes (.outr q c false vr last tag) s (fun u =>
      (if last = true ∨ 6 ≤ words.length then (ctxOf u q c).pkt = none ∧ (s.now + 2, Packet.beater c pkt.tag pkt.tick words) ∈ (results u q).ready
        else (ctxOf u q c).pkt = some { pkt with words := words } ∧ (results u q).ready = (results s q).ready) ∧
      (has → getF u (F.HB_RQ_CREDIT_FREE q) = credit) ∧ (¬has → getF u (F.HB_RQ_CREDIT_FREE q) = (credit - 1) % 2 ^ 10) ∧
      ctxGoesOn s u q c ∧ onlyIn [.beater, .head] (.HB_RQ_CREDIT :: regs) s u)) ∧
    (ctxMayIssue s q c → ¬has → creditTaken s q c = true → completes (.outr q c false vr last tag) s (fun u =>
      ctxState u q c = stStall ∧ (ctxOf u q c).pc = x.pc ∧ (ctxOf u q c).pkt = none ∧ onlyIn [.beater] [.CTX_CNT, .CTX_STAT] s u))

/-- START puts a context into RUN with its registers cleared, is held while the engine is paused, or is refused with START_REF while the engine is
disabled (R228, R250); STOP ends it; clearing EN stops every context, setting it starts the round robin at context 0 (R229). Its reading of what the
rules leave open is the model's (log entry 92). -/
def Obligations.BeaterContexts : Prop :=
  ∀ (s : State) (m : Master) (q c : Fin 16),
    let r : Reg := ⟨.CTX_CTRL, q, c, 0⟩
    let en := flagF s (F.BT_CTRL_EN q)
    let paused := flagF s (F.BT_ESTAT_PAUSED q)
    let active := isActive (ctxState s q c)
    (active = false → en = true → paused = false → accepted m r (.ctxStart m q c) s (fun u =>
      ctxState u q c = stRun ∧ (ctxOf u q c).pc = getF s (F.CTX_PC_PC q c) ∧ (∀ n : Fin 4, accOf u q c n = 0) ∧ rrbOf u q c = 0 ∧ ixOf u q c = 0 ∧
      (ctxOf u q c).inq = [] ∧ flagF u (F.CTX_STAT_SAT q c) = false ∧ onlyIn [.beater, .emitted] [.CTX_STAT, .CTX_IX, .CTX_IN] s u)) ∧
    (active = false → en = true → paused = true → accepted m r (.ctxStart m q c) s (fun u =>
      (ctxOf u q c).startReq = true ∧ onlyIn [.beater, .emitted] [] s u)) ∧
    (active = false → en = false → accepted m r (.ctxStart m q c) s (fun u =>
      flagF u (F.CTX_LATCH_START_REF q c) = true ∧ onlyIn [.post, .emitted] [.CTX_LATCH] s u)) ∧
    (active = true → accepted m r (.ctxStart m q c) s (fun u => onlyIn [.emitted] [] s u)) ∧
    (active = true → accepted m r (.ctxStop m q c) s (fun u =>
      ctxState u q c = stDone ∧ (ctxOf u q c).pkt = none ∧ (ctxOf u q c).pc = (ctxOf s q c).pc ∧
      onlyIn [.beater, .head, .emitted] [.CTX_STAT, .HB_RQ_CREDIT] s u)) ∧
    (active = false → accepted m r (.ctxStop m q c) s (fun u =>
      ctxState u q c = ctxState s q c ∧ (ctxOf u q c).startReq = false ∧ onlyIn [.beater, .emitted] [] s u)) ∧
    accepted m ⟨.BT_CTRL, q, 0, 0⟩ (.beaterEnable m q true) s (fun u =>
      flagF u (F.BT_CTRL_EN q) = true ∧ (slotOf u q).served = (if en then (slotOf s q).served else 15) ∧
      onlyIn [.beater, .emitted] [.BT_CTRL] s u) ∧
    accepted m ⟨.BT_CTRL, q, 0, 0⟩ (.beaterEnable m q false) s (fun u =>
      flagF u (F.BT_CTRL_EN q) = false ∧ (∀ k : Fin 16, isActive (ctxState u q k) = false) ∧
      onlyIn [.beater, .head, .emitted] [.BT_CTRL, .CTX_STAT, .HB_RQ_CREDIT] s u)

/-- An engine fault pauses the engine for the free regional spare; one that finds the spare sent in the same tick for an engine of a higher quire takes
it over; without a spare every context faults and the fault reaches the chip level (R26, R251). The substitution lets the engine issue again; FORCE
and RELEASE move a healthy engine to the spare and back, RELEASE also one that has passed its self-check (R252). Its reading of what the rules leave
open is the model's (log entries 14, 49, 92, 94). -/
def Obligations.EngineSpare : Prop :=
  ∀ (s : State) (m : Master) (q c q' : Fin 16) (forced : Bool),
    let g := q.val / 4
    let r : Reg := ⟨.BT_CTRL, q, 0, 0⟩
    let free := engineSpareFree s g = true
    let fault := [RegName.BT_CNT, .BT_LATCH, .BT_ESTAT, .CHIP_FAULT_LATCH]
    let lost := .CTX_STAT :: .CTX_LATCH :: .HB_RQ_CREDIT :: .QERR_STAT :: .QERR_LATCH :: .CHIP_FAULT_STAT :: fault
    let starts := [RegName.BT_ESTAT, .CTX_STAT, .CTX_IX, .CTX_IN, .CTX_LATCH]
    let failed := flagF s (F.BT_ESTAT_FAILED q)
    let held := fun (u : State) => (ctxOf s q c).startReq = true → isActive (ctxState s q c) = false → flagF s (F.BT_CTRL_EN q) = true →
      ctxState u q c = stRun
    (resetNow s q = false → free → completes (.engineFault q) s (fun u =>
      flagF u (F.BT_ESTAT_PAUSED q) = true ∧ flagF u (F.BT_ESTAT_FAILED q) = true ∧ flagF u (F.BT_LATCH_RESIDUE q) = true ∧
      tget u.beater.pending none g = some (q.val, false) ∧ ctxState u q c = ctxState s q c ∧ onlyIn [.beater, .post, .power] fault s u)) ∧
    (resetNow s q = false → ¬free → engineMoving s q = false → engineYields s q = none → completes (.engineFault q) s (fun u =>
      flagF u (F.BT_ESTAT_FAILED q) = true ∧ flagF u (F.BT_ESTAT_SUBST q) = false ∧ ctxState u q c = stFault ∧
      getF u (F.CTX_STAT_FCAUSE q c) = 7 ∧ flagF u F.CHIP_FAULT_LATCH_CHIP = true ∧ flagF u (F.QERR_STAT_UNSPARABLE q) = true ∧
      onlyIn [.beater, .post, .power, .head] lost s u)) ∧
    (resetNow s q = false → engineYields s q = some q'.val → completes (.engineFault q) s (fun u =>
      flagF u (F.BT_ESTAT_PAUSED q) = true ∧ tget u.beater.pending none g = some (q.val, false) ∧ ctxState u q' c = stFault ∧
      getF u (F.CTX_STAT_FCAUSE q' c) = 7 ∧ ctxState u q c = ctxState s q c ∧ onlyIn [.beater, .post, .power, .head] lost s u)) ∧
    (vatmanUp s g = true → tget s.beater.pending none g = some (q.val, false) → completes (.engineSubstitution ⟨g, by omega⟩) s (fun u =>
      flagF u (F.BT_ESTAT_SUBST q) = true ∧ flagF u (F.BT_ESTAT_PAUSED q) = false ∧ tget u.beater.pending none g = none ∧
      tget u.beater.spare none g = some (q.val, !failed) ∧ held u ∧ onlyIn [.beater, .post, .power] starts s u)) ∧
    (vatmanUp s g = true → tget s.beater.pending none g = some (q.val, true) → completes (.engineSubstitution ⟨g, by omega⟩) s (fun u =>
      flagF u (F.BT_ESTAT_SUBST q) = false ∧ flagF u (F.BT_ESTAT_FAILED q) = false ∧ flagF u (F.BT_ESTAT_PAUSED q) = false ∧
      tget u.beater.spare none g = none ∧ held u ∧ onlyIn [.beater, .post] starts s u)) ∧
    (free → failed = false → accepted m r (.beaterForce m q) s (fun u =>
      flagF u (F.BT_ESTAT_PAUSED q) = true ∧ tget u.beater.pending none g = some (q.val, false) ∧ onlyIn [.beater, .emitted] [.BT_ESTAT] s u)) ∧
    (¬free ∨ failed = true → accepted m r (.beaterForce m q) s (fun u => onlyIn [.emitted] [] s u)) ∧
    (tget s.beater.spare none g = some (q.val, forced) → tget s.beater.pending none g = none → forced = true ∨ tget s.beater.checked false q.val = true →
      accepted m r (.beaterRelease m q) s (fun u =>
        flagF u (F.BT_ESTAT_PAUSED q) = true ∧ tget u.beater.pending none g = some (q.val, true) ∧ onlyIn [.beater, .emitted] [.BT_ESTAT] s u)) ∧
    (tget s.beater.spare none g = some (q.val, false) → tget s.beater.checked false q.val = false →
      accepted m r (.beaterRelease m q) s (fun u => onlyIn [.emitted] [] s u))

/-- A decision entry that an external input accepts is delivered at L + 16 + CDLY: in the tick of its arrival where that is the tick, or in the next
tick, counted late, if it has passed; one that no input accepts is counted as dropped; the entries of a cell act in order (R257, R258). A frame
write, and a clear, taken only while every quire is idle, act in the first tick at least 4 ticks after the write: the write XORs its mask into
sixteen slots, the clear leaves every frame zero (R262). Where the statement says that an event which is not due changes nothing, that is the
model's choice (log entry 2). Its reading of what the rules leave open is the model's (log entries 37, 51, 95). -/
def Obligations.CouchDecisions : Prop :=
  ∀ (s : State) (m : Master) (p : Fin 8) (e : DecEntry) (es : List DecEntry) (n : Fin 64) (w : Fin 16) (mask : BitVec 32) (i : Fin 16) (k : Nat),
    let takes := fun (n : Fin 64) => flagF s (F.XIN_CFG_EN n) = true ∧ getF s (F.XIN_CFG_PORT n) = p.val ∧ getF s (F.XIN_CFG_EXPORT n) = e.exp.val
    let d := s.now - (s.now + 256 - e.l8.val) % 256 + 16 + getF s (F.COUCH_PORT_CDLY p)
    let what : Deliver := if e.arm then .xarm n else .xin n e.val
    let rx := Instr.decisionCellRx p [e]
    let regs := [RegName.COUCH_CNT, .COUCH_LATCH]
    let xor := couchEffect s (.pfXor w mask.toNat)
    (portRuns s p = true → takes n → s.now < d → completes rx s (fun u =>
      (d, what) ∈ u.couch.due ∧ onlyIn [.couch, .chain] [] s u)) ∧
    (portRuns s p = true → takes n → d = s.now → e.arm = false → completes rx s (fun u =>
      getF u (F.XIN_CFG_VALUE n) = e.val.val ∧ flagF u (F.XIN_CFG_DELIVERED n) = true ∧
      (s.now + 2, Deliver.subs (320 + n) e.val) ∈ u.couch.due ∧ onlyIn [.couch, .chain] [.XIN_CFG] s u)) ∧
    (portRuns s p = true → takes n → d = s.now → e.arm = true → completes rx s (fun u =>
      (s.now + 1, Act.armSource (320 + n) true) ∈ u.sched ∧ onlyIn [.sched, .chain] [] s u)) ∧
    (portRuns s p = true → takes n → d < s.now → completes rx s (fun u =>
      (s.now + 1, what) ∈ u.couch.due ∧ flagF u F.COUCH_LATCH_XLATE = true ∧ onlyIn [.couch, .chain, .post] regs s u)) ∧
    (portRuns s p = true → (∀ k : Fin 64, ¬takes k) → completes rx s (fun u =>
      getF u F.COUCH_CNT_XDROP = (getF s F.COUCH_CNT_XDROP + 1) % 2 ^ F.COUCH_CNT_XDROP.width ∧ onlyIn [.chain] [.COUCH_CNT] s u)) ∧
    (portRuns s p = true → completes rx s (fun v => completes (.decisionCellRx p (e :: es)) s (fun u =>
      u = es.foldl (fun t x => decisionEntry t p x) v))) ∧
    (portRuns s p = false → completes (.decisionCellRx p es) s (fun u => u = s)) ∧
    accepted m ⟨.COUCH_PF_XOR, w, 0, 0⟩ (.pfXor m w mask) s (fun u =>
      u.couch.due = s.couch.due ++ [(regDelay s.now 4, .pfXor w mask.toNat)] ∧ onlyIn [.couch, .emitted] [] s u) ∧
    (allIdle s = true → accepted m ⟨.COUCH_CTRL, 0, 0, 0⟩ (.pfClr m) s (fun u =>
      u.couch.due = s.couch.due ++ [(regDelay s.now 4, .pfClr)] ∧ onlyIn [.couch, .emitted] [] s u)) ∧
    (allIdle s = false → refused m ⟨.COUCH_CTRL, 0, 0, 0⟩ (.pfClr m) s) ∧
    (frameOf xor (16 * w.val + i.val) = frameOf s (16 * w.val + i.val) ^^^ mask.toNat / 4 ^ i.val % 4 ∧ onlyIn [.couch] [] s xor) ∧
    (frameOf (couchEffect s .pfClr) k = 0 ∧ onlyIn [.couch] [] s (couchEffect s .pfClr))

/-- START arms the syndrome engine, or names the first error of its graph; STOP ends it and discards its window (R271); a round due to close becomes the
last closed one, fires its event and waits for its pass (R272), or, a fifth one waiting, all rounds are discarded and logged as such (R278); a
decode pass takes the first waiting round (R273), and its end writes one entry of the round log (R280); a boundary entry is held while the port
pulls, and dropped otherwise (R277); an uncorrectable table word stops the engine and reaches the chip level (R356). Where the statement says that
an event which is not due changes nothing, that is the model's choice (log entry 2). Its reading of what the rules leave open is the model's (log
entries 50, 95). -/
def Obligations.SyndromeEngine : Prop :=
  ∀ (s : State) (m : Master) (p : Fin 8) (index : Fin 512) (round : Fin 256) (code at_ b : Nat) (check : Bool) (x : Round) (rest : List Round) (l : PassLog),
    let e := s.couch.se
    let r : Reg := ⟨.SE_CTRL, 0, 0, 0⟩
    let idle := flagF s F.SE_STAT_ARMED = false ∧ flagF s F.SE_STAT_RUN = false
    let good := tableBad s = none
    let base := couchKey (0x10000 + 16 * getF s F.SE_LOG_WR)
    let missing := getF s F.SE_GEOM_C - e.got.length
    let stopped := fun (u : State) => flagF u F.SE_STAT_ARMED = false ∧ flagF u F.SE_STAT_RUN = false ∧ u.couch.se = Syndrome.init ∧
      u.couch.frame = s.couch.frame
    let lost := fun (u : State) => stopped u ∧ flagF u F.CHIP_FAULT_LATCH_CHIP = true ∧ getF u F.MEM_UE_ADDR_ADDR = couchKey b % 2 ^ 32
    let eccRegs := [RegName.SE_STAT, .MEM_ECC_LATCH, .MEM_ECC_CNT, .MEM_UE_ADDR, .CHIP_FAULT_LATCH]
    (idle → good → graphError s = none → accepted m r (.seStart m) s (fun u =>
      flagF u F.SE_STAT_ARMED = true ∧ flagF u F.SE_STAT_RUN = false ∧ onlyIn [.emitted] [.SE_STAT] s u)) ∧
    (idle → good → graphError s = some (code, check, at_) → accepted m r (.seStart m) s (fun u =>
      flagF u F.SE_STAT_ARMED = false ∧ flagF u F.SE_LATCH_GRAPH_ERR = true ∧ getF u F.SE_GERR_CODE = code % 2 ^ F.SE_GERR_CODE.width ∧
      flagF u F.SE_GERR_CHECK = check ∧ getF u F.SE_GERR_INDEX = at_ % 2 ^ F.SE_GERR_INDEX.width ∧
      onlyIn [.emitted, .post] [.SE_GERR, .SE_LATCH] s u)) ∧
    (idle → tableBad s = some b → accepted m r (.seStart m) s (fun u =>
      lost u ∧ onlyIn [.couch, .emitted, .post, .power] eccRegs s u)) ∧
    (¬idle → accepted m r (.seStart m) s (fun u => onlyIn [.emitted] [] s u)) ∧
    accepted m r (.seStop m) s (fun u => stopped u ∧ onlyIn [.couch, .emitted] [.SE_STAT] s u) ∧
    (roundDue s = true → overloaded s = false → completes .roundClose s (fun u =>
      getF u F.SE_ROUND_LAST = e.round % 2 ^ F.SE_ROUND_LAST.width ∧ u.couch.se.round = e.round + 1 ∧ 550 ∈ u.post.fired ∧
      u.couch.se.waiting.map (·.r) = e.waiting.map (·.r) ++ [e.round] ∧
      (0 < missing → flagF u F.SE_LATCH_MISSING = true ∧
        getF u F.SE_CNT_B_MISSING = (getF s F.SE_CNT_B_MISSING + missing) % 2 ^ F.SE_CNT_B_MISSING.width) ∧
      onlyIn [.couch, .post] [.SE_ROUND, .SE_STAT, .SE_CNT_B, .SE_LATCH] s u)) ∧
    (roundDue s = true → overloaded s = true → completes .roundClose s (fun u =>
      u.couch.se.waiting = [] ∧ u.couch.se.pass = none ∧ u.couch.se.events = [] ∧ u.couch.se.floor = e.round + 1 ∧ u.couch.se.round = e.round + 1 ∧
      flagF u F.SE_LATCH_OVERLOAD = true ∧ getF u F.SE_CNT_A_OVERLOAD = (getF s F.SE_CNT_A_OVERLOAD + 1) % 2 ^ F.SE_CNT_A_OVERLOAD.width ∧
      u.couch.frame = s.couch.frame ∧ onlyIn [.couch, .post, .mem] [.SE_ROUND, .SE_STAT, .SE_LOG, .SE_CNT_A, .SE_CNT_B, .SE_LATCH] s u)) ∧
    (roundDue s = false → completes .roundClose s (fun u => u = s)) ∧
    (good → e.pass = none → e.waiting = x :: rest → flagF s F.SE_STAT_RUN = true → completes .decodePass s (fun u =>
      u.couch.se.passed = some x.r ∧ u.couch.se.pass.map (·.r) = some x.r ∧ u.couch.se.waiting = rest ∧
      getF u F.SE_STAT_WAITING = rest.length % 2 ^ F.SE_STAT_WAITING.width ∧ u.couch.se.bnd = e.bnd.filter (fun y => decide (s.now ≤ y.2.2)) ∧
      (u.couch.se.bnd = e.bnd → u.couch.frame = s.couch.frame) ∧
      onlyIn [.couch, .post] [.SE_STAT, .SE_CNT_A, .SE_CNT_B, .SE_LATCH] s u)) ∧
    (tableBad s = some b → e.waiting = x :: rest → flagF s F.SE_STAT_RUN = true → completes .decodePass s (fun u =>
      lost u ∧ onlyIn [.couch, .post, .power] eccRegs s u)) ∧
    (e.waiting = [] → completes .decodePass s (fun u => u = s)) ∧
    (e.pass = some l → l.done ≤ s.now → getF s F.SE_LOG_WR < 4096 → completes .decodePassEnd s (fun u =>
      u.couch.se.pass = none ∧ getF u F.SE_LOG_WR = (getF s F.SE_LOG_WR + 1) % 2 ^ F.SE_LOG_WR.width ∧
      memWord u base = (l.r % 65536 + 65536 * l.missing.toNat + 131072 * l.forced.toNat + 524288 * l.lateBnd.toNat + 1048576 * l.pushed.toNat) ∧
      memWord u (base + 4) = l.t % 2 ^ 32 ∧ memWord u (base + 8) = l.t / 2 ^ 32 % 2 ^ 32 ∧
      memWord u (base + 12) = l.events % 65536 + 65536 * (l.corr % 65536) ∧ (∀ a, a < base ∨ base + 16 ≤ a → memByte u a = memByte s a) ∧
      onlyIn [.couch, .mem] [.SE_LOG] s u)) ∧
    (portRuns s p = true → flagF s F.SE_STAT_RUN = true → getF s (F.SE_PORT_ROLE p) = 2 → completes (.boundaryEntryRx p index round) s (fun u =>
      u.couch.se.bnd = e.bnd ++ [(index.val, round.val, s.now)] ∧ onlyIn [.couch, .chain] [] s u)) ∧
    (portRuns s p = true → flagF s F.SE_STAT_RUN = false ∨ getF s (F.SE_PORT_ROLE p) ≠ 2 → completes (.boundaryEntryRx p index round) s (fun u =>
      onlyIn [.chain] [] s u)) ∧
    (portRuns s p = false → completes (.boundaryEntryRx p index round) s (fun u => u = s))

/-- An event passes a channel of an open group to the inputs that select it, is dropped within 4 ns of the last one passed, and is blocked by a closed
group, whose ONCE bit closes it after one event (R283 to R285, R288, R290); with the rest of the device off, only the Loft's producers reach their
channels (R299). A register strobe fires its producers (R286), and a clear zeroes Q of every logic cell (R293). Its reading of what the rules leave
open is the model's (log entries 52, 96). -/
def Obligations.PostEvents : Prop :=
  ∀ (s : State) (m : Master) (prod : Fin 674) (ps : Nat) (n : Fin 256) (i : Fin 593) (mask : BitVec 32) (k : Fin 32),
    let g := n.val / 16
    let reaches' := mgmtOff s = false ∨ loftProducer prod = true
    let alone := ∀ j : Fin 256, j ≠ n → carries s j prod = false
    let still := s.post.ps ≤ ps ∧ ∀ j : Fin 32, flagF s (F.POST_CSEL_EN (384 + j.val)) = false
    let once := bitF s F.POST_GRP_ONCE_ONCE g = true
    let carried := carries s n prod = true ∧ reaches' ∧ still
    let open_ := bitF s F.POST_GRP_EN g = true
    let free := match tget s.post.passed none n.val with
      | some t => decide (t + 4000 ≤ ps)
      | none => true
    let pass := getF s (F.POST_CHCNT_PASS n)
    let drop := getF s (F.POST_CHCNT_DROP n)
    let takes := flagF s (F.POST_CSEL_EN i) = true ∧ getF s (F.POST_CSEL_SRC i) = n.val
    let sampled := i.val < 384 ∨ 544 ≤ i.val
    let event := fun (P : State → Prop) => completes (.postEvent prod ps) s (fun u =>
      P u ∧ u.post.ps = ps ∧ (s.post.cells = [] → (∀ j : Fin 128, flagF s (F.POST_CSEL_EN (416 + j.val)) = false) →
        u.post.fired = takeFired prod s.post.fired) ∧ onlyIn [.post] [.POST_CHCNT, .POST_GCNT, .POST_CCNT, .POST_GRP, .POST_CELL] s u)
    (carried → ¬once → open_ → free = true → event (fun u =>
      getF u (F.POST_CHCNT_PASS n) = (pass + 1) % 2 ^ (F.POST_CHCNT_PASS n).width ∧ tget u.post.passed none n.val = some ps ∧
      (takes → sampled → inputOff s i = false →
        tget u.post.arrived [] i.val = tget s.post.arrived [] i.val ++ [2000 * s.now + (ps - s.post.base)]) ∧
      (takes → sampled → inputOff s i = true →
        getF u (F.POST_CCNT_OFF i) = (getF s (F.POST_CCNT_OFF i) + 1) % 2 ^ (F.POST_CCNT_OFF i).width) ∧
      (takes → ¬sampled → getF u (F.POST_CCNT_EXEC i) = (getF s (F.POST_CCNT_EXEC i) + 1) % 2 ^ (F.POST_CCNT_EXEC i).width) ∧
      bitF u F.POST_GRP_EN g = true)) ∧
    (carried → alone → once → open_ → free = true → event (fun u =>
      getF u (F.POST_CHCNT_PASS n) = (pass + 1) % 2 ^ (F.POST_CHCNT_PASS n).width ∧ bitF u F.POST_GRP_EN g = false)) ∧
    (carried → ¬once ∨ alone → open_ → free = false → event (fun u =>
      getF u (F.POST_CHCNT_DROP n) = (drop + 1) % 2 ^ (F.POST_CHCNT_DROP n).width ∧ getF u (F.POST_CHCNT_PASS n) = pass)) ∧
    (carried → ¬open_ → event (fun u =>
      getF u (F.POST_CHCNT_PASS n) = pass ∧ getF u (F.POST_CHCNT_DROP n) = drop ∧
      (alone → getF u (F.POST_GCNT_BLOCK g) = (getF s (F.POST_GCNT_BLOCK g) + 1) % 2 ^ (F.POST_GCNT_BLOCK g).width))) ∧
    (s.post.ps ≤ ps → ¬reaches' ∨ (∀ j : Fin 256, carries s j prod = false) → event (fun u => onlyIn [.post] [.POST_CELL] s u)) ∧
    accepted m ⟨.POST_SWFIRE, 0, 0, 0⟩ (.swfire m mask) s (fun u =>
      u.post.fired = s.post.fired ++ ((List.range 32).filter (fun b => mask.toNat.testBit b)).map (588 + ·) ∧
      onlyIn [.post, .emitted] [] s u) ∧
    accepted m ⟨.POST_CTRL, 0, 0, 0⟩ (.cellClr m) s (fun u =>
      flagF u (F.POST_CELL_Q k) = false ∧ onlyIn [.post, .emitted] [.POST_CELL] s u)

/-- A task execution counts once for the events that reached its input in one cycle, and, unless the divider withholds it, acts on its consumer: an
event flag, a bias sequence, a Couch flag, a capture unit, a notification, a Sizing run, a wake; a consumer that is powered down discards it (R288,
R290, R291, R299). Where the statement says that an event which is not due changes nothing, that is the model's choice (log entry 2). Its reading of
what the rules leave open is the model's (log entries 52, 53, 96, 100). -/
def Obligations.TaskInputs : Prop :=
  ∀ (s : State) (i : Fin 593) (q ev u z : Fin 16) (f n : Fin 32) (same : Bool),
    let arrived := fun (k : Nat) => tget s.post.arrived [] k
    let counts := fun (k : Nat) => arrived k ≠ [] ∧ inputOff s k = false
    let due := fun (k : Nat) => tget s.post.execs 0 k % (getF s (F.POST_CSEL_EVERY k) + 1) = 0
    let acts := fun (k : Nat) => counts k ∧ due k
    let split := cycleEvents i (arrived i)
    let task := fun (k : Fin 593) (b : Bool) (P : State → Prop) => completes (.taskExecution k b) s P
    let bias := [RegName.POST_CCNT, .BIAS_SEQ, .BIAS_CFG, .BIAS_STAT, .BIAS_NOW]
    let down := fun (t : State) => flagF t (F.BIAS_SEQ_BUSY q) = true ∧ tget t.out.seqs none q.val = some ⟨false, false, none⟩ ∧
      onlyIn [.post, .out] bias s t
    (counts i → task i same (fun t =>
      tget t.post.arrived [] i.val = split.2 ∧ tget t.post.execs 0 i.val = tget s.post.execs 0 i.val + 1 ∧
      getF t (F.POST_CCNT_EXEC i) = (getF s (F.POST_CCNT_EXEC i) + 1) % 2 ^ (F.POST_CCNT_EXEC i).width ∧
      (2 ≤ split.1.length → getF t (F.POST_CCNT_COINC i) = (getF s (F.POST_CCNT_COINC i) + 1) % 2 ^ (F.POST_CCNT_COINC i).width) ∧ t.mem = s.mem)) ∧
    (counts i → ¬due i → task i same (fun t => onlyIn [.post] [.POST_CCNT] s t)) ∧
    (arrived i ≠ [] → inputOff s i = true → task i same (fun t =>
      tget t.post.arrived [] i.val = split.2 ∧
      getF t (F.POST_CCNT_OFF i) = (getF s (F.POST_CCNT_OFF i) + 1) % 2 ^ (F.POST_CCNT_OFF i).width ∧ onlyIn [.post] [.POST_CCNT] s t)) ∧
    (arrived i = [] → task i same (fun t => t = s)) ∧
    (acts (16 * q + ev) → task ⟨16 * q.val + ev.val, by omega⟩ same (fun t =>
      bitF t (F.SEQ_EVFLAG_FLAG q) ev = true ∧ (same = true → (q.val, ev.val) ∈ t.seq.evKeep) ∧
      onlyIn [.post, .seq] [.POST_CCNT, .SEQ_EVFLAG] s t)) ∧
    (acts (256 + 2 * q) → biasPowered s q = true → task ⟨256 + 2 * q.val, by omega⟩ false (fun t =>
      flagF t (F.BIAS_SEQ_BUSY q) = true ∧ tget t.out.seqs none q.val = some ⟨true, false, none⟩ ∧ onlyIn [.post, .out] bias s t)) ∧
    (acts (256 + 2 * q) → biasPowered s q = true → task ⟨256 + 2 * q.val, by omega⟩ true down) ∧
    (acts (257 + 2 * q) → biasPowered s q = true → task ⟨257 + 2 * q.val, by omega⟩ same down) ∧
    (acts (288 + f) → task ⟨288 + f.val, by omega⟩ same (fun t =>
      bitF t F.COUCH_PSRC_FLAG f = true ∧ onlyIn [.post, .couch] [.POST_CCNT, .COUCH_PSRC] s t)) ∧
    (acts (320 + f) → task ⟨320 + f.val, by omega⟩ false (fun t =>
      bitF t F.COUCH_PSRC_FLAG f = (bitF s F.COUCH_PSRC_FLAG f && s.couch.flagSet.contains f.val) ∧
      onlyIn [.post, .couch] [.POST_CCNT, .COUCH_PSRC] s t)) ∧
    (acts (320 + f) → task ⟨320 + f.val, by omega⟩ true (fun t =>
      bitF t F.COUCH_PSRC_FLAG f = true ∧ onlyIn [.post, .couch] [.POST_CCNT, .COUCH_PSRC] s t)) ∧
    (acts (352 + u) → capEvaluates s u = true → task ⟨352 + u.val, by omega⟩ false (fun t =>
      (capUnit t u).postAt = some (wordNow s) ∧ onlyIn [.post, .capture] [.POST_CCNT] s t)) ∧
    (acts (352 + u) → capEvaluates s u = false → task ⟨352 + u.val, by omega⟩ false (fun t => onlyIn [.post] [.POST_CCNT] s t)) ∧
    (acts (368 + u) → capStill s u = true → capTapOff s u = false → capHeldBySizing s u = false → task ⟨368 + u.val, by omega⟩ same (fun t =>
      capState t u = (if getF s (F.CAP_PRE_COUNT u) = 0 then capArmed else capPrefill) ∧ (capUnit t u).start = wordFirst s u (wordNow s) ∧
      onlyIn [.post, .capture] [.POST_CCNT, .CAP_STAT] s t)) ∧
    (acts (368 + u) → capStill s u = false ∨ capTapOff s u = true ∨ capHeldBySizing s u = true → task ⟨368 + u.val, by omega⟩ same (fun t =>
      onlyIn [.post] [.POST_CCNT] s t)) ∧
    (acts (544 + n) → bitF s F.PCI_NOTIFY_EN_EN n = true → bitF s (F.MSIX_TABLE_DATA (4 * n.val + 3)) 0 = false →
      task ⟨544 + n.val, by omega⟩ same (fun t => .msix n ∈ t.emitted ∧ onlyIn [.post, .emitted, .host] [.POST_CCNT] s t)) ∧
    (acts (544 + n) → bitF s F.PCI_NOTIFY_EN_EN n = true → bitF s (F.MSIX_TABLE_DATA (4 * n.val + 3)) 0 = true →
      task ⟨544 + n.val, by omega⟩ same (fun t =>
        bitF t (F.MSIX_PBA_PENDING 0) n = true ∧ onlyIn [.post, .emitted, .host] [.POST_CCNT, .MSIX_PBA] s t)) ∧
    (acts (576 + z) → szBusy (szOf s z) = false → flagF s (F.SZ_Q_CFG_EN z) = true → task ⟨576 + z.val, by omega⟩ same (fun t =>
      (szOf t z).todo = [0, 5, 7, 6, 4, 2, 3] ∧ flagF t (F.SZ_Q_STAT_DUE z) = true ∧ onlyIn [.post, .sizing] [.POST_CCNT, .SZ_Q_STAT] s t)) ∧
    (acts 592 → flagF s F.LOFT_WAKE_POST = true → powerState s = 3 → task ⟨592, by omega⟩ same (fun t =>
      t.power.waking = true ∧ flagF t F.LOFT_WAKE_SRC_POST = true ∧
      onlyIn [.post, .power, .emitted, .host] [.POST_CCNT, .LOFT_WAKE_SRC, .PMB_STAT] s t)) ∧
    (acts 592 → flagF s F.LOFT_WAKE_POST = false ∨ powerState s < 2 → task ⟨592, by omega⟩ same (fun t => onlyIn [.post] [.POST_CCNT] s t))

/-- A capture unit is armed, stopped, triggered and its counters cleared by software: ARM is refused while its tap cannot deliver and acts four ticks
on, in IDLE and DONE, with the first word from then; STOP goes to IDLE without ABORT; CNT_CLR and CAP_RD keep 0 ≤ CAP_WR − CAP_RD ≤ 2^NLOG, and a
segment freed ends FULL; Sizing holding the unit answers BUSY (R305, R307, R313, R423). Its reading of what the rules leave open is the model's (log
entries 54, 97). -/
def Obligations.CaptureControl : Prop :=
  ∀ (s : State) (m : Master) (u : Fin 16) (val : BitVec 32),
    let ctrl : Reg := ⟨.CAP_CTRL, u, 0, 0⟩
    let rd : Reg := ⟨.CAP_RD, u, 0, 0⟩
    let n := 2 ^ getF s (F.CAP_SEG_NLOG u)
    let gap := (getF s (F.CAP_WR_COUNT u) + 2 ^ 32 - val.toNat) % 2 ^ 32
    let ours := capHeldBySizing s u = false
    let filling := if getF s (F.CAP_PRE_COUNT u) = 0 then capArmed else capPrefill
    let armed := capArmEffect s u
    let forced := capForceEffect s u
    let busy := fun (r : Reg) (c : Instr) => capHeldBySizing s u = true → regPowered s r = true → accessStalls s r = false → completes c s (turnedAway m 10 s)
    (ours → capTapOff s u = true → refused m ctrl (.captureArm m u) s) ∧
    (ours → capTapOff s u = false → accepted m ctrl (.captureArm m u) s (fun t =>
      t.sched = s.sched ++ [(regDelay s.now 4, .capArm u)] ∧ onlyIn [.sched, .emitted] [] s t)) ∧
    (ours → capStill s u = true → capState armed u = filling ∧ (capUnit armed u).start = wordStoredAt s u s.now ∧ onlyIn [.capture] [.CAP_STAT] s armed) ∧
    (capStill s u = false → armed = s) ∧
    (ours → accepted m ctrl (.captureStop m u) s (fun t =>
      capState t u = capIdle ∧ (∀ v : Fin 16, v ≠ u → capUnit t v = capUnit s v) ∧
      onlyChanges [.capture, .emitted] [F.CAP_STAT_STATE u] s t)) ∧
    (ours → accepted m ctrl (.captureForce m u) s (fun t =>
      t.sched = s.sched ++ [(regDelay s.now 4, .capForce u)] ∧ onlyIn [.sched, .emitted] [] s t)) ∧
    (capEvaluates s u = true → (capUnit forced u).swAt = some s.now ∧ onlyIn [.capture] [] s forced) ∧
    (capEvaluates s u = false → forced = s) ∧
    (ours → capStill s u = true → accepted m ctrl (.captureCntClr m u) s (fun t =>
      getF t (F.CAP_WR_COUNT u) = 0 ∧ getF t (F.CAP_RD_COUNT u) = 0 ∧
      onlyChanges [.emitted] [F.CAP_WR_COUNT u, F.CAP_RD_COUNT u] s t)) ∧
    (ours → capStill s u = false → refused m ctrl (.captureCntClr m u) s) ∧
    (ours → n < gap → refused m rd (.capRdWrite m u val) s) ∧
    (ours → gap ≤ n → capState s u ≠ capFull ∨ gap = n → accepted m rd (.capRdWrite m u val) s (fun t =>
      getF t (F.CAP_RD_COUNT u) = val.toNat ∧ onlyChanges [.emitted] [F.CAP_RD_COUNT u] s t)) ∧
    (ours → gap < n → capState s u = capFull → accepted m rd (.capRdWrite m u val) s (fun t =>
      getF t (F.CAP_RD_COUNT u) = val.toNat ∧ capState t u = filling ∧ (capUnit t u).start = wordStoredAt s u s.now ∧
      onlyChanges [.capture, .post, .emitted] [F.CAP_RD_COUNT u, F.CAP_STAT_STATE u, F.CAP_LATCH_TT_LATE u] s t)) ∧
    busy ctrl (.captureArm m u) ∧ busy ctrl (.captureStop m u) ∧ busy ctrl (.captureForce m u) ∧ busy ctrl (.captureCntClr m u) ∧
    busy rd (.capRdWrite m u val)

/-- A capture unit fills; a stored sample, the rounded mean of its tap codes, that meets a condition is taken as the trigger by an armed unit, with the
condition of highest priority, and is counted where the unit's state ignores triggers; the auto timeout forces one; the record and its header are
written, counted, and the unit goes on to the next one while a segment is free (R303 to R315). The samples of a run are evaluated in order. Where
the statement says that an event which is not due changes nothing, that is the model's choice (log entry 2). Its reading of what the rules leave
open is the model's (log entries 54, 97). -/
def Obligations.CaptureRecords : Prop :=
  ∀ (s : State) (u : Fin 16) (w : Nat) (i : Fin 16) (code mcode : BitVec 12) (tl more rec : List (BitVec 12)) (corrupt : List Nat) (srcOff : Bool)
    (lostAt : Nat) (k : Fin 16) (j : Nat),
    let n := 16 * w + i.val
    let codes := code :: tl
    let next := n + 2 ^ getF s (F.CAP_CFG_DEC u)
    let taps := rec.zipIdx.map (fun x => if corrupt.contains x.2 then none else some x.1)
    let lost := if srcOff then some lostAt else none
    let written := Instr.recordComplete u rec corrupt srcOff lostAt
    let unit := capUnit s u
    let pre := getF s (F.CAP_PRE_COUNT u)
    let post := getF s (F.CAP_POST_COUNT u)
    let d := getF s (F.CAP_CFG_DEC u)
    let step := 2 ^ d
    let tt := getF s (F.CAP_TT_LO_VALUE u) + 2 ^ 32 * getF s (F.CAP_TT_HI_VALUE u)
    let x : Int := (32 * (codes.map BitVec.toInt).sum + 2 ^ d) / 2 ^ (d + 1)
    let hi := getS s (F.CAP_THR_HI u)
    let lo := getS s (F.CAP_THR_LO u)
    let beyondLevel := fun (v : Int) => if flagF s (F.CAP_TRIG_POL u) then decide (v ≤ lo) else decide (hi ≤ v)
    let inside := fun (v : Int) => decide (lo ≤ v) && decide (v ≤ hi)
    let heldLevel := (unit.last.map beyondLevel).getD false
    let crossed := (unit.last.map (fun v => if flagF s (F.CAP_TRIG_WIN_IN u) then inside x && !inside v else !inside x && inside v)).getD false
    let c : CapConds :=
      { level := flagF s (F.CAP_TRIG_LEVEL u) && beyondLevel x
        edge := flagF s (F.CAP_TRIG_EDGE u) && (beyondLevel x && unit.fell)
        window := flagF s (F.CAP_TRIG_WINDOW u) && crossed
        post := flagF s (F.CAP_TRIG_POST u) && capPostMet s u n
        time := flagF s (F.CAP_TRIG_TIME u) && capTimeMet s u n
        sw := capSwMet s u n }
    let first := { c with level := c.level && !heldLevel }.count
    let one := codes.length = step ∧ n % step = 0 ∧ 3 * (n + step - 1) / 128 + 6 ≤ s.now
    let trig := fun (P : State → Prop) => completes (.captureTrigger u w i code tl) s (fun t => (capUnit t u).last = some x ∧ P t)
    let taken := fun (t : State) (at_ mask cause : Nat) => capState t u = capPost ∧ (capUnit t u).trig = at_ ∧ (capUnit t u).mask = mask ∧
      (capUnit t u).cause = cause ∧ t.post.fired = s.post.fired ++ [432 + 2 * u.val] ∧
      (flagF s (F.CAP_CFG_MODE u) = true → unit.tper ≠ 0 →
        getF t (F.CAP_TT_LO_VALUE u) + 2 ^ 32 * getF t (F.CAP_TT_HI_VALUE u) = (unit.tt + unit.tper) % 2 ^ 64)
    let ignored := fun (f : Fld) => trig (fun t => getF t f = (getF s f + first) % 2 ^ f.width ∧ onlyChanges [.capture] [f] s t)
    let accepts := [F.CAP_STAT_STATE u, F.CAP_TT_LO_VALUE u, F.CAP_TT_HI_VALUE u]
    let rest := fun (t : State) => ∀ v : Fin 16, v ≠ u → capUnit t v = capUnit s v
    let auto := max unit.armed (gridUp step (sampleAt unit.autoAt))
    let forced : CapConds := ⟨false, false, false, flagF s (F.CAP_TRIG_POST u) && capPostMet s u auto,
      flagF s (F.CAP_TRIG_TIME u) && capTimeMet s u auto, capSwMet s u auto⟩
    let expired := capState s u = capArmed ∧ flagF s (F.CAP_CFG_AUTO u) = true ∧ 3 * (auto + step - 1) / 128 + 6 ≤ s.now
    let filled := capState s u = capPrefill ∧ 3 * (unit.start + pre * step) / 128 ≤ s.now
    let ended := capState s u = capPost ∧ 3 * (unit.trig + post * step - 1) / 128 + 7 ≤ s.now
    let waited := capState s u = capRearm ∧ unit.header + 16 ≤ s.now
    let mine := capCodes s u taps lost
    let stored := capStored s u taps lost
    let ovl := mine.any (fun v => v == some 0x800#12 || v == some 0x7FF#12)
    let bad := mine.any Option.isNone
    let off := match lost with
      | some v => decide (v < (pre + post) * step)
      | none => false
    let base := capKey u (capBase s u)
    (filled → completes (.prefillDone u) s (fun t => capState t u = capArmed ∧ (capUnit t u).armed = unit.start + pre * step ∧
      (capUnit t u).tt = tt ∧ (capUnit t u).tper = getF s (F.CAP_TPER_VALUE u) ∧
      (capUnit t u).autoAt = 3 * (unit.start + pre * step) / 128 + max 1 (getF s (F.CAP_AUTO_VALUE u)) ∧
      (flagF t (F.CAP_LATCH_TT_LATE u) = (flagF s (F.CAP_LATCH_TT_LATE u) || (capUnit t u).ttLate)) ∧ rest t ∧
      onlyChanges [.capture, .post] [F.CAP_STAT_STATE u, F.CAP_LATCH_TT_LATE u] s t)) ∧
    (¬filled → completes (.prefillDone u) s (fun t => t = s)) ∧
    (one → c.count = 0 ∨ capAfterAuto s u n = true → trig (fun t => rest t ∧ onlyIn [.capture] [] s t)) ∧
    (one → c.count ≠ 0 → capAfterAuto s u n = false → capState s u = capArmed → unit.armed ≤ n → trig (fun t =>
      taken t n c.mask c.cause ∧ rest t ∧ onlyChanges [.capture, .post] accepts s t)) ∧
    (one → c.count ≠ 0 → capState s u = capPrefill ∧ unit.start ≤ n → ignored (F.CAP_IGN_A_PRE u)) ∧
    (one → c.count ≠ 0 → capAfterAuto s u n = false → capState s u = capArmed ∧ unit.start ≤ n ∧ n < unit.armed → ignored (F.CAP_IGN_A_PRE u)) ∧
    (one → c.count ≠ 0 → capState s u = capRearm → ignored (F.CAP_IGN_A_REARM u)) ∧
    (one → c.count ≠ 0 → capState s u = capFull → ignored (F.CAP_IGN_B_FULL u)) ∧
    (one → capStill s u = true ∨ capState s u = capPost → trig (fun t => rest t ∧ onlyIn [.capture] [] s t)) ∧
    (one → 3 * (next + more.length) / 128 + 6 ≤ s.now → completes (.captureTrigger u w i code tl) s (fun v =>
      completes (.captureTrigger u (next / 16) (Fin.ofNat 16 next) mcode more) v (fun z =>
        completes (.captureTrigger u w i code (tl ++ mcode :: more)) s (fun t => t = z)))) ∧
    (n % step ≠ 0 → completes (.captureTrigger u w i code tl) s (fun t => t = s)) ∧
    (expired → forced.count = 0 → completes (.autoTimeout u) s (fun t =>
      taken t auto 64 7 ∧ getF t (F.CAP_IGN_B_AUTO u) = (getF s (F.CAP_IGN_B_AUTO u) + 1) % 2 ^ (F.CAP_IGN_B_AUTO u).width ∧ rest t ∧
      onlyChanges [.capture, .post] (F.CAP_IGN_B_AUTO u :: accepts) s t)) ∧
    (expired → forced.count ≠ 0 → completes (.autoTimeout u) s (fun t =>
      taken t auto forced.mask forced.cause ∧ rest t ∧ onlyChanges [.capture, .post] accepts s t)) ∧
    (¬expired → completes (.autoTimeout u) s (fun t => t = s)) ∧
    (ended → completes written s (fun t =>
      capState t u = (if flagF s (F.CAP_CFG_MODE u) then capRearm else capDone) ∧ (capUnit t u).header = s.now ∧
      t.sched = s.sched ++ [(s.now + 1, .capCount u)] ∧
      flagF t (F.CAP_LATCH_OVL u) = (flagF s (F.CAP_LATCH_OVL u) || ovl) ∧ flagF t (F.CAP_LATCH_CORRUPT u) = (flagF s (F.CAP_LATCH_CORRUPT u) || bad) ∧
      memWord t (base + 4 * k.val) = (capHeader s u ovl bad off).getD k.val 0 % 2 ^ 32 ∧
      (j < stored.length → (memByte t (base + 64 + 2 * j)).toNat + 256 * (memByte t (base + 65 + 2 * j)).toNat = ofSigned 16 (stored.getD j 0)) ∧
      bytesKeptBut base (64 + 2 * (pre + post)) s t ∧ rest t ∧ onlyIn [.mem, .sched, .post, .capture] [.CAP_STAT, .CAP_LATCH] s t)) ∧
    (¬ended → completes written s (fun t => t = s)) ∧
    (getF (capCount s u) (F.CAP_WR_COUNT u) = (getF s (F.CAP_WR_COUNT u) + 1) % 2 ^ 32 ∧
      (capCount s u).post.fired = s.post.fired ++ [433 + 2 * u.val] ∧ onlyChanges [.post] [F.CAP_WR_COUNT u] s (capCount s u)) ∧
    (waited → capFree s u = true → completes (.rearmEnd u) s (fun t =>
      capState t u = (if pre = 0 then capArmed else capPrefill) ∧ (capUnit t u).start = wordStoredAt s u s.now ∧ (capUnit t u).again = true ∧ rest t ∧
      onlyChanges [.capture, .post] [F.CAP_STAT_STATE u, F.CAP_LATCH_TT_LATE u] s t)) ∧
    (waited → capFree s u = false → completes (.rearmEnd u) s (fun t =>
      capState t u = capFull ∧ flagF t (F.CAP_LATCH_FULL u) = true ∧ rest t ∧
      onlyChanges [.post] [F.CAP_STAT_STATE u, F.CAP_LATCH_FULL u] s t)) ∧
    (¬waited → completes (.rearmEnd u) s (fun t => t = s))

/-- Device time and the wall clock are read whole (R50, R66); a lost reference drops DANDY_LOCK, latches both losses and fences a device whose time was
good; the reference is present again after a clean window in range; the first Dandy lock starts device time at zero, and a lock ends UNSYNC for a
master and for a follower whose parent port runs (R42, R44, R45, R48, R55). An event that is not due, and a read of a block that is off, changes
nothing, which is the model's choice (log entry 2). Its reading of what the rules leave open is the model's (log entry 19). -/
def Obligations.ReferenceAndTime : Prop :=
  ∀ (s : State) (ns : Nat),
    let lock := flagF s F.TB_REF_STAT_DANDY_LOCK
    let present := flagF s F.TB_REF_STAT_REF_PRESENT
    let good := timeStatus s = tsMaster ∨ timeStatus s = tsMeasure ∨ timeStatus s = tsLocked ∨ timeStatus s = tsHold
    let lost := fun (t : State) => flagF t F.TB_REF_STAT_REF_PRESENT = false ∧ flagF t F.TB_REF_STAT_DANDY_LOCK = false ∧
      flagF t F.TB_REF_STAT_REF_LOSS = true ∧ (lock = true → flagF t F.TB_REF_STAT_LOCK_LOSS = true)
    let fenced := fun (t : State) => lost t ∧ timeStatus t = tsFenced ∧ flagF t F.TB_TLATCH_FENCE = true ∧
      (flagF s F.CL_STAT_OUT_EPOCH = false → isOutOfEpoch t) ∧ onlyIn (.capture :: fenceParts) (.TB_REF_STAT :: .CAP_STAT :: .CAP_LATCH :: fenceRegs) s t
    let locks := domainOn s 133 = true ∧ present = true ∧ lock = false
    let locked := fun (t : State) => flagF t F.TB_REF_STAT_DANDY_LOCK = true ∧ t.time.started = true ∧
      t.now = (if s.time.started then s.now else 0) ∧ t.post = (if s.time.started then s.post else { s.post with base := s.post.ps })
    (regPowered s ⟨.TB_TIME_LO, 0, 0, 0⟩ = true → completes .tbTimeLoRead s (fun t => getF t F.TB_TIME_LO_TIME = s.now % 2 ^ 32 ∧ getF t F.TB_TIME_HI_TIME = s.now / 2 ^ 32 % 2 ^ 32 ∧
      onlyIn [] [.TB_TIME_LO, .TB_TIME_HI] s t)) ∧
    (regPowered s ⟨.TB_TIME_LO, 0, 0, 0⟩ = false → completes .tbTimeLoRead s (fun t => t = s)) ∧
    (regPowered s ⟨.TB_WCT_NS, 0, 0, 0⟩ = false → completes .tbWctNsRead s (fun t => t = s)) ∧
    (regPowered s ⟨.TB_WCT_NS, 0, 0, 0⟩ = true → ns = (s.time.wall.getD 0) / 2 ^ 32 → completes .tbWctNsRead s (fun t =>
      getF t F.TB_WCT_NS_VALUE = ns % 1000000000 ∧ getF t F.TB_WCT_SEC_LO_VALUE = ns / 1000000000 % 2 ^ 32 ∧
      getF t F.TB_WCT_SEC_HI_VALUE = ns / 1000000000 / 2 ^ 32 % 2 ^ 16 ∧
      getF t F.TB_WCT_DT_LO_TIME = s.now % 2 ^ 32 ∧ getF t F.TB_WCT_DT_HI_TIME = s.now / 2 ^ 32 % 2 ^ 32 ∧
      onlyIn [] [.TB_WCT_NS, .TB_WCT_SEC_LO, .TB_WCT_SEC_HI, .TB_WCT_DT_LO, .TB_WCT_DT_HI] s t)) ∧
    (present = true → good → completes .refEdgeTimeout s (fun t => fenced t ∧ t.time.gap = true)) ∧
    (present = true → lock = false → ¬ good → completes .refEdgeTimeout s (fun t =>
      flagF t F.TB_REF_STAT_REF_PRESENT = false ∧ timeStatus t = timeStatus s ∧ onlyIn [.time, .post] [.TB_REF_STAT] s t)) ∧
    (present = true → lock = true → ¬ good → completes .refEdgeTimeout s (fun t => lost t ∧ timeStatus t = timeStatus s ∧ t.time.gap = true ∧
      onlyIn [.time, .post, .capture] [.TB_REF_STAT, .CAP_STAT, .CAP_LATCH] s t)) ∧
    (present = false → completes .refEdgeTimeout s (fun t => t = { s with time := { s.time with gap := true } })) ∧
    (present = true → good → completes (.refFreqWindowEnd false) s (fun t => fenced t ∧ t.time.gap = false)) ∧
    (present = true → ¬ good → completes (.refFreqWindowEnd false) s (fun t =>
      lost t ∧ timeStatus t = timeStatus s ∧ t.time.gap = false ∧ onlyIn [.time, .post, .capture] [.TB_REF_STAT, .CAP_STAT, .CAP_LATCH] s t)) ∧
    (present = false → completes (.refFreqWindowEnd false) s (fun t => t = { s with time := { s.time with gap := false } })) ∧
    (s.time.gap = false → completes (.refFreqWindowEnd true) s (fun t =>
      flagF t F.TB_REF_STAT_REF_PRESENT = true ∧ onlyIn [.time] [.TB_REF_STAT] s t)) ∧
    (s.time.gap = true → completes (.refFreqWindowEnd true) s (fun t =>
      flagF t F.TB_REF_STAT_REF_PRESENT = present ∧ t.time.gap = false ∧ onlyIn [.time] [] s t)) ∧
    (locks → timeStatus s = tsUnsync → isMaster s = true → completes .dandyLock s (fun t => locked t ∧
      timeStatus t = tsMaster ∧ flagF t F.CL_STAT_MASTER = true ∧ getF t F.CL_STAT_HOPS = 0 ∧
      onlyIn [.now, .time, .post] [.TB_REF_STAT, .TB_TSTAT, .CL_STAT] s t)) ∧
    (locks → timeStatus s = tsUnsync → isMaster s = false → parentRuns s = true → completes .dandyLock s (fun t => locked t ∧
      timeStatus t = tsMeasure ∧ t.time.steps = 0 ∧ onlyIn [.now, .time, .post] [.TB_REF_STAT, .TB_TSTAT] s t)) ∧
    (locks → timeStatus s ≠ tsUnsync ∨ isMaster s = false ∧ parentRuns s = false → completes .dandyLock s (fun t => locked t ∧
      timeStatus t = timeStatus s ∧ onlyIn [.now, .time, .post] [.TB_REF_STAT] s t)) ∧
    (domainOn s 133 = false ∨ present = false ∨ lock = true → completes .dandyLock s (fun t => t = s))

/-- A timing cell gives an exchange while its measurement runs, reports the parent's status, and lets a follower without a candidate for its parent take
one, or ask to join; the 1,024th completes it, and an earlier completion is none; in MEASURE the first result, and each of at most four that is not
quiet, makes a step with every output muted, and after the fourth SYNC_FAIL is latched and nothing more is done; in LOCKED a result above 2 fine
units moves the root trim by one position, at once with every quire idle or at the next boundary, and none is made while the parent reports HOLD; in
HOLD a move waits 16 ticks; a move outside 0 to 127 is not made and fences the device (R57 to R62, R325, R338). Where the statement says that an
event which is not due changes nothing, that is the model's choice (log entry 2). Its reading of what the rules leave open is the model's (log
entries 20, 21, 22, 100). -/
def Obligations.DelayMeasurement : Prop :=
  ∀ (s : State) (p : Fin 8) (c : TimingCell) (m : PortMeas) (v : TrimMove) (b : Nat),
    let parent := flagF s F.TB_TSTAT_PARENT_VALID = true ∧ getF s F.TB_TSTAT_PARENT = p.val
    let held := flagF s F.TB_TSTAT_PARENT_HOLD = true
    let done := s.time.meas.find? (fun x => x.1 == p.val) = some (p.val, m) ∧ 1024 ≤ m.count
    let delay := getF s F.TB_PHASE_TRIM
    let goal : Int := (delay : Int) - v.theta
    let theta := Config.roundMean m.theta2
    let phase : Int := getF s F.TB_PHASE_DIV_PHASE + (theta - ((delay : Int) - 64) + 16) / 32
    let due := v.ready ≤ s.now ∧ (v.lock = true ∨ ¬ held) ∧ (s.bounds.head? = some s.now ∨ v.lock = false ∧ allIdle s = true)
    let clear := { s.time with meas := s.time.meas.filter (fun x => x.1 != p.val) }
    let measured := fun (t : State) => getF t (F.TB_PORT_DELAY_DELAY p) = ofSigned 32 (Config.roundMean m.d2)
    let settled := fun (t : State) => measured t ∧ t.time = clear ∧ getF t F.TB_OFFSET_THETA = ofSigned 32 theta
    let fresh := (timingPeer s p).any (fun x => x.cell.echoDep != c.echoDep) = true ∧ (measOf s p).count < 1024
    let d : Int := (4096 * c.echoArr + c.echoFine.val) - 4096 * c.tdep - (4096 * c.echoDep - (4096 * s.now + c.arrFine.val))
    let seen := { s with time := { s.time with peers := tset s.time.peers p.val (some ⟨c, s.now⟩) } }
    let stays := flagF s F.TB_TSTAT_PARENT_VALID = true ∧ (candidate seen (getF s F.TB_TSTAT_PARENT)).isSome = true
    let chooses := portRuns s p = true ∧ isMaster s = false ∧ ¬ stays
    let heard := fun (t : State) => timingPeer t p = some ⟨c, s.now⟩ ∧
      (fresh → (measOf t p).count = (measOf s p).count + 1 ∧ (measOf t p).d2 = (measOf s p).d2 + d ∧
        (measOf t p).theta2 = (measOf s p).theta2 + 2 * ((4096 * s.now + c.arrFine.val) - 4096 * c.tdep) - d - 2 * asymmetry p (measOf s p) c) ∧
      (¬ fresh → measOf t p = measOf s p)
    let step : Nat := if 0 < m.theta2 then delay - 1 else delay + 1
    (portRuns s p = true → ¬ parent → isMaster s = true ∨ stays ∨ bestCandidate seen = none → completes (.timingCellRx p c) s (fun t =>
      heard t ∧ onlyIn [.time, .chain] [.CL_STAT] s t)) ∧
    (portRuns s p = true → parent → isMaster s = true ∨ stays ∨ bestCandidate seen = none → completes (.timingCellRx p c) s (fun t =>
      heard t ∧ flagF t F.TB_TSTAT_PARENT_HOLD = (c.tstat.val == tsHold) ∧
      timeStatus t = (if timeStatus s = tsLocked ∧ parentUsable c.tstat = false then tsHold else timeStatus s) ∧
      onlyIn [.time, .chain, .post] [.CL_STAT, .TB_TSTAT, .TB_EVCNT, .TB_TLATCH] s t)) ∧
    (chooses → flagF s F.CL_STAT_MEMBER = true → bestCandidate seen = some b → completes (.timingCellRx p c) s (fun t =>
      flagF t F.TB_TSTAT_PARENT_VALID = true ∧ getF t F.TB_TSTAT_PARENT = b % 8 ∧ timingPeer t p = some ⟨c, s.now⟩ ∧
      onlyIn [.time, .chain, .post] [.CL_STAT, .TB_TSTAT, .TB_EVCNT, .TB_TLATCH, .CHN_PORT_STAT] s t)) ∧
    (chooses → flagF s F.CL_STAT_MEMBER = false → bestCandidate seen = some b → completes (.timingCellRx p c) s (fun t =>
      heard t ∧ t.chain.joining = some (s.chain.joining.getD b) ∧ onlyIn [.time, .chain, .post] [.TB_TSTAT, .TB_EVCNT, .TB_TLATCH] s t)) ∧
    (portRuns s p = false → portState s p ≠ psIdle → completes (.timingCellRx p c) s (fun t => t = s)) ∧
    ((measOf s p).count < 1024 → completes (.measurementComplete p) s (fun t => t = s)) ∧
    (done → ¬ parent ∨ m.usable = false → completes (.measurementComplete p) s (fun t =>
      measured t ∧ t.time = clear ∧ onlyIn [.time] [.TB_PORT_DELAY] s t)) ∧
    (done → parent → m.usable = true → timeStatus s = tsMeasure → s.time.steps = 0 ∨ s.time.steps < 4 ∧ 8192 < m.theta2.natAbs →
      completes (.measurementComplete p) s (fun t => measured t ∧ timeStatus t = tsMeasure ∧ t.time.steps = s.time.steps + 1 ∧
        t.now = ((s.now : Int) - phase / 128).toNat ∧ getF t F.TB_PHASE_DIV_PHASE = (phase % 128).toNat ∧
        getF t F.TB_PHASE_TRIM = (64 - ((theta - ((delay : Int) - 64) + 16) % 32 - 16)).toNat ∧
        (∀ (q : Fin 16) (o : Fin 5), flagF t (F.DRV_STAT_MUTED q o) = true) ∧
        (∀ (q : Fin 16) (i : Fin 24), flagF t (F.FLX_STAT_MUTED q i) = true) ∧ (t.now + 1, Act.stepEnd) ∈ t.sched ∧
        onlyIn [.time, .now, .sched, .out, .post] [.TB_PORT_DELAY, .TB_OFFSET, .TB_PHASE, .DRV_STAT, .FLX_STAT, .DRV_CNT, .DRV_LATCH, .FLX_CNT, .FLX_LATCH] s t)) ∧
    (done → parent → m.usable = true → timeStatus s = tsMeasure → 1 ≤ s.time.steps → s.time.steps ≤ 4 → m.theta2.natAbs ≤ 8192 →
      completes (.measurementComplete p) s (fun t =>
        settled t ∧ timeStatus t = tsLocked ∧ onlyIn [.time] [.TB_PORT_DELAY, .TB_OFFSET, .TB_TSTAT] s t)) ∧
    (done → parent → m.usable = true → timeStatus s = tsMeasure → s.time.steps = 4 → 8192 < m.theta2.natAbs →
      completes (.measurementComplete p) s (fun t =>
        measured t ∧ timeStatus t = tsMeasure ∧ flagF t F.TB_TLATCH_SYNC_FAIL = true ∧ t.time = { clear with steps := 5 } ∧
        onlyIn [.time, .post] [.TB_PORT_DELAY, .TB_OFFSET, .TB_TLATCH] s t)) ∧
    (done → parent → m.usable = true → timeStatus s = tsMeasure → 4 < s.time.steps → completes (.measurementComplete p) s (fun t =>
      settled t ∧ timeStatus t = tsMeasure ∧ onlyIn [.time] [.TB_PORT_DELAY, .TB_OFFSET] s t)) ∧
    (done → parent → m.usable = true → timeStatus s = tsLocked → m.theta2.natAbs ≤ 4096 ∨ held →
      completes (.measurementComplete p) s (fun t => settled t ∧ onlyIn [.time] [.TB_PORT_DELAY, .TB_OFFSET] s t)) ∧
    (done → parent → m.usable = true → timeStatus s = tsLocked → 4096 < m.theta2.natAbs → ¬ held → allIdle s = true →
      (0 < m.theta2 → 1 ≤ delay) → (m.theta2 < 0 → delay ≤ 126) → completes (.measurementComplete p) s (fun t =>
        measured t ∧ getF t F.TB_PHASE_TRIM = step ∧ timeStatus t = tsLocked ∧ flagF t F.TB_TLATCH_ADJUST = true ∧
        onlyIn [.time, .post] [.TB_PORT_DELAY, .TB_OFFSET, .TB_PHASE, .TB_EVCNT, .TB_TLATCH] s t)) ∧
    (done → parent → m.usable = true → timeStatus s = tsLocked → 4096 < m.theta2.natAbs → ¬ held → allIdle s = false →
      completes (.measurementComplete p) s (fun t =>
        measured t ∧ t.time = { clear with trim := some ⟨if 0 < m.theta2 then 1 else -1, s.now, false⟩ } ∧
        onlyIn [.time] [.TB_PORT_DELAY, .TB_OFFSET] s t)) ∧
    (done → parent → m.usable = true → timeStatus s = tsHold → completes (.measurementComplete p) s (fun t =>
      measured t ∧ t.time = { clear with trim := some ⟨theta, s.now + 16, true⟩ } ∧ onlyIn [.time] [.TB_PORT_DELAY, .TB_OFFSET] s t)) ∧
    (s.time.trim = some v → due → 0 ≤ goal → goal ≤ 127 → completes .rootTrimMove s (fun t =>
      (getF t F.TB_PHASE_TRIM : Int) = goal ∧ flagF t F.TB_TLATCH_ADJUST = true ∧ t.time = { s.time with trim := none } ∧
      (v.lock = true → timeStatus t = tsLocked) ∧ (v.lock = false → timeStatus t = timeStatus s) ∧
      onlyIn [.time, .post] [.TB_PHASE, .TB_EVCNT, .TB_TLATCH, .TB_TSTAT] s t)) ∧
    (s.time.trim = some v → due → goal < 0 ∨ 127 < goal → completes .rootTrimMove s (fun t =>
      getF t F.TB_PHASE_TRIM = delay ∧ timeStatus t = tsFenced ∧ flagF t F.TB_TLATCH_RANGE = true ∧
      (flagF s F.CL_STAT_OUT_EPOCH = false → isOutOfEpoch t) ∧ onlyIn fenceParts fenceRegs s t)) ∧
    (s.time.trim = some v → ¬ due → completes .rootTrimMove s (fun t => t = s)) ∧
    (s.time.trim = none → completes .rootTrimMove s (fun t => t = s))

/-- PTP sets the wall clock once from the first exchange and steers only its rate after that, toward an offset of zero and by at most 200 ppm; it takes
the messages of the port of the last Sync; a Sync outside the interval range is ignored and counted; TIME_SUSPECT sets above 100 µs and clears after
16 Sync intervals below 10 µs (R63 to R65). A message that belongs to no exchange changes nothing, which is the model's choice (log entry 2). Its
reading of what the rules leave open is the model's (log entry 23). -/
def Obligations.WallClock : Prop :=
  ∀ (s : State) (e : Fin 2) (domain : Nat) (interval : Int) (origin : Option Nat) (t1 t2 t3 t4 : Nat) (o : Option Nat),
    let ok := ptpAccepts s e domain = true
    let whole := s.time.sync = some (some t1, t2) ∧ s.time.reqAt = some t3
    let offset : Int := (((t2 : Int) - t1) - ((t4 : Int) - t3)) / 2
    let suspect := flagF s F.TB_WCT_STAT_TIME_SUSPECT
    let port := getF s F.TB_WCT_STAT_PORT = e.val
    let counted : Nat := if flagF s F.TB_WCT_STAT_SET = true ∧ (getS s F.TB_WCT_OFFSET_VALUE).natAbs < 10000 then s.time.quiet + 1 else 0
    let rate := fun (t : State) => getS t F.TB_WCT_RATE_VALUE
    (ok → -4 ≤ interval → interval ≤ 4 → completes (.ptpSyncRx e domain interval origin) s (fun t =>
      t.time = { s.time with sync := some (origin, localNs s), reqAt := none, quiet := counted } ∧ getF t F.TB_WCT_STAT_PORT = e.val ∧
      flagF t F.TB_WCT_STAT_TIME_SUSPECT = (suspect && decide (counted < 16)) ∧ onlyIn [.time] [.TB_WCT_STAT] s t)) ∧
    (ok → interval < -4 ∨ 4 < interval → completes (.ptpSyncRx e domain interval origin) s (fun t =>
      t.time = { s.time with ignored := s.time.ignored + 1 } ∧ onlyIn [.time] [] s t)) ∧
    (¬ ok → completes (.ptpSyncRx e domain interval origin) s (fun t => t = s)) ∧
    (ok → port → s.time.sync = some (none, t2) → completes (.ptpFollowUpRx e domain t1) s (fun t =>
      t.time = { s.time with sync := some (some t1, t2) } ∧ onlyIn [.time] [] s t)) ∧
    (¬ ok ∨ ¬ port → completes (.ptpFollowUpRx e domain t1) s (fun t => t = s) ∧ completes (.ptpDelayRespRx e domain t4) s (fun t => t = s)) ∧
    (s.time.sync = some (o, t2) → completes .ptpDelayReqTx s (fun t =>
      t.time = { s.time with reqAt := some (localNs s) } ∧ t.emitted = s.emitted ++ [.delayReq (getF s F.TB_WCT_STAT_PORT)] ∧
      onlyIn [.time, .emitted] [] s t)) ∧
    (s.time.sync = none → completes .ptpDelayReqTx s (fun t => t = s) ∧ completes (.ptpDelayRespRx e domain t4) s (fun t => t = s)) ∧
    (s.time.reqAt = none → completes (.ptpDelayRespRx e domain t4) s (fun t => t = s)) ∧
    (ok → port → whole → flagF s F.TB_WCT_STAT_SET = false → completes (.ptpDelayRespRx e domain t4) s (fun t =>
      t.time = { s.time with sync := none, reqAt := none, wall := some (2 ^ 32 * ((localNs s : Int) - offset).toNat) } ∧
      flagF t F.TB_WCT_STAT_SET = true ∧ onlyIn [.time] [.TB_WCT_STAT, .TB_WCT_OFFSET] s t)) ∧
    (ok → port → whole → flagF s F.TB_WCT_STAT_SET = true → completes (.ptpDelayRespRx e domain t4) s (fun t =>
      t.time = { s.time with sync := none, reqAt := none, quiet := if offset.natAbs < 10000 then s.time.quiet else 0 } ∧
      (rate t).natAbs ≤ 858993 ∧ (0 ≤ offset → rate t ≤ 0) ∧ (offset ≤ 0 → 0 ≤ rate t) ∧
      flagF t F.TB_WCT_STAT_TIME_SUSPECT = (suspect || decide (100000 < offset.natAbs)) ∧
      onlyIn [.time, .post] [.TB_WCT_STAT, .TB_WCT_OFFSET, .TB_WCT_RATE] s t))

/-- A port takes descriptors from its ring and refuses those out of length, address, order or place; a timed frame leaves in its launch tick or is
discarded as late; a normal frame never delays a timed one; every frame is counted and its descriptor written back (R67 to R70, R381 to R383). Where
the statement says that an event which is not due changes nothing, that is the model's choice (log entry 2). Its reading of what the rules leave
open is the model's (log entry 66). -/
def Obligations.EthernetPorts : Prop :=
  ∀ (s : State) (e : Fin 2) (f : RxFrame) (d x : TxDesc) (rest : List TxDesc) (at_ : Nat) (up : Bool),
    let ready := domainOn s 143 = true ∧ flagF s F.MEM_DDR_STAT_READY = true ∧ getF s (F.ETH_TXR_SIZE_VALUE e) ≠ 0 ∧
      getF s (F.ETH_TXR_RD_COUNT e) ≠ getF s (F.ETH_TXR_WR_COUNT e)
    let next := readDesc s (nextDesc s e)
    let st := descStatus s e next
    let taken := fun (t : State) => getF t (F.ETH_TXR_RD_COUNT e) = (getF s (F.ETH_TXR_RD_COUNT e) + 1) % 2 ^ (F.ETH_TXR_RD_COUNT e).width
    let idle := (ethOf s e).wire = none
    let late := if e = 0 then F.TB_LAUNCH_CNT_LATE0 else F.TB_LAUNCH_CNT_LATE1
    let count := if d.launch.isSome then F.ETH_TXCNT_TIMED e else F.ETH_TXCNT_NORMAL e
    let speed := dictNat s (0x1100 + e.val) 2 1
    (ready → st ≠ 0 → completes (.txDescriptorTake e) s (fun t =>
      taken t ∧ memWord t (next.slot + 12) = 2 ^ 31 + st ∧ bytesKeptBut (next.slot + 12) 4 s t ∧ onlyIn [.mem] [.ETH_TXR_RD] s t)) ∧
    (ready → st = 0 → next.launch = none → completes (.txDescriptorTake e) s (fun t =>
      taken t ∧ ethOf t e = { ethOf s e with normal := (ethOf s e).normal ++ [next] } ∧ onlyIn [.host] [.ETH_TXR_RD] s t)) ∧
    (ready → st = 0 → next.launch = some at_ → completes (.txDescriptorTake e) s (fun t =>
      taken t ∧ ethOf t e = { ethOf s e with timed := (ethOf s e).timed ++ [next], lastLaunch := some at_ } ∧ onlyIn [.host] [.ETH_TXR_RD] s t)) ∧
    (idle → (ethOf s e).timed = d :: rest → d.launch = some s.now → portUp s e = true → completes (.timedLaunch e) s (fun t =>
      ethOf t e = { ethOf s e with timed := rest, wire := some (d, s.now + wireTicks s e d.len) } ∧
      t.emitted = s.emitted ++ [.frame e true d.addr d.len] ∧ onlyIn [.host, .emitted] [] s t)) ∧
    (¬ ready → completes (.txDescriptorTake e) s (fun t => t = s)) ∧
    (idle → (ethOf s e).timed = d :: rest → d.launch = some at_ → at_ < s.now ∨ at_ = s.now ∧ portUp s e = false → completes (.timedLaunch e) s (fun t =>
      ethOf t e = { ethOf s e with timed := rest } ∧ getF t late = (getF s late + 1) % 2 ^ late.width ∧ t.post.fired = s.post.fired ++ [28 + e.val] ∧
      memWord t (d.slot + 12) = 2 ^ 31 + 3 ∧ bytesKeptBut (d.slot + 12) 4 s t ∧ onlyIn [.mem, .post, .host] [.TB_LAUNCH_CNT] s t)) ∧
    (idle → (ethOf s e).timed = d :: rest → d.launch = some at_ → s.now < at_ → completes (.timedLaunch e) s (fun t => t = s)) ∧
    ((ethOf s e).wire = some (x, at_) → s.now < at_ → (ethOf s e).timed = d :: rest → d.launch = some s.now → completes (.timedLaunch e) s (fun t =>
      ethOf t e = { ethOf s e with timed := rest } ∧ getF t late = (getF s late + 1) % 2 ^ late.width ∧ t.post.fired = s.post.fired ++ [28 + e.val] ∧
      memWord t (d.slot + 12) = 2 ^ 31 + 3 ∧ bytesKeptBut (d.slot + 12) 4 s t ∧ onlyIn [.mem, .post, .host] [.TB_LAUNCH_CNT] s t)) ∧
    (idle → (ethOf s e).timed = [] → completes (.timedLaunch e) s (fun t => t = s)) ∧
    (idle → (ethOf s e).normal = d :: rest → portUp s e = true → d.launch = none →
      (∀ y ∈ (ethOf s e).timed, s.now + wireTicks s e d.len ≤ y.launch.getD 0) → completes (.normalFrameTx e) s (fun t =>
      ethOf t e = { ethOf s e with normal := rest, wire := some (d, s.now + wireTicks s e d.len) } ∧
      t.emitted = s.emitted ++ [.frame e false d.addr d.len] ∧ onlyIn [.host, .emitted] [] s t)) ∧
    (idle → (ethOf s e).normal = d :: rest → x ∈ (ethOf s e).timed → x.launch = some at_ → at_ < s.now + wireTicks s e d.len →
      completes (.normalFrameTx e) s (fun t => t = s)) ∧
    (idle → (ethOf s e).normal = [] ∨ portUp s e = false → completes (.normalFrameTx e) s (fun t => t = s)) ∧
    ((ethOf s e).wire = some (x, at_) → s.now < at_ → completes (.normalFrameTx e) s (fun t => t = s) ∧ completes (.frameTxComplete e) s (fun t => t = s)) ∧
    (idle → completes (.frameTxComplete e) s (fun t => t = s)) ∧
    ((ethOf s e).wire = some (d, at_) → at_ ≤ s.now → completes (.frameTxComplete e) s (fun t =>
      ethOf t e = { ethOf s e with wire := none } ∧ getF t count = (getF s count + 1) % 2 ^ count.width ∧
      memWord t (d.slot + 12) = 2 ^ 31 ∧ bytesKeptBut (d.slot + 12) 4 s t ∧ onlyIn [.mem, .host] [.ETH_TXCNT] s t)) ∧
    (portUp s e = true → f = .arp ∨ f = .ndp ∨ f = .icmp4 ∨ f = .icmp6 → completes (.ethFrameRx e f) s (fun t =>
      t.emitted = s.emitted ++ [.reply e f] ∧ onlyIn [.emitted] [] s t)) ∧
    (portUp s e = true → f = .fragment ∨ f = .other → completes (.ethFrameRx e f) s (fun t =>
      ethOf t e = { ethOf s e with discarded := (ethOf s e).discarded + 1 } ∧ onlyIn [.host] [] s t)) ∧
    (portUp s e = false → completes (.ethFrameRx e f) s (fun t => t = s)) ∧
    (domainOn s 143 = true → completes (.ethLinkChange e up) s (fun t =>
      flagF t (F.ETH_STAT_LINK e) = (up && portEnabled s e) ∧ flagF t (F.ETH_STAT_SPEED e) = (up && portEnabled s e && speed == 1) ∧
      flagF t (F.ETH_STAT_FEC e) = (up && portEnabled s e && speed == 1 && dictNat s (0x1100 + e.val) 3 1 == 1) ∧ onlyIn [] [.ETH_STAT] s t)) ∧
    (domainOn s 143 = false → completes (.ethLinkChange e up) s (fun t => t = s))

/-- A chain port trains when its role is set from Off, aligns after 8,192 ticks in TRAIN, runs once it and both lanes of its peer report RX_OK and the
roles agree, and goes back to training on a timeout, on eight failed cells of a lane in succession or on a phase loop out of lock in Run; another
role on a port that is up is only taken over, role 0 turns it off and ROLE 3 is refused; link cells give the peer's fields; cells that fail their
CRC and cells discarded are counted as lost (R320 to R322, R328, R330, R331). Where the statement says that an event which is not due changes
nothing, that is the model's choice (log entry 2). Its reading of what the rules leave open is the model's (log entries 55, 98). -/
def Obligations.ChainPorts : Prop :=
  ∀ (s : State) (m : Master) (p : Fin 8) (role : Fin 4) (lane : Fin 2) (c : LinkCell) (own : Option Int) (w : BitVec 256),
    let cfg : Reg := ⟨.CHN_PORT_CFG, p, 0, 0⟩
    let st := portState s p
    let l := portOf s p
    let role' := getF s (F.CHN_PORT_CFG_ROLE p)
    let cfgRegs := RegName.CHN_PORT_CFG :: linkRegs
    let off := fun (t : State) => portState t p = psOff ∧ getF t (F.CHN_PORT_CFG_ROLE p) = role.val ∧ getF t (F.CHN_PORT_STAT_LOCK p) = 0 ∧
      flagF t (F.CHN_PORT_STAT_CHILD p) = (st != psRun && flagF s (F.CHN_PORT_STAT_CHILD p))
    let trains := fun (t : State) => portState t p = psTrain ∧ (portOf t p).since = t.now ∧ (portOf t p).train = t.now ∧ (portOf t p).rxOk = false ∧
      (portOf t p).peerOk = (false, false)
    let down := fun (t : State) => trains t ∧ flagF t (F.CHN_PORT_LATCH_DOWN p) = true ∧ flagF t (F.CHN_PORT_STAT_CHILD p) = false ∧
      getF t (F.TB_PORT_DELAY_DELAY p) = 0 ∧ getF t (F.CHN_PORT_SKEW_SKEW p) = 0 ∧
      getF t (F.CHN_PORT_CNT_B_DOWN p) = (getF s (F.CHN_PORT_CNT_B_DOWN p) + 1) % 2 ^ (F.CHN_PORT_CNT_B_DOWN p).width
    let lost := if lane = 0 then F.CHN_PORT_CNT_A_LOST0 p else F.CHN_PORT_CNT_A_LOST1 p
    let counted := fun (t : State) => getF t lost = (getF s lost + 1) % 2 ^ lost.width
    let peer := fun (t : State) => getF t (F.CHN_PEER_UID_LO_UID p) = c.uid % 2 ^ 32 ∧ getF t (F.CHN_PEER_UID_HI_UID p) = c.uid / 2 ^ 32 % 2 ^ 32 ∧
      getF t (F.CHN_PORT_STAT_PEER_PORT p) = c.port.val ∧ getF t (F.CHN_PORT_STAT_PEER_ROLE p) = c.role.val ∧
      flagF t (F.SE_PORT_PEER_PULL p) = (c.seRole.val == 2) ∧ flagF t (F.CHN_PORT_STAT_CID_OK p) = (c.cid == getF s F.CL_CID_VALUE) ∧
      (c.role.val ≠ role' → flagF t (F.CHN_PORT_LATCH_ROLE_MISMATCH p) = true) ∧
      (c.cid ≠ getF s F.CL_CID_VALUE → role' = 1 → flagF t (F.CHN_PORT_LATCH_CID_MISMATCH p) = true)
    let peerRegs := [RegName.CHN_PEER_UID_LO, .CHN_PEER_UID_HI, .SE_PORT]
    let rx := l.rxOk || own.isSome
    let peerOk := withLane l.peerOk lane (laneOf l.peerOk lane || c.rxOk)
    let agreed := rx = true ∧ peerOk.1 = true ∧ peerOk.2 = true ∧ c.role.val = role'
    (role = 3 → refused m cfg (.portRoleWrite m p role) s) ∧
    (role.val = 0 → st ≠ psOff → accepted m cfg (.portRoleWrite m p role) s (fun t => off t ∧
      (st = psRun → flagF t (F.CHN_PORT_LATCH_DOWN p) = true) ∧ (526 + p.val) ∈ t.post.fired ∧ onlyIn (.emitted :: linkParts) cfgRegs s t)) ∧
    (role.val = 0 → st = psOff → accepted m cfg (.portRoleWrite m p role) s (fun t =>
      portState t p = psOff ∧ getF t (F.CHN_PORT_CFG_ROLE p) = 0 ∧ onlyIn [.emitted, .chain] [.CHN_PORT_CFG] s t)) ∧
    (role.val = 1 ∨ role.val = 2 → st = psOff → accepted m cfg (.portRoleWrite m p role) s (fun t => trains t ∧
      getF t (F.CHN_PORT_CFG_ROLE p) = role.val ∧ (526 + p.val) ∈ t.post.fired ∧ onlyIn (.emitted :: linkParts) cfgRegs s t)) ∧
    (role.val = 1 ∨ role.val = 2 → st ≠ psOff → accepted m cfg (.portRoleWrite m p role) s (fun t => portState t p = st ∧
      getF t (F.CHN_PORT_CFG_ROLE p) = role.val ∧ (portOf t p).linkDue = s.now ∧ onlyIn (.emitted :: linkParts) cfgRegs s t)) ∧
    (st = psTrain → l.since + 8192 ≤ s.now → completes (.trainEnd p) s (fun t =>
      portState t p = psAlign ∧ t.post.fired = s.post.fired ++ [526 + p.val] ∧ onlyIn [.post, .chain] [.CHN_PORT_STAT] s t)) ∧
    (st ≠ psTrain ∨ s.now < l.since + 8192 → completes (.trainEnd p) s (fun t => t = s)) ∧
    (st = psTrain ∨ st = psAlign → l.train + 1000000 ≤ s.now → completes (.trainTimeout p) s (fun t => trains t ∧
      getF t (F.CHN_PORT_CNT_B_TRAIN p) = (getF s (F.CHN_PORT_CNT_B_TRAIN p) + 1) % 2 ^ (F.CHN_PORT_CNT_B_TRAIN p).width ∧
      onlyIn linkParts linkRegs s t)) ∧
    (st ≠ psTrain ∧ st ≠ psAlign ∨ s.now < l.train + 1000000 → completes (.trainTimeout p) s (fun t => t = s)) ∧
    (st = psAlign → ¬ agreed → completes (.linkCellRx p lane c own) s (fun t => peer t ∧
      portState t p = psAlign ∧ (portOf t p).peerOk = peerOk ∧ (portOf t p).rxOk = rx ∧ (rx = true → getF t (F.CHN_PORT_STAT_LOCK p) = 3) ∧
      onlyIn [.post, .chain] (.CHN_PORT_STAT :: .CHN_PORT_LATCH :: peerRegs) s t)) ∧
    (st = psAlign → agreed → completes (.linkCellRx p lane c own) s (fun t => peer t ∧ portState t p = psRun ∧ getF t (F.CHN_PORT_STAT_LOCK p) = 3 ∧
      getF t (F.CHN_PORT_SKEW_SKEW p) = ofSigned (F.CHN_PORT_SKEW_SKEW p).width (own.getD l.skew) ∧
      (526 + p.val) ∈ t.post.fired ∧ onlyIn linkParts (linkRegs ++ peerRegs) s t)) ∧
    (st = psRun → lane = 1 → completes (.linkCellRx p lane c own) s (fun t => peer t ∧ portState t p = psRun ∧
      onlyIn [.post, .chain] (.CHN_PORT_STAT :: .CHN_PORT_LATCH :: peerRegs) s t)) ∧
    (st = psIdle → lane = 1 → completes (.linkCellRx p lane c own) s (fun t => peer t ∧ portState t p = psRun ∧ (526 + p.val) ∈ t.post.fired ∧
      onlyIn linkParts (linkRegs ++ peerRegs) s t)) ∧
    (st = psRun → lane = 0 → completes (.linkCellRx p lane c own) s (fun t => counted t ∧ portState t p = psRun ∧ laneOf (portOf t p).fails 0 = 0 ∧
      onlyIn [.chain] [.CHN_PORT_CNT_A] s t)) ∧
    (st ≠ psRun → st ≠ psAlign → st ≠ psIdle ∨ lane = 0 → completes (.linkCellRx p lane c own) s (fun t => t = s)) ∧
    (st = psRun → cellVerdict lane w.toNat = .badCrc → laneOf l.fails lane < 7 → completes (.cellCrcFail p lane w) s (fun t => counted t ∧
      portState t p = psRun ∧ laneOf (portOf t p).fails lane = laneOf l.fails lane + 1 ∧ flagF t (F.CHN_PORT_LATCH_CRC p) = true ∧
      (534 + p.val) ∈ t.post.fired ∧ onlyIn [.post, .chain] [.CHN_PORT_CNT_A, .CHN_PORT_LATCH] s t)) ∧
    (st = psRun → cellVerdict lane w.toNat = .badCrc → 7 ≤ laneOf l.fails lane → completes (.cellCrcFail p lane w) s (fun t => counted t ∧ down t ∧
      flagF t (F.CHN_PORT_LATCH_CRC p) = true ∧ (534 + p.val) ∈ t.post.fired ∧ onlyIn linkParts (.CHN_PORT_CNT_A :: linkRegs) s t)) ∧
    (st = psRun → cellVerdict lane w.toNat = .discarded → completes (.cellCrcFail p lane w) s (fun t => counted t ∧ laneOf (portOf t p).fails lane = 0 ∧
      portState t p = psRun ∧ onlyIn [.chain] [.CHN_PORT_CNT_A] s t)) ∧
    (st ≠ psRun ∨ cellVerdict lane w.toNat = .good → completes (.cellCrcFail p lane w) s (fun t => t = s)) ∧
    (st = psRun → completes (.phaseLoopOutOfLock p lane) s (fun t => down t ∧ bitF t (F.CHN_PORT_STAT_LOCK p) lane = false ∧
      onlyIn linkParts linkRegs s t)) ∧
    (st = psAlign → completes (.phaseLoopOutOfLock p lane) s (fun t => (portOf t p).rxOk = false ∧ portState t p = psAlign ∧
      bitF t (F.CHN_PORT_STAT_LOCK p) lane = false ∧ onlyIn [.chain] [.CHN_PORT_STAT] s t)) ∧
    (st ≠ psRun → st ≠ psAlign → completes (.phaseLoopOutOfLock p lane) s (fun t => portState t p = st ∧
      bitF t (F.CHN_PORT_STAT_LOCK p) lane = false ∧ onlyIn [] [.CHN_PORT_STAT] s t))

/-- A running port starts a decision cell on lane 0 and one cell on lane 1 each slot, a timing cell first, then control, link and idle cells, each with
its CRC and scrambled on from the last; in ALIGN both lanes send link cells and in Idle zeros; Idle and Deep need agreement of both ends, are
entered at the end of the slot, and end by a cell, by a request or by the signal detector; one eye scan runs at a time (R260, R319, R320, R328,
R329, R332 to R335, R450). Where the statement says that an event which is not due changes nothing, that is the model's choice (log entry 2). Its
reading of what the rules leave open is the model's (log entries 55, 56, 98). -/
def Obligations.ChainTraffic : Prop :=
  ∀ (s : State) (m : Master) (p : Fin 8) (x : Ctrl) (k : Nat) (rest : List (Nat × Ctrl)) (lane : Fin 2) (req st : Fin 4) (dwell : Fin 16)
    (vofs phase : Fin 128) (count : Nat) (q : Nat),
    let cfg : Reg := ⟨.CHN_PORT_CFG, p, 0, 0⟩
    let eye : Reg := ⟨.CHN_EYE_CTRL, 0, 0, 0⟩
    let l := portOf s p
    let slot := s.now % 4 = 0
    let run := portState s p = psRun
    let reqNow := getF s (F.CHN_PORT_CFG_REQ p)
    let norm := reqNow = 0
    let sent : Nat := if norm then l.sent else l.sent + 1
    let settled := (reqNow = 1 ∨ reqNow = 2) ∧ (l.gotState = 1 ∨ l.gotState = 2) ∧ 8 ≤ sent ∧ 8 ≤ l.got
    let fresh := fun (n : Nat) => laneOf l.slots n ≠ some s.now
    let leaves := fun (n st : Nat) (b : Cell320) (t : State) =>
      t.emitted = s.emitted ++ [.cell p n st b (scramble (cellBits st b) 256 (laneOf l.scram n, 0)).2] ∧
      laneOf (portOf t p).scram n = (scramble (cellBits st b) 256 (laneOf l.scram n, 0)).1
    let sends := fun (n : Nat) (b : Cell320) (t : State) => leaves n reqNow b t
    let idles := fun (t : State) => (portOf t p).sent = sent ∧
      t.sched = s.sched ++ (if settled then [(s.now / 4 * 4 + 4, Act.portIdle p)] else [])
    let scanOk := vofs ≠ 64 ∧ -32 ≤ toSigned 7 phase.val ∧ toSigned 7 phase.val ≤ 31
    let barred := reqBarred s p = true
    let awake := s.power.inReset = false ∧ s.power.tripped = false ∧ getF s F.PWR_STAT_STATE ≠ 3
    let got : Nat := if l.gotState = st.val then l.got + 1 else 1
    let agrees := (reqNow = 1 ∨ reqNow = 2) ∧ (st.val = 1 ∨ st.val = 2) ∧ 8 ≤ l.sent ∧ 8 ≤ got
    let entered := idleEnter s p
    (slot → run → fresh 0 → completes (.cellSlot p 0) s (fun t =>
      sends 0 (.decision ((slotEntries s p).1.map (·.2)) (((tget s.couch.bndTx [] p.val).take (12 - (slotEntries s p).1.length)).map (fun x => (x.1, x.2.1 % 256)))) t ∧
      tget t.couch.tx [] p.val = (slotEntries s p).2 ∧ onlyIn [.couch, .chain, .emitted] [.SE_CNT_C] s t)) ∧
    (slot → run → fresh 1 → s.now % 512 = 0 → completes (.cellSlot p 1) s (fun t =>
      sends 1 (.timing (timingOut s p)) t ∧ (portOf t p).ctrl = l.ctrl ∧ idles t ∧ onlyIn [.chain, .emitted, .sched] [] s t)) ∧
    (slot → run → fresh 1 → s.now % 512 ≠ 0 → l.ctrl = (k, x) :: rest → k < s.now → completes (.cellSlot p 1) s (fun t =>
      sends 1 (.control x) t ∧ (portOf t p).ctrl = rest ∧ idles t ∧ onlyIn [.chain, .emitted, .sched] [] s t)) ∧
    (slot → run → fresh 1 → s.now % 512 ≠ 0 → (∀ y ∈ l.ctrl.head?, s.now ≤ y.1) → l.linkDue ≤ s.now → completes (.cellSlot p 1) s (fun t =>
      sends 1 (.link (linkOut s p)) t ∧ (portOf t p).linkDue = s.now + 65536 ∧ idles t ∧ onlyIn [.chain, .emitted, .sched] [] s t)) ∧
    (slot → run → fresh 1 → s.now % 512 ≠ 0 → (∀ y ∈ l.ctrl.head?, s.now ≤ y.1) → s.now < l.linkDue → completes (.cellSlot p 1) s (fun t =>
      sends 1 .idle t ∧ idles t ∧ onlyIn [.chain, .emitted, .sched] [] s t)) ∧
    (slot → portState s p = psAlign → fresh lane.val → completes (.cellSlot p lane) s (fun t =>
      leaves lane 0 (.link (linkOut s p)) t ∧ onlyIn [.chain, .emitted] [] s t)) ∧
    (slot → portState s p = psIdle → fresh lane.val → completes (.cellSlot p lane) s (fun t =>
      laneOf (portOf t p).scram lane = (scramble 0 256 (laneOf l.scram lane, 0)).1 ∧ onlyIn [.chain] [] s t)) ∧
    (slot → portState s p = psOff ∨ portState s p = psTrain ∨ portState s p = psDeep → fresh lane.val → completes (.cellSlot p lane) s (fun t =>
      laneOf (portOf t p).slots lane = some s.now ∧ onlyIn [.chain] [] s t)) ∧
    (¬ slot ∨ laneOf l.slots lane = some s.now → completes (.cellSlot p lane) s (fun t => t = s)) ∧
    (run → norm → completes (.idleCellRx p st) s (fun t => portState t p = psRun ∧ (portOf t p).gotState = st.val ∧ (portOf t p).got = got ∧
      onlyIn [.chain] [] s t)) ∧
    (run → ¬ norm → st.val ≠ 0 → completes (.idleCellRx p st) s (fun t => portState t p = psRun ∧ (portOf t p).gotState = st.val ∧ (portOf t p).got = got ∧
      t.sched = s.sched ++ (if agrees then [(s.now / 4 * 4 + 4, .portIdle p)] else []) ∧ onlyIn [.chain, .sched] [] s t)) ∧
    (run → ¬ norm → st.val = 0 → completes (.idleCellRx p st) s (fun t => portState t p = psRun ∧ (portOf t p).refusals = l.refusals + 1 ∧
      (l.refusals = 63 → flagF t (F.CHN_PORT_LATCH_REQ_REFUSED p) = true) ∧ onlyIn [.chain, .post] [.CHN_PORT_LATCH] s t)) ∧
    (run → idleAgreed s p = true → portState entered p = (if reqNow = 2 ∧ l.gotState = 2 then psDeep else psIdle) ∧
      onlyIn linkParts linkRegs s entered) ∧
    (idleAgreed s p = false → entered = s) ∧
    (portState s p = psIdle → norm → completes (.idleCellRx p st) s (fun t =>
      portState t p = psRun ∧ (526 + p.val) ∈ t.post.fired ∧ onlyIn linkParts linkRegs s t)) ∧
    (¬ run → portState s p ≠ psIdle → completes (.idleCellRx p st) s (fun t => t = s)) ∧
    (req = 3 ∨ req ≠ 0 ∧ barred → refused m cfg (.portReqWrite m p req) s) ∧
    (req.val = 1 ∨ req.val = 2 → ¬ barred → accepted m cfg (.portReqWrite m p req) s (fun t =>
      getF t (F.CHN_PORT_CFG_REQ p) = req.val ∧ portState t p = portState s p ∧ (portOf t p).sent = 0 ∧
      onlyIn [.chain, .emitted] [.CHN_PORT_CFG] s t)) ∧
    (req = 0 → portState s p = psDeep → accepted m cfg (.portReqWrite m p req) s (fun t =>
      portState t p = psTrain ∧ getF t (F.CHN_PORT_CFG_REQ p) = 0 ∧ onlyIn (.emitted :: linkParts) (.CHN_PORT_CFG :: linkRegs) s t)) ∧
    (req = 0 → portState s p = psIdle → accepted m cfg (.portReqWrite m p req) s (fun t =>
      portState t p = psRun ∧ getF t (F.CHN_PORT_CFG_REQ p) = 0 ∧ onlyIn (.emitted :: linkParts) (.CHN_PORT_CFG :: linkRegs) s t)) ∧
    (req = 0 → portState s p ≠ psDeep → portState s p ≠ psIdle → accepted m cfg (.portReqWrite m p req) s (fun t =>
      portState t p = portState s p ∧ getF t (F.CHN_PORT_CFG_REQ p) = 0 ∧ onlyIn [.chain, .emitted] [.CHN_PORT_CFG] s t)) ∧
    (awake → domainOn s (134 + p.val) = true → portState s p = psDeep → completes (.signalDetect p) s (fun t =>
      portState t p = psTrain ∧ onlyIn (.power :: linkParts) (.LOFT_WAKE_SRC :: linkRegs) s t)) ∧
    (awake → portState s p ≠ psDeep → completes (.signalDetect p) s (fun t =>
      portState t p = portState s p ∧ onlyIn [.power] [.LOFT_WAKE_SRC] s t)) ∧
    (s.power.inReset = true ∨ s.power.tripped = true → completes (.signalDetect p) s (fun t => t = s)) ∧
    (flagF s F.CHN_EYE_STAT_BUSY = false → run → scanOk → accepted m eye (.eyeScanStart m p lane dwell vofs phase) s (fun t =>
      flagF t F.CHN_EYE_STAT_BUSY = true ∧ flagF t F.CHN_EYE_STAT_DONE = false ∧ t.chain.eye = some (p.val, s.now + 2 ^ (14 + dwell.val)) ∧
      onlyIn [.chain, .emitted] [.CHN_EYE_CTRL, .CHN_EYE_STAT] s t)) ∧
    (flagF s F.CHN_EYE_STAT_BUSY = true ∨ ¬ run ∨ ¬ scanOk → refused m eye (.eyeScanStart m p lane dwell vofs phase) s) ∧
    (s.chain.eye = some (q, k) → k ≤ s.now → completes (.eyeScanDone count) s (fun t =>
      getF t F.CHN_EYE_RES_COUNT = min count (2 ^ 32 - 1) ∧ flagF t F.CHN_EYE_STAT_DONE = true ∧ flagF t F.CHN_EYE_STAT_BUSY = false ∧
      t.chain = { s.chain with eye := none } ∧ onlyIn [.chain] [.CHN_EYE_RES, .CHN_EYE_STAT] s t)) ∧
    (s.chain.eye = some (q, k) → s.now < k → completes (.eyeScanDone count) s (fun t => t = s)) ∧
    (s.chain.eye = none → completes (.eyeScanDone count) s (fun t => t = s))

/-- The master numbers a device that joins, refuses one it has no number for, and enters its barriers; a follower adopts number, epoch and parent, sends
requests up and answers on down the tree, keeps its master alive by heartbeats and goes to HOLD without them, follows its parent's epoch and pending
commit; a lower UID fences a second master and a higher one is ignored (R327, R337 to R340, R344, R347, R348). Where the statement says that an
event which is not due changes nothing, that is the model's choice (log entry 2). Its reading of what the rules leave open is the model's (log
entries 24, 57). -/
def Obligations.ClusterMembership : Prop :=
  ∀ (s : State) (p y : Fin 8) (src dev : Fin 64) (h : Heartbeat) (uid epoch d : Nat) (bars : Fin 65536) (bar : Fin 16),
    let run := portRuns s p = true ∧ treePort s p = true
    let deaf := portRuns s p = false ∧ portState s p ≠ psIdle
    let master := isMaster s = true
    let follower := isMaster s = false
    let mine := s.chain.joining = some p.val ∧ uid = ownUid s
    let sent := fun (t : State) (c : Ctrl) => (portOf t p).ctrl = (portOf s p).ctrl ++ [(s.now, c)]
    let goesUp := fun (t : State) (m : Msg) =>
      (isParent s y = true → portRuns s y = true → (portOf t y).ctrl = (portOf s y).ctrl ++ [(s.now, ⟨src, some 0, m⟩)]) ∧
      (isParent s y = false → (portOf t y).ctrl = (portOf s y).ctrl) ∧ onlyIn [.chain] [] s t
    let goesDown := fun (t : State) (dst : Option Nat) (m : Msg) =>
      (isChild s y = true ∨ joinerPort s uid y = true → (portOf t y).ctrl = (portOf s y).ctrl ++ [(s.now, ⟨src, dst, m⟩)]) ∧
      (isChild s y = false → joinerPort s uid y = false → (portOf t y).ctrl = (portOf s y).ctrl) ∧ onlyIn [.chain] [] s t
    let entered := fun (t : State) (n : Nat) => n < 64 → (n ∈ barDevices t bar ↔ bars.val.testBit bar = true)
    let silent := s.chain.heard + max 1 (getF s F.CL_MTMO_TICKS) ≤ s.now
    let member := flagF s F.CL_STAT_MEMBER = true
    let beatDue := flagF s F.CL_CFG_EN = true ∧ (s.chain.beat = none ∨ (s.chain.beat.getD 0) + 1024 ≤ s.now)
    let ours := h.cid = getF s F.CL_CID_VALUE ∧ h.uid ≠ ownUid s
    let hears := fun (t : State) => (portOf t p).hb = some h ∧ getF t (F.CHN_PORT_STAT_PEER_DEV p) = src.val ∧
      flagF t (F.CHN_PORT_STAT_CHILD p) = h.parent
    let seen := setPort s p { portOf s p with hb := some h }
    let parent := isParent s p = true ∧ (candidate seen p).isSome = true
    let stays := flagF s F.TB_TSTAT_PARENT_VALID = true ∧ (candidate seen (getF s F.TB_TSTAT_PARENT)).isSome = true
    let now := getF s F.CL_EPOCH_EPOCH
    let alive := fun (t : State) => flagF t F.CL_STAT_MASTER_LOST = false ∧ t.chain.heard = s.now ∧ t.chain.masterUid = some h.uid
    (beatDue → completes .heartbeatSend s (fun t =>
      t.chain.beat = some s.now ∧
      (run → sent t ⟨getF s F.CL_STAT_DEVNUM, none, .heartbeat (heartbeatOut s p)⟩) ∧
      (¬ run → portOf t p = portOf s p) ∧ onlyIn [.chain] [] s t)) ∧
    (¬ beatDue → completes .heartbeatSend s (fun t => t = s)) ∧
    (run → master → ours → h.uid < ownUid s → completes (.heartbeat p src h) s (fun t =>
      t.chain.dual = true ∧ flagF t F.CL_STAT_OUT_EPOCH = true ∧ flagF t F.CL_LATCH_DUAL_MASTER = true ∧
      (flagF s F.CL_STAT_OUT_EPOCH = false → isOutOfEpoch t) ∧ onlyIn (.chain :: fenceParts) fenceRegs s t)) ∧
    (run → master → ours → ownUid s < h.uid → completes (.heartbeat p src h) s (fun t => (portOf t p).hb = (portOf s p).hb ∧ onlyIn [.chain] [] s t)) ∧
    (run → master → ¬ ours → completes (.heartbeat p src h) s (fun t => hears t ∧ onlyIn [.chain] [.CHN_PORT_STAT] s t)) ∧
    (run → follower → member → parent → h.epoch ≤ now → h.pending = false → completes (.heartbeat p src h) s (fun t => hears t ∧ alive t ∧
      (h.isOpen = false → h.epoch = now → t.chain.prepared = none ∧ t.chain.learned = none ∧ (s.chain.prepared.isSome = true → t.host.shadow = [])) ∧
      (h.isOpen = true ∨ h.epoch ≠ now → t.chain.prepared = s.chain.prepared ∨ s.chain.prepared = none) ∧
      onlyIn [.chain, .host] [.CHN_PORT_STAT, .CL_STAT] s t)) ∧
    (run → follower → member → parent → h.epoch ≤ now → h.pending = true → flagF s F.CL_STAT_OUT_EPOCH = false → s.chain.prepared = some h.pendEpoch →
      s.chain.learned = none → s.now + 16 ≤ tickNear s.now h.pendT → completes (.heartbeat p src h) s (fun t => hears t ∧ alive t ∧
        t.chain.learned = some (tickNear s.now h.pendT) ∧ onlyIn [.chain] [.CHN_PORT_STAT, .CL_STAT] s t)) ∧
    (run → follower → member → parent → now < h.epoch → completes (.heartbeat p src h) s (fun t =>
      t.chain.prepared = none ∧ t.host.shadow = [] ∧ flagF t F.CL_STAT_OUT_EPOCH = true ∧ (flagF s F.CL_STAT_OUT_EPOCH = false → isOutOfEpoch t) ∧
      onlyIn (.chain :: .host :: fenceParts) (.CHN_PORT_STAT :: fenceRegs) s t)) ∧
    (run → follower → isParent s p = false ∨ ¬ member → stays ∨ bestCandidate seen = none → completes (.heartbeat p src h) s (fun t => hears t ∧
      (h.parent = false → s.chain.masterUid = some h.uid → alive t) ∧ onlyIn [.chain] [.CHN_PORT_STAT, .CL_STAT] s t)) ∧
    (follower → member → silent → flagF s F.CL_STAT_MASTER_LOST = false → completes .masterTimeout s (fun t =>
      flagF t F.CL_STAT_MASTER_LOST = true ∧ flagF t F.CL_LATCH_MASTER_LOST = true ∧
      timeStatus t = (if timeStatus s = tsLocked then tsHold else timeStatus s) ∧ (timeStatus s = tsLocked → flagF t F.TB_TLATCH_HOLD = true) ∧
      onlyIn [.post] [.CL_STAT, .CL_LATCH, .TB_TSTAT, .TB_EVCNT, .TB_TLATCH] s t)) ∧
    (master ∨ ¬ member ∨ ¬ silent ∨ flagF s F.CL_STAT_MASTER_LOST = true → completes .masterTimeout s (fun t => t = s)) ∧
    (run → isParent s p = false → master → numberFor s uid = some d → d < 64 → completes (.join p src uid bars) s (fun t =>
      assigned t d = true ∧ numberFor t uid = some d ∧ entered t d ∧ sent t ⟨0, some d, .assign uid d now⟩ ∧
      onlyIn [.chain] [.CL_MEMB_LO, .CL_MEMB_HI, .CL_BARPART_LO, .CL_BARPART_HI] s t)) ∧
    (run → isParent s p = false → master → numberFor s uid = none → completes (.join p src uid bars) s (fun t =>
      sent t ⟨0, none, .refuse uid⟩ ∧ onlyIn [.chain] [] s t)) ∧
    (run → isParent s p = false → follower → completes (.join p src uid bars) s (fun t => goesUp t (.join uid bars))) ∧
    (run → isParent s p = true → completes (.join p src uid bars) s (fun t => (portOf t y).ctrl = (portOf s y).ctrl ∧ onlyIn [.chain] [] s t)) ∧
    (run → follower → mine → completes (.assign p src uid dev epoch) s (fun t =>
      getF t F.CL_STAT_DEVNUM = dev.val ∧ flagF t F.CL_STAT_MEMBER = true ∧ getF t F.CL_EPOCH_EPOCH = epoch % 2 ^ F.CL_EPOCH_EPOCH.width ∧
      isParent t p = true ∧ t.chain.joining = none ∧
      timeStatus t = (if timeStatus s = tsUnsync ∧ flagF s F.TB_REF_STAT_DANDY_LOCK = true then tsMeasure
        else if timeStatus s = tsLocked then tsHold else timeStatus s) ∧
      onlyIn [.chain, .time, .post] [.CL_STAT, .CL_EPOCH, .TB_TSTAT, .TB_EVCNT, .TB_TLATCH, .CHN_PORT_STAT] s t)) ∧
    (run → follower → ¬ mine → isParent s p = true → completes (.assign p src uid dev epoch) s (fun t =>
      goesDown t (some dev.val) (.assign uid dev epoch))) ∧
    (run → master ∨ ¬ mine ∧ isParent s p = false → completes (.assign p src uid dev epoch) s (fun t => onlyIn [.chain] [] s t) ∧
      completes (.refuse p src uid) s (fun t => onlyIn [.chain] [] s t)) ∧
    (run → follower → mine → completes (.refuse p src uid) s (fun t =>
      flagF t F.CL_LATCH_REFUSED = true ∧ timeStatus t = timeStatus s ∧ t.chain.joining = s.chain.joining ∧ onlyIn [.chain, .post] [.CL_LATCH] s t)) ∧
    (run → follower → ¬ mine → isParent s p = true → completes (.refuse p src uid) s (fun t => goesDown t none (.refuse uid))) ∧
    (run → isChild s p = true → master → completes (.part p src bars) s (fun t =>
      entered t src.val ∧ onlyIn [.chain] [.CL_BARPART_LO, .CL_BARPART_HI] s t)) ∧
    (run → isChild s p = true → follower → completes (.part p src bars) s (fun t => goesUp t (.part bars))) ∧
    (run → isChild s p = false → completes (.part p src bars) s (fun t => onlyIn [.chain] [] s t)) ∧
    (deaf → completes (.heartbeat p src h) s (fun t => t = s) ∧ completes (.join p src uid bars) s (fun t => t = s) ∧
      completes (.assign p src uid dev epoch) s (fun t => t = s) ∧ completes (.refuse p src uid) s (fun t => t = s) ∧
      completes (.part p src bars) s (fun t => t = s))

/-- The generator announces a boundary exactly LEAD ticks ahead, at NEXT + k·PER or at the tick written, and never closer to the last than the least
period; a SHOT in time is acted on and goes on down the tree, a late one, or one that shows a boundary missed, takes the device out of epoch; a
cluster barrier releases when the last device of its round has arrived (R76, R99, R341 to R344, R457). Where the statement says that an event which
is not due changes nothing, that is the model's choice (log entry 2). Its reading of what the rules leave open is the model's (log entries 57, 58). -/
def Obligations.ShotsAndClusterBarriers : Prop :=
  ∀ (s : State) (m : Master) (p y : Fin 8) (src : Fin 64) (b x tt : Nat) (prev : Option Nat) (bar : Fin 16) (hi : BitVec 32) (q k : Fin 16) (gap : Nat),
    let lead := getF s F.CL_SHOT_CTRL_LEAD
    let mode := getF s F.CL_SHOT_CTRL_MODE
    let per := max 1 (getF s F.CL_SHOT_PER_VALUE)
    let next := genNext s 0
    let last? := s.chain.lastAnn
    let tree := portRuns s p = true ∧ treePort s p = true
    let above := tree ∧ isParent s p = true ∧ isMaster s = false
    let below := tree ∧ isChild s p = true
    let settled := ∀ a ∈ s.chain.agree, a.done = none ∨ a.t.isSome = true
    let commit := getF s F.CL_SHOT_NEXT_LO_VALUE + 2 ^ 32 * hi.toNat
    let tooNear := mode = 2 ∧ (commit < s.now / 4 * 4 + 4 + lead ∨ (∃ l ∈ last?, commit ≤ l ∨ isMaster s = true ∧ commit < l + minPeriod s))
    let hiReg : Reg := ⟨.CL_SHOT_NEXT_HI, 0, 0, 0⟩
    let late := b < s.now + 16
    let missed := ∃ l ∈ prev, s.bounds.head? ≠ some l ∧ l ∉ s.seq.announced ∧ s.chain.learned ≠ some l
    let inEpoch := flagF s F.CL_STAT_OUT_EPOCH = false
    let down := fun (t : State) (c : Msg) => (isChild s y = true → (portOf t y).ctrl = (portOf s y).ctrl ++ [(s.now, ⟨src, none, c⟩)]) ∧
      (isChild s y = false → (portOf t y).ctrl = (portOf s y).ctrl)
    let waits := (thread s q k).wait = some (.shot gap) ∧ (thread s q k).tt ≤ b
    let wakes := fun (t : State) => waits → thrState t q k = stRun ∧ (thread t q k).tt = (b + gap) % 2 ^ 64
    let r := (tget s.chain.rounds none bar.val).getD ⟨barDevices s bar, [], 0⟩
    let last := ∀ d ∈ r.devs, d = src.val ∨ d ∈ r.arrived
    let released := fun (t : State) (v : Nat) => bar.val ∉ t.chain.sentArrive ∧
      (atBarrier s 2 bar (q.val, k.val) = some gap → (q.val, k.val) ∈ barThreads s 2 0 bar →
        (thread t q k).tt = (v + gap) % 2 ^ 64 ∧ thrState t q k = stRun) ∧ onlyIn [.chain, .seq, .post] [.THR_STAT] s t
    (next = some b → mode = 1 ∨ mode = 2) ∧
    (next = some b → mode = 1 → s.now + lead ≤ b) ∧
    (next = some b → mode = 1 → s.chain.phase = some x →
      x + per ≤ b ∧ x + minPeriod s ≤ b ∧ (b - x) % max per (minPeriod s) = 0) ∧
    (next = some b → mode = 1 → s.chain.phase = none → s.chain.next ≤ b ∧ (b - s.chain.next) % per = 0 ∧ (∀ l ∈ last?, l + minPeriod s ≤ b)) ∧
    (next = some b → mode = 2 → s.chain.written = some b) ∧
    (next = some b → b = s.now + lead → isMaster s = true → settled → completes .shotAnnounce s (fun t =>
      t.chain.lastAnn = some b ∧ b ∈ t.seq.announced ∧ wakes t ∧ (mode = 1 → t.chain.phase = some b) ∧ (mode = 2 → t.chain.written = none) ∧
      (isChild s y = true → (portOf t y).ctrl = (portOf s y).ctrl ++ [(s.now, ⟨getF s F.CL_STAT_DEVNUM, none, .shot b last?⟩)]) ∧
      onlyIn [.seq, .chain, .post] [.THR_STAT] s t)) ∧
    (next ≠ some (s.now + lead) ∨ isMaster s = false → completes .shotAnnounce s (fun t => t = s)) ∧
    (above → ¬ missed → ¬ late → completes (.shot p src b prev) s (fun t => b ∈ t.seq.announced ∧ wakes t ∧ down t (.shot b prev) ∧
      onlyIn [.seq, .chain, .post] [.THR_STAT] s t)) ∧
    (above → ¬ missed → b ≤ s.now → completes (.shot p src b prev) s (fun t =>
      flagF t F.CL_LATCH_LATE_SHOT = true ∧ flagF t F.CL_STAT_OUT_EPOCH = true ∧ (inEpoch → isOutOfEpoch t) ∧ down t (.shot b prev) ∧
      onlyIn (.chain :: fenceParts) fenceRegs s t)) ∧
    (above → ¬ missed → late → s.now < b → completes (.shot p src b prev) s (fun t =>
      flagF t F.CL_LATCH_LATE_SHOT = true ∧ t.sched = s.sched ++ [(b, .outEpoch b)] ∧ b ∉ t.seq.announced.drop s.seq.announced.length ∧
      down t (.shot b prev) ∧ onlyIn [.sched, .chain, .post] [.CL_LATCH] s t)) ∧
    (above → missed → ¬ late → completes (.shot p src b prev) s (fun t =>
      flagF t F.CL_LATCH_LATE_SHOT = true ∧ flagF t F.CL_STAT_OUT_EPOCH = true ∧ (inEpoch → isOutOfEpoch t) ∧ b ∈ t.seq.announced ∧
      down t (.shot b prev) ∧ onlyIn (.chain :: fenceParts) fenceRegs s t)) ∧
    (above → missed → late → completes (.shot p src b prev) s (fun t =>
      flagF t F.CL_LATCH_LATE_SHOT = true ∧ flagF t F.CL_STAT_OUT_EPOCH = true ∧ (inEpoch → isOutOfEpoch t) ∧ down t (.shot b prev) ∧
      onlyIn (.chain :: .sched :: fenceParts) fenceRegs s t)) ∧
    (tree → ¬ above → completes (.shot p src b prev) s (fun t => onlyIn [.chain] [] s t) ∧
      completes (.barRelease p src bar x) s (fun t => onlyIn [.chain] [] s t)) ∧
    (tooNear → refused m hiReg (.shotNextWrite m hi) s) ∧
    (¬ tooNear → settled → accepted m hiReg (.shotNextWrite m hi) s (fun t =>
      getF t F.CL_SHOT_NEXT_HI_VALUE = hi.toNat ∧ t.chain.next = commit ∧ (mode = 1 → t.chain.phase = none ∧ t.chain.genFrom = s.now / 4 * 4 + 4) ∧
      (mode = 2 → t.chain.written = some commit) ∧ onlyIn [.chain, .emitted] [.CL_SHOT_NEXT_HI] s t)) ∧
    (below → isMaster s = true → last → completes (.barArrive p src bar tt) s (fun t =>
      tget t.chain.rounds none bar.val = none ∧ released t (max (max r.tt tt) (s.now + getF s (F.SEQ_SYNC_CL_MARGIN 0))))) ∧
    (below → isMaster s = true → ¬ last → completes (.barArrive p src bar tt) s (fun t =>
      tget t.chain.rounds none bar.val = some { r with arrived := r.arrived.filter (· != src.val) ++ [src.val], tt := max r.tt tt } ∧
      onlyIn [.chain] [] s t)) ∧
    (below → isMaster s = false → completes (.barArrive p src bar tt) s (fun t => onlyIn [.chain] [] s t ∧
      (isParent s y = true → portRuns s y = true → (portOf t y).ctrl = (portOf s y).ctrl ++ [(s.now, ⟨src, some 0, .barArrive bar tt⟩)]))) ∧
    (tree → ¬ below → completes (.barArrive p src bar tt) s (fun t => onlyIn [.chain] [] s t)) ∧
    (above → completes (.barRelease p src bar x) s (fun t => released t x ∧ down t (.barRelease bar x)))

/-- A change is prepared, answered, committed at a tick or cancelled: one agreement at a time, a refusal or a timeout names the device; T is the first
boundary 5,000 ticks after the last acceptance; a prepared device learns T in time or goes out of epoch; the tick T applies the change and its
epoch; a device out of epoch ignores commits and is resynchronised (R345 to R350). Where the statement says that an event which is not due changes
nothing, that is the model's choice (log entry 2). Its reading of what the rules leave open is the model's (log entries 57, 59). -/
def Obligations.ClusterChanges : Prop :=
  ∀ (s : State) (m : Master) (p y : Fin 8) (src dst : Fin 64) (id : BitVec 16) (epoch code tk x : Nat) (a : Agreement),
    let cmd : Reg := ⟨.CL_CMD, 0, 0, 0⟩
    let tree := portRuns s p = true ∧ treePort s p = true
    let above := tree ∧ isParent s p = true ∧ isMaster s = false
    let below := tree ∧ isChild s p = true ∧ isMaster s = true
    let now := s.chain.agree = some a
    let asks := now ∧ a.epoch = epoch ∧ a.done = none ∧ src.val ∈ a.asked
    let bad := fun (e : Nat) => flagF s F.CL_STAT_OUT_EPOCH = true ∨ s.host.staged = [] ∨ s.host.changeId ≠ e
    let up := fun (t : State) (v : Nat) => flagF s F.TB_TSTAT_PARENT_VALID = true → getF s F.TB_TSTAT_PARENT = p.val → isChild s p = false →
      (portOf t p).ctrl = (portOf s p).ctrl ++ [(s.now, ⟨getF s F.CL_STAT_DEVNUM, some 0, .ack epoch v⟩)]
    let down := fun (t : State) (n : Nat) (l : List Msg) =>
      (isChild s y = true → isParent s y = false → (portOf t y).ctrl = (portOf s y).ctrl ++ l.map (fun c => (s.now, ⟨n, none, c⟩))) ∧
      (isChild s y = false → isParent s y = false → (portOf t y).ctrl = (portOf s y).ctrl)
    let dev := getF s F.CL_STAT_DEVNUM
    let agree := fun (t : State) (st c d : Nat) => getF t F.CL_AGREE_STATE = st ∧ getF t F.CL_AGREE_CODE = c % 256 ∧ getF t F.CL_AGREE_DEV = d % 64
    let dropped := fun (t : State) => t.chain.prepared = none ∧ t.chain.learned = none ∧ t.host.shadow = [] ∧ flagF t F.CL_STAT_PREPARED = false
    let inEpoch := flagF s F.CL_STAT_OUT_EPOCH = false
    let ref := flagF s F.TB_REF_STAT_REF_PRESENT = true
    let next := getF s F.CL_EPOCH_EPOCH + 1
    let may := isMaster s = true ∧ s.chain.agree = none
    let asked := (List.range 64).filter (fun d => (assigned s d || d == 0) && !excluded s d)
    let last := ∀ d ∈ a.asked, d = src.val ∨ d ∈ a.accepted
    let stays := ¬ inEpoch ∧ s.chain.dual = false ∧ (timeStatus s = tsFenced → ref)
    let resynced := fun (t : State) (e : Nat) => flagF t F.CL_STAT_OUT_EPOCH = false ∧ getF t F.CL_EPOCH_EPOCH = e % 2 ^ F.CL_EPOCH_EPOCH.width ∧
      t.host.staged = [] ∧ dropped t ∧ (timeStatus s = tsFenced → timeStatus t ≠ tsFenced) ∧
      (∀ (q : Fin 16) (o : Fin 5), flagF t (F.DRV_STAT_FENCE q o) = false)
    let outRegs := [RegName.DRV_STAT, .DRV_CNT, .DRV_LATCH, .FLX_STAT, .FLX_CNT, .FLX_LATCH, .CL_STAT, .CL_EPOCH, .TB_TSTAT]
    (boundaryFrom s x = some tk → x ≤ tk ∧ (∀ b ∈ s.seq.announced, x ≤ b → tk ≤ b) ∧ (tk ∈ s.seq.announced ∨ genNext s x = some tk)) ∧
    (isMaster s = false ∨ s.chain.agree.isSome = true → refused m cmd (.clPrepare m id) s) ∧
    (may → excluded s 0 = true → accepted m cmd (.clPrepare m id) s (fun t =>
      agree t 1 0 0 ∧ t.chain.agree = some ⟨next, id.toNat, s.now, asked, [], none, none⟩ ∧ down t dev [.prepare next id.toNat] ∧
      onlyIn [.chain, .emitted] [.CL_AGREE] s t)) ∧
    (may → excluded s 0 = false → bad id.toNat → accepted m cmd (.clPrepare m id) s (fun t =>
      agree t 3 1 0 ∧ t.chain.agree = none ∧ flagF t F.CL_LATCH_NAK = true ∧ down t dev [.prepare next id.toNat, .cancel next] ∧
      onlyIn [.chain, .host, .post, .emitted] [.CL_AGREE, .CL_LATCH, .CL_STAT] s t)) ∧
    (may → excluded s 0 = false → ¬ bad id.toNat → asked ≠ [0] → accepted m cmd (.clPrepare m id) s (fun t =>
      agree t 1 0 0 ∧ t.chain.agree = some ⟨next, id.toNat, s.now, asked, [0], none, none⟩ ∧ down t dev [.prepare next id.toNat] ∧
      t.chain.prepared = some next ∧ t.host.shadow = s.host.staged ∧ t.host.staged = [] ∧ flagF t F.CL_STAT_PREPARED = true ∧
      onlyIn [.chain, .host, .emitted] [.CL_AGREE, .CL_STAT] s t)) ∧
    (may → excluded s 0 = false → ¬ bad id.toNat → asked = [0] → boundaryFrom s (s.now + 5000) = some tk → accepted m cmd (.clPrepare m id) s (fun t =>
      agree t 2 0 0 ∧ (t.chain.agree.bind (·.t)) = some tk ∧ t.chain.prepared = some next ∧ t.chain.learned = some tk ∧
      down t dev [.prepare next id.toNat, .commit next tk] ∧ t.host.shadow = s.host.staged ∧
      onlyIn [.chain, .host, .emitted] [.CL_AGREE, .CL_STAT] s t)) ∧
    (above → bad code → completes (.prepare p src epoch code) s (fun t => up t 1 ∧ t.chain.prepared = s.chain.prepared ∧
      down t src [.prepare epoch code] ∧ onlyIn [.chain] [] s t)) ∧
    (above → ¬ bad code → completes (.prepare p src epoch code) s (fun t => up t 0 ∧ t.chain.prepared = some epoch ∧ t.chain.learned = none ∧
      flagF t F.CL_STAT_PREPARED = true ∧ t.host.shadow = s.host.staged ∧ t.host.staged = [] ∧ down t src [.prepare epoch code] ∧
      onlyIn [.chain, .host] [.CL_STAT] s t)) ∧
    (below → asks → code ≠ 0 → completes (.ack p src epoch code) s (fun t => t.chain.agree = none ∧ agree t 3 code src ∧
      flagF t F.CL_LATCH_NAK = true ∧ (s.chain.prepared = some epoch → dropped t) ∧ down t dev [.cancel epoch] ∧
      onlyIn [.chain, .host, .post] [.CL_AGREE, .CL_LATCH, .CL_STAT] s t)) ∧
    (below → asks → code = 0 → ¬ last → completes (.ack p src epoch code) s (fun t =>
      t.chain.agree = some { a with accepted := a.accepted.filter (· != src.val) ++ [src.val] } ∧ onlyIn [.chain] [] s t)) ∧
    (below → asks → code = 0 → last → a.t = none → boundaryFrom s (s.now + 5000) = some tk → completes (.ack p src epoch code) s (fun t =>
      agree t 2 0 0 ∧ (t.chain.agree.bind (·.t)) = some tk ∧ down t dev [.commit epoch tk] ∧
      (s.chain.prepared = some epoch → s.chain.learned = none → t.chain.learned = some tk) ∧ onlyIn [.chain] [.CL_AGREE] s t)) ∧
    (below → asks → code = 0 → last → a.t = none → boundaryFrom s (s.now + 5000) = none → completes (.ack p src epoch code) s (fun t =>
      (t.chain.agree.bind (·.t)) = none ∧ (t.chain.agree.bind (·.done)) = some s.now ∧ onlyIn [.chain] [] s t)) ∧
    (below → ¬ asks → now → completes (.ack p src epoch code) s (fun t => t.chain.agree = some a ∧ onlyIn [.chain] [] s t)) ∧
    (tree → isChild s p = true → isMaster s = false → completes (.ack p src epoch code) s (fun t => onlyIn [.chain] [] s t ∧
      (isParent s y = true → portRuns s y = true → (portOf t y).ctrl = (portOf s y).ctrl ++ [(s.now, ⟨src, some 0, .ack epoch code⟩)]))) ∧
    (now → a.done = none → a.opened + max 1 (getF s F.CL_PREP_TMO_TICKS) ≤ s.now → completes .prepareTimeout s (fun t => t.chain.agree = none ∧
      agree t 3 255 ((a.asked.find? (fun d => !a.accepted.contains d)).getD 0) ∧ flagF t F.CL_LATCH_NAK = true ∧
      (s.chain.prepared = some a.epoch → dropped t) ∧ down t dev [.cancel a.epoch] ∧
      onlyIn [.chain, .host, .post] [.CL_AGREE, .CL_LATCH, .CL_STAT] s t)) ∧
    (now → a.done.isSome = true ∨ s.now < a.opened + max 1 (getF s F.CL_PREP_TMO_TICKS) → completes .prepareTimeout s (fun t => t = s)) ∧
    (s.chain.agree = none → completes .prepareTimeout s (fun t => t = s)) ∧
    (above → inEpoch → s.chain.prepared = some epoch → s.chain.learned = none → s.now + 16 ≤ tk → completes (.commit p src epoch tk) s (fun t =>
      t.chain.learned = some tk ∧ down t src [.commit epoch tk] ∧ onlyIn [.chain] [] s t)) ∧
    (above → inEpoch → s.chain.prepared = some epoch → s.chain.learned.isSome = true → completes (.commit p src epoch tk) s (fun t =>
      t.chain.learned = s.chain.learned ∧ onlyIn [.chain] [] s t)) ∧
    (above → inEpoch → s.chain.prepared = some epoch → s.chain.learned = none → s.now < tk → tk < s.now + 16 → completes (.commit p src epoch tk) s (fun t =>
      dropped t ∧ t.sched = s.sched ++ [(tk, .outEpoch tk)] ∧ onlyIn [.chain, .host, .sched] [.CL_STAT] s t)) ∧
    (above → inEpoch → s.chain.prepared = some epoch → s.chain.learned = none → tk ≤ s.now → completes (.commit p src epoch tk) s (fun t =>
      dropped t ∧ isOutOfEpoch t ∧ onlyIn (.chain :: .host :: fenceParts) fenceRegs s t)) ∧
    (above → ¬ inEpoch ∨ s.chain.prepared ≠ some epoch → completes (.commit p src epoch tk) s (fun t =>
      t.chain.prepared = s.chain.prepared ∧ t.chain.learned = s.chain.learned ∧ onlyIn [.chain] [] s t)) ∧
    (above → s.chain.prepared = some epoch → completes (.cancel p src epoch) s (fun t => dropped t ∧ down t src [.cancel epoch] ∧
      onlyIn [.chain, .host] [.CL_STAT] s t)) ∧
    (above → s.chain.prepared ≠ some epoch → completes (.cancel p src epoch) s (fun t =>
      t.chain.prepared = s.chain.prepared ∧ onlyIn [.chain] [] s t)) ∧
    (boundaryDue s = true → s.chain.learned = some s.now → s.chain.prepared = some epoch → completes .commitApply s (fun t =>
      t.bounds = s.now :: s.bounds ∧ getF t F.CL_EPOCH_EPOCH = epoch % 2 ^ F.CL_EPOCH_EPOCH.width ∧ flagF t F.CL_LATCH_COMMITTED = true ∧ dropped t ∧
      542 ∈ t.post.fired)) ∧
    (s.chain.learned ≠ some s.now ∨ boundaryDue s = false → completes .commitApply s (fun t => t = s)) ∧
    (isMaster s = false ∨ dst = 0 ∧ ¬ ref → refused m cmd (.clResync m dst) s) ∧
    (isMaster s = true → dst = 0 → ref → stays → accepted m cmd (.clResync m dst) s (fun t =>
      resynced t (getF s F.CL_EPOCH_EPOCH) ∧ onlyIn [.out, .post, .time, .chain, .host, .emitted] outRegs s t)) ∧
    (isMaster s = true → dst = 0 → ref → ¬ stays → accepted m cmd (.clResync m dst) s (fun t => onlyIn [.emitted] [] s t)) ∧
    (isMaster s = true → dst ≠ 0 → accepted m cmd (.clResync m dst) s (fun t =>
      (isChild s p = true → (portOf t p).ctrl = (portOf s p).ctrl ++ [(s.now, ⟨0, some dst.val, .resync (getF s F.CL_EPOCH_EPOCH)⟩)]) ∧
      onlyIn [.chain, .emitted] [] s t)) ∧
    (above → flagF s F.CL_STAT_MEMBER = true → dev = dst.val → stays → completes (.resync p src dst epoch) s (fun t =>
      resynced t epoch ∧ getF t F.CL_STAT_LAG = min 255 (epoch - getF s F.CL_EPOCH_EPOCH) ∧
      onlyIn [.out, .post, .time, .chain, .host] outRegs s t)) ∧
    (above → flagF s F.CL_STAT_MEMBER = false ∨ dev ≠ dst.val ∨ ¬ stays → completes (.resync p src dst epoch) s (fun t => onlyIn [.chain] [] s t)) ∧
    (tree → ¬ above → completes (.resync p src dst epoch) s (fun t => onlyIn [.chain] [] s t) ∧
      completes (.prepare p src epoch code) s (fun t => onlyIn [.chain] [] s t) ∧ completes (.commit p src epoch tk) s (fun t => onlyIn [.chain] [] s t) ∧
      completes (.cancel p src epoch) s (fun t => onlyIn [.chain] [] s t))

/-- A register write of 32 bits that reaches an existing register of a powered block, aligned and, in the security block, from a management core, comes
to that register's rule; a register without a rule of its own takes it field by field through the normal, toggle, set and clear views, by the access
codes; 64 bits are two such writes in ascending order; the mailbox request takes narrower ones; every other write has no effect and is answered with
its code, and all wait while their region is down (R12 to R14, R25, R370 to R373, R375, R376). Its reading of what the rules leave open is the
model's (log entries 63, 64, 94). -/
def Obligations.RegisterAccess : Prop :=
  ∀ (s u : State) (m : Master) (addr v size : Nat) (r r2 : Reg) (e : Err),
    let write := Instr.registerWrite m addr size v
    let no := fun (code : Nat) => completes write s (turnedAway m code s)
    let a := regAddr ⟨.CL_MTMO, 0, 0, 0⟩
    let on := domainOn s 131 = true
    let plain := fun (at_ : Nat) (f : Nat → Nat) => completes (.registerWrite m at_ 32 v) s (fun t =>
      getF t F.CL_MTMO_TICKS = f (getF s F.CL_MTMO_TICKS) % 2 ^ 32 ∧ answered m 0 s t ∧ onlyChanges [.emitted] [F.CL_MTMO_TICKS] s t)
    let w := v % 2 ^ 32
    let n := size / 8
    let goes := addrStalls s addr = false
    let closed := fun (x : Nat) => inSecurity x = true ∧ isCore m = false
    let word := goes ∧ n = 4 ∧ addr % 4 = 0 ∧ ¬ closed addr
    let double := goes ∧ n = 8 ∧ addr % 4 = 0 ∧ ¬ closed addr ∧ ¬ closed (addr + 4)
    let ordinary := fun (x : Reg) => spareEntry x = false ∧ x.name ∈ plainRegs
    let rule := regEffect r ⟨viewAt addr, w⟩ s
    let part := n ≠ 4 ∧ n < 8 ∧ (n ≤ 1 ∨ n = 2 ∧ addr % 2 = 0 ∨ 3 ≤ n ∧ (addr % 4 = 0 ∨ addr % 4 + n ≤ 4))
    let buffer := fun (k : Nat) => goes ∧ n = k ∧ part ∧ ¬ closed addr ∧ regAt (addr - addr % 4) = some r ∧ r.name = .MBX_REQ ∧ viewAt addr = .normal
    let byte := fun (t : State) (k : Nat) => getF t (F.MBX_REQ_DATA r.i) / 256 ^ k % 256
    (on → plain a (fun _ => w)) ∧
    (on → plain (a + 0x4000) (fun x => x ^^^ w)) ∧
    (on → plain (a + 0x8000) (fun x => x ||| w)) ∧
    (on → plain (a + 0xC000) (fun x => x &&& (2 ^ 32 - 1 - w))) ∧
    (on → completes (.registerWrite m a 64 v) s (fun t => getF t F.CL_MTMO_TICKS = w ∧ t.mem = s.mem)) ∧
    (addrStalls s addr = true → completes write s (fun t =>
      t.store.stalled = s.store.stalled ++ [.registerWrite m addr size v] ∧ onlyIn [.store] [] s t)) ∧
    (word → regAt addr = some r → regPowered s r = true → ordinary r → completes write s (fun t =>
      regWritten s t r (viewAt addr) w ∧ answered m 0 s t ∧ onlyChanges [.emitted] ((fieldsOf r).map (·.1)) s t)) ∧
    (word → regAt addr = some r → regPowered s r = true → rule = (u, none) → completes write s (fun t => t = emit u (.response m 0))) ∧
    (word → regAt addr = some r → regPowered s r = true → rule = (s, some e) → no e.code) ∧
    (word → regAt addr = some r → regPowered s r = false → no 14) ∧
    (word → regAt addr = none → no 6) ∧
    (goes → n = 4 ∨ n = 8 ∨ part → addr % 4 = 0 → closed addr → n ≠ 8 ∨ closed (addr + 4) → no 1) ∧
    (double → regAt addr = some r → regAt (addr + 4) = some r2 → regPowered s r = true → regPowered s r2 = true → ordinary r → ordinary r2 → completes write s (fun t =>
      regWritten s t r (viewAt addr) w ∧ regWritten s t r2 (viewAt (addr + 4)) (v / 2 ^ 32 % 2 ^ 32) ∧ answered m 0 s t ∧
      onlyChanges [.emitted] ((fieldsOf r ++ fieldsOf r2).map (·.1)) s t)) ∧
    (double → regAt addr = some r → regAt (addr + 4) = none → regPowered s r = true → ordinary r → r.name ∉ errorRegs → completes write s (fun t =>
      regWritten s t r (viewAt addr) w ∧ errorAnswered m 6 s t ∧ onlyIn [.emitted] (r.name :: errorRegs) s t)) ∧
    (double → regAt addr = none → regAt (addr + 4) = none → no 6) ∧
    (goes → n = 2 → addr % 2 ≠ 0 → no 5) ∧
    (goes → n = 4 ∨ n = 8 → addr % 4 ≠ 0 → no 5) ∧
    (goes → 3 ≤ n → n < 8 → addr % 4 ≠ 0 → 4 < addr % 4 + n → no 5) ∧
    (goes → 8 < n → no 6) ∧
    (buffer 1 → completes write s (fun t => byte t (addr % 4) = v % 256 ∧ (∀ k : Fin 4, k.val ≠ addr % 4 → byte t k = byte s k) ∧
      answered m 0 s t ∧ onlyChanges [.emitted] [F.MBX_REQ_DATA r.i] s t)) ∧
    (buffer 2 → completes write s (fun t => byte t (addr % 4) = v % 256 ∧ byte t (addr % 4 + 1) = v / 256 % 256 ∧
      (∀ k : Fin 4, k.val ≠ addr % 4 → k.val ≠ addr % 4 + 1 → byte t k = byte s k) ∧
      answered m 0 s t ∧ onlyChanges [.emitted] [F.MBX_REQ_DATA r.i] s t)) ∧
    (goes → part → ¬ closed addr → regAt (addr - addr % 4) = none → no 6) ∧
    (goes → part → ¬ closed addr → regAt (addr - addr % 4) = some r → r.name ≠ .MBX_REQ ∨ viewAt addr ≠ .normal ∨ n ≠ 1 ∧ n ≠ 2 → no 4)

/-- A window write stores exactly its bytes where the memory's own rules allow it; a misaligned one, one outside the memories, one into a memory that is
off or in use, or into a capture memory stores nothing and is answered with its code; all wait while their region is down (R25, R104, R112, R201,
R226, R271, R314, R358 to R360, R372). Its reading of what the rules leave open is the model's (log entries 61, 94). -/
def Obligations.WindowAccess : Prop :=
  ∀ (s : State) (m : Master) (addr v j size : Nat),
    let c := Instr.windowWrite m addr 32 v
    let fits := addr % 4 = 0 ∧ windowStalls s addr = false
    let free := windowReject s addr = none
    let k := windowKey s addr
    let no := fun (code : Nat) (regs : List RegName) => completes c s (fun t => errorAnswered m code s t ∧ onlyIn [.post, .emitted] (regs ++ errorRegs) s t)
    let goes := windowStalls s addr = false
    let a0 := addr - addr % 4
    let live := windowOff s addr = false
    let q := addr / 0x400000
    let w := addr % 0x400000 / 4
    let p := addr / 0x100000 % 16
    let b := addr / 0x80000 % 16
    (fits → free → completes c s (fun t => memWord t k = v % 2 ^ 32 ∧ bytesKeptBut k 4 s t ∧ answered m 0 s t ∧
      onlyIn [.mem, .store, .emitted] [.SEC_STAT] s t)) ∧
    (windowStalls s addr = true → completes (.windowWrite m addr size v) s (fun t =>
      t.store.stalled = s.store.stalled ++ [.windowWrite m addr size v] ∧ onlyIn [.store] [] s t)) ∧
    (goes → windowReject s a0 = none → wordBad s (windowKey s a0) = false → completes (.windowWrite m addr 8 v) s (fun t =>
      (memByte t (windowKey s a0 + addr % 4)).toNat = v % 256 ∧ bytesKeptBut (windowKey s a0 + addr % 4) 1 s t ∧
      answered m 0 s t ∧ onlyIn [.mem, .store, .emitted] [.SEC_STAT] s t)) ∧
    (goes → addr % 2 = 0 → windowReject s a0 = none → wordBad s (windowKey s a0) = false → completes (.windowWrite m addr 16 v) s (fun t =>
      (memByte t (windowKey s a0 + addr % 4)).toNat = v % 256 ∧ (memByte t (windowKey s a0 + addr % 4 + 1)).toNat = v / 256 % 256 ∧
      bytesKeptBut (windowKey s a0 + addr % 4) 2 s t ∧ answered m 0 s t ∧ onlyIn [.mem, .store, .emitted] [.SEC_STAT] s t)) ∧
    (fits → 1 ≤ j → (∀ i < j, windowReject s (addr + 4 * i) = none) → completes (.windowWrite m addr (32 * j) v) s (fun t =>
      (∀ i < j, memWord t (windowKey s (addr + 4 * i)) = v / 2 ^ (32 * i) % 2 ^ 32) ∧ answered m 0 s t ∧
      onlyIn [.mem, .store, .emitted] [.SEC_STAT] s t)) ∧
    (fits → free → wordBad s k = true → completes (.windowWrite m addr 8 v) s (fun t => errorAnswered m 7 s t ∧
      onlyIn [.post, .emitted] ([.MEM_ECC_LATCH, .MEM_ECC_CNT, .MEM_UE_ADDR, .CHIP_FAULT_LATCH] ++ errorRegs) s t)) ∧
    (fits → free → windowReject s (addr + 4) = none → addr + 8 ≤ 0x4000000 → completes (.windowWrite m addr 64 v) s (fun t =>
      memWord t addr = v % 2 ^ 32 ∧ memWord t (addr + 4) = v / 2 ^ 32 % 2 ^ 32 ∧ bytesKeptBut addr 8 s t ∧ answered m 0 s t)) ∧
    (fits → free → addr + 8 ≤ 0x4000000 → windowReject s (addr + 4) = some (.segBusy, incF s (F.SEQ_CNT_SEG_SEGCONF ((addr + 4) / 0x400000))) →
      vatActive s ((addr + 4) / 0x400000) ((addr + 4) % 0x400000 / 4) = true → completes (.windowWrite m addr 64 v) s (fun t =>
        memWord t addr = v % 2 ^ 32 ∧ bytesKeptBut addr 4 s t)) ∧
    (goes → addr % 4 ≠ 0 → no 5 []) ∧
    (goes → addr % 2 ≠ 0 → completes (.windowWrite m addr 16 v) s (fun t => errorAnswered m 5 s t ∧ onlyIn [.emitted] errorRegs s t)) ∧
    (fits → windowOff s addr = true → no 14 []) ∧
    (fits → live → windowExists s addr = false → no 6 []) ∧
    (fits → live → addr < 0x4000000 → vatActive s q w = true ∨ inRing s q w = true → no 2 [.SEQ_CNT_SEG]) ∧
    (fits → live → 0x4000000 ≤ addr → addr < 0x5000000 → programActive s p (addr % 0x100000 / 8) = true → no 3 []) ∧
    (fits → live → 0x5000000 ≤ addr → addr < 0x6000000 → windowExists s addr = true → weightActive s p (addr % 0x100000 / 4) = true →
      no 2 [.HB_CNT_B, .HB_LATCH]) ∧
    (fits → live → 0x6000000 ≤ addr → addr < 0x6800000 → addr % 0x80000 < 0x10000 → engineActive s b (addr % 0x80000 / 8) = true → no 3 []) ∧
    (fits → live → 0x6800000 ≤ addr → addr < 0x8800000 → no 1 []) ∧
    (fits → live → 0x8800000 ≤ addr → addr < 0x9000000 → tableLocked s addr = true → no 2 [.SE_CNT_C])

/-- Corrected words are counted and the scrubber passes over the memories; LPDDR6 trains at the rate reached or stays out of service, recalibrates and
refreshes; Ream stores run one at a time and are valid once complete (R39, R355 to R357, R363, R367 to R369); DMA channels copy between host and
windows, and the mailbox carries one request at a time (R376, R378 to R380, R391). Where the statement says that an event which is not due changes
nothing, that is the model's choice (log entry 2). Its reading of what the rules leave open is the model's (log entries 60, 61, 62, 67, 99). -/
def Obligations.MemoryAndTransfers : Prop :=
  ∀ (s : State) (m : Master) (cls : Fin 7) (addr : Nat) (found : List ScrubFind) (cap : Fin 65) (rate : Fin 10668) (failed : Fin 16) (ch : Fin 4) (bank : Fin 16)
    (c : StoreCmd) (rest : List StoreCmd) (d : Fin 4) (dir : Bool) (data : List Nat) (width speed : Fin 16) (len : Fin 8192) (at_ : Nat) (r : FeltRsp)
    (k : Nat × Nat),
    let plus1 := fun (f : Fld) (t : State) => getF t f = (getF s f + 1) % 2 ^ f.width
    let ready := flagF s F.MEM_DDR_STAT_READY = true
    let bankOff := fun (b : Option Nat) (n : Nat) (t : State) => s.now ≤ ((t.store.suspended.getLast?.map (·.2.2)).getD 0) ∧
      (t.store.suspended.getLast?.map (·.2.2)).getD 0 ≤ s.now + n ∧ (t.store.suspended.getLast?.map (fun x => (x.1, x.2.1))) = some (ch.val, b)
    let seq := ((recordOf s c.item).map (·.seq)).getD 0
    let ctl : Reg := ⟨.DMA_CTRL, d, 0, 0⟩
    let dev := getF s (F.DMA_DEV_VALUE d)
    let one := flagF s (F.DMA_STAT_BUSY d) = false ∧ getF s (F.DMA_HOST_LO_VALUE d) % 4 = 0 ∧ dev % 4 = 0 ∧ getF s (F.DMA_LEN_VALUE d) = 4
    let start := Instr.dmaStart m d dir data
    let goes := dmaStalls s d = false
    let mbx : Reg := ⟨.MBX_CTRL, 0, 0, 0⟩
    let busy := flagF s F.MBX_STAT_BUSY = true
    let bytes := rspBytes s k.1 k.2 r
    completes (.eccWriteback cls addr) s (fun t => plus1 (F.MEM_ECC_CNT_CE cls) t ∧ t.store.writeback = s.store.writeback.erase (cls.val, addr) ∧
      onlyIn [.store] [.MEM_ECC_CNT] s t) ∧
    (getF s F.MEM_SCRUB_PERIOD ≠ 0 → (∀ f ∈ found, f.ue = false ∧ f.addr < 0x9000000) → completes (.scrubPass found []) s (fun t =>
      plus1 F.MEM_SCRUB_PASSES t ∧ t.store.writeback = s.store.writeback ++ found.map (fun f => (memClass (f.addr / 8 * 8), f.addr / 8 * 8)) ∧
      onlyIn [.store] [.MEM_SCRUB] s t)) ∧
    (getF s F.MEM_SCRUB_PERIOD = 0 → completes (.scrubPass found []) s (fun t => t = s)) ∧
    (domainOn s 132 = false → completes (.lpddr6Training cap rate failed) s (fun t => t = s)) ∧
    (domainOn s 132 = true → failed.val = 0 → completes (.lpddr6Training cap rate failed) s (fun t => flagF t F.MEM_DDR_STAT_READY = true ∧
      getF t F.MEM_DDR_STAT_RATE = rate.val ∧ getF t F.MEM_DDR_STAT_CAP = cap.val ∧ t.deckle.vddq = true ∧ onlyIn [.deckle] [.MEM_DDR_STAT, .DK_WIN_CFG] s t)) ∧
    (domainOn s 132 = true → failed.val ≠ 0 → completes (.lpddr6Training cap rate failed) s (fun t => flagF t F.MEM_DDR_STAT_READY = false ∧
      getF t F.MEM_DDR_STAT_TRAIN = failed.val ∧ plus1 F.MEM_DDR_CNT_TRAIN_FAIL t ∧ onlyIn [] [.MEM_DDR_STAT, .MEM_DDR_CNT] s t)) ∧
    (ready → (∀ b ∈ tget s.store.recalAt none ch.val, b + 500000 ≤ s.now) → completes (.lpddr6Recal ch) s (fun t => plus1 F.MEM_DDR_CNT_RECAL t ∧ bankOff none 250 t ∧
      onlyIn [.free, .store] [.MEM_DDR_CNT] s t)) ∧
    (ready → tget s.store.recalAt none ch.val = some at_ → s.now < at_ + 500000 → completes (.lpddr6Recal ch) s (fun t => t = s)) ∧
    (¬ ready → completes (.lpddr6Recal ch) s (fun t => t = s) ∧ completes (.lpddr6Refresh ch bank) s (fun t => t = s)) ∧
    (ready → completes (.lpddr6Refresh ch bank) s (fun t => bankOff (some bank.val) 150 t ∧ onlyIn [.free, .store] [] s t)) ∧
    (s.store.running = none → s.store.stores = c :: rest → flagF s F.PWR_STAT_CORE_WARN = false → completes .reamStoreStart s (fun t =>
      t.store.running = some c ∧ t.store.stores = rest ∧ recordOf t c.item = some ⟨false, seq, .empty⟩ ∧ flagF t F.REAM_STAT_BUSY = true ∧
      onlyIn [.store] [.REAM_STAT] s t)) ∧
    (s.store.running.isSome = true ∨ s.store.stores = [] ∨ flagF s F.PWR_STAT_CORE_WARN = true → completes .reamStoreStart s (fun t => t = s)) ∧
    (s.store.running = some c → completes .reamStoreComplete s (fun t => recordOf t c.item = some ⟨true, (seq + 1) % 2 ^ 32, c.content⟩ ∧
      t.store.running = none ∧ flagF t F.REAM_STAT_BUSY = false ∧ plus1 F.REAM_CNT_STORES t ∧ t.post.fired = s.post.fired ++ [552] ∧
      onlyIn [.store, .post] [.REAM_STAT, .REAM_CNT] s t)) ∧
    (s.store.running = none → completes .reamStoreComplete s (fun t => t = s)) ∧
    completes .nocArbApply s (fun t => t.store.arb = arbWritten s ∧ t.store.arbWaits = false ∧ onlyIn [.store] [] s t) ∧
    (dmaStalls s d = true → completes start s (fun t => t.store.stalled = s.store.stalled ++ [.dmaStart m d dir data] ∧ onlyIn [.store] [] s t)) ∧
    (goes → flagF s (F.DMA_STAT_BUSY d) = true ∨ dmaOk s d = false → refused m ctl start s) ∧
    (goes → one → dir = true → windowReadErr s dev = none → regPowered s ctl = true → completes start s (fun t =>
      t.emitted = s.emitted ++ [.hostWrite d (getF s (F.DMA_HOST_LO_VALUE d) + 2 ^ 32 * getF s (F.DMA_HOST_HI_VALUE d)) [memWord s (windowKey s dev)],
        .response m 0] ∧ flagF t (F.DMA_STAT_BUSY d) = true ∧ tget t.host.dma 0 d.val = 0 ∧ t.mem = s.mem)) ∧
    (goes → one → dir = false → windowReject s dev = none → m ≠ .dma → accepted m ctl start s (fun t => memWord t (windowKey s dev) = data.getD 0 0 % 2 ^ 32 ∧
      bytesKeptBut (windowKey s dev) 4 s t ∧ flagF t (F.DMA_STAT_BUSY d) = true ∧ tget t.host.dma 0 d.val = 0)) ∧
    (flagF s (F.DMA_STAT_BUSY d) = true → tget s.host.dma 0 d.val = 0 → completes (.dmaDone d) s (fun t => flagF t (F.DMA_STAT_DONE d) = true ∧
      flagF t (F.DMA_STAT_BUSY d) = false ∧ getF t (F.DMA_STAT_CODE d) = 0 ∧ onlyIn [.emitted] [.DMA_STAT, .MSIX_PBA] s t)) ∧
    (flagF s (F.DMA_STAT_BUSY d) = true → tget s.host.dma 0 d.val ≠ 0 → completes (.dmaDone d) s (fun t => flagF t (F.DMA_STAT_ERR d) = true ∧
      flagF t (F.DMA_STAT_BUSY d) = false ∧ getF t (F.DMA_STAT_CODE d) = tget s.host.dma 0 d.val % 256 ∧ onlyIn [.emitted] [.DMA_STAT, .MSIX_PBA] s t)) ∧
    (flagF s (F.DMA_STAT_BUSY d) = false → completes (.dmaDone d) s (fun t => t = s)) ∧
    (domainOn s 142 = false ∨ pcieOk width speed = false → completes (.pcieLinkChange width speed) s (fun t => t = s)) ∧
    (domainOn s 142 = true → pcieOk width speed = true → completes (.pcieLinkChange width speed) s (fun t => getF t F.PCI_LINK_WIDTH = width.val ∧
      getF t F.PCI_LINK_SPEED = speed.val ∧ onlyIn [] [.PCI_LINK] s t)) ∧
    (busy ∨ len.val < 16 ∨ 4096 < len.val → refused m mbx (.mailboxGo m len) s) ∧
    (¬ busy → 16 ≤ len.val → len.val ≤ 4096 → accepted m mbx (.mailboxGo m len) s (fun t => flagF t F.MBX_STAT_BUSY = true ∧
      flagF t F.MBX_STAT_RSP_VALID = false ∧ getF t F.MBX_CTRL_LEN = len.val ∧ onlyIn [.host, .emitted] [.MBX_CTRL, .MBX_STAT] s t)) ∧
    (busy → s.host.mbx = some (k.1, k.2, r) → completes .mailboxResponse s (fun t => flagF t F.MBX_STAT_RSP_VALID = true ∧
      flagF t F.MBX_STAT_BUSY = false ∧ getF t F.MBX_STAT_RSP_LEN = bytes.length % 2 ^ F.MBX_STAT_RSP_LEN.width ∧ t.host.mbx = none ∧
      onlyIn [.free, .host, .emitted] [.MBX_STAT, .MBX_RSP, .MSIX_PBA] s t)) ∧
    (¬ busy → completes .mailboxResponse s (fun t => t = s)) ∧
    (busy → s.host.mbx = none → completes .mailboxResponse s (fun t => flagF t F.MBX_STAT_BUSY = false ∧ onlyIn [] [.MBX_STAT] s t))

/-- Felt: a HELLO is answered with a challenge and an OPEN with its session or AUTH; a request of an open session, on its port or the mailbox,
authenticated and with a new SEQ, is served once and its response kept, a repeat gets it again, anything else is discarded and counted; READ and
WRITE reach the dictionary with its privileges, at once or staged, whole or in segments; without a session the mailbox is served at Operator
privilege where that is enabled; notifications repeat until acknowledged; an idle session closes (R384 to R397, R412). Where the statement says that
an event which is not due changes nothing, that is the model's choice (log entry 2). Its reading of what the rules leave open is the model's (log
entries 70, 71, 93). -/
def Obligations.FeltRequests : Prop :=
  ∀ (s u : State) (h : FeltHead) (x : Session) (seq key index sub off n change : Nat) (priv : Fin 4) (err : Err) (d : DEntry) (l : List Nat)
    (stage last : Bool) (val : List Nat) (mask : Nat) (w : Notify) (bit : Fin 32) (r : FeltRsp) (sigOk : Bool),
    let up := feltArrives s h
    let asks := feltAsks s h x
    let idle := fun (t : State) => onlyIn [.host, .emitted] [] s t
    let rest := fun (t : State) => feltRest s t
    let out := fun (t : State) (id k : Nat) (a : FeltRsp) => feltOut s t h.via id k a
    let attempt := sessionOf s (fun y => y.id == h.session && y.via == h.via) = some x
    let read := Instr.feltRead h index sub off n
    let write := Instr.feltWrite h stage last index sub off change val
    let v := val.map (· % 256)
    let text := d.ty = .str ∨ d.ty = .blob
    let entry := asks ∧ dictEntry index sub = some d
    let writes := entry ∧ d.acc ≠ .ro ∧ d.wp ≤ x.priv
    let got := tget s.host.partials [] (x.id, index, sub)
    let whole := writes ∧ ¬ text ∧ off = 0
    let staged := if s.host.changeId = change then s.host.staged else []
    let bytes := (staged.map (·.value.length)).sum + v.length
    let stages := whole ∧ stage = true ∧ valueErr d v = none ∧ d.stage = true ∧ s.chain.prepared = none
    let stored := fun (c : StoreCmd) (t : State) => t.store.stores = s.store.stores ++ [c] ∧ getF t F.REAM_STAT_QUEUED = (s.store.stores.length + 1) % 32
    let room := s.store.stores.length < 16
    let full := 16 ≤ s.store.stores.length
    let noted := x.notes.find? (fun y => y.seq == n)
    let mine := sessionOf s (fun y => y.isOpen && y.id == x.id) = some x
    let others : List Instr := [.feltSubscribe h mask, .feltKeepalive h, .feltClose h, .feltNotifyAck h n, .storeAll h, .restoreDefaults h, .discardStaged h]
    let all : List Instr := read :: write :: others
    (up → helloErr s h.via priv key = none → completes (.feltHello h.via seq priv key) s (fun t =>
      out t s.host.nextId seq ⟨0x81, 0, freeBytes s 32 ++ leBytes 4 s.host.nextId ++ leBytes 8 (ownUid s)⟩ ∧
      t.host.sessions = s.host.sessions.filter (holdsSlot s) ++ [⟨s.host.nextId, h.via, key, priv.val, false, s.now, none, s.now, 0, []⟩] ∧
      t.host.nextId = s.host.nextId + 1 ∧ onlyIn [.free, .host, .emitted] [] s t)) ∧
    (up → helloErr s h.via priv key = some err → completes (.feltHello h.via seq priv key) s (fun t =>
      out t 0 seq ⟨0x81, err.code, []⟩ ∧ t.host.sessions = s.host.sessions ∧ idle t)) ∧
    ((∀ k ∈ s.sec.keys, k.id ≠ key) → helloErr s h.via priv key = some .auth) ∧
    (up → attempt → x.isOpen = false → openOk s x true = true → completes (.feltOpen h.via h.session seq true) s (fun t =>
      out t h.session seq ⟨0x82, 0, x.priv :: freeBytes s 512⟩ ∧
      (sessionOf t (fun y => y.isOpen && y.id == h.session)).isSome = true ∧ onlyIn [.free, .host, .emitted] [] s t)) ∧
    (up → attempt → x.isOpen = false → openOk s x sigOk = false → completes (.feltOpen h.via h.session seq sigOk) s (fun t =>
      out t h.session seq ⟨0x82, 12, []⟩ ∧ sessionOf t (fun y => y.id == h.session) = none ∧ idle t)) ∧
    (up → attempt → x.isOpen = true → x.last = some (seq, some r) → completes (.feltOpen h.via h.session seq sigOk) s (fun t =>
      out t h.session seq r ∧ rest t ∧ t.host.sessions = s.host.sessions ∧ idle t)) ∧
    (up → sessionOf s (fun y => y.id == h.session && y.via == h.via) = none → completes (.feltOpen h.via h.session seq sigOk) s (fun t =>
      out t h.session seq ⟨0x82, 12, []⟩ ∧ t.host.sessions = s.host.sessions ∧ idle t)) ∧
    (entry → d.rp ≤ x.priv → text ∨ off = 0 → dictRead s index sub d = .ok l → completes read s (fun t =>
      feltDone s t h x 0x90 0 (leBytes 4 l.length ++ (l.drop off).take (min n 1396)) ∧ rest t ∧ idle t)) ∧
    (entry → d.rp ≤ x.priv → text ∨ off = 0 → dictRead s index sub d = .error err → feltRefused read s h x 0x90 err.code) ∧
    (entry → d.rp ≤ x.priv → ¬ text → off ≠ 0 → feltRefused read s h x 0x90 11) ∧
    (asks → dictEntry index sub = none → feltRefused read s h x 0x90 6) ∧
    (entry → x.priv < d.rp → feltRefused read s h x 0x90 8) ∧
    (asks → dictEntry index sub = none → feltRefused write s h x 0x91 6) ∧
    (entry → d.acc = .ro → feltRefused write s h x 0x91 13) ∧
    (entry → d.acc ≠ .ro → x.priv < d.wp → feltRefused write s h x 0x91 8) ∧
    (writes → ¬ text → off ≠ 0 → feltRefused write s h x 0x91 11) ∧
    (whole → valueErr d v = some err → feltRefused write s h x 0x91 err.code) ∧
    (whole → valueErr d v = none → stage = false → dictApply s index sub v = (u, none) → completes write s (fun t =>
      feltDone u t h x 0x91 0 [] ∧ onlyIn [.host, .emitted] [] u t ∧ feltRest u t)) ∧
    (whole → valueErr d v = none → stage = false → dictApply s index sub v = (s, some err) → feltRefused write s h x 0x91 err.code) ∧
    (stages → staged.length < 4096 → bytes ≤ 262144 → completes write s (fun t =>
      feltDone s t h x 0x91 0 [] ∧ t.host.staged = staged ++ [⟨x.id, index, sub, v⟩] ∧ t.host.changeId = change ∧ idle t)) ∧
    (stages → 4096 ≤ staged.length ∨ 262144 < bytes → completes write s (fun t =>
      feltDone s t h x 0x91 Err.stageFull.code [] ∧ t.host.staged = staged ∧ idle t)) ∧
    (whole → stage = true → valueErr d v = none → d.stage = true → s.chain.prepared.isSome = true → feltRefused write s h x 0x91 10) ∧
    (whole → stage = true → valueErr d v = none → d.stage = false → feltRefused write s h x 0x91 1) ∧
    (writes → text → off ≠ got.length → completes write s (fun t =>
      feltDone s t h x 0x91 11 [] ∧ tget t.host.partials [] (x.id, index, sub) = [] ∧ idle t)) ∧
    (writes → text → off = got.length → last = false → completes write s (fun t =>
      feltDone s t h x 0x91 0 [] ∧ tget t.host.partials [] (x.id, index, sub) = got ++ v ∧ idle t)) ∧
    (writes → text → off = got.length → last = true → stage = false → valueErr d (got ++ v) = none →
      dictApply (setPartial s x.id index sub []) index sub (got ++ v) = (u, none) → completes write s (fun t =>
        feltDone u t h x 0x91 0 [] ∧ onlyIn [.host, .emitted] [] u t ∧ feltRest u t)) ∧
    (asks → h.via ≠ .mailbox → completes (.feltSubscribe h mask) s (fun t => feltSent s t h x 0x92 0 [] ∧
      feltKept s t h x (some ⟨0x92, 0, []⟩) (fun y => { y with subs := mask % 2 ^ 32 }) ∧ rest t ∧ idle t)) ∧
    (asks → h.via = .mailbox → feltRefused (.feltSubscribe h mask) s h x 0x92 1) ∧
    (asks → completes (.feltKeepalive h) s (fun t => feltDone s t h x 0x96 0 [] ∧ rest t ∧ idle t)) ∧
    (asks → completes (.feltClose h) s (fun t => feltSent s t h x 0x97 0 [] ∧ sessionOf t (fun y => y.id == x.id) = none ∧
      t.host.staged = s.host.staged.filter (fun y => y.session != x.id) ∧ idle t)) ∧
    (asks → noted = none ∨ (noted.map (·.more)) = some 0 → mine → completes (.feltNotifyAck h n) s (fun t => t.emitted = s.emitted ∧
      (sessionOf t (fun y => y.isOpen && y.id == x.id)).map (·.notes) = some (x.notes.filter (fun y => y.seq != n)) ∧ rest t ∧ onlyIn [.host] [] s t)) ∧
    (asks → noted = some w → w.more ≠ 0 → mine → completes (.feltNotifyAck h n) s (fun t =>
      t.emitted = s.emitted ++ [.notify x.id s.host.nextSeq w.n w.more w.moreTime] ∧ t.host.nextSeq = s.host.nextSeq + 1 ∧ idle t)) ∧
    (feltUp s = true → sessionOf s (fun y => y.isOpen && y.id == n) = some x → x.notes.find? (fun y => y.n == bit.val && decide (y.sent + 50000000 ≤ s.now)) = some w →
      completes (.feltNotifyResend n bit) s (fun t => t.emitted = s.emitted ++ [.notify n w.seq bit w.count w.time] ∧ rest t ∧ idle t)) ∧
    (feltUp s = false ∨ sessionOf s (fun y => y.isOpen && y.id == n) = none ∨
      sessionOf s (fun y => y.isOpen && y.id == n) = some x ∧ x.notes.find? (fun y => y.n == bit.val && decide (y.sent + 50000000 ≤ s.now)) = none →
      completes (.feltNotifyResend n bit) s (fun t => t = s)) ∧
    (feltUp s = true → completes (.sessionIdleTimeout n) s (fun t => (x ∈ t.host.sessions ↔ x ∈ s.host.sessions ∧
      ¬ (x.isOpen = true ∧ x.id = n ∧ x.heard + idleTicks s ≤ s.now)) ∧ onlyIn [.host] [] s t)) ∧
    (feltUp s = false → completes (.sessionIdleTimeout n) s (fun t => t = s)) ∧
    (asks → 2 ≤ x.priv → room → completes (.storeAll h) s (fun t => feltDone s t h x 0x91 0 [] ∧
      stored ⟨.values, .values (rwsEntries.map (fun y => (y, rwsValue s y)))⟩ t ∧ rest t ∧ onlyIn [.store, .host, .emitted] [.REAM_STAT] s t)) ∧
    (asks → 2 ≤ x.priv → room → completes (.restoreDefaults h) s (fun t => feltDone s t h x 0x91 0 [] ∧
      stored ⟨.values, .values []⟩ t ∧ rest t ∧ onlyIn [.store, .host, .emitted] [.REAM_STAT] s t)) ∧
    (asks → 2 ≤ x.priv → full → feltRefused (.restoreDefaults h) s h x 0x91 10 ∧ feltRefused (.storeAll h) s h x 0x91 10) ∧
    (asks → x.priv < 2 → feltRefused (.restoreDefaults h) s h x 0x91 8 ∧ feltRefused (.storeAll h) s h x 0x91 8) ∧
    (asks → 2 ≤ x.priv → completes (.discardStaged h) s (fun t => feltDone s t h x 0x91 0 [] ∧ t.host.staged = [] ∧ idle t)) ∧
    (up → h.session ≠ 0 → h.auth = true → feltSession s h = some x → x.last = some (h.seq, some r) → ∀ c ∈ all, completes c s (fun t =>
      out t x.id h.seq r ∧ t.host.sessions = s.host.sessions.map (fun y => if y.id = x.id then { y with heard := s.now } else y) ∧ rest t ∧ idle t)) ∧
    (up → h.session ≠ 0 → feltSession s h = none ∨ h.auth = false ∨ (∃ y ∈ feltSession s h, ∃ z ∈ y.last, h.seq < z.1) → ∀ c ∈ all, feltDropped c s) ∧
    (up → h.session = 0 → h.via ≠ .mailbox ∨ h.auth = false → ∀ c ∈ all, feltDropped c s) ∧
    (up → h.session = 0 → dictNat s 0x1110 3 0 ≠ 1 → ∀ c ∈ read :: others, feltDropped c s) ∧
    (up → h.session = 0 → dictNat s 0x1110 3 0 ≠ 1 → rootWrite s index sub = false → feltDropped write s) ∧
    (feltOperator s h → dictEntry index sub = some d → d.rp ≤ 1 → text ∨ off = 0 → dictRead s index sub d = .ok l → completes read s (fun t =>
      out t 0 h.seq ⟨0x90, 0, leBytes 4 l.length ++ (l.drop off).take (min n 1396)⟩ ∧ t.host.sessions = s.host.sessions ∧ rest t ∧ idle t)) ∧
    (feltOperator s h → dictEntry index sub = some d → d.acc ≠ .ro → d.wp ≤ 1 → ¬ text → off = 0 → valueErr d v = none → stage = false →
      dictApply s index sub v = (u, none) → completes write s (fun t => feltOut u t h.via 0 h.seq ⟨0x91, 0, []⟩ ∧ onlyIn [.host, .emitted] [] u t ∧
        t.host.sessions = u.host.sessions)) ∧
    (routeOpen s h.via = false → ∀ c ∈ all, completes c s (fun t => t = s)) ∧
    (routeOpen s h.via = true → feltUp s = false → recovering s = false ∨ h.via ≠ .mailbox → ∀ c ∈ all, completes c s (fun t => t = s)) ∧
    (routeOpen s h.via = true → feltUp s = false → recovering s = true → h.via = .mailbox → completes read s (fun t =>
      t = { s with host := { s.host with mbx := some (h.session, h.seq, ⟨0x90, 6, []⟩) } }) ∧ completes write s (fun t =>
      t = { s with host := { s.host with mbx := some (h.session, h.seq, ⟨0x91, 6, []⟩) } }))

/-- Security: a write of a security entry is answered by the rules of its entry, with its privilege and on any route, and every other message is
discarded and counted; the customer root is provisioned once, from the mailbox without a session too; certificates, images and tokens act only when
their signature verifies under the right root and their SVN is not below the fuse; removing a key closes its sessions; a quote is formed on a nonce;
debug tokens use a nonce once and a failure holds the next back for 1 s; boundary scan is accepted only while RESET_N is low and covers the digital
balls; zeroization destroys the keys for good (R391, R406 to R417, R476). Where the statement says that an event which is not due changes nothing,
that is the model's choice (log entry 2). Its reading of what the rules leave open is the model's (log entries 72, 74, 98, 99). -/
def Obligations.Security : Prop :=
  ∀ (s : State) (h : FeltHead) (x : Session) (modulus nonce : List Nat) (o : SignedObj) (id priv off n seq : Nat) (l : List Nat) (level : Fin 4)
    (uidOk : Bool) (r : FeltRsp) (op : ScanOp) (cells : List ScanCell),
    let up := feltArrives s h
    let asks := feltAsks s h x
    let trusted := asks ∧ 2 ≤ x.priv
    let knows := asks ∧ 1 ≤ x.priv
    let rest := fun (t : State) => feltRest s t
    let done := fun (t : State) => feltDone s t h x 0x91 0 []
    let code := fun (c : Instr) (v : Nat) => feltRefused c s h x 0x91 v
    let failed := fun (c : Instr) => completes c s (fun t => feltDone s t h x 0x91 12 [] ∧ rest t ∧
      getF t F.SEC_CNT_VERIFY_FAIL = (getF s F.SEC_CNT_VERIFY_FAIL + 1) % 2 ^ F.SEC_CNT_VERIFY_FAIL.width ∧ onlyIn [.host, .emitted] [.SEC_CNT] s t)
    let store := keysClosed s = false ∧ s.sec.zeroized = false
    let root : Root := if priv = 3 then .vendor else .customer
    let good := objVerifies root o = true ∧ (priv = 3 ∨ customerRoot s = true) ∧ 1 ≤ priv ∧ priv ≤ 3
    let others := s.sec.keys.filter (fun y => y.id != id)
    let provision := Instr.rootProvision h modulus
    let install := Instr.keyInstall h o id priv
    let remove := Instr.keyRemove h id
    let quote := Instr.quoteRequest h nonce
    let fetch := Instr.quoteRead h off n
    let rooted := fun (t : State) => t.sec = { s.sec with rootProv := true, rootHash := Config.sha512 modulus } ∧ flagF t F.SEC_STAT_ROOT_PROV = true
    let locked := fun (t : State) => t.sec = s.sec ∧ t.post.fired = s.post.fired ++ [551] ∧
      getF t F.BUS_CNT_LOCKVIO = (getF s F.BUS_CNT_LOCKVIO + 1) % 2 ^ F.BUS_CNT_LOCKVIO.width ∧
      onlyIn [.free, .post, .host, .emitted] [.BUS_CNT, .BUS_LOCK_ADDR] s t
    let gone := fun (y : Session) => y.key = id
    let content := quoteContent s (nonce.map (· % 256))
    let quoted := fun (t : State) => t.sec = { s.sec with quote := some (content ++ leBytes 512 (Config.quoteSig content)) }
    let image := objVerifies .vendor o = true ∧ s.sec.fuse ≤ o.svn
    let waits := s.store.stores.length < 16
    let writers : List Instr := [install, remove, .imageWrite h o, .imageConfirm h]
    let keyed := fetch :: quote :: writers
    let alive := debugUp s = true
    let token := Instr.debugToken (.token o) seq level uidOk
    let signed := tokenVerifies s o level = true
    let valid := signed ∧ s.sec.nonce = some seq ∧ uidOk = true
    let rom := routeOpen s .mailbox = true ∧ recovering s = true ∧ domainOn s 128 = true
    let ran := slotCode s.sec.preferred = getF s F.SEC_STAT_BOOT_SRC
    (asks → rootEmpty s = true → modulus.length = 512 → completes provision s (fun t => done t ∧ rooted t ∧ rest t ∧
      onlyIn [.sec, .host, .emitted] [.SEC_STAT] s t)) ∧
    (asks → rootEmpty s = true → modulus.length ≠ 512 → code provision 11) ∧
    (asks → rootEmpty s = false → completes provision s (fun t => feltDone s t h x 0x91 1 [] ∧ locked t ∧ rest t)) ∧
    (up → h.session = 0 → h.via = .mailbox → h.auth = true → rootEmpty s = true → modulus.length = 512 → completes provision s (fun t =>
      feltOut s t .mailbox 0 h.seq ⟨0x91, 0, []⟩ ∧ rooted t ∧ rest t ∧ onlyIn [.sec, .host, .emitted] [.SEC_STAT] s t)) ∧
    (up → h.session = 0 → h.via = .mailbox → h.auth = true → rootEmpty s = true → modulus.length ≠ 512 → completes provision s (fun t =>
      feltOut s t .mailbox 0 h.seq ⟨0x91, 11, []⟩ ∧ rest t ∧ onlyIn [.host, .emitted] [] s t)) ∧
    (feltOperator s h → rootEmpty s = false → completes provision s (fun t => feltOut s t .mailbox 0 h.seq ⟨0x91, 1, []⟩ ∧ locked t ∧ rest t)) ∧
    (trusted → store → good → others.length < 32 → completes install s (fun t => done t ∧
      t.sec = { s.sec with keys := others ++ [⟨id, priv⟩] } ∧ rest t ∧ onlyIn [.sec, .host, .emitted] [] s t)) ∧
    (trusted → store → good → 32 ≤ others.length → code install 10) ∧
    (trusted → store → ¬ good → failed install) ∧
    (trusted → ¬ store → code install 12) ∧
    (trusted → (∃ k ∈ s.sec.keys, k.id = id) → completes remove s (fun t => feltSent s t h x 0x91 0 [] ∧ t.sec = { s.sec with keys := others } ∧
      t.host.sessions = (s.host.sessions.filter (fun y => !decide (gone y))).map (fun y =>
        if y.id = x.id then { y with heard := s.now, last := some (h.seq, some ⟨0x91, 0, []⟩) } else y) ∧
      (∀ w ∈ t.host.staged, w ∈ s.host.staged ∧ ∀ y ∈ s.host.sessions, gone y → w.session ≠ y.id) ∧ onlyIn [.sec, .host, .emitted] [] s t)) ∧
    (trusted → (∀ k ∈ s.sec.keys, k.id ≠ id) → code remove 1) ∧
    (trusted → image → waits → completes (.imageWrite h o) s (fun t => done t ∧
      t.store.stores = s.store.stores ++ [⟨.image (inactiveSlot s), .image o.svn true⟩] ∧
      t.sec = { s.sec with preferred := inactiveSlot s, trial := true, count := 3 } ∧ rest t ∧ onlyIn [.sec, .store, .host, .emitted] [.REAM_STAT] s t)) ∧
    (trusted → image → ¬ waits → code (.imageWrite h o) 10) ∧
    (trusted → ¬ image → failed (.imageWrite h o)) ∧
    (trusted → completes (.imageConfirm h) s (fun t => done t ∧
      t.sec = { s.sec with trial := s.sec.trial && !decide ran, fuse := min 128 (max s.sec.fuse (getF s F.SEC_SVN_IMAGE)) } ∧
      getF t F.SEC_SVN_FUSE = t.sec.fuse ∧ flagF t F.SEC_STAT_TRIAL = (flagF s F.SEC_STAT_TRIAL && !decide ran) ∧ rest t ∧
      onlyIn [.sec, .host, .emitted] [.SEC_STAT, .SEC_SVN] s t)) ∧
    (asks → x.priv < 2 → ∀ c ∈ writers, code c 8) ∧
    (knows → store → nonce.length = 32 → completes quote s (fun t => done t ∧ quoted t ∧ rest t ∧ onlyIn [.free, .sec, .host, .emitted] [] s t)) ∧
    (knows → store → nonce.length ≠ 32 → code quote 11) ∧
    (knows → ¬ store → code quote 12) ∧
    (asks → x.priv < 1 → code quote 8 ∧ feltRefused fetch s h x 0x90 8) ∧
    (knows → s.sec.quote = some l → completes fetch s (fun t => feltDone s t h x 0x90 0 (readBody l off n) ∧ rest t ∧
      onlyIn [.host, .emitted] [] s t)) ∧
    (knows → s.sec.quote = none → feltRefused fetch s h x 0x90 6) ∧
    (feltOperator s h → store → nonce.length = 32 → completes quote s (fun t => feltOut s t .mailbox 0 h.seq ⟨0x91, 0, []⟩ ∧ quoted t ∧ rest t ∧
      onlyIn [.free, .sec, .host, .emitted] [] s t)) ∧
    (feltOperator s h → s.sec.quote = some l → completes fetch s (fun t => feltOut s t .mailbox 0 h.seq ⟨0x90, 0, readBody l off n⟩ ∧ rest t ∧
      onlyIn [.host, .emitted] [] s t)) ∧
    (feltOperator s h → ∀ c ∈ writers, completes c s (fun t => feltOut s t .mailbox 0 h.seq ⟨0x91, 8, []⟩ ∧ rest t ∧ onlyIn [.host, .emitted] [] s t)) ∧
    (up → h.session ≠ 0 → h.auth = true → feltSession s h = some x → x.last = some (h.seq, some r) → ∀ c ∈ provision :: keyed, completes c s (fun t =>
      feltOut s t h.via x.id h.seq r ∧ t.host.sessions = s.host.sessions.map (fun y => if y.id = x.id then { y with heard := s.now } else y) ∧ rest t ∧
      onlyIn [.host, .emitted] [] s t)) ∧
    (up → h.session ≠ 0 → feltSession s h = none ∨ h.auth = false ∨ (∃ y ∈ feltSession s h, ∃ z ∈ y.last, h.seq < z.1) →
      ∀ c ∈ provision :: keyed, feltDropped c s) ∧
    (up → h.session = 0 → h.via ≠ .mailbox ∨ h.auth = false → ∀ c ∈ provision :: keyed, feltDropped c s) ∧
    (up → h.session = 0 → dictNat s 0x1110 3 0 ≠ 1 → ∀ c ∈ keyed, feltDropped c s) ∧
    (up → h.session = 0 → dictNat s 0x1110 3 0 ≠ 1 → rootEmpty s = false → feltDropped provision s) ∧
    (alive → s.sec.lockUntil ≤ s.now → completes .debugNonceRequest s (fun t => t.sec = { s.sec with nonce := some (Config.freeNat s.free) } ∧
      t.emitted = s.emitted ++ [.debugNonce (Config.freeNat s.free)] ∧ onlyIn [.free, .sec, .emitted] [] s t)) ∧
    (¬ alive ∨ s.now < s.sec.lockUntil → completes .debugNonceRequest s (fun t => t = s)) ∧
    (s.power.inReset = true → completes (.debugToken (.scan op cells) seq level uidOk) s (fun t =>
      t.sec = { s.sec with scan := some (op, (cells.filter (fun c => decide (c.kind = .digital))).map (fun c => (c.ball, c.level))) } ∧ onlyIn [.sec] [] s t)) ∧
    (s.power.inReset = false → completes (.debugToken (.scan op cells) seq level uidOk) s (fun t => t = s)) ∧
    (alive → valid → completes token s (fun t => t.sec = { s.sec with nonce := none } ∧ getF t F.SEC_STAT_DBG_LEVEL = max level.val (getF s F.SEC_STAT_DBG_LEVEL) % 4 ∧
      keysClosed t = (keysClosed s || decide (level = 2)) ∧ onlyIn [.sec] [.SEC_STAT] s t)) ∧
    (alive → ¬ valid → completes token s (fun t => t.sec = { s.sec with nonce := none, lockUntil := s.now + 500000000 } ∧
      getF t F.SEC_CNT_DBG_FAIL = (getF s F.SEC_CNT_DBG_FAIL + 1) % 2 ^ F.SEC_CNT_DBG_FAIL.width ∧
      getF t F.SEC_CNT_VERIFY_FAIL = (getF s F.SEC_CNT_VERIFY_FAIL + (if signed then 0 else 1)) % 2 ^ F.SEC_CNT_VERIFY_FAIL.width ∧
      onlyIn [.sec] [.SEC_CNT] s t)) ∧
    (¬ alive → completes token s (fun t => t = s)) ∧
    (rom → image → completes (.recoveryImage seq o) s (fun t => imageAt t .a = some (o.svn, true) ∧ t.sec.preferred = .a ∧ t.sec.trial = false ∧
      t.power.booting = true ∧ t.mem = [] ∧ t.host = State.reset.host ∧ t.seq = State.reset.seq ∧ t.out = State.reset.out ∧ t.pending = s.pending ∧
      t.emitted = s.emitted)) ∧
    (rom → ¬ image → completes (.recoveryImage seq o) s (fun t => t.host = { s.host with mbx := some (0, seq, ⟨0xB0, 12, []⟩) } ∧ t.sec = s.sec ∧
      getF t F.SEC_CNT_VERIFY_FAIL = (getF s F.SEC_CNT_VERIFY_FAIL + 1) % 2 ^ F.SEC_CNT_VERIFY_FAIL.width ∧ onlyIn [.host] [.SEC_CNT] s t)) ∧
    (¬ rom → completes (.recoveryImage seq o) s (fun t => t = s)) ∧
    (s.power.loftOn = true → completes .zeroize s (fun t => isReset s t ∧ t.sec.zeroized = true ∧ t.sec.erased = true ∧ t.sec.keys = [] ∧
      t.sec.rootRevoked = true ∧ flagF t F.SEC_STAT_ZEROIZED = true ∧ getF t F.PWR_RST_CAUSE_CAUSE = 16)) ∧
    (s.power.loftOn = false → completes .zeroize s (fun t => t = s))

/-- The PMBus master brings converters up and down one entry at a time: UP clears an entry's faults, reads its VOUT_COMMAND and writes OPERATION, three
readings in its window and its delay passed lead to the next entry, a failed transaction or the timeout of an entry going up fails the sequence and
turns it down, monitoring latches a fault and acts on it, an alert polls every enabled entry (R401 to R404). Where the statement says that an event
which is not due changes nothing, that is the model's choice (log entry 2). Its reading of what the rules leave open is the model's (log entries 68,
99). -/
def Obligations.PowerConverters : Prop :=
  ∀ (s : State) (m : Master) (e : Nat) (x : PmbSeq) (c v : Nat) (cmd vout : PmbRead) (n : Fin 16) (st i : Nat) (temp : Int) (tick : Nat) (low : Bool)
    (rounds : List PmbStatus) (words : List (Fin 16 × PmbRead)),
    let reg : Reg := ⟨.PMB_CMD, 0, 0, 0⟩
    let up := regPowered s reg = true ∧ accessStalls s reg = false
    let on := pmbOn s = true
    let addr := fun (k : Nat) => getF s (F.PMB_ENT_A_ADDR k)
    let page := fun (k : Nat) => getF s (F.PMB_ENT_A_PAGE k)
    let first := fun (up : Bool) (k : Nat) => if up then Emitted.clearFaults (addr k) (page k) else .operation (addr k) (page k) 0
    let begins := fun (up : Bool) (t : State) => t.host.pmb = some ⟨up, e, s.now, false, 0, none⟩ ∧ flagF t F.PMB_STAT_BUSY = true
    let ends := fun (t : State) => t.host.pmb = none ∧ flagF t F.PMB_STAT_BUSY = false
    let seq := s.host.pmb = some x ∧ x.delay = none ∧ x.entry < 16
    let still := fun (t : State) => { t.host with pmb := s.host.pmb, vcmd := s.host.vcmd } = s.host
    let rest := fun (t : State) => still t ∧ onlyIn [.host] [.PMB_STAT, .PMB_ENT_STAT] s t
    let read := fun (t : State) => getF t (F.PMB_ENT_STAT_VOUT x.entry) = v % 2 ^ 16
    let poll := Instr.pmbPoll (.value c) (.value v)
    let arrived := fun (t : State) => bitF t F.PMB_STAT_UP x.entry = x.up ∧ t.host.pmb.bind (·.delay) = some (s.now + 500 * getF s (F.PMB_ENT_B_DELAY x.entry))
    let known := { s with host := { s.host with vcmd := tset s.host.vcmd x.entry c } }
    let more := if pmbInWindow known x.entry v = true then x.good + 1 else 0
    let switchedOn := fun (t : State) => t.emitted = s.emitted ++ [.operation (addr x.entry) (page x.entry) 0x80]
    let fails := fun (t : State) => bitF t F.PMB_LATCH_FAULT x.entry = true ∧ flagF t F.PMB_LATCH_SEQ_FAIL = true ∧ still t ∧
      (t.host.pmb = none ∨ t.host.pmb.map (·.up) = some false) ∧ onlyIn [.host, .emitted] [.PMB_STAT, .PMB_LATCH, .MSIX_PBA] s t
    let late := x.since + 500000 * max 1 (getF s (F.PMB_ENT_B_TMO x.entry)) ≤ s.now ∨ s.time.started = false
    let waited := s.host.pmb = some x ∧ x.delay = some tick ∧ (tick ≤ s.now ∨ s.time.started = false)
    let due := s.host.round + 500000 * max 1 (getF s F.PMB_CFG_PERIOD) ≤ s.now ∨ s.time.started = false
    let round := Instr.pmbMonitorRound [⟨n, some (st, v, i, temp)⟩]
    let lost := Instr.pmbMonitorRound [⟨n, none⟩]
    let watched := on ∧ due ∧ pmbIsUp s n = true
    let wrong := pmbStatusBad st = true ∨ pmbInWindow s n v = false
    let shown := fun (t : State) => getF t (F.PMB_ENT_STAT_VOUT n) = v % 2 ^ 16 ∧ getF t (F.PMB_ENT_STAT_STATUS n) = st % 2 ^ 16 ∧
      getF t (F.PMB_ENT_MEAS_IOUT n) = i % 2 ^ (F.PMB_ENT_MEAS_IOUT n).width
    let fault := fun (t : State) => bitF t F.PMB_LATCH_FAULT n = true
    let act := getF s (F.PMB_ENT_A_ACTION n)
    let monRegs := [RegName.PMB_ENT_STAT, .PMB_ENT_MEAS, .PMB_LATCH, .MSIX_PBA]
    let inForce := flagF s F.CHIP_PERS_ACTIVE = true
    let falls := flagF s F.PMB_STAT_SALERT = false
    let alerted := fun (t : State) => flagF t F.PMB_STAT_SALERT = true ∧ flagF t F.PMB_LATCH_SALERT = true
    let one := fun (r : PmbRead) => Instr.pmbSalert true [(n, r)]
    let alertRegs := [RegName.PMB_STAT, .PMB_LATCH, .PMB_ENT_STAT, .MSIX_PBA]
    (up → on → pmbNext s true = some e → completes (.pmbUp m) s (fun t => begins true t ∧
      t.emitted = s.emitted ++ [first true e, .response m 0] ∧ still t ∧ onlyIn [.host, .emitted] [.PMB_STAT] s t)) ∧
    (up → on → pmbNext s false = some e → completes (.pmbDown m) s (fun t => begins false t ∧
      t.emitted = s.emitted ++ [first false e, .response m 0] ∧ still t ∧ onlyIn [.host, .emitted] [.PMB_STAT] s t)) ∧
    (on → pmbNext s true = none → accepted m reg (.pmbUp m) s (fun t => ends t ∧ still t ∧ onlyIn [.host, .emitted] [.PMB_STAT] s t)) ∧
    (on → pmbNext s false = none → accepted m reg (.pmbDown m) s (fun t => ends t ∧ still t ∧ onlyIn [.host, .emitted] [.PMB_STAT] s t)) ∧
    (¬ on → accepted m reg (.pmbUp m) s (fun t => onlyIn [.emitted] [] s t)) ∧
    (¬ on → accepted m reg (.pmbDown m) s (fun t => onlyIn [.emitted] [] s t)) ∧
    (seq → x.up = true → x.begun = false → more < 3 → completes poll s (fun t => switchedOn t ∧ read t ∧ t.host.vcmd = known.host.vcmd ∧
      t.host.pmb = some { x with begun := true, good := more } ∧ still t ∧ onlyIn [.host, .emitted] [.PMB_ENT_STAT] s t)) ∧
    (seq → x.up = true → x.begun = false → 3 ≤ more → completes poll s (fun t => switchedOn t ∧ read t ∧ arrived t ∧ still t ∧
      onlyIn [.host, .emitted] [.PMB_STAT, .PMB_ENT_STAT] s t)) ∧
    (seq → x.up = true → x.begun = false → completes (.pmbPoll .failed vout) s fails) ∧
    (seq → x.up = true → x.begun = false → completes (.pmbPoll (.value c) .failed) s (fun t => bitF t F.PMB_LATCH_FAULT x.entry = true ∧
      flagF t F.PMB_LATCH_SEQ_FAIL = true ∧ (t.host.pmb = none ∨ t.host.pmb.map (·.up) = some false) ∧
      onlyIn [.host, .emitted] [.PMB_STAT, .PMB_LATCH, .MSIX_PBA] s t)) ∧
    (seq → x.up = true → x.begun = true → pmbInWindow s x.entry v = true → 2 ≤ x.good → completes (.pmbPoll cmd (.value v)) s (fun t =>
      arrived t ∧ read t ∧ rest t)) ∧
    (seq → x.up = true → x.begun = true → pmbInWindow s x.entry v = true → x.good < 2 → completes (.pmbPoll cmd (.value v)) s (fun t =>
      t.host.pmb = some { x with good := x.good + 1 } ∧ read t ∧ rest t)) ∧
    (seq → x.up = true → x.begun = true → pmbInWindow s x.entry v = false → completes (.pmbPoll cmd (.value v)) s (fun t =>
      t.host.pmb = some { x with good := 0 } ∧ read t ∧ rest t)) ∧
    (seq → x.up = true → x.begun = true → completes (.pmbPoll cmd .failed) s fails) ∧
    (seq → x.up = false → 10 * v < tget s.host.vcmd 0 x.entry → completes (.pmbPoll cmd (.value v)) s (fun t => arrived t ∧ read t ∧ rest t)) ∧
    (seq → x.up = false → tget s.host.vcmd 0 x.entry ≤ 10 * v → completes (.pmbPoll cmd (.value v)) s (fun t => read t ∧ onlyIn [] [.PMB_ENT_STAT] s t)) ∧
    (seq → x.up = false → completes (.pmbPoll cmd .failed) s (fun t => bitF t F.PMB_LATCH_FAULT x.entry = true ∧ t.host = s.host ∧
      onlyIn [.emitted] [.PMB_LATCH, .MSIX_PBA] s t)) ∧
    (s.host.pmb = none ∨ s.host.pmb = some x ∧ x.delay ≠ none → completes (.pmbPoll cmd vout) s (fun t => t = s)) ∧
    (seq → late → x.up = true → completes .pmbEntryTimeout s fails) ∧
    (seq → late → x.up = false → completes .pmbEntryTimeout s (fun t => arrived t ∧ rest t)) ∧
    (s.host.pmb = none ∨ s.host.pmb = some x ∧ (x.delay ≠ none ∨ ¬ late) → completes .pmbEntryTimeout s (fun t => t = s)) ∧
    (waited → pmbNext s x.up = some e → completes .pmbDelayEnd s (fun t => begins x.up t ∧ t.emitted = s.emitted ++ [first x.up e] ∧ still t ∧
      onlyIn [.host, .emitted] [.PMB_STAT] s t)) ∧
    (waited → pmbNext s x.up = none → completes .pmbDelayEnd s (fun t => ends t ∧ still t ∧ onlyIn [.host] [.PMB_STAT] s t)) ∧
    (s.host.pmb = none ∨ s.host.pmb = some x ∧ (x.delay = none ∨ x.delay = some tick ∧ s.now < tick ∧ s.time.started = true) →
      completes .pmbDelayEnd s (fun t => t = s)) ∧
    (watched → ¬ wrong → completes round s (fun t => shown t ∧ t.host = { s.host with round := s.now } ∧
      onlyIn [.host] [.PMB_ENT_STAT, .PMB_ENT_MEAS] s t)) ∧
    (watched → wrong → act ≠ 1 → act ≠ 2 → completes round s (fun t => shown t ∧ fault t ∧ t.host = { s.host with round := s.now } ∧
      onlyIn [.host, .emitted] monRegs s t)) ∧
    (watched → wrong → act = 1 → s.host.pmb.map (·.up) ≠ some false → pmbNext s false = some e → completes round s (fun t => shown t ∧ fault t ∧
      begins false t ∧ t.emitted.getLast? = some (first false e) ∧ onlyIn [.host, .emitted] (.PMB_STAT :: monRegs) s t)) ∧
    (watched → wrong → act = 1 → s.host.pmb.map (·.up) = some false → completes round s (fun t => shown t ∧ fault t ∧
      t.host = { s.host with round := s.now } ∧ onlyIn [.host, .emitted] monRegs s t)) ∧
    (watched → wrong → act = 2 → completes round s (fun t => shown t ∧ fault t ∧ 3 ≤ getF t F.THM_STAT_STATE ∧
      bitF t F.PWR_STOP_CAUSE stopPmbus = true)) ∧
    (watched → act ≠ 1 → act ≠ 2 → completes lost s (fun t => fault t ∧ t.host = { s.host with round := s.now } ∧
      onlyIn [.host, .emitted] [.PMB_LATCH, .MSIX_PBA] s t)) ∧
    (on → due → pmbIsUp s n = false → ∀ c ∈ [round, lost], completes c s (fun t => t.host = { s.host with round := s.now } ∧ onlyIn [.host] [] s t)) ∧
    (¬ on ∨ ¬ due → completes (.pmbMonitorRound rounds) s (fun t => t = s)) ∧
    (on → falls → pmbEntryOn s n = true → pmbStatusBad st = true → act ≠ 1 → act ≠ 2 → completes (one (.value st)) s (fun t => alerted t ∧ fault t ∧
      getF t (F.PMB_ENT_STAT_STATUS n) = st % 2 ^ 16 ∧ onlyIn [.emitted] alertRegs s t)) ∧
    (on → falls → pmbEntryOn s n = true → pmbStatusBad st = false → completes (one (.value st)) s (fun t => alerted t ∧
      getF t (F.PMB_ENT_STAT_STATUS n) = st % 2 ^ 16 ∧ getF t F.PMB_LATCH_FAULT = getF s F.PMB_LATCH_FAULT ∧ onlyIn [.emitted] alertRegs s t)) ∧
    (on → falls → pmbEntryOn s n = true → act ≠ 1 → act ≠ 2 → completes (one .failed) s (fun t => alerted t ∧ fault t ∧
      onlyIn [.emitted] [.PMB_STAT, .PMB_LATCH, .MSIX_PBA] s t)) ∧
    (on → falls → pmbEntryOn s n = false → completes (one cmd) s (fun t => alerted t ∧ onlyIn [.emitted] [.PMB_STAT, .PMB_LATCH, .MSIX_PBA] s t)) ∧
    (inForce → falls → ¬ on → completes (.pmbSalert true words) s (fun t => alerted t ∧ onlyIn [.emitted] [.PMB_STAT, .PMB_LATCH, .MSIX_PBA] s t)) ∧
    (inForce → ¬ falls ∨ low = false → completes (.pmbSalert low words) s (fun t => flagF t F.PMB_STAT_SALERT = low ∧ onlyIn [] [.PMB_STAT] s t)) ∧
    (¬ inForce → completes (.pmbSalert low words) s (fun t => t = s))

/-- Sizing: a trigger makes a run due, one at a time, and only in an enabled quire; a Press fit needs its channel and a section; an idle run begins and
goes on only in an idle quire, one at a time in a region, holding a capture unit where its procedure samples, and procedures that act on nothing are
skipped; a procedure's values are rejected whole or placed, at once in an idle quire and else at a boundary; an abandoned procedure stays due; the
last procedure ends the run, and an accepted run adds its point; the temperature triggers runs past ΔT and evaluates the set past 0.5 °C;
calibration sets are written between runs, with the privilege of their entries (R419 to R426, R430 to R434). Where the statement says that an event
which is not due changes nothing, that is the model's choice (log entry 2). Its reading of what the rules leave open is the model's (log entries 75,
76, 99). -/
def Obligations.Sizing : Prop :=
  ∀ (s : State) (m : Master) (q : Fin 16) (ch : Fin 32) (v e : Int) (p : Nat) (rest : List Nat) (u i : Nat) (proc : Fin 9) (vals : List SzValue)
    (o : Fin 5) (f : Fin 24) (w : SzValue) (h : FeltHead) (x : Session) (obj : SignedObj) (ps : List SzPoint) (fs : List (SzPoint × List Nat)) (r : FeltRsp),
    let cmd : Reg := ⟨.SZ_Q_CMD, q, 0, 0⟩
    let z := szOf s q
    let on := flagF s (F.SZ_Q_CFG_EN q) = true
    let idle := quireIdle s q = true
    let others := fun (t : State) => ∀ k : Fin 16, k ≠ q → szOf t k = szOf s k
    let due := fun (t : State) => (szOf t q).todo = [0, 5, 7, 6, 4, 2, 3] ∧ (szOf t q).background = procActs s q 1 ∧
      (szOf t q).rejected = false ∧ flagF t (F.SZ_Q_STAT_DUE q) = true ∧ others t
    let press := ch.val < 24 ∧ flagF s (F.FLX_CFG_EN q ch) = true ∧ getF s (F.SZ_Q_CFG_PRESS_SEC q) ≠ 0 ∧ flagF s (F.SZ_Q_CFG_LINE_EN q) = true
    let fit := Instr.pressFitRequest m q ch
    let aborted := szAbortEffect s q
    let region := (List.range 4).map (· + 4 * (q.val / 4))
    let may := szReady s q = true ∧ flagF s F.PWR_STAT_CORE_WARN = false ∧ (tget s.power.vatman 0 (q.val / 4)) % 2 = 0 ∧
      region.all (fun k => !(szOf s k).active && (decide (q.val ≤ k) || !szReady s k)) = true
    let start := Instr.sizingIdleRunStart q
    let left := fun (l : List Nat) => l.dropWhile (fun k => !procActs s q k)
    let runs := fun (t : State) => (szOf t q).active = true ∧ (szOf t q).todo = p :: rest ∧ others t
    let holds := fun (t : State) => (szOf t q).held = some u ∧ capState t u = capIdle ∧ getF t (F.SZ_Q_STAT_PROC q) = p % 16
    let waits := fun (t : State) => (szOf t q).held = none ∧ flagF t (F.SZ_Q_STAT_RUNNING q) = z.background
    let ended := fun (t : State) => (szOf t q).todo = [] ∧ (szOf t q).active = false ∧ getF t (F.SZ_Q_TEMP_LAST q) = getF s (F.SZ_Q_TEMP_NOW q) ∧
      getF t (F.SZ_Q_CNT_RUNS q) = (getF s (F.SZ_Q_CNT_RUNS q) + 1) % 2 ^ (F.SZ_Q_CNT_RUNS q).width ∧ others t
    let done := Instr.procedureComplete q proc vals
    let present := szRuns z = true ∧ z.todo = proc.val :: rest ∧ proc.val ≠ 1
    let bad := firstFailing s q proc vals = some i
    let ok := firstFailing s q proc vals = none
    let rejects := fun (t : State) => (szOf t q).rejected = true ∧ getF t (F.SZ_Q_REJ_PROC q) = proc.val ∧
      getF t (F.SZ_Q_REJ_INDEX q) = i % 2 ^ (F.SZ_Q_REJ_INDEX q).width ∧ flagF t (F.SZ_Q_LATCH_REJECT q) = true ∧ (555 ∈ t.post.fired) ∧ others t
    let rejRegs := [RegName.SZ_Q_STAT, .SZ_Q_REJ, .SZ_Q_LATCH, .SZ_Q_CNT, .CAP_STAT]
    let placeRegs := [RegName.DRV_DELAY, .FLX_XGAIN, .DRV_PD_COEF, .FLX_IIR_C0, .FLX_IIR_C1, .FLX_IIR_D]
    let runRegs := rejRegs ++ placeRegs ++ [.SZ_Q_TEMP, .REAM_STAT]
    let point := (szOf s q).placed = true ∧ z.rejected = false ∧ z.abandoned = false
    let fits := -32768 ≤ v ∧ v < 32768
    let warm := fun (t : State) => getS t (F.SZ_Q_TEMP_NOW q) = v ∧ flagF t (F.SZ_Q_STAT_TFAIL q) = false ∧ others t
    let drifts := flagF s F.SZ_CTRL_AUTO = true ∧ szDt s < ((v - getS s (F.SZ_Q_TEMP_LAST q)).natAbs : Int)
    let near := z.evalAt = some e ∧ (v - e).natAbs < 8
    let far := z.evalAt = none ∨ z.evalAt = some e ∧ 8 ≤ (v - e).natAbs
    let update := Instr.tempUpdate q (some v)
    let asks := feltAsks s h x
    let trusted := asks ∧ 2 ≤ x.priv
    let room := s.store.stores.length < 16
    let store := fun (t : State) (c : StoreCmd) => t.store.stores = s.store.stores ++ [c]
    let signed := objVerifies .vendor obj = true ∧ s.sec.factorySvn ≤ obj.svn
    let factory := Instr.factorySetWrite h q obj ps
    let field := Instr.fieldSetWrite h q fs
    let points := fs.map (·.1)
    let good := pointsOk fs = true ∧ z.factory.length + (recordPoints points).length ≤ 8
    let setRegs := [RegName.SZ_Q_STAT, .REAM_STAT] ++ placeRegs
    (szBusy z = false → on → accepted m cmd (.sizingRun m q) s (fun t => due t ∧ onlyIn [.sizing, .emitted] [.SZ_Q_STAT] s t)) ∧
    (szBusy z = true ∨ ¬ on → accepted m cmd (.sizingRun m q) s (fun t => onlyIn [.emitted] [] s t)) ∧
    (¬ press → refused m cmd fit s) ∧
    (press → z.wanted = none → accepted m cmd fit s (fun t => szOf t q = { z with wanted := some ch.val } ∧ flagF t (F.SZ_Q_STAT_DUE q) = true ∧ others t ∧
      onlyIn [.sizing, .emitted] [.SZ_Q_STAT] s t)) ∧
    (press → z.wanted ≠ none → accepted m cmd fit s (fun t => onlyIn [.emitted] [] s t)) ∧
    accepted m cmd (.sizingAbort m q) s (fun t => t.sched = s.sched ++ [(regDelay s.now 0, .szAbort q)] ∧ onlyIn [.sched, .emitted] [] s t) ∧
    (szRuns z = true → szOf aborted q = { z with active := false, abandoned := true, held := none, idleSince := none } ∧
      flagF aborted (F.SZ_Q_LATCH_ABANDON q) = true ∧
      getF aborted (F.SZ_Q_CNT_ABANDON q) = (getF s (F.SZ_Q_CNT_ABANDON q) + 1) % 2 ^ (F.SZ_Q_CNT_ABANDON q).width ∧ others aborted ∧
      onlyIn [.sizing, .post] [.SZ_Q_STAT, .SZ_Q_CNT, .SZ_Q_LATCH] s aborted) ∧
    (z.active = false → szOf aborted q = z ∧ onlyIn [] [.SZ_Q_STAT] s aborted) ∧
    completes (.tempUpdate q none) s (fun t => flagF t (F.SZ_Q_STAT_TFAIL q) = true ∧ onlyIn [] [.SZ_Q_STAT] s t) ∧
    (¬ on → completes update s (fun t => getF t (F.SZ_Q_TEMP_NOW q) = ofSigned 16 v ∧ flagF t (F.SZ_Q_STAT_TFAIL q) = false ∧
      onlyIn [] [.SZ_Q_TEMP, .SZ_Q_STAT] s t)) ∧
    (on → fits → drifts → szBusy z = false → near → completes update s (fun t => due t ∧ warm t ∧ onlyIn [.sizing] [.SZ_Q_TEMP, .SZ_Q_STAT] s t)) ∧
    (on → fits → drifts → szBusy z = false → far → completes update s (fun t => due t ∧ warm t ∧ (szOf t q).evalAt = some v ∧
      onlyIn [.sizing, .out] ([.SZ_Q_TEMP, .SZ_Q_STAT] ++ placeRegs) s t)) ∧
    (on → fits → ¬ drifts ∨ szBusy z = true → near → completes update s (fun t => szOf t q = z ∧ warm t ∧ onlyIn [] [.SZ_Q_TEMP, .SZ_Q_STAT] s t)) ∧
    (on → fits → ¬ drifts ∨ szBusy z = true → far → ¬ idle → completes update s (fun t =>
      szOf t q = { z with evalAt := some v, ready := z.ready ++ [(s.now, false, valuesAt z v)] } ∧ warm t ∧
      onlyIn [.sizing, .out] [.SZ_Q_TEMP, .SZ_Q_STAT] s t)) ∧
    (on → fits → ¬ drifts ∨ szBusy z = true → far → idle → completes update s (fun t => szOf t q = { z with evalAt := some v } ∧ warm t ∧
      (∀ k ∈ valuesAt z v, k.field = .xgain f → getF t (F.FLX_XGAIN_GAIN q f) = k.code.toNat % 2 ^ 16) ∧
      onlyIn [.sizing, .out] ([.SZ_Q_TEMP, .SZ_Q_STAT] ++ placeRegs) s t)) ∧
    (may → left z.todo = p :: rest → procHolds p = false → completes start s (fun t => runs t ∧ (szOf t q).held = none ∧
      getF t (F.SZ_Q_STAT_PROC q) = p % 16 ∧ onlyIn [.sizing] [.SZ_Q_STAT] s t)) ∧
    (may ∨ szWaits z = true ∧ idle → left z.todo = p :: rest → procHolds p = true → freeUnit s (q.val / 4) = some u → completes start s (fun t =>
      runs t ∧ holds t ∧ onlyIn [.sizing, .capture] [.SZ_Q_STAT, .CAP_STAT] s t)) ∧
    (may ∨ szWaits z = true ∧ idle → left z.todo = p :: rest → procHolds p = true → freeUnit s (q.val / 4) = none → completes start s (fun t =>
      runs t ∧ waits t ∧ onlyIn [.sizing] [.SZ_Q_STAT] s t)) ∧
    (may → z.todo ≠ [] → left z.todo = [] → z.background = true → completes start s (fun t => szOf t q = { z with todo := [], active := false, held := none } ∧
      others t ∧ onlyIn [.sizing] [.SZ_Q_STAT] s t)) ∧
    (may → z.todo ≠ [] → left z.todo = [] → z.background = false → completes start s (fun t => ended t ∧
      onlyIn [.sizing, .out, .post, .store] runRegs s t)) ∧
    (may → z.todo = [] → z.wanted = some u → flagF s (F.SZ_Q_CFG_LINE_EN q) = true → completes start s (fun t => (szOf t q).todo = [8] ∧
      (szOf t q).active = true ∧ (szOf t q).press = some u ∧ (szOf t q).wanted = none ∧ (szOf t q).held = freeUnit s (q.val / 4) ∧ others t ∧
      onlyIn [.sizing, .capture] [.SZ_Q_STAT, .CAP_STAT] s t)) ∧
    (may → z.todo = [] → z.wanted = some u → flagF s (F.SZ_Q_CFG_LINE_EN q) = false → completes start s (fun t => ended t ∧ (szOf t q).wanted = none ∧
      (szOf t q).field = z.field ∧ onlyIn [.sizing] [.SZ_Q_STAT, .SZ_Q_TEMP, .SZ_Q_CNT] s t)) ∧
    (¬ may → szWaits z = false ∨ ¬ idle → completes start s (fun t => t = s)) ∧
    (present → bad → left rest ≠ [] → completes done s (fun t => rejects t ∧ (szOf t q).todo = left rest ∧
      onlyIn [.sizing, .capture, .post] rejRegs s t)) ∧
    (present → bad → left rest = [] → z.background = false → completes done s (fun t => rejects t ∧ ended t ∧ (szOf t q).field = z.field ∧
      flagF t (F.SZ_Q_LATCH_APPLIED q) = flagF s (F.SZ_Q_LATCH_APPLIED q) ∧ onlyIn [.sizing, .post] (.SZ_Q_TEMP :: rejRegs) s t)) ∧
    (present → ok → left rest ≠ [] → completes done s (fun t => (szOf t q).todo = left rest ∧ (szOf t q).rejected = z.rejected ∧ others t ∧
      (szOf t q).placed = (z.placed || !(procValues s q proc vals).isEmpty) ∧
      (¬ idle → (szOf t q).ready = z.ready ++ [(s.now, true, procValues s q proc vals)] ∧ onlyIn [.sizing, .out, .capture] [.SZ_Q_STAT, .CAP_STAT] s t) ∧
      onlyIn [.sizing, .out, .capture] ([.SZ_Q_STAT, .CAP_STAT] ++ placeRegs) s t)) ∧
    (present → proc.val ≠ 8 → idle → flagF s (F.DRV_CFG_EN q o) = true → w.field = .trim o → valueOk proc w = true →
      completes (.procedureComplete q proc [w]) s (fun t => getF t (F.DRV_DELAY_TRIM q o) = w.code.toNat ∧ others t)) ∧
    (present → ok → left rest = [] → z.background = false → completes done s (fun t => ended t ∧ (point → room → flagF t (F.SZ_Q_LATCH_APPLIED q) = true ∧
      (554 ∈ t.post.fired) ∧ (∃ k ∈ (szOf t q).field, k.temp = szNow s q) ∧ (szOf t q).factory = z.factory ∧
      store t ⟨.fieldSet q, .points (setRecordOf (szOf t q))⟩) ∧ onlyIn [.sizing, .out, .post, .store] runRegs s t)) ∧
    (present → left rest = [] → z.background = true → completes done s (fun t => (szOf t q).todo = [] ∧ (szOf t q).active = false ∧
      (szOf t q).background = true ∧ getF t (F.SZ_Q_CNT_RUNS q) = getF s (F.SZ_Q_CNT_RUNS q) ∧ others t ∧ (bad → rejects t) ∧
      onlyIn [.sizing, .out, .post] (rejRegs ++ placeRegs) s t)) ∧
    (z.background = true → proc.val = 1 → z.todo ≠ [] → completes done s (fun t => (szOf t q).background = false ∧ (szOf t q).todo = z.todo ∧ others t ∧
      (bad → rejects t) ∧ onlyIn [.sizing, .out, .post] (rejRegs ++ placeRegs) s t)) ∧
    (z.background = true → proc.val = 1 → z.todo = [] → completes done s (fun t => (szOf t q).background = false ∧
      getF t (F.SZ_Q_TEMP_LAST q) = getF s (F.SZ_Q_TEMP_NOW q) ∧
      getF t (F.SZ_Q_CNT_RUNS q) = (getF s (F.SZ_Q_CNT_RUNS q) + 1) % 2 ^ (F.SZ_Q_CNT_RUNS q).width ∧ others t ∧ (bad → rejects t) ∧
      onlyIn [.sizing, .out, .post, .store] runRegs s t)) ∧
    (proc.val = 1 ∧ z.background = false ∨ proc.val ≠ 1 ∧ (szRuns z = false ∨ z.todo.head? ≠ some proc.val) → completes done s (fun t => t = s)) ∧
    (trusted → signed → szBusy z = false → room → completes factory s (fun t => feltDone s t h x 0x91 0 [] ∧ (szOf t q).factory = ps ∧
      (szOf t q).field = z.field ∧ (szOf t q).block = z.block ∧ store t ⟨.factorySet q, .points ps⟩ ∧ t.sec = { s.sec with factorySvn := obj.svn } ∧
      others t ∧ feltRest s t ∧ onlyIn [.sizing, .out, .store, .sec, .host, .emitted] setRegs s t)) ∧
    (trusted → ¬ signed → completes factory s (fun t => feltDone s t h x 0x91 12 [] ∧ feltRest s t ∧
      getF t F.SEC_CNT_VERIFY_FAIL = (getF s F.SEC_CNT_VERIFY_FAIL + 1) % 2 ^ F.SEC_CNT_VERIFY_FAIL.width ∧ onlyIn [.host, .emitted] [.SEC_CNT] s t)) ∧
    (trusted → signed → szBusy z = true → feltRefused factory s h x 0x91 1) ∧
    (trusted → signed → szBusy z = false → ¬ room → feltRefused factory s h x 0x91 10) ∧
    (trusted → good → szBusy z = false → room → completes field s (fun t => feltDone s t h x 0x91 0 [] ∧ (szOf t q).field = recordPoints points ∧
      (szOf t q).block = recordBlock points ∧ (szOf t q).factory = z.factory ∧ store t ⟨.fieldSet q, .points points⟩ ∧ others t ∧ feltRest s t ∧
      onlyIn [.sizing, .out, .store, .host, .emitted] setRegs s t)) ∧
    (trusted → ¬ good ∨ szBusy z = true → feltRefused field s h x 0x91 1) ∧
    (trusted → good → szBusy z = false → ¬ room → feltRefused field s h x 0x91 10) ∧
    (asks → x.priv < 2 → ∀ c ∈ [factory, field], feltRefused c s h x 0x91 8) ∧
    (feltArrives s h → h.session ≠ 0 → h.auth = true → feltSession s h = some x → x.last = some (h.seq, some r) → ∀ c ∈ [factory, field],
      completes c s (fun t => feltOut s t h.via x.id h.seq r ∧ feltRest s t ∧ onlyIn [.host, .emitted] [] s t)) ∧
    (feltArrives s h → h.session ≠ 0 → feltSession s h = none ∨ h.auth = false → ∀ c ∈ [factory, field], feltDropped c s) ∧
    (feltOperator s h → ∀ c ∈ [factory, field], completes c s (fun t => feltOut s t .mailbox 0 h.seq ⟨0x91, 8, []⟩ ∧ feltRest s t ∧
      onlyIn [.host, .emitted] [] s t))

/-- The power states: a request acts only in the rows of the table and is refused elsewhere, but with the state the device is in, which requests
nothing; Standby is entered when its ramps have ended or their time has run out, and switches the converter dies and quire logic off; Dormant keeps
only what R441 retains; a wake acts in Standby and Dormant and is ignored elsewhere; the VDD_CORE warning, a brown-out and the loss and return of
converter rails have the effects of R444 to R446; a conversion of the Loft reaches its filters and the decision units that watch them (R437 to R450,
R465). Where the statement says that an event which is not due changes nothing, that is the model's choice (log entry 2). Its reading of what the
rules leave open is the model's (log entries 77, 78, 79, 81, 83). -/
def Obligations.PowerStates : Prop :=
  ∀ (s : State) (m : Master) (req : Fin 4) (w : WakeSource) (g : Fin 4) (rails : Bool) (tick begun e : Nat) (slot : Fin 64) (r : BitVec 16) (f j : Fin 16)
    (d : Fin 8) (q : Fin 16) (b : Fin 2),
    let ctrl : Reg := ⟨.PWR_CTRL, 0, 0, 0⟩
    let st := getF s F.PWR_STAT_STATE
    let calm := s.power.moving = none
    let ask := Instr.powerReq m req
    let begins := fun (t : State) => t.power = { s.power with moving := some (req.val, s.now) } ∧ getF t F.PWR_CTRL_REQ = req.val ∧
      onlyIn [.power, .emitted] [.PWR_CTRL] s t
    let ends := fun (n : Nat) (t : State) => t.power.moving = none ∧ getF t F.PWR_STAT_STATE = n
    let biasRegs := [RegName.BIAS_CFG, .BIAS_NOW, .BIAS_SEQ, .BIAS_STAT]
    let dkRegs := [RegName.DK_STAT, .DK_WIN_CNT]
    let offRegs := dkRegs ++ [RegName.DRV_STAT, .FLX_STAT, .FLX_LADDER_NOW, .HB_STAT, .CAP_STAT, .CAP_LATCH, .PWR_DOM] ++ biasRegs
    let off := fun (a n : Nat) (t : State) => ∀ k : Fin 144, a ≤ k.val → k.val < a + n → domainOn t k = false
    let quiet := fun (t : State) => off 80 32 t ∧ (∀ q : Fin 16, ∀ k : Fin 4, domainOn t (5 * q + k) = false) ∧ flagF t F.MEM_DDR_STAT_READY = false ∧
      onlyIn [.post, .out, .deckle, .head, .capture, .power] ([.MEM_DDR_STAT, .PWR_STAT] ++ offRegs) s t
    let live := s.power.inReset = false ∧ s.power.tripped = false
    let wakes := wakeEnabled s w = true
    let wake := Instr.wake w rails
    let edge := fun (t : State) => t.post = (if w = .pin then { s.post with fired := s.post.fired ++ [525] } else s.post)
    let reboots := fun (t : State) => t.mem = s.mem ∧ t.power.booting = true ∧ getF t F.PWR_STAT_STATE = 0 ∧ t.sec = { s.sec with running := false } ∧
      getF t F.PWR_RST_CAUSE_CAUSE = getF s F.PWR_RST_CAUSE_CAUSE ∧ t.pending = s.pending ∧ t.seq = State.reset.seq
    let warned := flagF s F.PWR_STAT_CORE_WARN = true
    let good := bitF s F.PWR_STAT_RGOOD g = true
    let lit := ∃ k : Fin 8, domainOn s (80 + 8 * g + k) = true
    let dip : Taint := ⟨s.now, none, .dip⟩
    let up := setBitF s F.PWR_STAT_RGOOD g true
    let starts := live ∧ domainOn s (80 + 8 * g) = false ∧ st ≤ 1 ∧ getF s F.THM_STAT_STATE < 3 ∧ dieMayRun up g = true
    let back := Instr.supplyRailReturn (some g)
    let takes := s.power.loftOn = true ∧ flagF s (F.LOFT_SCAN_EN slot) = true
    let convert := Instr.loftConversion slot r
    let result := fun (t : State) => getS t (F.LOFT_DATA_RESULT slot) = r.toInt ∧ flagF t (F.LOFT_DATA_VALID slot) = true
    let mine := fun (k : Fin 16) => flagF s (F.LOFT_FILT_EN k) = true ∧ getF s (F.LOFT_FILT_SLOT k) = slot.val
    let fresh := tget s.power.fresh true f = true
    let k := getF s (F.LOFT_FILT_K f)
    let y := getS s (F.LOFT_FOUT_Y f)
    let loftRegs := [RegName.LOFT_DATA, .LOFT_FOUT, .LOFT_DEC_B, .LOFT_WAKE_SRC, .PMB_STAT]
    let watches := flagF s (F.LOFT_DEC_B_EN d) = true ∧ getF s (F.LOFT_DEC_B_FILT d) = f.val
    let hi := toSigned 16 (getF s (F.LOFT_DEC_A_HI d))
    let lo := toSigned 16 (getF s (F.LOFT_DEC_A_LO d))
    let hyst : Int := getF s (F.LOFT_DEC_B_HYST d)
    let persist := max 1 (getF s (F.LOFT_DEC_B_PERSIST d))
    let outside := hi < r.toInt ∨ r.toInt < lo
    let inside := lo + hyst < r.toInt ∧ r.toInt < hi - hyst
    let held := flagF s (F.LOFT_DEC_B_OUT d) = true
    let asserts := outside ∧ persist ≤ tget s.power.outside 0 d + 1
    let releases := inside ∧ persist ≤ tget s.power.inside 0 d + 1
    let sel := fun (n : Nat) => getF s (F.LOFT_SCAN_INPUT slot) = 24 + q / 4 ∧ getF s (F.LOFT_SCAN_SUB slot) = n + 2 * (q % 4) + b
    (req.val = st → accepted m ctrl ask s (fun t => getF t F.PWR_CTRL_REQ = req.val ∧ onlyIn [.emitted] [.PWR_CTRL] s t)) ∧
    (calm → st = 0 → req = 1 → allIdle s = true → accepted m ctrl ask s begins) ∧
    (calm → st = 1 → req = 0 → accepted m ctrl ask s begins) ∧
    (calm → st = 2 → req ≠ 2 → accepted m ctrl ask s begins) ∧
    (calm → st ≤ 1 → req = 2 → allIdle s = true → accepted m ctrl ask s (fun t => t.power = { s.power with moving := some (2, s.now), biasDue := some (biasLimit s) } ∧
      getF t F.PWR_CTRL_REQ = 2 ∧ onlyIn [.power, .out, .emitted] ([.PWR_CTRL, .FLX_LADDER_NOW] ++ biasRegs) s t)) ∧
    (req.val ≠ st → s.power.moving ≠ none ∨ (st ≤ 1 ∧ req = 3) ∨ 3 ≤ st ∨ (st ≤ 1 ∧ req = 2 ∧ allIdle s = false) ∨ (st = 0 ∧ req = 1 ∧ allIdle s = false) →
      refused m ctrl ask s) ∧
    (st ≠ 2 → (req = 0 ∨ req = 1) → s.power.moving = some (req.val, tick) → completes .powerTransitionComplete s (fun t =>
      ends req t ∧ onlyIn [.power] [.PWR_STAT] s t)) ∧
    (s.power.moving = some (2, tick) → rampsDone s = true → completes .powerTransitionComplete s (fun t => ends 2 t ∧ quiet t)) ∧
    (s.power.moving = some (2, tick) → rampsDone s = false → completes .powerTransitionComplete s (fun t => t = s)) ∧
    (s.power.moving = some (3, tick) → completes .powerTransitionComplete s (fun t => ends 3 t ∧ off 0 144 t ∧ t.time.started = false ∧
      t.mem = s.mem.filter (staysDormant s) ∧ onlyIn [.mem, .post, .capture, .time, .power] [.PWR_STAT, .PWR_DOM, .TB_REF_STAT, .CAP_STAT, .CAP_LATCH] s t)) ∧
    (st = 2 → (req = 0 ∨ req = 1) → s.power.moving = some (req.val, tick) → completes .powerTransitionComplete s (fun t => ends req t ∧
      (∀ q : Fin 16, flagF s (F.QERR_STAT_GATED q) = false → ∀ k : Fin 4, domainOn t (5 * q + k) = true) ∧
      (∀ k : Fin 4, dieMayRun s k = true → ∀ j : Fin 8, domainOn t (80 + 8 * k + j) = true) ∧
      onlyIn [.out, .deckle, .head, .power] (dkRegs ++ [.PWR_STAT, .PWR_DOM, .MEM_DDR_STAT, .DRV_STAT, .FLX_LADDER_NOW]) s t)) ∧
    (calm → completes .powerTransitionComplete s (fun t => t = s)) ∧
    (s.power.biasDue = some tick → tick ≤ s.now → s.power.moving = some (2, begun) → completes .biasTmoExpiry s (fun t => ends 2 t ∧ quiet t)) ∧
    (live → wakes → calm → st = 2 → completes wake s (fun t => t.power = { s.power with moving := some (0, s.now) } ∧ wakeRecorded t w = true ∧
      edge t ∧ onlyIn [.power, .post] [.LOFT_WAKE_SRC] s t)) ∧
    (live → wakes → s.power.moving = some (0, s.now) → st = 2 → completes wake s (fun t => wakeRecorded t w = true ∧ edge t ∧
      onlyIn [.post] [.LOFT_WAKE_SRC] s t)) ∧
    (live → s.power.moving = some (req.val, tick) → req ≠ 0 ∨ tick ≠ s.now → st = 2 → completes wake s (fun t => edge t ∧ onlyIn [.post] [] s t)) ∧
    (live → wakes → st = 3 → rails = true → completes wake s (fun t => reboots t ∧ wakeRecorded t w = true ∧ edge t ∧
      (pmbOn s = true → pmbNext s true = some e → s.power.waking = false → t.host.pmb.map (·.entry) = some e))) ∧
    (live → wakes → st = 3 → rails = false → completes wake s (fun t => t.power = { s.power with waking := true } ∧ wakeRecorded t w = true ∧ edge t ∧
      onlyIn [.post, .host, .power, .emitted] [.LOFT_WAKE_SRC, .PMB_STAT] s t)) ∧
    (live → ¬ wakes ∨ st ≠ 2 ∧ st ≠ 3 → s.power.waking = false → completes wake s (fun t => edge t ∧ onlyIn [.post] [] s t)) ∧
    (¬ live → completes wake s (fun t => t = s)) ∧
    (¬ warned → completes .coreWarning s (fun t => flagF t F.PWR_STAT_CORE_WARN = true ∧ flagF t F.PWR_LATCH_CORE_WARN = true ∧
      getF t F.PWR_CNT_DIPS = (getF s F.PWR_CNT_DIPS + 1) % 2 ^ 16 ∧ (515 ∈ t.post.fired) ∧ dip ∈ t.taints ∧ t.store.stores = (storeAbort s).store.stores ∧
      (∀ q : Fin 16, (szOf t q).active = false) ∧
      t.power = (if 32 ≤ s.power.ring.length then { s.power with ring := s.power.ring.drop 1 ++ [⟨.supplyWarning, 20, s.now, s.time.wall⟩], lost := s.power.lost + 1 }
        else { s.power with ring := s.power.ring ++ [⟨.supplyWarning, 20, s.now, s.time.wall⟩] }) ∧
      onlyIn [.taints, .post, .head, .store, .sizing, .power]
        [.PWR_STAT, .PWR_LATCH, .PWR_CNT, .HB_RQ_CNT, .HB_RQ_CREDIT, .REAM_STAT, .REAM_CNT, .SZ_Q_STAT, .SZ_Q_CNT, .SZ_Q_LATCH] s t)) ∧
    (warned → completes .coreWarning s (fun t => t = s)) ∧
    (warned → completes .coreWarningRelease s (fun t => flagF t F.PWR_STAT_CORE_WARN = false ∧ t.post = { s.post with fired := s.post.fired ++ [516] } ∧
      t.power = { s.power with log := s.power.log ++ s.power.ring, ring := [] } ∧ onlyIn [.post, .power] [.PWR_STAT] s t)) ∧
    (¬ warned → completes .coreWarningRelease s (fun t => t = s)) ∧
    (live → st ≠ 3 → completes .brownOut s (fun t => isReset (logEvent s .brownOut 20) t ∧ getF t F.PWR_RST_CAUSE_CAUSE = 4 ∧ t.power.inReset = false)) ∧
    (¬ live ∨ st = 3 → completes .brownOut s (fun t => t = s)) ∧
    (good → lit → completes (.railLoss g) s (fun t => bitF t F.PWR_STAT_RGOOD g = false ∧ off (80 + 8 * g) 8 t ∧
      flagF t F.PWR_LATCH_RAIL_LOSS = true ∧ getF t F.PWR_CNT_RAIL_LOSS = (getF s F.PWR_CNT_RAIL_LOSS + 1) % 2 ^ F.PWR_CNT_RAIL_LOSS.width ∧
      flagF t F.CHIP_FAULT_LATCH_CHIP = true ∧ g.val ∈ t.power.railOff ∧ (∀ k : Fin 4, ⟨s.now, some (4 * g + k), Cause.dip⟩ ∈ t.taints) ∧
      onlyIn [.taints, .post, .out, .deckle, .head, .capture, .power]
        ([.PWR_STAT, .PWR_LATCH, .PWR_CNT, .CHIP_FAULT_LATCH, .HB_RQ_CNT, .HB_RQ_CREDIT] ++ offRegs) s t)) ∧
    (good → ¬ lit → completes (.railLoss g) s (fun t => bitF t F.PWR_STAT_RGOOD g = false ∧ onlyIn [] [.PWR_STAT] s t)) ∧
    (¬ good → completes (.railLoss g) s (fun t => t = s)) ∧
    (starts → completes back s (fun t => bitF t F.PWR_STAT_RGOOD g = true ∧ (∀ k : Fin 8, domainOn t (80 + 8 * g + k) = true) ∧
      onlyIn [.out, .deckle, .head] (dkRegs ++ [.PWR_STAT, .PWR_DOM, .DRV_STAT, .FLX_LADDER_NOW]) s t)) ∧
    (¬ starts → completes back s (fun t => bitF t F.PWR_STAT_RGOOD g = true ∧ onlyIn [] [.PWR_STAT] s t)) ∧
    (s.power.waking = true → st = 3 → completes (.supplyRailReturn none) s (fun t => reboots t ∧ t.post = s.post)) ∧
    (s.power.waking = false ∨ st ≠ 3 → completes (.supplyRailReturn none) s (fun t => t = s)) ∧
    (takes → (∀ k : Fin 16, ¬ mine k) → completes convert s (fun t => result t ∧ onlyIn [.out] [.LOFT_DATA] s t)) ∧
    (takes → mine f → k = 0 ∨ fresh → completes convert s (fun t => result t ∧ getS t (F.LOFT_FOUT_Y f) = r.toInt ∧
      (watches → ¬ held → asserts → flagF t (F.LOFT_DEC_B_OUT d) = true ∧ (517 + d.val) ∈ t.post.fired) ∧
      (watches → ¬ held → ¬ asserts → flagF t (F.LOFT_DEC_B_OUT d) = false) ∧
      (watches → held → flagF t (F.LOFT_DEC_B_OUT d) = !decide releases))) ∧
    (takes → mine f → ¬ fresh → completes convert s (fun t => min y r.toInt ≤ getS t (F.LOFT_FOUT_Y f) ∧ getS t (F.LOFT_FOUT_Y f) ≤ max y r.toInt)) ∧
    (takes → ¬ mine j → completes convert s (fun t => getS t (F.LOFT_FOUT_Y j) = getS s (F.LOFT_FOUT_Y j) ∧
      onlyIn [.free, .post, .out, .host, .power, .emitted] loftRegs s t)) ∧
    (takes → sel 96 → completes convert s (fun t => biasOf t q b = { biasOf s q b with volt := r.toNat })) ∧
    (takes → sel 104 → completes convert s (fun t => biasOf t q b = { biasOf s q b with curr := r.toNat })) ∧
    (¬ takes → completes convert s (fun t => t = s))

/-- Thermal management and the orderly stop: a sample sets each zone's value and level and moves the device state; a failed sensor is marked, two of a
zone stop the device; GRACE leads to ENFORCE, which gates idle quires, and NORMAL ungates them; a stop cause begins the orderly stop at its stop
tick, the converters go off 1 ms later and the device is STOPPED when its bias sources are; RESTART is accepted only where R459 says; a 125 °C trip
switches everything off (R452 to R456, R458 to R460). Where the statement says that an event which is not due changes nothing, that is the model's
choice (log entry 2). Its reading of what the rules leave open is the model's (log entries 79, 80, 99). -/
def Obligations.ThermalAndStop : Prop :=
  ∀ (s : State) (m : Master) (l : List (Option Int)) (z : Fin 16) (n : Fin 64) (tick begun : Nat) (found : List (Fin 64)),
    let ctrl : Reg := ⟨.PWR_CTRL, 0, 0, 0⟩
    let th := getF s F.THM_STAT_STATE
    let live := s.power.inReset = false ∧ s.power.tripped = false
    let bad := fun (k : Nat) => bitF s (F.THM_ZONE_FAILED (k / 4)) (k % 4)
    let lost := fun (k : Nat) => (List.range 4).filter (fun j => bad (4 * k + j) || (l.getD (4 * k + j) none).isNone)
    let val := fun (k : Nat) => zoneValue s k l
    let old := fun (k : Nat) => getF s (F.THM_ZONE_LEVEL k)
    let new := fun (k : Nat) => nextLevel (old k) ((val k :: tget s.power.zones [] k).take 8)
    let enters := fun (k : Nat) (v : Nat) => new k = v ∧ old k < v
    let calm := (∀ k : Fin 16, ¬ enters k 2) ∧ ∀ k : Fin 16, (lost k).length < 2
    let cool := ∀ k : Fin 16, val k < 1472
    let sample := Instr.thermalSample l
    let sampleParts := [Part.post, .out, .deckle, .head, .beater, .power]
    let sampleRegs := [RegName.DK_STAT, .DK_WIN_CNT, .DRV_STAT, .FLX_LADDER_NOW, .PWR_DOM, .PWR_STOP, .QERR_STAT, .THM_CNT, .THM_LATCH, .THM_STAT, .THM_ZONE]
    let stopping := fun (bit : Nat) (t : State) => getF t F.THM_STAT_STATE = 3 ∧ bitF t F.PWR_STOP_CAUSE bit = true ∧ t.power.stop = some (stopTick s, 0)
    let graced := th = 1 ∧ s.power.requested + 50000000 * getF s F.THM_CFG_GRACE ≤ s.now
    let restored := ∀ q : Fin 16, tget s.power.restore none q.val = none
    let sources := ∀ q : Fin 16, tget s.out.seqs none q.val = none
    let stopRegs := [RegName.DRV_STAT, .FLX_STAT, .FLX_LADDER_NOW, .HB_STAT, .CAP_STAT, .CAP_LATCH, .PWR_DOM, .BIAS_CFG, .BIAS_NOW, .BIAS_SEQ, .BIAS_STAT,
      .PWR_LATCH, .THM_STAT]
    let stopped := fun (t : State) => getF t F.THM_STAT_STATE = 4 ∧ t.power.stop = none ∧ flagF t F.PWR_LATCH_STOP = true ∧
      (∀ g : Fin 4, domainOn t (80 + 8 * g + 5) = false)
    let down := fun (t : State) => (∀ g : Fin 4, ∀ k : Fin 7, k ≠ 5 → domainOn t (80 + 8 * g + k) = false) ∧
      (∀ q : Fin 16, ∀ i : Fin 24, flagF t (F.FLX_STAT_SWITCH q i) = false) ∧ (∀ u : Fin 16, capState t u = capIdle) ∧
      onlyIn [.post, .out, .head, .capture, .power] stopRegs s t
    let barred := (∃ k : Fin 16, getF s (F.THM_ZONE_LEVEL k) = 2 ∨ 2 ≤ failedCount s k) ∨ getF s F.PWR_STAT_RGOOD ≠ 15
    let restart := Instr.pwrRestart m
    let toStandby := s.power.moving.map (·.1) == some 2
    let opened := fun (t : State) => ∀ (q : Fin 16) (b : Fin 2), flagF t (F.BIAS_STAT_SWITCH q b) = false
    let restartRegs := [RegName.DK_STAT, .DK_WIN_CNT, .DRV_CFG, .DRV_CNT, .DRV_LATCH, .FLX_CFG, .FLX_CNT, .FLX_LATCH, .PWR_STOP, .THM_LATCH, .THM_CNT] ++ stopRegs
    let disabled := fun (t : State) => (∀ g : Fin 32, domainOn t (80 + g) = true) ∧ (∀ q : Fin 16, (∀ o : Fin 5, flagF t (F.DRV_CFG_EN q o) = false) ∧
      (∀ i : Fin 24, flagF t (F.FLX_CFG_EN q i) = false) ∧ (∀ b : Fin 2, flagF t (F.BIAS_CFG_EN q b) = false)) ∧ getF t F.PWR_STOP_CAUSE = 0 ∧
      t.power.railOff = []
    let shown := fun (t : State) => bitF t (F.THM_ZONE_FAILED (n / 4)) (n % 4) = true ∧ flagF t F.THM_LATCH_SENSOR = true ∧ (514 ∈ t.post.fired)
    let parts := [Part.post, .out, .head, .beater, .power]
    (live → completes sample s (fun t => (∀ k : Fin 16, getS t (F.THM_ZONE_TEMP k) = toSigned 16 (ofSigned 16 (val k)) ∧
      getF t (F.THM_ZONE_LEVEL k) = new k % 4 ∧ (enters k 1 → (497 + k.val) ∈ t.post.fired) ∧ (enters k 2 → 513 ∈ t.post.fired)) ∧
      (∀ k : Fin 64, bitF t (F.THM_ZONE_FAILED (k / 4)) (k % 4) = (bad k || (l.getD k none).isNone)) ∧ onlyIn sampleParts sampleRegs s t)) ∧
    (live → bad n = false → l.getD n none = none → completes sample s shown) ∧
    (live → th < 3 → enters z 2 → completes sample s (stopping 0)) ∧
    (live → th < 3 → 2 ≤ (lost z).length → completes sample s (stopping 1)) ∧
    (live → th = 0 → calm → enters z 1 → completes sample s (fun t => getF t F.THM_STAT_STATE = 1 ∧ flagF t F.THM_LATCH_WARN = true ∧
      getF t F.THM_CNT_WARN = (getF s F.THM_CNT_WARN + 1) % 2 ^ F.THM_CNT_WARN.width ∧ t.power.requested = s.now)) ∧
    (live → th = 1 ∨ th = 2 → calm → (∀ k : Fin 16, new k = 0) → completes sample s (fun t => getF t F.THM_STAT_STATE = 0 ∧
      ∀ q : Fin 16, flagF t (F.QERR_STAT_GATED q) = false ∧ (flagF s (F.QERR_STAT_GATED q) = true → ∀ k : Fin 4, domainOn t (5 * q + k) = true))) ∧
    (live → calm → (th = 0 ∧ ∀ k : Fin 16, ¬ enters k 1) ∨ ((th = 1 ∨ th = 2) ∧ ∃ k : Fin 16, new k % 4 ≠ 0) → completes sample s (fun t =>
      getF t F.THM_STAT_STATE = th)) ∧
    (live → 3 ≤ th → completes sample s (fun t => getF t F.THM_STAT_STATE = th)) ∧
    (live → completes sample s (fun t => t.power.hot = (s.power.hot && !decide cool))) ∧
    (¬ live → completes sample s (fun t => t = s)) ∧
    (live → completes (.sensorSelfTest found) s (fun t => (∀ k : Fin 64, bitF t (F.THM_ZONE_FAILED (k / 4)) (k % 4) = (bad k || found.contains k)) ∧
      onlyIn parts sampleRegs s t)) ∧
    (live → bad n = false → completes (.sensorSelfTest [n]) s shown) ∧
    (live → th < 3 → failedCount s (n / 4) = 1 → bad n = false → completes (.sensorSelfTest [n]) s (stopping 1)) ∧
    (live → bad n = true → (∀ k : Fin 16, failedCount s k < 2) → completes (.sensorSelfTest [n]) s (fun t => t = s)) ∧
    (¬ live → completes (.sensorSelfTest found) s (fun t => t = s)) ∧
    (graced → completes .graceExpiry s (fun t => getF t F.THM_STAT_STATE = 2 ∧ flagF t F.THM_LATCH_ENFORCE = true ∧
      getF t F.THM_CNT_ENFORCE = (getF s F.THM_CNT_ENFORCE + 1) % 2 ^ F.THM_CNT_ENFORCE.width ∧
      (∀ q : Fin 16, quireIdle s q = true → flagF s (F.QERR_STAT_GATED q) = false → flagF t (F.QERR_STAT_GATED q) = true ∧
        ∀ k : Fin 4, domainOn t (5 * q + k) = false) ∧ onlyIn [.post, .out, .head, .sizing] ([.THM_STAT, .THM_LATCH, .THM_CNT] ++ gateRegs) s t)) ∧
    (¬ graced → completes .graceExpiry s (fun t => t = s)) ∧
    (th < 3 → accepted m ctrl (.pwrStop m) s (fun t => stopping 3 t ∧ onlyIn [.out, .head, .beater, .power, .emitted] [.PWR_STOP, .THM_STAT, .PWR_DOM, .QERR_STAT] s t)) ∧
    (3 ≤ th → accepted m ctrl (.pwrStop m) s (fun t => bitF t F.PWR_STOP_CAUSE 3 = true ∧ onlyIn [.emitted] [.PWR_STOP] s t)) ∧
    (s.power.stop = some (tick, 0) → tick ≤ s.now → restored → completes .orderlyStop s (fun t => t.power.stop = some (s.now, 1) ∧
      (∀ q k : Fin 16, isActive (thrState t q k) = false) ∧ (∀ q : Fin 16, queuesEmpty t q = true) ∧
      (∀ q : Fin 16, ∀ i : Fin 24, flagF t (F.FLX_STAT_STOP q i) = true) ∧ (s.now + 2, .stopMute) ∈ t.sched ∧ t.power.biasDue = some (biasLimit s))) ∧
    (s.power.stop = some (tick, 0) → s.now < tick ∨ ¬ restored → completes .orderlyStop s (fun t => t = s)) ∧
    (s.power.stop = none ∨ s.power.stop = some (tick, begun + 1) → completes .orderlyStop s (fun t => t = s)) ∧
    (onlyIn [.post, .out] [.DRV_STAT, .DRV_CNT, .DRV_LATCH] s (stopMute s) ∧ ∀ (q : Fin 16) (o : Fin 5), flagF (stopMute s) (F.DRV_STAT_STOP q o) = true ∧
      flagF (stopMute s) (F.DRV_STAT_MUTED q o) = true) ∧
    (s.power.stop = some (tick, 1) → tick + 500000 ≤ s.now → sources → completes .stopPowerdown s (fun t => stopped t ∧ down t)) ∧
    (s.power.stop = some (tick, 1) → tick + 500000 ≤ s.now → ¬ sources → completes .stopPowerdown s (fun t =>
      t.power = { s.power with stop := some (tick, 2) } ∧ down t)) ∧
    (s.power.stop = some (tick, 1) → s.now < tick + 500000 → completes .stopPowerdown s (fun t => t = s)) ∧
    (s.power.stop = none ∨ s.power.stop = some (tick, 0) ∨ s.power.stop = some (tick, begun + 2) → completes .stopPowerdown s (fun t => t = s)) ∧
    (s.power.biasDue = some tick → tick ≤ s.now → toStandby = false → s.power.stop = some (begun, 2) → completes .biasTmoExpiry s (fun t => stopped t ∧
      opened t ∧ onlyIn [.post, .out, .power] stopRegs s t)) ∧
    (s.power.biasDue = some tick → tick ≤ s.now → toStandby = false → s.power.stop.map (·.2) ≠ some 2 → completes .biasTmoExpiry s (fun t => opened t ∧
      t.power = { s.power with biasDue := none } ∧ onlyIn [.out, .power] [.BIAS_CFG, .BIAS_NOW, .BIAS_SEQ, .BIAS_STAT] s t)) ∧
    (s.power.biasDue = none ∨ s.power.biasDue = some tick ∧ s.now < tick → completes .biasTmoExpiry s (fun t => t = s)) ∧
    (th = 4 → ¬ barred → accepted m ctrl restart s (fun t => disabled t ∧ getF t F.THM_STAT_STATE = (if getF s F.THM_STAT_WARN = 0 then 0 else 1) ∧
      onlyIn [.out, .deckle, .head, .post, .power, .emitted] restartRegs s t)) ∧
    (s.power.railOff ≠ [] → th ≠ 4 → ¬ barred → accepted m ctrl restart s (fun t => disabled t ∧ getF t F.THM_STAT_STATE = th ∧
      onlyIn [.out, .deckle, .head, .post, .power, .emitted] restartRegs s t)) ∧
    (barred ∨ (th ≠ 4 ∧ s.power.railOff = []) → refused m ctrl restart s) ∧
    (bad n = false → s.power.tripped = false → completes (.thermalTrip n) s (fun t => t.power.tripped = true ∧ (∀ k : Fin 144, domainOn t k = false) ∧
      t.time.started = false ∧ t.power.ring.getLast? = some ⟨.trip, n, s.now, s.time.wall⟩ ∧
      onlyIn [.post, .out, .deckle, .head, .capture, .time, .power] ([.DK_STAT, .DK_WIN_CNT] ++ stopRegs) s t)) ∧
    (bad n = true ∨ s.power.tripped = true → completes (.thermalTrip n) s (fun t => t = s))

/-- Fault containment: a bridge parity error is counted, taints the shot in progress, leaves a zero word at an output and marks the windows over an
input word; a lane moves to a spare, or its channels stay cut off; a faulty flux channel or bias source is muted as unsparable, a thread or context
that loses its state faults, a failed quire error handler is its region's; a quire restore mutes the quire and holds its threads until it ends,
takes precedence over cell faults of its tick, and the self-checks after it decide; a Vatman or router slice is down until it restarts, and the
accesses to its region are held and go on then; a core fault sends for the region's spare core, which takes the quire over; a management core
restarts (R20 to R26, R356, R461 to R464). Where the statement says that an event which is not due changes nothing, that is the model's choice (log
entry 2). Its reading of what the rules leave open is the model's (log entries 13, 14, 15, 16, 17, 94). -/
def Obligations.FaultContainment : Prop :=
  (∀ (s : State) (q : Fin 16) (o : Fin 5) (i : Fin 24) (b : Fin 2) (k : Fin 16) (g core : Fin 4) (lane : BridgeLane) (a word : Nat) (router : Bool)
      (x : CoreSubst) (cell : CellRef) (failing : List CheckedCell) (e : Fin 8) (pass : Bool),
      let myTaint := fun (c : Cause) (t : State) => ⟨s.now, if flagF s (F.SEQ_CTRL_TAINT_SCOPE q) then none else some q.val, c⟩ ∈ t.taints
      let counted := fun (t : State) => t.power = { s.power with bridgeErrs := tmod s.power.bridgeErrs 0 (q / 4) (· + 1) } ∧ myTaint .bridge t
      let revised := [RegName.HB_RQ_CNT, .HB_RQ_CREDIT]
      let covers := fun (w : OpenWin) => (List.range 16).any (fun j => inWindow w (16 * word + j))
      let switching := s.power.switching.contains (g.val, lane) = true
      let up := vatmanUp s g = true
      let faulted := [RegName.CHIP_FAULT_LATCH, .CHIP_FAULT_STAT, .QERR_STAT, .QERR_LATCH]
      let lostRegs := [RegName.DRV_STAT, .DRV_CNT, .DRV_LATCH, .FLX_STAT, .FLX_CNT, .FLX_LATCH] ++ revised ++ faulted
      let laneRegs := [RegName.HB_CELL_STAT, .HB_CELL_LATCH, .THR_LATCH, .THR_CNT, .SEQ_CNT_LATE, .WGT_W3] ++ lostRegs
      let unspared := fun (t : State) => bitF t F.CHIP_FAULT_STAT_QUIRE q = true ∧ flagF t (F.QERR_STAT_UNSPARABLE q) = true ∧
        bitF t F.CHIP_FAULT_LATCH_QUIRE q = true ∧ bitF t F.CHIP_FAULT_LATCH_REGION (q / 4) = true
      let active := isActive (thrState s q k) = true
      let live := isActive (ctxState s q k) = true
      let settling := resetNow s q = true
      let restores := Instr.quireRestore q none
      let idle := restoring s q = false
      let threadRegs := [RegName.SEQ_EVFLAG, .THR_STAT]
      let restoreRegs := [RegName.DRV_STAT, .DRV_CNT, .DRV_LATCH, .FLX_STAT, .FLX_CNT, .FLX_LATCH] ++ threadRegs
      let settledRegs := [RegName.TONE_SPARE_STAT, .TONE_STAT, .HB_SPARE_STAT, .HB_CELL_STAT, .BT_ESTAT]
      let begun := fun (t : State) => tget t.power.restore none q.val = some s.now ∧ tget t.seq.held false q.val = true ∧
        flagF t (F.QERR_STAT_RESTORE q) = true ∧ bitF t F.CHIP_FAULT_STAT_QUIRE q = true ∧ bitF t (F.QERR_LATCH_EVENT q) 0 = true ∧
        (quireEvent q 21 ∈ t.post.fired) ∧ myTaint .restore t ∧
        (∀ o : Fin 5, flagF t (F.DRV_STAT_MUTED q o) = true) ∧ (∀ i : Fin 24, flagF t (F.FLX_STAT_MUTED q i) = true) ∧ (szOf t q).active = false ∧
        (∀ k : Fin 16, thread t q k = thread s q k) ∧ (∀ c : Chan, queueOf t c = queueOf s c)
      let checked := fun (t : State) => (∀ c : Fin 32, flagF s (F.TONE_STAT_FAILED q c) = true → (toneOf t q c).checked = true) ∧
        (∀ j : Fin 16, flagF s (F.HB_CELL_STAT_FAILED q j) = true → (cellOf t q j).checked = true)
      let sent := tget s.power.coreSubst none (q.val / 4) = some x
      let sends := fun (t : State) => tget t.power.coreSubst none (q.val / 4) = some ⟨q, s.now⟩ ∧ (417 + 4 * (q.val / 4) ∈ t.post.fired)
      let stops := fun (t : State) => tget t.seq.held false q.val = true ∧ bitF t (F.QERR_LATCH_EVENT q) 1 = true ∧
        bitF t F.CHIP_FAULT_LATCH_QUIRE q = true ∧ bitF t F.CHIP_FAULT_LATCH_REGION (q / 4) = true ∧ (∀ c : Chan, queueOf t c = queueOf s c)
      let lost := fun (n : Nat) (t : State) => n ∈ t.power.noCore ∧ (∀ o : Fin 5, (outputOf t n o).dead = true) ∧ (∀ i : Fin 24, (fluxOf t n i).dead = true) ∧
        flagF t (F.QERR_STAT_UNSPARABLE n) = true ∧ bitF t F.CHIP_FAULT_STAT_QUIRE n = true ∧ flagF t F.CHIP_FAULT_LATCH_CHIP = true
      let sound := coreDown s q = false ∧ ¬ settling
      let region : Fin 4 := ⟨q.val / 4, by omega⟩
      let bit := router.toNat
      let isDown := (tget s.power.vatman 0 g.val).testBit bit = true
      (completes (.bridgeParityError (.dac q o word)) s (fun t => counted t ∧
        outputOf t q o = { outputOf s q o with zeroed := (outputOf s q o).zeroed ++ [word] } ∧ onlyIn [.taints, .out, .head, .power] revised s t)) ∧
      (completes (.bridgeParityError (.flux q i word)) s (fun t => counted t ∧
        fluxOf t q i = { fluxOf s q i with zeroed := (fluxOf s q i).zeroed ++ [word] } ∧ onlyIn [.taints, .out, .head, .power] revised s t)) ∧
      (completes (.bridgeParityError (.adc q word)) s (fun t => counted t ∧ (∀ j : Fin 16, (cellOf t q j).wins = (cellOf s q j).wins.map (fun w =>
        if covers w then { w with bad := w.bad ++ [word] } else w)) ∧ onlyIn [.taints, .head, .power] revised s t)) ∧
      (up → ¬ switching → 0 < lanesLeft s g lane.out → completes (.bridgeLaneSwitch g lane) s (fun t =>
        t.power.spareLanes = tset s.power.spareLanes (g.val, lane.out) (lanesLeft s g lane.out - 1) ∧
        t.power.switching = s.power.switching ++ [(g.val, lane)] ∧ bitF t F.CHIP_FAULT_LATCH_REGION g = true ∧
        onlyIn [.post, .power] [.CHIP_FAULT_LATCH] s t)) ∧
      (up → ¬ switching → lanesLeft s g lane.out = 0 → completes (.bridgeLaneSwitch g lane) s (fun t => g.val ∈ t.power.lostLanes ∧
        flagF t F.CHIP_FAULT_LATCH_CHIP = true ∧ bitF t F.CHIP_FAULT_STAT_REGION g = true ∧ bitF t F.CHIP_FAULT_LATCH_REGION g = true ∧
        ((q, LaneEnd.drive o) ∈ lane.feeds → q.val / 4 = g → (outputOf t q o).dead = true) ∧
        ((q, LaneEnd.flux i) ∈ lane.feeds → q.val / 4 = g → (fluxOf t q i).dead = true) ∧
        ((q, LaneEnd.acq) ∈ lane.feeds → q.val / 4 = g → q.val ∈ t.head.cut ∧ ∀ j : Fin 16, (cellOf t q j).wins = []) ∧
        onlyIn [.taints, .post, .seq, .out, .head, .power] laneRegs s t)) ∧
      (¬ up ∨ switching → completes (.bridgeLaneSwitch g lane) s (fun t => t = s)) ∧
      (switching → completes (.bridgeLaneSwitchDone g lane) s (fun t => t.power.switching = s.power.switching.erase (g.val, lane) ∧
        t.post = { s.post with fired := s.post.fired ++ [416 + 4 * g.val] } ∧ onlyIn [.post, .power] [] s t)) ∧
      (¬ switching → completes (.bridgeLaneSwitchDone g lane) s (fun t => t = s)) ∧
      (¬ settling → (fluxOf s q i).faulty = false → completes (.cellFault (.flux q i)) s (fun t => (fluxOf t q i).faulty = true ∧ flagF t (F.FLX_LATCH_FAULT q i) = true ∧
        ladderCode t q i = ladderCode s q i ∧ flagF t (F.FLX_STAT_MUTED q i) = true ∧ unspared t ∧
        onlyIn [.post, .out, .power] ([.FLX_LATCH, .FLX_STAT, .FLX_CNT, .FLX_LADDER_NOW] ++ faulted) s t)) ∧
      ((fluxOf s q i).faulty = true → completes (.cellFault (.flux q i)) s (fun t => t = s)) ∧
      (¬ settling → (biasOf s q b).faulty = false → completes (.cellFault (.bias q b)) s (fun t => (biasOf t q b).faulty = true ∧ biasNow t q b = 0 ∧
        flagF t (F.BIAS_LATCH_MUTE q b) = true ∧ tget t.out.seqs none q.val = none ∧ unspared t ∧
        onlyIn [.post, .out, .power] ([.BIAS_NOW, .BIAS_SEQ, .BIAS_LATCH] ++ faulted) s t)) ∧
      ((biasOf s q b).faulty = true → completes (.cellFault (.bias q b)) s (fun t => t = s)) ∧
      (¬ settling → active → completes (.cellFault (.thread q k)) s (fun t => thrState t q k = stFault ∧ getF t (F.THR_STAT_FCAUSE q k) = 6 ∧
        unspared t ∧ onlyIn [.taints, .post, .seq, .head, .power] (faulted ++ lateRegs) s t)) ∧
      (¬ settling → ¬ active → completes (.cellFault (.thread q k)) s (fun t => unspared t ∧ onlyIn [.post, .power] faulted s t)) ∧
      (¬ settling → live → completes (.cellFault (.context q k)) s (fun t => ctxState t q k = stFault ∧ getF t (F.CTX_STAT_FCAUSE q k) = 5 ∧
        unspared t ∧ onlyIn [.post, .head, .beater, .power] ([.CTX_STAT, .CTX_LATCH, .HB_RQ_CREDIT] ++ faulted) s t)) ∧
      (¬ settling → ¬ live → completes (.cellFault (.context q k)) s (fun t => unspared t ∧ onlyIn [.post, .power] faulted s t)) ∧
      (completes (.cellFault (.handler q)) s (fun t => bitF t F.CHIP_FAULT_LATCH_REGION (q / 4) = true ∧ onlyIn [.post, .power] [.CHIP_FAULT_LATCH] s t)) ∧
      (settling → cellQuire cell = q → cell ≠ .handler q → completes (.cellFault cell) s (fun t => t = s)) ∧
      (idle → completes restores s (fun t => begun t ∧ getF t (F.QERR_CNT_RESTORES q) = (getF s (F.QERR_CNT_RESTORES q) + 1) % 2 ^ 16 ∧
        (sent → x.q = q → x.d = s.now → tget t.power.coreSubst none (q.val / 4) = none) ∧
        (tget s.out.subst none q.val = some (a, s.now) → tget t.out.subst none q.val = none ∧ flagF t (F.TONE_STAT_FAILED q a) = false) ∧
        onlyIn [.taints, .post, .seq, .out, .head, .beater, .sizing, .power]
          (revised ++ [.QERR_CNT, .SZ_Q_CNT, .SZ_Q_LATCH, .SZ_Q_STAT] ++ settledRegs ++ restoreRegs ++ faulted) s t)) ∧
      (¬ idle → completes restores s (fun t => t = s)) ∧
      (a < 0x6000000 → completes (.quireRestore q (some (.word a))) s (fun t => wordBad t a = false ∧ memRead t (a / 8 * 8) 8 = restoredWord a ∧
        bytesKeptBut (a / 8 * 8) 8 s t ∧ restoring t q = true ∧ bitF t F.MEM_ECC_LATCH_UE (memClass a) = true)) ∧
      (0x6000000 ≤ a → idle → completes (.quireRestore q (some (.word a))) s (fun t => begun t ∧ t.mem = s.mem)) ∧
      (completes (.quireRestore q (some (.mover e))) s (fun t => restoring t q = true ∧ bitF t F.MEM_ECC_LATCH_UE 2 = true ∧ t.mem = s.mem ∧
        (∀ p ∈ (results s q).queue.head?, ((results t q).queue.head?.map (·.words)) =
          some ((p.words.set e 0).set 0 (((p.words.set e 0).getD 0 0) ||| 0x2200))))) ∧
      (¬ idle → completes (.quireRestoreComplete ⟨q, failing⟩) s (fun t => restoring t q = false ∧ flagF t (F.QERR_STAT_RESTORE q) = false ∧
        quireEvent q 22 ∈ t.post.fired)) ∧
      (¬ idle → completes (.quireRestoreComplete ⟨q, []⟩) s (fun t => tget t.seq.held false q.val = coreDown s q ∧ checked t ∧
        (∀ o : Fin 5, flagF t (F.DRV_STAT_RESTORE q o) = false) ∧
        onlyIn [.post, .seq, .out, .head, .beater, .power] ([.QERR_STAT, .CHIP_FAULT_STAT] ++ restoreRegs) s t)) ∧
      (¬ idle → (fluxOf s q i).faulty = false → completes (.quireRestoreComplete ⟨q, [.flux i]⟩) s (fun t => (fluxOf t q i).faulty = true ∧ unspared t)) ∧
      (¬ idle → coreDown s q = false → spareCoreFree s (q / 4) = true → completes (.quireRestoreComplete ⟨q, [.core]⟩) s (fun t => sends t ∧
        tget t.seq.held false q.val = true)) ∧
      (idle → completes (.quireRestoreComplete ⟨q, failing⟩) s (fun t => t = s)) ∧
      (completes (.vatmanFault g router) s (fun t => (tget t.power.vatman 0 g.val).testBit bit = true ∧ regionUp t g = false ∧
        flagF t F.CHIP_FAULT_LATCH_CHIP = true ∧ flagF t F.CHIP_FAULT_STAT_CHIP = true ∧ bitF t F.CHIP_FAULT_STAT_REGION g = true ∧
        onlyIn [.post, .power] [.CHIP_FAULT_LATCH, .CHIP_FAULT_STAT] s t)) ∧
      (isDown → s.store.stalled = [] → completes (.vatmanRestartComplete g router) s (fun t => (tget t.power.vatman 0 g.val).testBit bit = false ∧
        (router = false → vatmanUp t g = true) ∧ onlyIn [.out, .head, .power] [.CHIP_FAULT_STAT] s t)) ∧
      (¬ isDown → completes (.vatmanRestartComplete g router) s (fun t => t = s)) ∧
      (sound → spareCoreFree s (q / 4) = true → completes (.coreFault q) s (fun t => sends t ∧ stops t ∧
        onlyIn [.post, .seq, .power] [.QERR_LATCH, .CHIP_FAULT_LATCH] s t)) ∧
      (sound → sent → q.val < x.q → x.d = s.now → completes (.coreFault q) s (fun t => sends t ∧ stops t ∧ lost x.q t ∧
        onlyIn [.taints, .post, .seq, .out, .head, .power] lostRegs s t)) ∧
      (sound → spareCoreFree s (q / 4) = false → coreYields s q = none → completes (.coreFault q) s (fun t => lost q t ∧ stops t ∧
        onlyIn [.taints, .post, .seq, .out, .head, .power] lostRegs s t)) ∧
      (¬ sound → completes (.coreFault q) s (fun t => t = s)) ∧
      (sent → x.q = q → vatmanUp s (q / 4) = true → completes (.coreSubstitution region true) s (fun t =>
        tget t.power.spareCore none (q.val / 4) = some q.val ∧ tget t.power.coreSubst none (q.val / 4) = none ∧ flagF t (F.QERR_STAT_CORE_SUBST q) = true ∧
        getF t (F.QERR_CNT_SUBST q) = (getF s (F.QERR_CNT_SUBST q) + 1) % 2 ^ 3 ∧ (idle → tget t.seq.held false q.val = false) ∧
        (¬ idle → t.seq = s.seq) ∧ onlyIn [.post, .seq, .power] ([.QERR_STAT, .QERR_CNT] ++ threadRegs) s t)) ∧
      (sent → x.q = q → vatmanUp s (q / 4) = true → completes (.coreSubstitution region false) s (fun t =>
        tget t.power.coreSubst none (q.val / 4) = none ∧ lost q t ∧ onlyIn [.taints, .post, .out, .head, .power] lostRegs s t)) ∧
      (tget s.power.coreSubst none g.val = none ∨ ¬ up → completes (.coreSubstitution g pass) s (fun t => t = s)) ∧
      (core.val ∉ s.power.restarting → completes (.watchdogExpiry core) s (fun t => t.power.restarting = s.power.restarting ++ [core.val] ∧
        flagF t F.CHIP_FAULT_LATCH_CHIP = true ∧ flagF t F.CHIP_FAULT_STAT_CHIP = true ∧
        onlyIn [.post, .power] [.CHIP_FAULT_LATCH, .CHIP_FAULT_STAT] s t)) ∧
      (core.val ∈ s.power.restarting → completes (.watchdogExpiry core) s (fun t => t = s)) ∧
      (core.val ∈ s.power.restarting → completes (.mgmtCoreRestart core) s (fun t => t.power = { s.power with restarting := s.power.restarting.filter (· != core.val) } ∧
        onlyIn [.power] [.CHIP_FAULT_STAT] s t)) ∧
      (core.val ∉ s.power.restarting → completes (.mgmtCoreRestart core) s (fun t => t = s))) ∧
  (∀ (s u v : State) (m : Master) (q k : Fin 16) (o : Fin 5) (i : Fin 24) (b : Fin 2) (c : Fin 32) (x : OutRef) (d : FtwUnit) (z : DkMap) (w : Fin 456)
      (n : Fin 4) (on router : Bool) (g : Fin 4) (code : BitVec 16) (ladder : BitVec 20) (word : BitVec 32) (hi : Fin 65536) (upper lower depth : Fin 1024)
      (hyst : Fin 8),
      let bank := fun (r : RegName) (y : Nat) => (⟨r, q, y, 0⟩ : Reg)
      let rows : List (Instr × Reg) := [
        (.threadStart m q k, bank .THR_CTRL k), (.threadStop m q k, bank .THR_CTRL k), (.threadFlush m q k, bank .THR_CTRL k),
        (.seqRun m q on, bank .SEQ_CTRL 0), (.streamEnable m q n c, bank .STRM_CTRL n), (.ftwCommit m q d hi, ftwReg q d),
        (.frameClr m q c, bank .TONE_CTRL c), (.pdCommit m q o, bank .DRV_PD_CTRL o), (.drvEnable m q o, bank .DRV_CFG o),
        (.rangeChange m q o n, bank .DRV_CFG o), (.softwareMute m q x on, muteReg q x), (.cwAmpWrite m q o code, bank .DRV_CW o),
        (.toneSpareForce m q k, bank .TONE_SPARE_CTRL 0), (.toneSpareRelease m q, bank .TONE_SPARE_CTRL 0),
        (.ladderWrite m q i ladder, bank .FLX_LADDER i), (.fluxEnable m q i, bank .FLX_CFG i), (.fluxDisable m q i, bank .FLX_CFG i),
        (.fluxRangeChange m q i n on, bank .FLX_CFG i), (.pressCommit m q i, bank .FLX_PRESS_CTRL i), (.pressClr m q i, bank .FLX_PRESS_CTRL i),
        (.biasSetWrite m q b code, bank .BIAS_SET b), (.biasSeqUp m q, bank .BIAS_SEQ 0), (.biasSeqDown m q, bank .BIAS_SEQ 0),
        (.dkWinThrWrite m w upper lower hyst, ⟨.DK_WIN_THR, w, 0, 0⟩), (.dkMapWrite m z, dkMapReg z),
        (.acqEnable m q, bank .HB_CTRL 0), (.discCommit m q, bank .HB_CTRL 0), (.resultQueueEnable m q on n depth, bank .HB_RQ_CFG 0),
        (.dstRdWrite m q word, bank .HB_RQ_DST_RD 0), (.resultPop m q, bank .HB_RQ_POP 0),
        (.readoutSpareForce m q on k, bank .HB_SPARE_CTRL 0), (.readoutSpareRelease m q, bank .HB_SPARE_CTRL 0),
        (.ctxStart m q k, bank .CTX_CTRL k), (.ctxStop m q k, bank .CTX_CTRL k), (.beaterEnable m q on, bank .BT_CTRL 0),
        (.beaterForce m q, bank .BT_CTRL 0), (.beaterRelease m q, bank .BT_CTRL 0), (.captureArm m q, bank .CAP_CTRL 0),
        (.captureStop m q, bank .CAP_CTRL 0), (.captureForce m q, bank .CAP_CTRL 0), (.captureCntClr m q, bank .CAP_CTRL 0),
        (.capRdWrite m q word, bank .CAP_RD 0)]
      let restart := Instr.vatmanRestartComplete g router
      let cleared := { s with store := { s.store with stalled := [] } }
      (∀ p ∈ rows, accessStalls s p.2 = true → completes p.1 s (fun t => t.store.stalled = s.store.stalled.concat p.1 ∧
        t.store = { s.store with stalled := t.store.stalled } ∧ onlyIn [.store] [] s t)) ∧
      (∀ p ∈ rows, accessStalls s p.2 = false → regPowered s p.2 = false → completes p.1 s (fun t => errorAnswered m Err.poweredOff.code s t)) ∧
      ((tget s.power.vatman 0 g.val).testBit router.toNat = true → s.store.stalled.length = 1 → completes restart cleared (fun t => t = u) →
        (∀ p ∈ rows, s.store.stalled.contains p.1 = true → completes p.1 u (fun t => t = v) → completes restart s (fun t => t = v))))

/-- Reset, boot, shot boundaries and ticks: RESET_N, VDD_IO and the Loft's power-on reset the device, each with its cause; at the rising edge the straps
are sampled; the boot ROM starts the first image that qualifies, with the calibration sets stored and every stored value without an entry counted
refused, or holds for recovery; a boundary is acted on once in a tick that is one; a tick advances device time while the dividers run (R2, R3, R30,
R47, R56, R97, R395, R409, R410, R442, R465, R474, R476). Where the statement says that an event which is not due changes nothing, that is the
model's choice (log entry 2). Its reading of what the rules leave open is the model's (log entries 3, 73, 84). -/
def Obligations.ResetBootAndTick : Prop :=
  ∀ (s : State) (on : Bool) (p m : Bool × Bool × Bool) (k : Slot) (svn : Nat) (q : Fin 16) (ps : List SzPoint) (vs : List ((Nat × Nat) × List Nat)),
    let pers := majority p.1 p.2.1 p.2.2
    let falls := fun (cause : Nat) (t : State) => isReset s t ∧ getF t F.PWR_RST_CAUSE_CAUSE = cause ∧ t.power.inReset = true ∧
      (∀ d : Fin 144, domainOn t d = false)
    let begins := s.power.inReset = true ∧ s.power.loftOn = true
    let rom := s.power.booting = true ∧ s.power.inReset = false ∧ s.power.loftOn = true ∧ s.power.tripped = false
    let sec := trialBoot (zeroFinish s.sec)
    let due := boundaryDue s = true
    (s.power.inReset = false → s.power.tripped = false → completes .resetNFall s (falls 2)) ∧
    (s.power.inReset = false → s.power.tripped = true → completes .resetNFall s (falls 8)) ∧
    (s.power.inReset = true → completes .resetNFall s (fun t => t = s)) ∧
    (s.power.inReset = false → completes .vddIoFall s (falls 1)) ∧
    (s.power.inReset = true → completes .vddIoFall s (fun t => t = s)) ∧
    (on ≠ s.power.loftOn → completes (.loftPowerOn on) s (fun t => falls 1 t ∧ t.power.loftOn = on ∧ t.power.ring = [])) ∧
    (on = s.power.loftOn → completes (.loftPowerOn on) s (fun t => t = s)) ∧
    (begins → completes (.resetNRise p m) s (fun t => t.power = { s.power with inReset := false, booting := true } ∧ flagF t F.CHIP_PERS_STRAP = pers ∧
      flagF t F.CHIP_PERS_MASTER = majority m.1 m.2.1 m.2.2 ∧ (flagF s F.CHIP_PERS_FUSED = false → flagF t F.CHIP_PERS_ACTIVE = pers) ∧
      (flagF s F.CHIP_PERS_FUSED = true → getF t F.CHIP_PERS_ACTIVE = getF s F.CHIP_PERS_ACTIVE) ∧
      (∀ d : Fin 144, d.val < 80 ∨ 112 ≤ d.val → domainOn t d = true) ∧ onlyIn [.power] [.CHIP_PERS, .PWR_DOM] s t)) ∧
    (¬ begins → completes (.resetNRise p m) s (fun t => t = s)) ∧
    (rom → bootImage { s with sec := sec } = none → completes .boot s (fun t => getF t F.SEC_STAT_BOOT_SRC = 3 ∧ t.sec = sec ∧
      t.power = { s.power with booting := false } ∧ onlyIn [.sec, .power] [.SEC_STAT] s t)) ∧
    (rom → bootImage { s with sec := sec } = some (k, svn) → recordData s .values = none → completes .boot s (fun t =>
      getF t F.SEC_STAT_BOOT_SRC = slotCode k ∧ t.sec.running = true ∧ t.power.booting = false ∧ t.store = s.store ∧ t.host = s.host ∧ t.mem = s.mem ∧
      getF t F.REAM_STAT_INVALID = min 255 (s.store.records.filter (fun x => x.2.any (fun r => !r.valid))).length ∧
      (recordData s (.factorySet q) = some (.points ps) → (szOf t q).factory = ps) ∧
      (recordData s (.fieldSet q) = some (.points ps) → (szOf t q).field = recordPoints ps ∧ (szOf t q).block = recordBlock ps))) ∧
    (rom → bootImage { s with sec := sec } = some (k, svn) → recordData s .values = some (.values vs) → (∀ x ∈ vs, dictEntry x.1.1 x.1.2 = none) →
      completes .boot s (fun t => t.sec.running = true ∧ t.host = { s.host with refused := s.host.refused + vs.length })) ∧
    (rom → bootImage { s with sec := sec } = some (k, svn) → s.store.records = [] → completes .boot s (fun t => getF t F.SEC_STAT_BOOT_SRC = slotCode k ∧
      getF t F.SEC_SVN_IMAGE = svn % 2 ^ F.SEC_SVN_IMAGE.width ∧ t.sec = { sec with running := true } ∧ t.power.booting = false ∧
      (flagF s F.PWR_STAT_CORE_WARN = false → t.power.log = s.power.log ++ s.power.ring ∧ t.power.ring = []) ∧
      onlyIn [.sec, .power] [.SEC_STAT, .SEC_SVN, .REAM_STAT] s t)) ∧
    (¬ rom → completes .boot s (fun t => t = s)) ∧
    (due → (s.chain.prepared = none ∨ s.chain.learned ≠ some s.now) → completes .shotBoundary s (fun t => t.bounds = s.now :: s.bounds ∧ (31 ∈ t.post.fired) ∧
      t.seq.announced = s.seq.announced.filter (fun b => decide (s.now < b)) ∧
      (∀ q : Fin 16, (flagF s (F.SEQ_CTRL_EVCLR_SHOT q) = true → getF t (F.SEQ_EVFLAG_FLAG q) = 0) ∧ flagF t (F.HB_CTRL_PENDING q) = false ∧
        (∀ o : Fin 5, flagF t (F.DRV_PD_CTRL_PENDING q o) = false) ∧ (∀ i : Fin 24, flagF t (F.FLX_PRESS_CTRL_PENDING q i) = false)) ∧
      (flagF s F.CL_STAT_OUT_EPOCH = true → ⟨s.now, none, .fenced⟩ ∈ t.taints) ∧
      onlyIn [.bounds, .sched, .taints, .post, .seq, .out, .deckle, .head, .couch, .time, .chain, .sizing, .power] boundaryRegs s t)) ∧
    (¬ due → completes .shotBoundary s (fun t => t = s)) ∧
    (s.time.started = true → completes .deviceTimeTick s (fun t => t.now = s.now + 1 ∧ t.post.ps = s.post.ps + 2000 ∧
      (s.beater.stores = [] → t.mem = s.mem) ∧
      onlyIn [.mem, .now, .free, .sched, .taints, .post, .seq, .out, .head, .beater, .couch, .capture, .time, .chain, .sizing, .power] tickRegs s t)) ∧
    (s.time.started = false → completes .deviceTimeTick s (fun t => t = s))

/-- A step takes the command at the front of the queue and runs it on the state with the queue's rest; with nothing waiting the block idles. The idle
step is the model's choice (log entry 1). -/
def Obligations.FrontCommandRuns : Prop :=
  ∀ (s : State) (c : Instr) (rest : List Instr),
    step { s with pending := c :: rest } = exec c { s with pending := rest } ∧ (s.pending = [] → step s = .next s) ∧
    step (s.withCommand c) = exec c s

/-- The machine right after reset reads as the register tables say in every kind of state: no memory is listed, nothing waits, threads, contexts,
players and channels are idle and disabled, latches are clear, and the limits hold their stated values. Its reading of what the rules leave open is
the model's (log entry 9). -/
def Obligations.ResetState : Prop :=
  let s := State.reset
  Memory.wf s.mem = true ∧ s.pending = [] ∧ s.emitted = [] ∧
  (∀ q k : Fin 16, thrState s q k = stIdle ∧ ctxState s q k = stIdle ∧ getF s (F.SEQ_LAH_LAH_MAX q) = 0xC350 ∧ getF s (F.SEQ_LAH_START_GAP q) = 0x64 ∧
    getF s (F.SEQ_SYNC_TMO_TMO q) = 0x7A120 ∧ getF s (F.SEQ_EVFLAG_FLAG q) = 0 ∧ quireIdle s q = true) ∧
  (∀ (q : Fin 16) (o : Fin 5), flagF s (F.DRV_CFG_EN q o) = false) ∧ (∀ (q : Fin 16) (i : Fin 24), flagF s (F.FLX_CFG_EN q i) = false) ∧
  (∀ (q : Fin 16) (b : Fin 2), flagF s (F.BIAS_CFG_EN q b) = false ∧ getF s (F.BIAS_CFG_ILIM q b) = 0xA) ∧
  getF s F.CHIP_IDENT_PART = 0xC256 ∧ getF s F.CHIP_FAULT_LATCH_QUIRE = 0 ∧ getF s F.CHIP_FAULT_LATCH_REGION = 0 ∧ getF s F.CHIP_FAULT_LATCH_CHIP = 0 ∧
  getF s F.NOC_ARB_W_TC1 = 4 ∧ getF s F.NOC_ARB_TC0_RES = 0x80 ∧ getF s F.PWR_SHOTCAP_PER = 0x7D0 ∧ getF s F.PWR_STOP_BIAS_TMO = 0x1F4 ∧
  getF s F.PWR_STAT_STATE = 0 ∧ getF s F.THM_STAT_STATE = 0 ∧ (∀ d : Fin 8, getF s (F.LOFT_DEC_A_HI d) = 0x7FFF) ∧ timeStatus s = tsUnsync

/-- Every command completes, and commands leave the queue in the order they entered it: a step takes away the front one and no other, and puts none in. -/
def Obligations.QueueIsFirstInFirstOut : Prop :=
  ∀ (s : State), safeStep s ∧ ∀ t, step s = .next t → t.pending = s.pending.tail

/-- Memory keeps its canonical form, addresses strictly rising and no byte listed that reads as an unlisted one: every step keeps it. Its reading of
what the rules leave open is the model's (log entry 6). -/
def Obligations.MemoryStaysCanonical : Prop :=
  ∀ (s t : State), Memory.wf s.mem = true → step s = .next t → Memory.wf t.mem = true

/-- The words of stored programs: every sequencer instruction whose reserved bits are zero has a word of 64 bits from which the same instruction is
read, and so has every Beater instruction (R94, R239 to R241). Its reading of what the rules leave open is the model's (log entry 25). -/
def Obligations.ProgramWords : Prop :=
  ∀ (i : Instr) (w : Nat),
    (threadWord i = some w → w < 2 ^ 64 ∧ ∃ q t, threadInstr q t w = i) ∧ (contextWord i = some w → w < 2 ^ 64 ∧ ∃ q c, contextInstr q c w = i)
end

