-- ==== Sys2Proof/Laws/State.lean ====
section
/-! SUPPORT. What each primitive update leaves of each field of the state, and what it makes of the field it changes; what it leaves of the
register fields. -/

namespace Sys2Proof.Machine

/-! ### setF -/

@[simp] theorem setF_regs (s : State) (f : Fld) (v : Nat) : (setF s f v).regs = tset s.regs f.key (v % 2 ^ f.width) := rfl
@[simp] theorem setF_mem (s : State) (f : Fld) (v : Nat) : (setF s f v).mem = s.mem := rfl
@[simp] theorem setF_now (s : State) (f : Fld) (v : Nat) : (setF s f v).now = s.now := rfl
@[simp] theorem setF_free (s : State) (f : Fld) (v : Nat) : (setF s f v).free = s.free := rfl
@[simp] theorem setF_sched (s : State) (f : Fld) (v : Nat) : (setF s f v).sched = s.sched := rfl
@[simp] theorem setF_bounds (s : State) (f : Fld) (v : Nat) : (setF s f v).bounds = s.bounds := rfl
@[simp] theorem setF_taints (s : State) (f : Fld) (v : Nat) : (setF s f v).taints = s.taints := rfl
@[simp] theorem setF_post (s : State) (f : Fld) (v : Nat) : (setF s f v).post = s.post := rfl
@[simp] theorem setF_seq (s : State) (f : Fld) (v : Nat) : (setF s f v).seq = s.seq := rfl
@[simp] theorem setF_out (s : State) (f : Fld) (v : Nat) : (setF s f v).out = s.out := rfl
@[simp] theorem setF_deckle (s : State) (f : Fld) (v : Nat) : (setF s f v).deckle = s.deckle := rfl
@[simp] theorem setF_head (s : State) (f : Fld) (v : Nat) : (setF s f v).head = s.head := rfl
@[simp] theorem setF_beater (s : State) (f : Fld) (v : Nat) : (setF s f v).beater = s.beater := rfl
@[simp] theorem setF_couch (s : State) (f : Fld) (v : Nat) : (setF s f v).couch = s.couch := rfl
@[simp] theorem setF_capture (s : State) (f : Fld) (v : Nat) : (setF s f v).capture = s.capture := rfl
@[simp] theorem setF_time (s : State) (f : Fld) (v : Nat) : (setF s f v).time = s.time := rfl
@[simp] theorem setF_chain (s : State) (f : Fld) (v : Nat) : (setF s f v).chain = s.chain := rfl
@[simp] theorem setF_store (s : State) (f : Fld) (v : Nat) : (setF s f v).store = s.store := rfl
@[simp] theorem setF_host (s : State) (f : Fld) (v : Nat) : (setF s f v).host = s.host := rfl
@[simp] theorem setF_sec (s : State) (f : Fld) (v : Nat) : (setF s f v).sec = s.sec := rfl
@[simp] theorem setF_sizing (s : State) (f : Fld) (v : Nat) : (setF s f v).sizing = s.sizing := rfl
@[simp] theorem setF_power (s : State) (f : Fld) (v : Nat) : (setF s f v).power = s.power := rfl
@[simp] theorem setF_emitted (s : State) (f : Fld) (v : Nat) : (setF s f v).emitted = s.emitted := rfl
@[simp] theorem setF_pending (s : State) (f : Fld) (v : Nat) : (setF s f v).pending = s.pending := rfl

/-! ### setB -/

@[simp] theorem setB_regs (s : State) (f : Fld) (b : Bool) : (setB s f b).regs = tset s.regs f.key (b.toNat % 2 ^ f.width) := rfl
@[simp] theorem setB_mem (s : State) (f : Fld) (b : Bool) : (setB s f b).mem = s.mem := rfl
@[simp] theorem setB_now (s : State) (f : Fld) (b : Bool) : (setB s f b).now = s.now := rfl
@[simp] theorem setB_free (s : State) (f : Fld) (b : Bool) : (setB s f b).free = s.free := rfl
@[simp] theorem setB_sched (s : State) (f : Fld) (b : Bool) : (setB s f b).sched = s.sched := rfl
@[simp] theorem setB_bounds (s : State) (f : Fld) (b : Bool) : (setB s f b).bounds = s.bounds := rfl
@[simp] theorem setB_taints (s : State) (f : Fld) (b : Bool) : (setB s f b).taints = s.taints := rfl
@[simp] theorem setB_post (s : State) (f : Fld) (b : Bool) : (setB s f b).post = s.post := rfl
@[simp] theorem setB_seq (s : State) (f : Fld) (b : Bool) : (setB s f b).seq = s.seq := rfl
@[simp] theorem setB_out (s : State) (f : Fld) (b : Bool) : (setB s f b).out = s.out := rfl
@[simp] theorem setB_deckle (s : State) (f : Fld) (b : Bool) : (setB s f b).deckle = s.deckle := rfl
@[simp] theorem setB_head (s : State) (f : Fld) (b : Bool) : (setB s f b).head = s.head := rfl
@[simp] theorem setB_beater (s : State) (f : Fld) (b : Bool) : (setB s f b).beater = s.beater := rfl
@[simp] theorem setB_couch (s : State) (f : Fld) (b : Bool) : (setB s f b).couch = s.couch := rfl
@[simp] theorem setB_capture (s : State) (f : Fld) (b : Bool) : (setB s f b).capture = s.capture := rfl
@[simp] theorem setB_time (s : State) (f : Fld) (b : Bool) : (setB s f b).time = s.time := rfl
@[simp] theorem setB_chain (s : State) (f : Fld) (b : Bool) : (setB s f b).chain = s.chain := rfl
@[simp] theorem setB_store (s : State) (f : Fld) (b : Bool) : (setB s f b).store = s.store := rfl
@[simp] theorem setB_host (s : State) (f : Fld) (b : Bool) : (setB s f b).host = s.host := rfl
@[simp] theorem setB_sec (s : State) (f : Fld) (b : Bool) : (setB s f b).sec = s.sec := rfl
@[simp] theorem setB_sizing (s : State) (f : Fld) (b : Bool) : (setB s f b).sizing = s.sizing := rfl
@[simp] theorem setB_power (s : State) (f : Fld) (b : Bool) : (setB s f b).power = s.power := rfl
@[simp] theorem setB_emitted (s : State) (f : Fld) (b : Bool) : (setB s f b).emitted = s.emitted := rfl
@[simp] theorem setB_pending (s : State) (f : Fld) (b : Bool) : (setB s f b).pending = s.pending := rfl

/-! ### setS -/

@[simp] theorem setS_regs (s : State) (f : Fld) (v : Int) : (setS s f v).regs = tset s.regs f.key (ofSigned f.width v % 2 ^ f.width) := rfl
@[simp] theorem setS_mem (s : State) (f : Fld) (v : Int) : (setS s f v).mem = s.mem := rfl
@[simp] theorem setS_now (s : State) (f : Fld) (v : Int) : (setS s f v).now = s.now := rfl
@[simp] theorem setS_free (s : State) (f : Fld) (v : Int) : (setS s f v).free = s.free := rfl
@[simp] theorem setS_sched (s : State) (f : Fld) (v : Int) : (setS s f v).sched = s.sched := rfl
@[simp] theorem setS_bounds (s : State) (f : Fld) (v : Int) : (setS s f v).bounds = s.bounds := rfl
@[simp] theorem setS_taints (s : State) (f : Fld) (v : Int) : (setS s f v).taints = s.taints := rfl
@[simp] theorem setS_post (s : State) (f : Fld) (v : Int) : (setS s f v).post = s.post := rfl
@[simp] theorem setS_seq (s : State) (f : Fld) (v : Int) : (setS s f v).seq = s.seq := rfl
@[simp] theorem setS_out (s : State) (f : Fld) (v : Int) : (setS s f v).out = s.out := rfl
@[simp] theorem setS_deckle (s : State) (f : Fld) (v : Int) : (setS s f v).deckle = s.deckle := rfl
@[simp] theorem setS_head (s : State) (f : Fld) (v : Int) : (setS s f v).head = s.head := rfl
@[simp] theorem setS_beater (s : State) (f : Fld) (v : Int) : (setS s f v).beater = s.beater := rfl
@[simp] theorem setS_couch (s : State) (f : Fld) (v : Int) : (setS s f v).couch = s.couch := rfl
@[simp] theorem setS_capture (s : State) (f : Fld) (v : Int) : (setS s f v).capture = s.capture := rfl
@[simp] theorem setS_time (s : State) (f : Fld) (v : Int) : (setS s f v).time = s.time := rfl
@[simp] theorem setS_chain (s : State) (f : Fld) (v : Int) : (setS s f v).chain = s.chain := rfl
@[simp] theorem setS_store (s : State) (f : Fld) (v : Int) : (setS s f v).store = s.store := rfl
@[simp] theorem setS_host (s : State) (f : Fld) (v : Int) : (setS s f v).host = s.host := rfl
@[simp] theorem setS_sec (s : State) (f : Fld) (v : Int) : (setS s f v).sec = s.sec := rfl
@[simp] theorem setS_sizing (s : State) (f : Fld) (v : Int) : (setS s f v).sizing = s.sizing := rfl
@[simp] theorem setS_power (s : State) (f : Fld) (v : Int) : (setS s f v).power = s.power := rfl
@[simp] theorem setS_emitted (s : State) (f : Fld) (v : Int) : (setS s f v).emitted = s.emitted := rfl
@[simp] theorem setS_pending (s : State) (f : Fld) (v : Int) : (setS s f v).pending = s.pending := rfl

/-! ### incF -/

@[simp] theorem incF_regs (s : State) (f : Fld) : (incF s f).regs = tset s.regs f.key ((getF s f + 1) % 2 ^ f.width) := rfl
@[simp] theorem incF_mem (s : State) (f : Fld) : (incF s f).mem = s.mem := rfl
@[simp] theorem incF_now (s : State) (f : Fld) : (incF s f).now = s.now := rfl
@[simp] theorem incF_free (s : State) (f : Fld) : (incF s f).free = s.free := rfl
@[simp] theorem incF_sched (s : State) (f : Fld) : (incF s f).sched = s.sched := rfl
@[simp] theorem incF_bounds (s : State) (f : Fld) : (incF s f).bounds = s.bounds := rfl
@[simp] theorem incF_taints (s : State) (f : Fld) : (incF s f).taints = s.taints := rfl
@[simp] theorem incF_post (s : State) (f : Fld) : (incF s f).post = s.post := rfl
@[simp] theorem incF_seq (s : State) (f : Fld) : (incF s f).seq = s.seq := rfl
@[simp] theorem incF_out (s : State) (f : Fld) : (incF s f).out = s.out := rfl
@[simp] theorem incF_deckle (s : State) (f : Fld) : (incF s f).deckle = s.deckle := rfl
@[simp] theorem incF_head (s : State) (f : Fld) : (incF s f).head = s.head := rfl
@[simp] theorem incF_beater (s : State) (f : Fld) : (incF s f).beater = s.beater := rfl
@[simp] theorem incF_couch (s : State) (f : Fld) : (incF s f).couch = s.couch := rfl
@[simp] theorem incF_capture (s : State) (f : Fld) : (incF s f).capture = s.capture := rfl
@[simp] theorem incF_time (s : State) (f : Fld) : (incF s f).time = s.time := rfl
@[simp] theorem incF_chain (s : State) (f : Fld) : (incF s f).chain = s.chain := rfl
@[simp] theorem incF_store (s : State) (f : Fld) : (incF s f).store = s.store := rfl
@[simp] theorem incF_host (s : State) (f : Fld) : (incF s f).host = s.host := rfl
@[simp] theorem incF_sec (s : State) (f : Fld) : (incF s f).sec = s.sec := rfl
@[simp] theorem incF_sizing (s : State) (f : Fld) : (incF s f).sizing = s.sizing := rfl
@[simp] theorem incF_power (s : State) (f : Fld) : (incF s f).power = s.power := rfl
@[simp] theorem incF_emitted (s : State) (f : Fld) : (incF s f).emitted = s.emitted := rfl
@[simp] theorem incF_pending (s : State) (f : Fld) : (incF s f).pending = s.pending := rfl

/-! ### addF -/

@[simp] theorem addF_regs (s : State) (f : Fld) (n : Nat) : (addF s f n).regs = tset s.regs f.key ((getF s f + n) % 2 ^ f.width) := rfl
@[simp] theorem addF_mem (s : State) (f : Fld) (n : Nat) : (addF s f n).mem = s.mem := rfl
@[simp] theorem addF_now (s : State) (f : Fld) (n : Nat) : (addF s f n).now = s.now := rfl
@[simp] theorem addF_free (s : State) (f : Fld) (n : Nat) : (addF s f n).free = s.free := rfl
@[simp] theorem addF_sched (s : State) (f : Fld) (n : Nat) : (addF s f n).sched = s.sched := rfl
@[simp] theorem addF_bounds (s : State) (f : Fld) (n : Nat) : (addF s f n).bounds = s.bounds := rfl
@[simp] theorem addF_taints (s : State) (f : Fld) (n : Nat) : (addF s f n).taints = s.taints := rfl
@[simp] theorem addF_post (s : State) (f : Fld) (n : Nat) : (addF s f n).post = s.post := rfl
@[simp] theorem addF_seq (s : State) (f : Fld) (n : Nat) : (addF s f n).seq = s.seq := rfl
@[simp] theorem addF_out (s : State) (f : Fld) (n : Nat) : (addF s f n).out = s.out := rfl
@[simp] theorem addF_deckle (s : State) (f : Fld) (n : Nat) : (addF s f n).deckle = s.deckle := rfl
@[simp] theorem addF_head (s : State) (f : Fld) (n : Nat) : (addF s f n).head = s.head := rfl
@[simp] theorem addF_beater (s : State) (f : Fld) (n : Nat) : (addF s f n).beater = s.beater := rfl
@[simp] theorem addF_couch (s : State) (f : Fld) (n : Nat) : (addF s f n).couch = s.couch := rfl
@[simp] theorem addF_capture (s : State) (f : Fld) (n : Nat) : (addF s f n).capture = s.capture := rfl
@[simp] theorem addF_time (s : State) (f : Fld) (n : Nat) : (addF s f n).time = s.time := rfl
@[simp] theorem addF_chain (s : State) (f : Fld) (n : Nat) : (addF s f n).chain = s.chain := rfl
@[simp] theorem addF_store (s : State) (f : Fld) (n : Nat) : (addF s f n).store = s.store := rfl
@[simp] theorem addF_host (s : State) (f : Fld) (n : Nat) : (addF s f n).host = s.host := rfl
@[simp] theorem addF_sec (s : State) (f : Fld) (n : Nat) : (addF s f n).sec = s.sec := rfl
@[simp] theorem addF_sizing (s : State) (f : Fld) (n : Nat) : (addF s f n).sizing = s.sizing := rfl
@[simp] theorem addF_power (s : State) (f : Fld) (n : Nat) : (addF s f n).power = s.power := rfl
@[simp] theorem addF_emitted (s : State) (f : Fld) (n : Nat) : (addF s f n).emitted = s.emitted := rfl
@[simp] theorem addF_pending (s : State) (f : Fld) (n : Nat) : (addF s f n).pending = s.pending := rfl

/-! ### setBitF -/

@[simp] theorem setBitF_regs (s : State) (f : Fld) (n : Nat) (b : Bool) : (setBitF s f n b).regs = tset s.regs f.key (putBit (getF s f) n b % 2 ^ f.width) := rfl
@[simp] theorem setBitF_mem (s : State) (f : Fld) (n : Nat) (b : Bool) : (setBitF s f n b).mem = s.mem := rfl
@[simp] theorem setBitF_now (s : State) (f : Fld) (n : Nat) (b : Bool) : (setBitF s f n b).now = s.now := rfl
@[simp] theorem setBitF_free (s : State) (f : Fld) (n : Nat) (b : Bool) : (setBitF s f n b).free = s.free := rfl
@[simp] theorem setBitF_sched (s : State) (f : Fld) (n : Nat) (b : Bool) : (setBitF s f n b).sched = s.sched := rfl
@[simp] theorem setBitF_bounds (s : State) (f : Fld) (n : Nat) (b : Bool) : (setBitF s f n b).bounds = s.bounds := rfl
@[simp] theorem setBitF_taints (s : State) (f : Fld) (n : Nat) (b : Bool) : (setBitF s f n b).taints = s.taints := rfl
@[simp] theorem setBitF_post (s : State) (f : Fld) (n : Nat) (b : Bool) : (setBitF s f n b).post = s.post := rfl
@[simp] theorem setBitF_seq (s : State) (f : Fld) (n : Nat) (b : Bool) : (setBitF s f n b).seq = s.seq := rfl
@[simp] theorem setBitF_out (s : State) (f : Fld) (n : Nat) (b : Bool) : (setBitF s f n b).out = s.out := rfl
@[simp] theorem setBitF_deckle (s : State) (f : Fld) (n : Nat) (b : Bool) : (setBitF s f n b).deckle = s.deckle := rfl
@[simp] theorem setBitF_head (s : State) (f : Fld) (n : Nat) (b : Bool) : (setBitF s f n b).head = s.head := rfl
@[simp] theorem setBitF_beater (s : State) (f : Fld) (n : Nat) (b : Bool) : (setBitF s f n b).beater = s.beater := rfl
@[simp] theorem setBitF_couch (s : State) (f : Fld) (n : Nat) (b : Bool) : (setBitF s f n b).couch = s.couch := rfl
@[simp] theorem setBitF_capture (s : State) (f : Fld) (n : Nat) (b : Bool) : (setBitF s f n b).capture = s.capture := rfl
@[simp] theorem setBitF_time (s : State) (f : Fld) (n : Nat) (b : Bool) : (setBitF s f n b).time = s.time := rfl
@[simp] theorem setBitF_chain (s : State) (f : Fld) (n : Nat) (b : Bool) : (setBitF s f n b).chain = s.chain := rfl
@[simp] theorem setBitF_store (s : State) (f : Fld) (n : Nat) (b : Bool) : (setBitF s f n b).store = s.store := rfl
@[simp] theorem setBitF_host (s : State) (f : Fld) (n : Nat) (b : Bool) : (setBitF s f n b).host = s.host := rfl
@[simp] theorem setBitF_sec (s : State) (f : Fld) (n : Nat) (b : Bool) : (setBitF s f n b).sec = s.sec := rfl
@[simp] theorem setBitF_sizing (s : State) (f : Fld) (n : Nat) (b : Bool) : (setBitF s f n b).sizing = s.sizing := rfl
@[simp] theorem setBitF_power (s : State) (f : Fld) (n : Nat) (b : Bool) : (setBitF s f n b).power = s.power := rfl
@[simp] theorem setBitF_emitted (s : State) (f : Fld) (n : Nat) (b : Bool) : (setBitF s f n b).emitted = s.emitted := rfl
@[simp] theorem setBitF_pending (s : State) (f : Fld) (n : Nat) (b : Bool) : (setBitF s f n b).pending = s.pending := rfl

/-! ### fire -/

@[simp] theorem fire_regs (s : State) (p : Nat) : (fire s p).regs = s.regs := rfl
@[simp] theorem fire_mem (s : State) (p : Nat) : (fire s p).mem = s.mem := rfl
@[simp] theorem fire_now (s : State) (p : Nat) : (fire s p).now = s.now := rfl
@[simp] theorem fire_free (s : State) (p : Nat) : (fire s p).free = s.free := rfl
@[simp] theorem fire_sched (s : State) (p : Nat) : (fire s p).sched = s.sched := rfl
@[simp] theorem fire_bounds (s : State) (p : Nat) : (fire s p).bounds = s.bounds := rfl
@[simp] theorem fire_taints (s : State) (p : Nat) : (fire s p).taints = s.taints := rfl
@[simp] theorem fire_post (s : State) (p : Nat) : (fire s p).post = { s.post with fired := s.post.fired ++ [p] } := rfl
@[simp] theorem fire_seq (s : State) (p : Nat) : (fire s p).seq = s.seq := rfl
@[simp] theorem fire_out (s : State) (p : Nat) : (fire s p).out = s.out := rfl
@[simp] theorem fire_deckle (s : State) (p : Nat) : (fire s p).deckle = s.deckle := rfl
@[simp] theorem fire_head (s : State) (p : Nat) : (fire s p).head = s.head := rfl
@[simp] theorem fire_beater (s : State) (p : Nat) : (fire s p).beater = s.beater := rfl
@[simp] theorem fire_couch (s : State) (p : Nat) : (fire s p).couch = s.couch := rfl
@[simp] theorem fire_capture (s : State) (p : Nat) : (fire s p).capture = s.capture := rfl
@[simp] theorem fire_time (s : State) (p : Nat) : (fire s p).time = s.time := rfl
@[simp] theorem fire_chain (s : State) (p : Nat) : (fire s p).chain = s.chain := rfl
@[simp] theorem fire_store (s : State) (p : Nat) : (fire s p).store = s.store := rfl
@[simp] theorem fire_host (s : State) (p : Nat) : (fire s p).host = s.host := rfl
@[simp] theorem fire_sec (s : State) (p : Nat) : (fire s p).sec = s.sec := rfl
@[simp] theorem fire_sizing (s : State) (p : Nat) : (fire s p).sizing = s.sizing := rfl
@[simp] theorem fire_power (s : State) (p : Nat) : (fire s p).power = s.power := rfl
@[simp] theorem fire_emitted (s : State) (p : Nat) : (fire s p).emitted = s.emitted := rfl
@[simp] theorem fire_pending (s : State) (p : Nat) : (fire s p).pending = s.pending := rfl
@[simp] theorem getF_fire (s : State) (p : Nat) (g : Fld) : getF (fire s p) g = getF s g := rfl

/-! ### after -/

@[simp] theorem after_regs (s : State) (n : Nat) (a : Act) : (after s n a).regs = s.regs := rfl
@[simp] theorem after_mem (s : State) (n : Nat) (a : Act) : (after s n a).mem = s.mem := rfl
@[simp] theorem after_now (s : State) (n : Nat) (a : Act) : (after s n a).now = s.now := rfl
@[simp] theorem after_free (s : State) (n : Nat) (a : Act) : (after s n a).free = s.free := rfl
@[simp] theorem after_sched (s : State) (n : Nat) (a : Act) : (after s n a).sched = s.sched ++ [(n, a)] := rfl
@[simp] theorem after_bounds (s : State) (n : Nat) (a : Act) : (after s n a).bounds = s.bounds := rfl
@[simp] theorem after_taints (s : State) (n : Nat) (a : Act) : (after s n a).taints = s.taints := rfl
@[simp] theorem after_post (s : State) (n : Nat) (a : Act) : (after s n a).post = s.post := rfl
@[simp] theorem after_seq (s : State) (n : Nat) (a : Act) : (after s n a).seq = s.seq := rfl
@[simp] theorem after_out (s : State) (n : Nat) (a : Act) : (after s n a).out = s.out := rfl
@[simp] theorem after_deckle (s : State) (n : Nat) (a : Act) : (after s n a).deckle = s.deckle := rfl
@[simp] theorem after_head (s : State) (n : Nat) (a : Act) : (after s n a).head = s.head := rfl
@[simp] theorem after_beater (s : State) (n : Nat) (a : Act) : (after s n a).beater = s.beater := rfl
@[simp] theorem after_couch (s : State) (n : Nat) (a : Act) : (after s n a).couch = s.couch := rfl
@[simp] theorem after_capture (s : State) (n : Nat) (a : Act) : (after s n a).capture = s.capture := rfl
@[simp] theorem after_time (s : State) (n : Nat) (a : Act) : (after s n a).time = s.time := rfl
@[simp] theorem after_chain (s : State) (n : Nat) (a : Act) : (after s n a).chain = s.chain := rfl
@[simp] theorem after_store (s : State) (n : Nat) (a : Act) : (after s n a).store = s.store := rfl
@[simp] theorem after_host (s : State) (n : Nat) (a : Act) : (after s n a).host = s.host := rfl
@[simp] theorem after_sec (s : State) (n : Nat) (a : Act) : (after s n a).sec = s.sec := rfl
@[simp] theorem after_sizing (s : State) (n : Nat) (a : Act) : (after s n a).sizing = s.sizing := rfl
@[simp] theorem after_power (s : State) (n : Nat) (a : Act) : (after s n a).power = s.power := rfl
@[simp] theorem after_emitted (s : State) (n : Nat) (a : Act) : (after s n a).emitted = s.emitted := rfl
@[simp] theorem after_pending (s : State) (n : Nat) (a : Act) : (after s n a).pending = s.pending := rfl
@[simp] theorem getF_after (s : State) (n : Nat) (a : Act) (g : Fld) : getF (after s n a) g = getF s g := rfl

/-! ### takeFree -/

@[simp] theorem takeFree_regs (s : State) : (takeFree s).regs = s.regs := rfl
@[simp] theorem takeFree_mem (s : State) : (takeFree s).mem = s.mem := rfl
@[simp] theorem takeFree_now (s : State) : (takeFree s).now = s.now := rfl
@[simp] theorem takeFree_free (s : State) : (takeFree s).free = s.free + 1 := rfl
@[simp] theorem takeFree_sched (s : State) : (takeFree s).sched = s.sched := rfl
@[simp] theorem takeFree_bounds (s : State) : (takeFree s).bounds = s.bounds := rfl
@[simp] theorem takeFree_taints (s : State) : (takeFree s).taints = s.taints := rfl
@[simp] theorem takeFree_post (s : State) : (takeFree s).post = s.post := rfl
@[simp] theorem takeFree_seq (s : State) : (takeFree s).seq = s.seq := rfl
@[simp] theorem takeFree_out (s : State) : (takeFree s).out = s.out := rfl
@[simp] theorem takeFree_deckle (s : State) : (takeFree s).deckle = s.deckle := rfl
@[simp] theorem takeFree_head (s : State) : (takeFree s).head = s.head := rfl
@[simp] theorem takeFree_beater (s : State) : (takeFree s).beater = s.beater := rfl
@[simp] theorem takeFree_couch (s : State) : (takeFree s).couch = s.couch := rfl
@[simp] theorem takeFree_capture (s : State) : (takeFree s).capture = s.capture := rfl
@[simp] theorem takeFree_time (s : State) : (takeFree s).time = s.time := rfl
@[simp] theorem takeFree_chain (s : State) : (takeFree s).chain = s.chain := rfl
@[simp] theorem takeFree_store (s : State) : (takeFree s).store = s.store := rfl
@[simp] theorem takeFree_host (s : State) : (takeFree s).host = s.host := rfl
@[simp] theorem takeFree_sec (s : State) : (takeFree s).sec = s.sec := rfl
@[simp] theorem takeFree_sizing (s : State) : (takeFree s).sizing = s.sizing := rfl
@[simp] theorem takeFree_power (s : State) : (takeFree s).power = s.power := rfl
@[simp] theorem takeFree_emitted (s : State) : (takeFree s).emitted = s.emitted := rfl
@[simp] theorem takeFree_pending (s : State) : (takeFree s).pending = s.pending := rfl
@[simp] theorem getF_takeFree (s : State) (g : Fld) : getF (takeFree s) g = getF s g := rfl

/-! ### emit -/

@[simp] theorem emit_regs (s : State) (e : Emitted) : (emit s e).regs = s.regs := rfl
@[simp] theorem emit_mem (s : State) (e : Emitted) : (emit s e).mem = s.mem := rfl
@[simp] theorem emit_now (s : State) (e : Emitted) : (emit s e).now = s.now := rfl
@[simp] theorem emit_free (s : State) (e : Emitted) : (emit s e).free = s.free := rfl
@[simp] theorem emit_sched (s : State) (e : Emitted) : (emit s e).sched = s.sched := rfl
@[simp] theorem emit_bounds (s : State) (e : Emitted) : (emit s e).bounds = s.bounds := rfl
@[simp] theorem emit_taints (s : State) (e : Emitted) : (emit s e).taints = s.taints := rfl
@[simp] theorem emit_post (s : State) (e : Emitted) : (emit s e).post = s.post := rfl
@[simp] theorem emit_seq (s : State) (e : Emitted) : (emit s e).seq = s.seq := rfl
@[simp] theorem emit_out (s : State) (e : Emitted) : (emit s e).out = s.out := rfl
@[simp] theorem emit_deckle (s : State) (e : Emitted) : (emit s e).deckle = s.deckle := rfl
@[simp] theorem emit_head (s : State) (e : Emitted) : (emit s e).head = s.head := rfl
@[simp] theorem emit_beater (s : State) (e : Emitted) : (emit s e).beater = s.beater := rfl
@[simp] theorem emit_couch (s : State) (e : Emitted) : (emit s e).couch = s.couch := rfl
@[simp] theorem emit_capture (s : State) (e : Emitted) : (emit s e).capture = s.capture := rfl
@[simp] theorem emit_time (s : State) (e : Emitted) : (emit s e).time = s.time := rfl
@[simp] theorem emit_chain (s : State) (e : Emitted) : (emit s e).chain = s.chain := rfl
@[simp] theorem emit_store (s : State) (e : Emitted) : (emit s e).store = s.store := rfl
@[simp] theorem emit_host (s : State) (e : Emitted) : (emit s e).host = s.host := rfl
@[simp] theorem emit_sec (s : State) (e : Emitted) : (emit s e).sec = s.sec := rfl
@[simp] theorem emit_sizing (s : State) (e : Emitted) : (emit s e).sizing = s.sizing := rfl
@[simp] theorem emit_power (s : State) (e : Emitted) : (emit s e).power = s.power := rfl
@[simp] theorem emit_emitted (s : State) (e : Emitted) : (emit s e).emitted = s.emitted ++ [e] := rfl
@[simp] theorem emit_pending (s : State) (e : Emitted) : (emit s e).pending = s.pending := rfl
@[simp] theorem getF_emit (s : State) (e : Emitted) (g : Fld) : getF (emit s e) g = getF s g := rfl

/-! ### setByte -/

@[simp] theorem setByte_regs (s : State) (a : Nat) (v : Byte) : (setByte s a v).regs = s.regs := rfl
@[simp] theorem setByte_mem (s : State) (a : Nat) (v : Byte) : (setByte s a v).mem = cellPut s.mem a v := rfl
@[simp] theorem setByte_now (s : State) (a : Nat) (v : Byte) : (setByte s a v).now = s.now := rfl
@[simp] theorem setByte_free (s : State) (a : Nat) (v : Byte) : (setByte s a v).free = s.free := rfl
@[simp] theorem setByte_sched (s : State) (a : Nat) (v : Byte) : (setByte s a v).sched = s.sched := rfl
@[simp] theorem setByte_bounds (s : State) (a : Nat) (v : Byte) : (setByte s a v).bounds = s.bounds := rfl
@[simp] theorem setByte_taints (s : State) (a : Nat) (v : Byte) : (setByte s a v).taints = s.taints := rfl
@[simp] theorem setByte_post (s : State) (a : Nat) (v : Byte) : (setByte s a v).post = s.post := rfl
@[simp] theorem setByte_seq (s : State) (a : Nat) (v : Byte) : (setByte s a v).seq = s.seq := rfl
@[simp] theorem setByte_out (s : State) (a : Nat) (v : Byte) : (setByte s a v).out = s.out := rfl
@[simp] theorem setByte_deckle (s : State) (a : Nat) (v : Byte) : (setByte s a v).deckle = s.deckle := rfl
@[simp] theorem setByte_head (s : State) (a : Nat) (v : Byte) : (setByte s a v).head = s.head := rfl
@[simp] theorem setByte_beater (s : State) (a : Nat) (v : Byte) : (setByte s a v).beater = s.beater := rfl
@[simp] theorem setByte_couch (s : State) (a : Nat) (v : Byte) : (setByte s a v).couch = s.couch := rfl
@[simp] theorem setByte_capture (s : State) (a : Nat) (v : Byte) : (setByte s a v).capture = s.capture := rfl
@[simp] theorem setByte_time (s : State) (a : Nat) (v : Byte) : (setByte s a v).time = s.time := rfl
@[simp] theorem setByte_chain (s : State) (a : Nat) (v : Byte) : (setByte s a v).chain = s.chain := rfl
@[simp] theorem setByte_store (s : State) (a : Nat) (v : Byte) : (setByte s a v).store = s.store := rfl
@[simp] theorem setByte_host (s : State) (a : Nat) (v : Byte) : (setByte s a v).host = s.host := rfl
@[simp] theorem setByte_sec (s : State) (a : Nat) (v : Byte) : (setByte s a v).sec = s.sec := rfl
@[simp] theorem setByte_sizing (s : State) (a : Nat) (v : Byte) : (setByte s a v).sizing = s.sizing := rfl
@[simp] theorem setByte_power (s : State) (a : Nat) (v : Byte) : (setByte s a v).power = s.power := rfl
@[simp] theorem setByte_emitted (s : State) (a : Nat) (v : Byte) : (setByte s a v).emitted = s.emitted := rfl
@[simp] theorem setByte_pending (s : State) (a : Nat) (v : Byte) : (setByte s a v).pending = s.pending := rfl
@[simp] theorem getF_setByte (s : State) (a : Nat) (v : Byte) (g : Fld) : getF (setByte s a v) g = getF s g := rfl

/-! ### setResults -/

@[simp] theorem setResults_regs (s : State) (q : Nat) (r : ResultPath) : (setResults s q r).regs = s.regs := rfl
@[simp] theorem setResults_mem (s : State) (q : Nat) (r : ResultPath) : (setResults s q r).mem = s.mem := rfl
@[simp] theorem setResults_now (s : State) (q : Nat) (r : ResultPath) : (setResults s q r).now = s.now := rfl
@[simp] theorem setResults_free (s : State) (q : Nat) (r : ResultPath) : (setResults s q r).free = s.free := rfl
@[simp] theorem setResults_sched (s : State) (q : Nat) (r : ResultPath) : (setResults s q r).sched = s.sched := rfl
@[simp] theorem setResults_bounds (s : State) (q : Nat) (r : ResultPath) : (setResults s q r).bounds = s.bounds := rfl
@[simp] theorem setResults_taints (s : State) (q : Nat) (r : ResultPath) : (setResults s q r).taints = s.taints := rfl
@[simp] theorem setResults_post (s : State) (q : Nat) (r : ResultPath) : (setResults s q r).post = s.post := rfl
@[simp] theorem setResults_seq (s : State) (q : Nat) (r : ResultPath) : (setResults s q r).seq = s.seq := rfl
@[simp] theorem setResults_out (s : State) (q : Nat) (r : ResultPath) : (setResults s q r).out = s.out := rfl
@[simp] theorem setResults_deckle (s : State) (q : Nat) (r : ResultPath) : (setResults s q r).deckle = s.deckle := rfl
@[simp] theorem setResults_head (s : State) (q : Nat) (r : ResultPath) : (setResults s q r).head = { s.head with results := tset s.head.results q r } := rfl
@[simp] theorem setResults_beater (s : State) (q : Nat) (r : ResultPath) : (setResults s q r).beater = s.beater := rfl
@[simp] theorem setResults_couch (s : State) (q : Nat) (r : ResultPath) : (setResults s q r).couch = s.couch := rfl
@[simp] theorem setResults_capture (s : State) (q : Nat) (r : ResultPath) : (setResults s q r).capture = s.capture := rfl
@[simp] theorem setResults_time (s : State) (q : Nat) (r : ResultPath) : (setResults s q r).time = s.time := rfl
@[simp] theorem setResults_chain (s : State) (q : Nat) (r : ResultPath) : (setResults s q r).chain = s.chain := rfl
@[simp] theorem setResults_store (s : State) (q : Nat) (r : ResultPath) : (setResults s q r).store = s.store := rfl
@[simp] theorem setResults_host (s : State) (q : Nat) (r : ResultPath) : (setResults s q r).host = s.host := rfl
@[simp] theorem setResults_sec (s : State) (q : Nat) (r : ResultPath) : (setResults s q r).sec = s.sec := rfl
@[simp] theorem setResults_sizing (s : State) (q : Nat) (r : ResultPath) : (setResults s q r).sizing = s.sizing := rfl
@[simp] theorem setResults_power (s : State) (q : Nat) (r : ResultPath) : (setResults s q r).power = s.power := rfl
@[simp] theorem setResults_emitted (s : State) (q : Nat) (r : ResultPath) : (setResults s q r).emitted = s.emitted := rfl
@[simp] theorem setResults_pending (s : State) (q : Nat) (r : ResultPath) : (setResults s q r).pending = s.pending := rfl
@[simp] theorem getF_setResults (s : State) (q : Nat) (r : ResultPath) (g : Fld) : getF (setResults s q r) g = getF s g := rfl

/-! ### setThread -/

@[simp] theorem setThread_regs (s : State) (q t : Nat) (v : Thread) : (setThread s q t v).regs = s.regs := rfl
@[simp] theorem setThread_mem (s : State) (q t : Nat) (v : Thread) : (setThread s q t v).mem = s.mem := rfl
@[simp] theorem setThread_now (s : State) (q t : Nat) (v : Thread) : (setThread s q t v).now = s.now := rfl
@[simp] theorem setThread_free (s : State) (q t : Nat) (v : Thread) : (setThread s q t v).free = s.free := rfl
@[simp] theorem setThread_sched (s : State) (q t : Nat) (v : Thread) : (setThread s q t v).sched = s.sched := rfl
@[simp] theorem setThread_bounds (s : State) (q t : Nat) (v : Thread) : (setThread s q t v).bounds = s.bounds := rfl
@[simp] theorem setThread_taints (s : State) (q t : Nat) (v : Thread) : (setThread s q t v).taints = s.taints := rfl
@[simp] theorem setThread_post (s : State) (q t : Nat) (v : Thread) : (setThread s q t v).post = s.post := rfl
@[simp] theorem setThread_seq (s : State) (q t : Nat) (v : Thread) : (setThread s q t v).seq = { s.seq with threads := tset s.seq.threads (q, t) v } := rfl
@[simp] theorem setThread_out (s : State) (q t : Nat) (v : Thread) : (setThread s q t v).out = s.out := rfl
@[simp] theorem setThread_deckle (s : State) (q t : Nat) (v : Thread) : (setThread s q t v).deckle = s.deckle := rfl
@[simp] theorem setThread_head (s : State) (q t : Nat) (v : Thread) : (setThread s q t v).head = s.head := rfl
@[simp] theorem setThread_beater (s : State) (q t : Nat) (v : Thread) : (setThread s q t v).beater = s.beater := rfl
@[simp] theorem setThread_couch (s : State) (q t : Nat) (v : Thread) : (setThread s q t v).couch = s.couch := rfl
@[simp] theorem setThread_capture (s : State) (q t : Nat) (v : Thread) : (setThread s q t v).capture = s.capture := rfl
@[simp] theorem setThread_time (s : State) (q t : Nat) (v : Thread) : (setThread s q t v).time = s.time := rfl
@[simp] theorem setThread_chain (s : State) (q t : Nat) (v : Thread) : (setThread s q t v).chain = s.chain := rfl
@[simp] theorem setThread_store (s : State) (q t : Nat) (v : Thread) : (setThread s q t v).store = s.store := rfl
@[simp] theorem setThread_host (s : State) (q t : Nat) (v : Thread) : (setThread s q t v).host = s.host := rfl
@[simp] theorem setThread_sec (s : State) (q t : Nat) (v : Thread) : (setThread s q t v).sec = s.sec := rfl
@[simp] theorem setThread_sizing (s : State) (q t : Nat) (v : Thread) : (setThread s q t v).sizing = s.sizing := rfl
@[simp] theorem setThread_power (s : State) (q t : Nat) (v : Thread) : (setThread s q t v).power = s.power := rfl
@[simp] theorem setThread_emitted (s : State) (q t : Nat) (v : Thread) : (setThread s q t v).emitted = s.emitted := rfl
@[simp] theorem setThread_pending (s : State) (q t : Nat) (v : Thread) : (setThread s q t v).pending = s.pending := rfl
@[simp] theorem getF_setThread (s : State) (q t : Nat) (v : Thread) (g : Fld) : getF (setThread s q t v) g = getF s g := rfl

/-! ### setQueue -/

@[simp] theorem setQueue_regs (s : State) (c : Chan) (l : List Entry) : (setQueue s c l).regs = s.regs := rfl
@[simp] theorem setQueue_mem (s : State) (c : Chan) (l : List Entry) : (setQueue s c l).mem = s.mem := rfl
@[simp] theorem setQueue_now (s : State) (c : Chan) (l : List Entry) : (setQueue s c l).now = s.now := rfl
@[simp] theorem setQueue_free (s : State) (c : Chan) (l : List Entry) : (setQueue s c l).free = s.free := rfl
@[simp] theorem setQueue_sched (s : State) (c : Chan) (l : List Entry) : (setQueue s c l).sched = s.sched := rfl
@[simp] theorem setQueue_bounds (s : State) (c : Chan) (l : List Entry) : (setQueue s c l).bounds = s.bounds := rfl
@[simp] theorem setQueue_taints (s : State) (c : Chan) (l : List Entry) : (setQueue s c l).taints = s.taints := rfl
@[simp] theorem setQueue_post (s : State) (c : Chan) (l : List Entry) : (setQueue s c l).post = s.post := rfl
@[simp] theorem setQueue_seq (s : State) (c : Chan) (l : List Entry) : (setQueue s c l).seq = { s.seq with queues := tset s.seq.queues c l } := rfl
@[simp] theorem setQueue_out (s : State) (c : Chan) (l : List Entry) : (setQueue s c l).out = s.out := rfl
@[simp] theorem setQueue_deckle (s : State) (c : Chan) (l : List Entry) : (setQueue s c l).deckle = s.deckle := rfl
@[simp] theorem setQueue_head (s : State) (c : Chan) (l : List Entry) : (setQueue s c l).head = s.head := rfl
@[simp] theorem setQueue_beater (s : State) (c : Chan) (l : List Entry) : (setQueue s c l).beater = s.beater := rfl
@[simp] theorem setQueue_couch (s : State) (c : Chan) (l : List Entry) : (setQueue s c l).couch = s.couch := rfl
@[simp] theorem setQueue_capture (s : State) (c : Chan) (l : List Entry) : (setQueue s c l).capture = s.capture := rfl
@[simp] theorem setQueue_time (s : State) (c : Chan) (l : List Entry) : (setQueue s c l).time = s.time := rfl
@[simp] theorem setQueue_chain (s : State) (c : Chan) (l : List Entry) : (setQueue s c l).chain = s.chain := rfl
@[simp] theorem setQueue_store (s : State) (c : Chan) (l : List Entry) : (setQueue s c l).store = s.store := rfl
@[simp] theorem setQueue_host (s : State) (c : Chan) (l : List Entry) : (setQueue s c l).host = s.host := rfl
@[simp] theorem setQueue_sec (s : State) (c : Chan) (l : List Entry) : (setQueue s c l).sec = s.sec := rfl
@[simp] theorem setQueue_sizing (s : State) (c : Chan) (l : List Entry) : (setQueue s c l).sizing = s.sizing := rfl
@[simp] theorem setQueue_power (s : State) (c : Chan) (l : List Entry) : (setQueue s c l).power = s.power := rfl
@[simp] theorem setQueue_emitted (s : State) (c : Chan) (l : List Entry) : (setQueue s c l).emitted = s.emitted := rfl
@[simp] theorem setQueue_pending (s : State) (c : Chan) (l : List Entry) : (setQueue s c l).pending = s.pending := rfl
@[simp] theorem getF_setQueue (s : State) (c : Chan) (l : List Entry) (g : Fld) : getF (setQueue s c l) g = getF s g := rfl

/-! ### setPlayer -/

@[simp] theorem setPlayer_regs (s : State) (c : Chan) (p : Player) : (setPlayer s c p).regs = s.regs := rfl
@[simp] theorem setPlayer_mem (s : State) (c : Chan) (p : Player) : (setPlayer s c p).mem = s.mem := rfl
@[simp] theorem setPlayer_now (s : State) (c : Chan) (p : Player) : (setPlayer s c p).now = s.now := rfl
@[simp] theorem setPlayer_free (s : State) (c : Chan) (p : Player) : (setPlayer s c p).free = s.free := rfl
@[simp] theorem setPlayer_sched (s : State) (c : Chan) (p : Player) : (setPlayer s c p).sched = s.sched := rfl
@[simp] theorem setPlayer_bounds (s : State) (c : Chan) (p : Player) : (setPlayer s c p).bounds = s.bounds := rfl
@[simp] theorem setPlayer_taints (s : State) (c : Chan) (p : Player) : (setPlayer s c p).taints = s.taints := rfl
@[simp] theorem setPlayer_post (s : State) (c : Chan) (p : Player) : (setPlayer s c p).post = s.post := rfl
@[simp] theorem setPlayer_seq (s : State) (c : Chan) (p : Player) : (setPlayer s c p).seq = { s.seq with players := tset s.seq.players c p } := rfl
@[simp] theorem setPlayer_out (s : State) (c : Chan) (p : Player) : (setPlayer s c p).out = s.out := rfl
@[simp] theorem setPlayer_deckle (s : State) (c : Chan) (p : Player) : (setPlayer s c p).deckle = s.deckle := rfl
@[simp] theorem setPlayer_head (s : State) (c : Chan) (p : Player) : (setPlayer s c p).head = s.head := rfl
@[simp] theorem setPlayer_beater (s : State) (c : Chan) (p : Player) : (setPlayer s c p).beater = s.beater := rfl
@[simp] theorem setPlayer_couch (s : State) (c : Chan) (p : Player) : (setPlayer s c p).couch = s.couch := rfl
@[simp] theorem setPlayer_capture (s : State) (c : Chan) (p : Player) : (setPlayer s c p).capture = s.capture := rfl
@[simp] theorem setPlayer_time (s : State) (c : Chan) (p : Player) : (setPlayer s c p).time = s.time := rfl
@[simp] theorem setPlayer_chain (s : State) (c : Chan) (p : Player) : (setPlayer s c p).chain = s.chain := rfl
@[simp] theorem setPlayer_store (s : State) (c : Chan) (p : Player) : (setPlayer s c p).store = s.store := rfl
@[simp] theorem setPlayer_host (s : State) (c : Chan) (p : Player) : (setPlayer s c p).host = s.host := rfl
@[simp] theorem setPlayer_sec (s : State) (c : Chan) (p : Player) : (setPlayer s c p).sec = s.sec := rfl
@[simp] theorem setPlayer_sizing (s : State) (c : Chan) (p : Player) : (setPlayer s c p).sizing = s.sizing := rfl
@[simp] theorem setPlayer_power (s : State) (c : Chan) (p : Player) : (setPlayer s c p).power = s.power := rfl
@[simp] theorem setPlayer_emitted (s : State) (c : Chan) (p : Player) : (setPlayer s c p).emitted = s.emitted := rfl
@[simp] theorem setPlayer_pending (s : State) (c : Chan) (p : Player) : (setPlayer s c p).pending = s.pending := rfl
@[simp] theorem getF_setPlayer (s : State) (c : Chan) (p : Player) (g : Fld) : getF (setPlayer s c p) g = getF s g := rfl

/-! ### setStream -/

@[simp] theorem setStream_regs (s : State) (q n : Nat) (v : Stream) : (setStream s q n v).regs = s.regs := rfl
@[simp] theorem setStream_mem (s : State) (q n : Nat) (v : Stream) : (setStream s q n v).mem = s.mem := rfl
@[simp] theorem setStream_now (s : State) (q n : Nat) (v : Stream) : (setStream s q n v).now = s.now := rfl
@[simp] theorem setStream_free (s : State) (q n : Nat) (v : Stream) : (setStream s q n v).free = s.free := rfl
@[simp] theorem setStream_sched (s : State) (q n : Nat) (v : Stream) : (setStream s q n v).sched = s.sched := rfl
@[simp] theorem setStream_bounds (s : State) (q n : Nat) (v : Stream) : (setStream s q n v).bounds = s.bounds := rfl
@[simp] theorem setStream_taints (s : State) (q n : Nat) (v : Stream) : (setStream s q n v).taints = s.taints := rfl
@[simp] theorem setStream_post (s : State) (q n : Nat) (v : Stream) : (setStream s q n v).post = s.post := rfl
@[simp] theorem setStream_seq (s : State) (q n : Nat) (v : Stream) : (setStream s q n v).seq = { s.seq with streams := tset s.seq.streams (q, n) v } := rfl
@[simp] theorem setStream_out (s : State) (q n : Nat) (v : Stream) : (setStream s q n v).out = s.out := rfl
@[simp] theorem setStream_deckle (s : State) (q n : Nat) (v : Stream) : (setStream s q n v).deckle = s.deckle := rfl
@[simp] theorem setStream_head (s : State) (q n : Nat) (v : Stream) : (setStream s q n v).head = s.head := rfl
@[simp] theorem setStream_beater (s : State) (q n : Nat) (v : Stream) : (setStream s q n v).beater = s.beater := rfl
@[simp] theorem setStream_couch (s : State) (q n : Nat) (v : Stream) : (setStream s q n v).couch = s.couch := rfl
@[simp] theorem setStream_capture (s : State) (q n : Nat) (v : Stream) : (setStream s q n v).capture = s.capture := rfl
@[simp] theorem setStream_time (s : State) (q n : Nat) (v : Stream) : (setStream s q n v).time = s.time := rfl
@[simp] theorem setStream_chain (s : State) (q n : Nat) (v : Stream) : (setStream s q n v).chain = s.chain := rfl
@[simp] theorem setStream_store (s : State) (q n : Nat) (v : Stream) : (setStream s q n v).store = s.store := rfl
@[simp] theorem setStream_host (s : State) (q n : Nat) (v : Stream) : (setStream s q n v).host = s.host := rfl
@[simp] theorem setStream_sec (s : State) (q n : Nat) (v : Stream) : (setStream s q n v).sec = s.sec := rfl
@[simp] theorem setStream_sizing (s : State) (q n : Nat) (v : Stream) : (setStream s q n v).sizing = s.sizing := rfl
@[simp] theorem setStream_power (s : State) (q n : Nat) (v : Stream) : (setStream s q n v).power = s.power := rfl
@[simp] theorem setStream_emitted (s : State) (q n : Nat) (v : Stream) : (setStream s q n v).emitted = s.emitted := rfl
@[simp] theorem setStream_pending (s : State) (q n : Nat) (v : Stream) : (setStream s q n v).pending = s.pending := rfl
@[simp] theorem getF_setStream (s : State) (q n : Nat) (v : Stream) (g : Fld) : getF (setStream s q n v) g = getF s g := rfl

/-! ### setTone -/

@[simp] theorem setTone_regs (s : State) (q c : Nat) (v : Tone) : (setTone s q c v).regs = s.regs := rfl
@[simp] theorem setTone_mem (s : State) (q c : Nat) (v : Tone) : (setTone s q c v).mem = s.mem := rfl
@[simp] theorem setTone_now (s : State) (q c : Nat) (v : Tone) : (setTone s q c v).now = s.now := rfl
@[simp] theorem setTone_free (s : State) (q c : Nat) (v : Tone) : (setTone s q c v).free = s.free := rfl
@[simp] theorem setTone_sched (s : State) (q c : Nat) (v : Tone) : (setTone s q c v).sched = s.sched := rfl
@[simp] theorem setTone_bounds (s : State) (q c : Nat) (v : Tone) : (setTone s q c v).bounds = s.bounds := rfl
@[simp] theorem setTone_taints (s : State) (q c : Nat) (v : Tone) : (setTone s q c v).taints = s.taints := rfl
@[simp] theorem setTone_post (s : State) (q c : Nat) (v : Tone) : (setTone s q c v).post = s.post := rfl
@[simp] theorem setTone_seq (s : State) (q c : Nat) (v : Tone) : (setTone s q c v).seq = s.seq := rfl
@[simp] theorem setTone_out (s : State) (q c : Nat) (v : Tone) : (setTone s q c v).out = { s.out with tones := tset s.out.tones (q, c) v } := rfl
@[simp] theorem setTone_deckle (s : State) (q c : Nat) (v : Tone) : (setTone s q c v).deckle = s.deckle := rfl
@[simp] theorem setTone_head (s : State) (q c : Nat) (v : Tone) : (setTone s q c v).head = s.head := rfl
@[simp] theorem setTone_beater (s : State) (q c : Nat) (v : Tone) : (setTone s q c v).beater = s.beater := rfl
@[simp] theorem setTone_couch (s : State) (q c : Nat) (v : Tone) : (setTone s q c v).couch = s.couch := rfl
@[simp] theorem setTone_capture (s : State) (q c : Nat) (v : Tone) : (setTone s q c v).capture = s.capture := rfl
@[simp] theorem setTone_time (s : State) (q c : Nat) (v : Tone) : (setTone s q c v).time = s.time := rfl
@[simp] theorem setTone_chain (s : State) (q c : Nat) (v : Tone) : (setTone s q c v).chain = s.chain := rfl
@[simp] theorem setTone_store (s : State) (q c : Nat) (v : Tone) : (setTone s q c v).store = s.store := rfl
@[simp] theorem setTone_host (s : State) (q c : Nat) (v : Tone) : (setTone s q c v).host = s.host := rfl
@[simp] theorem setTone_sec (s : State) (q c : Nat) (v : Tone) : (setTone s q c v).sec = s.sec := rfl
@[simp] theorem setTone_sizing (s : State) (q c : Nat) (v : Tone) : (setTone s q c v).sizing = s.sizing := rfl
@[simp] theorem setTone_power (s : State) (q c : Nat) (v : Tone) : (setTone s q c v).power = s.power := rfl
@[simp] theorem setTone_emitted (s : State) (q c : Nat) (v : Tone) : (setTone s q c v).emitted = s.emitted := rfl
@[simp] theorem setTone_pending (s : State) (q c : Nat) (v : Tone) : (setTone s q c v).pending = s.pending := rfl
@[simp] theorem getF_setTone (s : State) (q c : Nat) (v : Tone) (g : Fld) : getF (setTone s q c v) g = getF s g := rfl

/-! ### setOutput -/

@[simp] theorem setOutput_regs (s : State) (q o : Nat) (v : Output) : (setOutput s q o v).regs = s.regs := rfl
@[simp] theorem setOutput_mem (s : State) (q o : Nat) (v : Output) : (setOutput s q o v).mem = s.mem := rfl
@[simp] theorem setOutput_now (s : State) (q o : Nat) (v : Output) : (setOutput s q o v).now = s.now := rfl
@[simp] theorem setOutput_free (s : State) (q o : Nat) (v : Output) : (setOutput s q o v).free = s.free := rfl
@[simp] theorem setOutput_sched (s : State) (q o : Nat) (v : Output) : (setOutput s q o v).sched = s.sched := rfl
@[simp] theorem setOutput_bounds (s : State) (q o : Nat) (v : Output) : (setOutput s q o v).bounds = s.bounds := rfl
@[simp] theorem setOutput_taints (s : State) (q o : Nat) (v : Output) : (setOutput s q o v).taints = s.taints := rfl
@[simp] theorem setOutput_post (s : State) (q o : Nat) (v : Output) : (setOutput s q o v).post = s.post := rfl
@[simp] theorem setOutput_seq (s : State) (q o : Nat) (v : Output) : (setOutput s q o v).seq = s.seq := rfl
@[simp] theorem setOutput_out (s : State) (q o : Nat) (v : Output) : (setOutput s q o v).out = { s.out with outs := tset s.out.outs (q, o) v } := rfl
@[simp] theorem setOutput_deckle (s : State) (q o : Nat) (v : Output) : (setOutput s q o v).deckle = s.deckle := rfl
@[simp] theorem setOutput_head (s : State) (q o : Nat) (v : Output) : (setOutput s q o v).head = s.head := rfl
@[simp] theorem setOutput_beater (s : State) (q o : Nat) (v : Output) : (setOutput s q o v).beater = s.beater := rfl
@[simp] theorem setOutput_couch (s : State) (q o : Nat) (v : Output) : (setOutput s q o v).couch = s.couch := rfl
@[simp] theorem setOutput_capture (s : State) (q o : Nat) (v : Output) : (setOutput s q o v).capture = s.capture := rfl
@[simp] theorem setOutput_time (s : State) (q o : Nat) (v : Output) : (setOutput s q o v).time = s.time := rfl
@[simp] theorem setOutput_chain (s : State) (q o : Nat) (v : Output) : (setOutput s q o v).chain = s.chain := rfl
@[simp] theorem setOutput_store (s : State) (q o : Nat) (v : Output) : (setOutput s q o v).store = s.store := rfl
@[simp] theorem setOutput_host (s : State) (q o : Nat) (v : Output) : (setOutput s q o v).host = s.host := rfl
@[simp] theorem setOutput_sec (s : State) (q o : Nat) (v : Output) : (setOutput s q o v).sec = s.sec := rfl
@[simp] theorem setOutput_sizing (s : State) (q o : Nat) (v : Output) : (setOutput s q o v).sizing = s.sizing := rfl
@[simp] theorem setOutput_power (s : State) (q o : Nat) (v : Output) : (setOutput s q o v).power = s.power := rfl
@[simp] theorem setOutput_emitted (s : State) (q o : Nat) (v : Output) : (setOutput s q o v).emitted = s.emitted := rfl
@[simp] theorem setOutput_pending (s : State) (q o : Nat) (v : Output) : (setOutput s q o v).pending = s.pending := rfl
@[simp] theorem getF_setOutput (s : State) (q o : Nat) (v : Output) (g : Fld) : getF (setOutput s q o v) g = getF s g := rfl

/-! ### setFlux -/

@[simp] theorem setFlux_regs (s : State) (q i : Nat) (v : Flux) : (setFlux s q i v).regs = s.regs := rfl
@[simp] theorem setFlux_mem (s : State) (q i : Nat) (v : Flux) : (setFlux s q i v).mem = s.mem := rfl
@[simp] theorem setFlux_now (s : State) (q i : Nat) (v : Flux) : (setFlux s q i v).now = s.now := rfl
@[simp] theorem setFlux_free (s : State) (q i : Nat) (v : Flux) : (setFlux s q i v).free = s.free := rfl
@[simp] theorem setFlux_sched (s : State) (q i : Nat) (v : Flux) : (setFlux s q i v).sched = s.sched := rfl
@[simp] theorem setFlux_bounds (s : State) (q i : Nat) (v : Flux) : (setFlux s q i v).bounds = s.bounds := rfl
@[simp] theorem setFlux_taints (s : State) (q i : Nat) (v : Flux) : (setFlux s q i v).taints = s.taints := rfl
@[simp] theorem setFlux_post (s : State) (q i : Nat) (v : Flux) : (setFlux s q i v).post = s.post := rfl
@[simp] theorem setFlux_seq (s : State) (q i : Nat) (v : Flux) : (setFlux s q i v).seq = s.seq := rfl
@[simp] theorem setFlux_out (s : State) (q i : Nat) (v : Flux) : (setFlux s q i v).out = { s.out with flux := tset s.out.flux (q, i) v } := rfl
@[simp] theorem setFlux_deckle (s : State) (q i : Nat) (v : Flux) : (setFlux s q i v).deckle = s.deckle := rfl
@[simp] theorem setFlux_head (s : State) (q i : Nat) (v : Flux) : (setFlux s q i v).head = s.head := rfl
@[simp] theorem setFlux_beater (s : State) (q i : Nat) (v : Flux) : (setFlux s q i v).beater = s.beater := rfl
@[simp] theorem setFlux_couch (s : State) (q i : Nat) (v : Flux) : (setFlux s q i v).couch = s.couch := rfl
@[simp] theorem setFlux_capture (s : State) (q i : Nat) (v : Flux) : (setFlux s q i v).capture = s.capture := rfl
@[simp] theorem setFlux_time (s : State) (q i : Nat) (v : Flux) : (setFlux s q i v).time = s.time := rfl
@[simp] theorem setFlux_chain (s : State) (q i : Nat) (v : Flux) : (setFlux s q i v).chain = s.chain := rfl
@[simp] theorem setFlux_store (s : State) (q i : Nat) (v : Flux) : (setFlux s q i v).store = s.store := rfl
@[simp] theorem setFlux_host (s : State) (q i : Nat) (v : Flux) : (setFlux s q i v).host = s.host := rfl
@[simp] theorem setFlux_sec (s : State) (q i : Nat) (v : Flux) : (setFlux s q i v).sec = s.sec := rfl
@[simp] theorem setFlux_sizing (s : State) (q i : Nat) (v : Flux) : (setFlux s q i v).sizing = s.sizing := rfl
@[simp] theorem setFlux_power (s : State) (q i : Nat) (v : Flux) : (setFlux s q i v).power = s.power := rfl
@[simp] theorem setFlux_emitted (s : State) (q i : Nat) (v : Flux) : (setFlux s q i v).emitted = s.emitted := rfl
@[simp] theorem setFlux_pending (s : State) (q i : Nat) (v : Flux) : (setFlux s q i v).pending = s.pending := rfl
@[simp] theorem getF_setFlux (s : State) (q i : Nat) (v : Flux) (g : Fld) : getF (setFlux s q i v) g = getF s g := rfl

/-! ### setBias -/

@[simp] theorem setBias_regs (s : State) (q b : Nat) (v : Bias) : (setBias s q b v).regs = s.regs := rfl
@[simp] theorem setBias_mem (s : State) (q b : Nat) (v : Bias) : (setBias s q b v).mem = s.mem := rfl
@[simp] theorem setBias_now (s : State) (q b : Nat) (v : Bias) : (setBias s q b v).now = s.now := rfl
@[simp] theorem setBias_free (s : State) (q b : Nat) (v : Bias) : (setBias s q b v).free = s.free := rfl
@[simp] theorem setBias_sched (s : State) (q b : Nat) (v : Bias) : (setBias s q b v).sched = s.sched := rfl
@[simp] theorem setBias_bounds (s : State) (q b : Nat) (v : Bias) : (setBias s q b v).bounds = s.bounds := rfl
@[simp] theorem setBias_taints (s : State) (q b : Nat) (v : Bias) : (setBias s q b v).taints = s.taints := rfl
@[simp] theorem setBias_post (s : State) (q b : Nat) (v : Bias) : (setBias s q b v).post = s.post := rfl
@[simp] theorem setBias_seq (s : State) (q b : Nat) (v : Bias) : (setBias s q b v).seq = s.seq := rfl
@[simp] theorem setBias_out (s : State) (q b : Nat) (v : Bias) : (setBias s q b v).out = { s.out with bias := tset s.out.bias (q, b) v } := rfl
@[simp] theorem setBias_deckle (s : State) (q b : Nat) (v : Bias) : (setBias s q b v).deckle = s.deckle := rfl
@[simp] theorem setBias_head (s : State) (q b : Nat) (v : Bias) : (setBias s q b v).head = s.head := rfl
@[simp] theorem setBias_beater (s : State) (q b : Nat) (v : Bias) : (setBias s q b v).beater = s.beater := rfl
@[simp] theorem setBias_couch (s : State) (q b : Nat) (v : Bias) : (setBias s q b v).couch = s.couch := rfl
@[simp] theorem setBias_capture (s : State) (q b : Nat) (v : Bias) : (setBias s q b v).capture = s.capture := rfl
@[simp] theorem setBias_time (s : State) (q b : Nat) (v : Bias) : (setBias s q b v).time = s.time := rfl
@[simp] theorem setBias_chain (s : State) (q b : Nat) (v : Bias) : (setBias s q b v).chain = s.chain := rfl
@[simp] theorem setBias_store (s : State) (q b : Nat) (v : Bias) : (setBias s q b v).store = s.store := rfl
@[simp] theorem setBias_host (s : State) (q b : Nat) (v : Bias) : (setBias s q b v).host = s.host := rfl
@[simp] theorem setBias_sec (s : State) (q b : Nat) (v : Bias) : (setBias s q b v).sec = s.sec := rfl
@[simp] theorem setBias_sizing (s : State) (q b : Nat) (v : Bias) : (setBias s q b v).sizing = s.sizing := rfl
@[simp] theorem setBias_power (s : State) (q b : Nat) (v : Bias) : (setBias s q b v).power = s.power := rfl
@[simp] theorem setBias_emitted (s : State) (q b : Nat) (v : Bias) : (setBias s q b v).emitted = s.emitted := rfl
@[simp] theorem setBias_pending (s : State) (q b : Nat) (v : Bias) : (setBias s q b v).pending = s.pending := rfl
@[simp] theorem getF_setBias (s : State) (q b : Nat) (v : Bias) (g : Fld) : getF (setBias s q b v) g = getF s g := rfl

/-! ### setCell -/

@[simp] theorem setCell_regs (s : State) (q j : Nat) (v : Cell) : (setCell s q j v).regs = s.regs := rfl
@[simp] theorem setCell_mem (s : State) (q j : Nat) (v : Cell) : (setCell s q j v).mem = s.mem := rfl
@[simp] theorem setCell_now (s : State) (q j : Nat) (v : Cell) : (setCell s q j v).now = s.now := rfl
@[simp] theorem setCell_free (s : State) (q j : Nat) (v : Cell) : (setCell s q j v).free = s.free := rfl
@[simp] theorem setCell_sched (s : State) (q j : Nat) (v : Cell) : (setCell s q j v).sched = s.sched := rfl
@[simp] theorem setCell_bounds (s : State) (q j : Nat) (v : Cell) : (setCell s q j v).bounds = s.bounds := rfl
@[simp] theorem setCell_taints (s : State) (q j : Nat) (v : Cell) : (setCell s q j v).taints = s.taints := rfl
@[simp] theorem setCell_post (s : State) (q j : Nat) (v : Cell) : (setCell s q j v).post = s.post := rfl
@[simp] theorem setCell_seq (s : State) (q j : Nat) (v : Cell) : (setCell s q j v).seq = s.seq := rfl
@[simp] theorem setCell_out (s : State) (q j : Nat) (v : Cell) : (setCell s q j v).out = s.out := rfl
@[simp] theorem setCell_deckle (s : State) (q j : Nat) (v : Cell) : (setCell s q j v).deckle = s.deckle := rfl
@[simp] theorem setCell_head (s : State) (q j : Nat) (v : Cell) : (setCell s q j v).head = { s.head with cells := tset s.head.cells (q, j) v } := rfl
@[simp] theorem setCell_beater (s : State) (q j : Nat) (v : Cell) : (setCell s q j v).beater = s.beater := rfl
@[simp] theorem setCell_couch (s : State) (q j : Nat) (v : Cell) : (setCell s q j v).couch = s.couch := rfl
@[simp] theorem setCell_capture (s : State) (q j : Nat) (v : Cell) : (setCell s q j v).capture = s.capture := rfl
@[simp] theorem setCell_time (s : State) (q j : Nat) (v : Cell) : (setCell s q j v).time = s.time := rfl
@[simp] theorem setCell_chain (s : State) (q j : Nat) (v : Cell) : (setCell s q j v).chain = s.chain := rfl
@[simp] theorem setCell_store (s : State) (q j : Nat) (v : Cell) : (setCell s q j v).store = s.store := rfl
@[simp] theorem setCell_host (s : State) (q j : Nat) (v : Cell) : (setCell s q j v).host = s.host := rfl
@[simp] theorem setCell_sec (s : State) (q j : Nat) (v : Cell) : (setCell s q j v).sec = s.sec := rfl
@[simp] theorem setCell_sizing (s : State) (q j : Nat) (v : Cell) : (setCell s q j v).sizing = s.sizing := rfl
@[simp] theorem setCell_power (s : State) (q j : Nat) (v : Cell) : (setCell s q j v).power = s.power := rfl
@[simp] theorem setCell_emitted (s : State) (q j : Nat) (v : Cell) : (setCell s q j v).emitted = s.emitted := rfl
@[simp] theorem setCell_pending (s : State) (q j : Nat) (v : Cell) : (setCell s q j v).pending = s.pending := rfl
@[simp] theorem getF_setCell (s : State) (q j : Nat) (v : Cell) (g : Fld) : getF (setCell s q j v) g = getF s g := rfl

/-! ### setCtx -/

@[simp] theorem setCtx_regs (s : State) (q c : Nat) (v : Ctx) : (setCtx s q c v).regs = s.regs := rfl
@[simp] theorem setCtx_mem (s : State) (q c : Nat) (v : Ctx) : (setCtx s q c v).mem = s.mem := rfl
@[simp] theorem setCtx_now (s : State) (q c : Nat) (v : Ctx) : (setCtx s q c v).now = s.now := rfl
@[simp] theorem setCtx_free (s : State) (q c : Nat) (v : Ctx) : (setCtx s q c v).free = s.free := rfl
@[simp] theorem setCtx_sched (s : State) (q c : Nat) (v : Ctx) : (setCtx s q c v).sched = s.sched := rfl
@[simp] theorem setCtx_bounds (s : State) (q c : Nat) (v : Ctx) : (setCtx s q c v).bounds = s.bounds := rfl
@[simp] theorem setCtx_taints (s : State) (q c : Nat) (v : Ctx) : (setCtx s q c v).taints = s.taints := rfl
@[simp] theorem setCtx_post (s : State) (q c : Nat) (v : Ctx) : (setCtx s q c v).post = s.post := rfl
@[simp] theorem setCtx_seq (s : State) (q c : Nat) (v : Ctx) : (setCtx s q c v).seq = s.seq := rfl
@[simp] theorem setCtx_out (s : State) (q c : Nat) (v : Ctx) : (setCtx s q c v).out = s.out := rfl
@[simp] theorem setCtx_deckle (s : State) (q c : Nat) (v : Ctx) : (setCtx s q c v).deckle = s.deckle := rfl
@[simp] theorem setCtx_head (s : State) (q c : Nat) (v : Ctx) : (setCtx s q c v).head = s.head := rfl
@[simp] theorem setCtx_beater (s : State) (q c : Nat) (v : Ctx) : (setCtx s q c v).beater = { s.beater with ctxs := tset s.beater.ctxs (q, c) v } := rfl
@[simp] theorem setCtx_couch (s : State) (q c : Nat) (v : Ctx) : (setCtx s q c v).couch = s.couch := rfl
@[simp] theorem setCtx_capture (s : State) (q c : Nat) (v : Ctx) : (setCtx s q c v).capture = s.capture := rfl
@[simp] theorem setCtx_time (s : State) (q c : Nat) (v : Ctx) : (setCtx s q c v).time = s.time := rfl
@[simp] theorem setCtx_chain (s : State) (q c : Nat) (v : Ctx) : (setCtx s q c v).chain = s.chain := rfl
@[simp] theorem setCtx_store (s : State) (q c : Nat) (v : Ctx) : (setCtx s q c v).store = s.store := rfl
@[simp] theorem setCtx_host (s : State) (q c : Nat) (v : Ctx) : (setCtx s q c v).host = s.host := rfl
@[simp] theorem setCtx_sec (s : State) (q c : Nat) (v : Ctx) : (setCtx s q c v).sec = s.sec := rfl
@[simp] theorem setCtx_sizing (s : State) (q c : Nat) (v : Ctx) : (setCtx s q c v).sizing = s.sizing := rfl
@[simp] theorem setCtx_power (s : State) (q c : Nat) (v : Ctx) : (setCtx s q c v).power = s.power := rfl
@[simp] theorem setCtx_emitted (s : State) (q c : Nat) (v : Ctx) : (setCtx s q c v).emitted = s.emitted := rfl
@[simp] theorem setCtx_pending (s : State) (q c : Nat) (v : Ctx) : (setCtx s q c v).pending = s.pending := rfl
@[simp] theorem getF_setCtx (s : State) (q c : Nat) (v : Ctx) (g : Fld) : getF (setCtx s q c v) g = getF s g := rfl

/-! ### setWindow -/

@[simp] theorem setWindow_regs (s : State) (w : Nat) (v : Window) : (setWindow s w v).regs = s.regs := rfl
@[simp] theorem setWindow_mem (s : State) (w : Nat) (v : Window) : (setWindow s w v).mem = s.mem := rfl
@[simp] theorem setWindow_now (s : State) (w : Nat) (v : Window) : (setWindow s w v).now = s.now := rfl
@[simp] theorem setWindow_free (s : State) (w : Nat) (v : Window) : (setWindow s w v).free = s.free := rfl
@[simp] theorem setWindow_sched (s : State) (w : Nat) (v : Window) : (setWindow s w v).sched = s.sched := rfl
@[simp] theorem setWindow_bounds (s : State) (w : Nat) (v : Window) : (setWindow s w v).bounds = s.bounds := rfl
@[simp] theorem setWindow_taints (s : State) (w : Nat) (v : Window) : (setWindow s w v).taints = s.taints := rfl
@[simp] theorem setWindow_post (s : State) (w : Nat) (v : Window) : (setWindow s w v).post = s.post := rfl
@[simp] theorem setWindow_seq (s : State) (w : Nat) (v : Window) : (setWindow s w v).seq = s.seq := rfl
@[simp] theorem setWindow_out (s : State) (w : Nat) (v : Window) : (setWindow s w v).out = s.out := rfl
@[simp] theorem setWindow_deckle (s : State) (w : Nat) (v : Window) : (setWindow s w v).deckle = { s.deckle with wins := tset s.deckle.wins w v } := rfl
@[simp] theorem setWindow_head (s : State) (w : Nat) (v : Window) : (setWindow s w v).head = s.head := rfl
@[simp] theorem setWindow_beater (s : State) (w : Nat) (v : Window) : (setWindow s w v).beater = s.beater := rfl
@[simp] theorem setWindow_couch (s : State) (w : Nat) (v : Window) : (setWindow s w v).couch = s.couch := rfl
@[simp] theorem setWindow_capture (s : State) (w : Nat) (v : Window) : (setWindow s w v).capture = s.capture := rfl
@[simp] theorem setWindow_time (s : State) (w : Nat) (v : Window) : (setWindow s w v).time = s.time := rfl
@[simp] theorem setWindow_chain (s : State) (w : Nat) (v : Window) : (setWindow s w v).chain = s.chain := rfl
@[simp] theorem setWindow_store (s : State) (w : Nat) (v : Window) : (setWindow s w v).store = s.store := rfl
@[simp] theorem setWindow_host (s : State) (w : Nat) (v : Window) : (setWindow s w v).host = s.host := rfl
@[simp] theorem setWindow_sec (s : State) (w : Nat) (v : Window) : (setWindow s w v).sec = s.sec := rfl
@[simp] theorem setWindow_sizing (s : State) (w : Nat) (v : Window) : (setWindow s w v).sizing = s.sizing := rfl
@[simp] theorem setWindow_power (s : State) (w : Nat) (v : Window) : (setWindow s w v).power = s.power := rfl
@[simp] theorem setWindow_emitted (s : State) (w : Nat) (v : Window) : (setWindow s w v).emitted = s.emitted := rfl
@[simp] theorem setWindow_pending (s : State) (w : Nat) (v : Window) : (setWindow s w v).pending = s.pending := rfl
@[simp] theorem getF_setWindow (s : State) (w : Nat) (v : Window) (g : Fld) : getF (setWindow s w v) g = getF s g := rfl

/-! ### State.reset, and the pending commands -/

@[simp] theorem reset_regs : State.reset.regs = [] := rfl
@[simp] theorem reset_mem : State.reset.mem = [] := rfl
@[simp] theorem reset_pending : State.reset.pending = [] := rfl
@[simp] theorem reset_emitted : State.reset.emitted = [] := rfl

/-- After reset every register field reads as its table gives. -/
@[simp] theorem getF_reset (f : Fld) : getF State.reset f = f.rst := rfl

@[simp] theorem getF_pending (s : State) (l : List Instr) (f : Fld) : getF { s with pending := l } f = getF s f := rfl

end Sys2Proof.Machine
end

