-- ==== Sys2Proof/Laws/Tables.lean ====
section
/-! SUPPORT. Finite tables: what a key reads after a key was set. -/

namespace Sys2Proof.Machine

variable {κ α : Type} [DecidableEq κ]

@[simp] theorem tget_nil (d : α) (k : κ) : tget [] d k = d := rfl

@[simp] theorem tget_tset_same (t : Tab κ α) (d : α) (k : κ) (v : α) : tget (tset t k v) d k = v := by
  induction t with
  | nil => simp [tset, tget]
  | cons x r ih => simp only [tset]; split <;> simp_all [tget]

theorem tget_tset_other (t : Tab κ α) (d : α) {k k' : κ} (v : α) (h : k' ≠ k) : tget (tset t k v) d k' = tget t d k' := by
  induction t with
  | nil => simp [tset, tget, Ne.symm h]
  | cons x r ih =>
    simp only [tset]
    split
    · next e => subst e; simp [tget, Ne.symm h]
    · simp only [tget, ih]

theorem tget_tset (t : Tab κ α) (d : α) (k k' : κ) (v : α) : tget (tset t k v) d k' = if k' = k then v else tget t d k' := by
  split
  · next e => subst e; simp
  · next e => exact tget_tset_other t d v e

@[simp] theorem tget_tmod_same (t : Tab κ α) (d : α) (k : κ) (f : α → α) : tget (tmod t d k f) d k = f (tget t d k) := tget_tset_same ..

theorem tget_tmod_other (t : Tab κ α) (d : α) {k k' : κ} (f : α → α) (h : k' ≠ k) : tget (tmod t d k f) d k' = tget t d k' :=
  tget_tset_other t d _ h

end Sys2Proof.Machine
end

