-- ==== Sys2Proof/Laws/Registers.lean ====
section
/-! SUPPORT. Register fields: what a field reads after a field, a latch or a counter was written, and what the shared operations over
registers leave as it was. -/

namespace Sys2Proof.Machine

/-! ### One field written -/

theorem getF_setF_same (s : State) (f : Fld) (v : Nat) : getF (setF s f v) f = v % 2 ^ f.width := tget_tset_same ..

/-- A field of the same key reads the value written, whatever reset value it carries. -/
theorem getF_setF_key (s : State) {f g : Fld} (v : Nat) (h : g.key = f.key) : getF (setF s f v) g = v % 2 ^ f.width := by
  simp [getF, h]

theorem getF_setF_other (s : State) {f g : Fld} (v : Nat) (h : g.key ≠ f.key) : getF (setF s f v) g = getF s g :=
  tget_tset_other _ _ _ h

/-- Writing a field changes that field alone. -/
theorem getF_setF (s : State) (f g : Fld) (v : Nat) : getF (setF s f v) g = if g.key = f.key then v % 2 ^ f.width else getF s g := by
  split
  · next h => exact getF_setF_key s v h
  · next h => exact getF_setF_other s v h

/-- A field of another register is left as it was. -/
theorem getF_setF_reg (s : State) {f g : Fld} (v : Nat) (h : g.key.reg.name ≠ f.key.reg.name) : getF (setF s f v) g = getF s g :=
  getF_setF_other s v (fun e => h (by rw [e]))

/-- A value written is below 2 to the width. -/
theorem getF_setF_lt (s : State) (f : Fld) (v : Nat) : getF (setF s f v) f < 2 ^ f.width := by
  rw [getF_setF_same]; exact Nat.mod_lt _ (Nat.two_pow_pos _)

/-! ### Flags, counters, bits -/

theorem flagF_setB_same (s : State) (f : Fld) (b : Bool) (h : 0 < f.width) : flagF (setB s f b) f = b := by
  have e : (1 : Nat) % 2 ^ f.width = 1 := Nat.mod_eq_of_lt (Nat.one_lt_two_pow (by omega))
  cases b <;> simp [flagF, setB, getF_setF_same, e]

theorem getF_setB_other (s : State) {f g : Fld} (b : Bool) (h : g.key ≠ f.key) : getF (setB s f b) g = getF s g :=
  getF_setF_other s _ h

/-- A counter counts up and wraps (R12). -/
theorem getF_incF_same (s : State) (f : Fld) : getF (incF s f) f = (getF s f + 1) % 2 ^ f.width := getF_setF_same ..

theorem getF_incF_other (s : State) {f g : Fld} (h : g.key ≠ f.key) : getF (incF s f) g = getF s g := getF_setF_other s _ h

theorem getF_addF_same (s : State) (f : Fld) (n : Nat) : getF (addF s f n) f = (getF s f + n) % 2 ^ f.width := getF_setF_same ..

theorem getF_addF_other (s : State) {f g : Fld} (n : Nat) (h : g.key ≠ f.key) : getF (addF s f n) g = getF s g := getF_setF_other s _ h

theorem getF_setBitF_other (s : State) {f g : Fld} (n : Nat) (b : Bool) (h : g.key ≠ f.key) : getF (setBitF s f n b) g = getF s g :=
  getF_setF_other s _ h

/-! ### What the firing of a latch leaves -/

@[simp] theorem latchFire_regs (s : State) (p : Nat) : (latchFire s p).regs = s.regs := by unfold latchFire; split <;> rfl
@[simp] theorem latchFire_mem (s : State) (p : Nat) : (latchFire s p).mem = s.mem := by unfold latchFire; split <;> rfl
@[simp] theorem latchFire_now (s : State) (p : Nat) : (latchFire s p).now = s.now := by unfold latchFire; split <;> rfl
@[simp] theorem latchFire_free (s : State) (p : Nat) : (latchFire s p).free = s.free := by unfold latchFire; split <;> rfl
@[simp] theorem latchFire_sched (s : State) (p : Nat) : (latchFire s p).sched = s.sched := by unfold latchFire; split <;> rfl
@[simp] theorem latchFire_bounds (s : State) (p : Nat) : (latchFire s p).bounds = s.bounds := by unfold latchFire; split <;> rfl
@[simp] theorem latchFire_taints (s : State) (p : Nat) : (latchFire s p).taints = s.taints := by unfold latchFire; split <;> rfl
@[simp] theorem latchFire_seq (s : State) (p : Nat) : (latchFire s p).seq = s.seq := by unfold latchFire; split <;> rfl
@[simp] theorem latchFire_out (s : State) (p : Nat) : (latchFire s p).out = s.out := by unfold latchFire; split <;> rfl
@[simp] theorem latchFire_deckle (s : State) (p : Nat) : (latchFire s p).deckle = s.deckle := by unfold latchFire; split <;> rfl
@[simp] theorem latchFire_head (s : State) (p : Nat) : (latchFire s p).head = s.head := by unfold latchFire; split <;> rfl
@[simp] theorem latchFire_beater (s : State) (p : Nat) : (latchFire s p).beater = s.beater := by unfold latchFire; split <;> rfl
@[simp] theorem latchFire_couch (s : State) (p : Nat) : (latchFire s p).couch = s.couch := by unfold latchFire; split <;> rfl
@[simp] theorem latchFire_capture (s : State) (p : Nat) : (latchFire s p).capture = s.capture := by unfold latchFire; split <;> rfl
@[simp] theorem latchFire_time (s : State) (p : Nat) : (latchFire s p).time = s.time := by unfold latchFire; split <;> rfl
@[simp] theorem latchFire_chain (s : State) (p : Nat) : (latchFire s p).chain = s.chain := by unfold latchFire; split <;> rfl
@[simp] theorem latchFire_store (s : State) (p : Nat) : (latchFire s p).store = s.store := by unfold latchFire; split <;> rfl
@[simp] theorem latchFire_host (s : State) (p : Nat) : (latchFire s p).host = s.host := by unfold latchFire; split <;> rfl
@[simp] theorem latchFire_sec (s : State) (p : Nat) : (latchFire s p).sec = s.sec := by unfold latchFire; split <;> rfl
@[simp] theorem latchFire_sizing (s : State) (p : Nat) : (latchFire s p).sizing = s.sizing := by unfold latchFire; split <;> rfl
@[simp] theorem latchFire_power (s : State) (p : Nat) : (latchFire s p).power = s.power := by unfold latchFire; split <;> rfl
@[simp] theorem latchFire_emitted (s : State) (p : Nat) : (latchFire s p).emitted = s.emitted := by unfold latchFire; split <;> rfl
@[simp] theorem latchFire_pending (s : State) (p : Nat) : (latchFire s p).pending = s.pending := by unfold latchFire; split <;> rfl
@[simp] theorem getF_latchFire (s : State) (p : Nat) (f : Fld) : getF (latchFire s p) f = getF s f := by simp [getF]
@[simp] theorem flagF_latchFire (s : State) (p : Nat) (f : Fld) : flagF (latchFire s p) f = flagF s f := by simp [flagF]

/-! ### Latches -/

/-- A latch that is set stays as it is, and no event leaves. -/
theorem latch_set (s : State) (f : Fld) (p : Nat) (h : flagF s f = true) : latch s f p = s := by simp [latch, h]

/-- A latch that is clear sets and fires its producer, once in each cycle (R287). -/
theorem latch_clear (s : State) (f : Fld) (p : Nat) (h : flagF s f = false) : latch s f p = latchFire (setB s f true) p := by simp [latch, h]

theorem flagF_latch (s : State) (f : Fld) (p : Nat) (h : 0 < f.width) : flagF (latch s f p) f = true := by
  unfold latch
  split
  · assumption
  · simpa using flagF_setB_same s f true h

theorem getF_latch_other (s : State) {f g : Fld} (p : Nat) (h : g.key ≠ f.key) : getF (latch s f p) g = getF s g := by
  unfold latch
  split
  · rfl
  · simpa using getF_setB_other s true h

theorem getF_latchBit_other (s : State) {f g : Fld} (n p : Nat) (h : g.key ≠ f.key) : getF (latchBit s f n p) g = getF s g := by
  unfold latchBit
  split
  · rfl
  · simpa using getF_setBitF_other s n true h

/-! ### What a latch leaves of the rest -/

@[simp] theorem latch_mem (s : State) (f : Fld) (p : Nat) : (latch s f p).mem = s.mem := by unfold latch; split <;> simp
@[simp] theorem latch_now (s : State) (f : Fld) (p : Nat) : (latch s f p).now = s.now := by unfold latch; split <;> simp
@[simp] theorem latch_free (s : State) (f : Fld) (p : Nat) : (latch s f p).free = s.free := by unfold latch; split <;> simp
@[simp] theorem latch_sched (s : State) (f : Fld) (p : Nat) : (latch s f p).sched = s.sched := by unfold latch; split <;> simp
@[simp] theorem latch_bounds (s : State) (f : Fld) (p : Nat) : (latch s f p).bounds = s.bounds := by unfold latch; split <;> simp
@[simp] theorem latch_taints (s : State) (f : Fld) (p : Nat) : (latch s f p).taints = s.taints := by unfold latch; split <;> simp
@[simp] theorem latch_seq (s : State) (f : Fld) (p : Nat) : (latch s f p).seq = s.seq := by unfold latch; split <;> simp
@[simp] theorem latch_out (s : State) (f : Fld) (p : Nat) : (latch s f p).out = s.out := by unfold latch; split <;> simp
@[simp] theorem latch_deckle (s : State) (f : Fld) (p : Nat) : (latch s f p).deckle = s.deckle := by unfold latch; split <;> simp
@[simp] theorem latch_head (s : State) (f : Fld) (p : Nat) : (latch s f p).head = s.head := by unfold latch; split <;> simp
@[simp] theorem latch_beater (s : State) (f : Fld) (p : Nat) : (latch s f p).beater = s.beater := by unfold latch; split <;> simp
@[simp] theorem latch_couch (s : State) (f : Fld) (p : Nat) : (latch s f p).couch = s.couch := by unfold latch; split <;> simp
@[simp] theorem latch_capture (s : State) (f : Fld) (p : Nat) : (latch s f p).capture = s.capture := by unfold latch; split <;> simp
@[simp] theorem latch_time (s : State) (f : Fld) (p : Nat) : (latch s f p).time = s.time := by unfold latch; split <;> simp
@[simp] theorem latch_chain (s : State) (f : Fld) (p : Nat) : (latch s f p).chain = s.chain := by unfold latch; split <;> simp
@[simp] theorem latch_store (s : State) (f : Fld) (p : Nat) : (latch s f p).store = s.store := by unfold latch; split <;> simp
@[simp] theorem latch_host (s : State) (f : Fld) (p : Nat) : (latch s f p).host = s.host := by unfold latch; split <;> simp
@[simp] theorem latch_sec (s : State) (f : Fld) (p : Nat) : (latch s f p).sec = s.sec := by unfold latch; split <;> simp
@[simp] theorem latch_sizing (s : State) (f : Fld) (p : Nat) : (latch s f p).sizing = s.sizing := by unfold latch; split <;> simp
@[simp] theorem latch_power (s : State) (f : Fld) (p : Nat) : (latch s f p).power = s.power := by unfold latch; split <;> simp
@[simp] theorem latch_emitted (s : State) (f : Fld) (p : Nat) : (latch s f p).emitted = s.emitted := by unfold latch; split <;> simp
@[simp] theorem latch_pending (s : State) (f : Fld) (p : Nat) : (latch s f p).pending = s.pending := by unfold latch; split <;> simp

@[simp] theorem latchBit_mem (s : State) (f : Fld) (n p : Nat) : (latchBit s f n p).mem = s.mem := by unfold latchBit; split <;> simp
@[simp] theorem latchBit_now (s : State) (f : Fld) (n p : Nat) : (latchBit s f n p).now = s.now := by unfold latchBit; split <;> simp
@[simp] theorem latchBit_free (s : State) (f : Fld) (n p : Nat) : (latchBit s f n p).free = s.free := by unfold latchBit; split <;> simp
@[simp] theorem latchBit_sched (s : State) (f : Fld) (n p : Nat) : (latchBit s f n p).sched = s.sched := by unfold latchBit; split <;> simp
@[simp] theorem latchBit_bounds (s : State) (f : Fld) (n p : Nat) : (latchBit s f n p).bounds = s.bounds := by unfold latchBit; split <;> simp
@[simp] theorem latchBit_taints (s : State) (f : Fld) (n p : Nat) : (latchBit s f n p).taints = s.taints := by unfold latchBit; split <;> simp
@[simp] theorem latchBit_seq (s : State) (f : Fld) (n p : Nat) : (latchBit s f n p).seq = s.seq := by unfold latchBit; split <;> simp
@[simp] theorem latchBit_out (s : State) (f : Fld) (n p : Nat) : (latchBit s f n p).out = s.out := by unfold latchBit; split <;> simp
@[simp] theorem latchBit_deckle (s : State) (f : Fld) (n p : Nat) : (latchBit s f n p).deckle = s.deckle := by unfold latchBit; split <;> simp
@[simp] theorem latchBit_head (s : State) (f : Fld) (n p : Nat) : (latchBit s f n p).head = s.head := by unfold latchBit; split <;> simp
@[simp] theorem latchBit_beater (s : State) (f : Fld) (n p : Nat) : (latchBit s f n p).beater = s.beater := by unfold latchBit; split <;> simp
@[simp] theorem latchBit_couch (s : State) (f : Fld) (n p : Nat) : (latchBit s f n p).couch = s.couch := by unfold latchBit; split <;> simp
@[simp] theorem latchBit_capture (s : State) (f : Fld) (n p : Nat) : (latchBit s f n p).capture = s.capture := by unfold latchBit; split <;> simp
@[simp] theorem latchBit_time (s : State) (f : Fld) (n p : Nat) : (latchBit s f n p).time = s.time := by unfold latchBit; split <;> simp
@[simp] theorem latchBit_chain (s : State) (f : Fld) (n p : Nat) : (latchBit s f n p).chain = s.chain := by unfold latchBit; split <;> simp
@[simp] theorem latchBit_store (s : State) (f : Fld) (n p : Nat) : (latchBit s f n p).store = s.store := by unfold latchBit; split <;> simp
@[simp] theorem latchBit_host (s : State) (f : Fld) (n p : Nat) : (latchBit s f n p).host = s.host := by unfold latchBit; split <;> simp
@[simp] theorem latchBit_sec (s : State) (f : Fld) (n p : Nat) : (latchBit s f n p).sec = s.sec := by unfold latchBit; split <;> simp
@[simp] theorem latchBit_sizing (s : State) (f : Fld) (n p : Nat) : (latchBit s f n p).sizing = s.sizing := by unfold latchBit; split <;> simp
@[simp] theorem latchBit_power (s : State) (f : Fld) (n p : Nat) : (latchBit s f n p).power = s.power := by unfold latchBit; split <;> simp
@[simp] theorem latchBit_emitted (s : State) (f : Fld) (n p : Nat) : (latchBit s f n p).emitted = s.emitted := by unfold latchBit; split <;> simp
@[simp] theorem latchBit_pending (s : State) (f : Fld) (n p : Nat) : (latchBit s f n p).pending = s.pending := by unfold latchBit; split <;> simp

end Sys2Proof.Machine
end

