-- ==== Sys2Proof/Laws/Access.lean ====
section
/-! SUPPORT. The shared operations of commands: what a register write comes to (R370, R375, R376), what the issue of an instruction comes
to (R80, R94, R112, R226, R228), and what a step does with the queue. -/

namespace Sys2Proof.Machine

/-! ### Register writes -/

/-- A register write of a powered block that its rule accepts: its effect, answered without error. -/
theorem regWrite_accepts (m : Master) (r : Reg) (s t : State) (f : State → Option State) (p : regPowered s r = true) (h : f s = some t) :
    regWrite m r s f = emit t (.response m 0) := by simp [regWrite, p, h]

/-- A register write of a powered block that its rule refuses. -/
theorem regWrite_refuses (m : Master) (r : Reg) (s : State) (f : State → Option State) (p : regPowered s r = true) (h : f s = none) :
    regWrite m r s f = busError s m true 32 false (regAddr r) .refused := by simp [regWrite, p, h]

/-- A register write of a block that is off. -/
theorem regWrite_off (m : Master) (r : Reg) (s : State) (f : State → Option State) (p : regPowered s r = false) :
    regWrite m r s f = busError s m true 32 false (regAddr r) .poweredOff := by simp [regWrite, p]

/-- Everything a register write can come to. -/
theorem regWrite_cases (m : Master) (r : Reg) (s : State) (f : State → Option State) :
    (∃ t, regPowered s r = true ∧ f s = some t ∧ regWrite m r s f = emit t (.response m 0)) ∨
    (regPowered s r = true ∧ f s = none ∧ regWrite m r s f = busError s m true 32 false (regAddr r) .refused) ∨
    (regPowered s r = false ∧ regWrite m r s f = busError s m true 32 false (regAddr r) .poweredOff) := by
  cases p : regPowered s r with
  | false => exact .inr (.inr ⟨rfl, regWrite_off m r s f p⟩)
  | true =>
    cases h : f s with
    | none => exact .inr (.inl ⟨rfl, rfl, regWrite_refuses m r s f p h⟩)
    | some t => exact .inl ⟨t, rfl, rfl, regWrite_accepts m r s t f p h⟩

theorem regWriteE_cases (m : Master) (r : Reg) (s : State) (f : State → Except Err State) :
    (∃ t, regPowered s r = true ∧ f s = .ok t ∧ regWriteE m r s f = emit t (.response m 0)) ∨
    (∃ e, regPowered s r = true ∧ f s = .error e ∧ regWriteE m r s f = busError s m true 32 false (regAddr r) e) ∨
    (regPowered s r = false ∧ regWriteE m r s f = busError s m true 32 false (regAddr r) .poweredOff) := by
  cases p : regPowered s r with
  | false => exact .inr (.inr ⟨rfl, by simp [regWriteE, p]⟩)
  | true =>
    cases h : f s with
    | error e => exact .inr (.inl ⟨e, rfl, rfl, by simp [regWriteE, p, h]⟩)
    | ok t => exact .inl ⟨t, rfl, rfl, by simp [regWriteE, p, h]⟩

/-- A rule that accepts a write only while the quire is idle. -/
theorem whenIdle_idle (q : Nat) (f : State → State) (s : State) (h : quireIdle s q = true) : whenIdle q f s = some (f s) := by
  simp [whenIdle, h]

theorem whenIdle_busy (q : Nat) (f : State → State) (s : State) (h : quireIdle s q = false) : whenIdle q f s = none := by
  simp [whenIdle, h]

/-! ### Failed accesses -/

/-- An MSI-X message leaves, or its pending bit sets; no other register is touched. -/
theorem getF_msix_other (s : State) (v : Nat) (g : Fld) (h : g.key.reg.name ≠ .MSIX_PBA) : getF (msix s v) g = getF s g := by
  unfold msix
  split
  · exact getF_setF_reg _ _ h
  · rfl

/-- A failed access is counted. -/
theorem busError_count (s : State) (m : Master) (w : Bool) (size : Nat) (bar2 : Bool) (addr : Nat) (e : Err) :
    getF (busError s m w size bar2 addr e) F.BUS_CNT_ERR = (getF s F.BUS_CNT_ERR + 1) % 2 ^ 16 := by
  refine Eq.trans ?_ (getF_incF_same s F.BUS_CNT_ERR)
  unfold busError
  rw [getF_emit]
  dsimp only
  split
  · rfl
  · rw [getF_msix_other _ _ _ (by decide)]
    simp only [setB]
    iterate 7 rw [getF_setF_other _ _ (by decide)]

/-! ### Issue of an instruction -/

/-- An instruction that may issue, with no field out of range, has its effect. -/
theorem issue_runs (s : State) (q t : Nat) (f : State → State) (c : canIssue s q t = true) (w : pcInWindow s q t = true) :
    issue s q t false f = f s := by simp [issue, c, w]

/-- Everything the issue of an instruction can come to. -/
theorem issue_cases (s : State) (q t : Nat) (bad : Bool) (f : State → State) :
    (canIssue s q t = false ∧ issue s q t bad f = s) ∨
    (canIssue s q t = true ∧ pcInWindow s q t = false ∧ issue s q t bad f = threadFault s q t 2) ∨
    (canIssue s q t = true ∧ pcInWindow s q t = true ∧ bad = true ∧ issue s q t bad f = threadFault s q t 1) ∨
    (canIssue s q t = true ∧ pcInWindow s q t = true ∧ bad = false ∧ issue s q t bad f = f s) := by
  cases c : canIssue s q t <;> cases w : pcInWindow s q t <;> cases bad <;> simp [issue, c, w]

/-- Everything the issue of a Beater instruction can come to. -/
theorem ctxIssue_cases (s : State) (q c : Nat) (bad : Bool) (f : State → State) :
    (issueCycle s q c = none ∧ ctxIssue s q c bad f = s) ∨
    ∃ n t, issueCycle s q c = some n ∧ t = ctxServe s q c n ∧
      (ctxIssue s q c bad f = ctxFault t q c 2 ∨
      ctxIssue s q c bad f = ctxFault (uncorrectable t 3 (0x6000000 + q * 0x80000 + 8 * (ctxOf t q c).pc)) q c 5 ∨
      (bad = true ∧ ctxIssue s q c bad f = ctxFault t q c 1) ∨ (bad = false ∧ ctxIssue s q c bad f = f t)) := by
  unfold ctxIssue
  cases h : issueCycle s q c with
  | none => exact .inl ⟨rfl, rfl⟩
  | some n =>
    refine .inr ⟨n, _, rfl, rfl, ?_⟩
    unfold ctxRun
    repeat' split
    all_goals simp_all

/-! ### Steps -/

/-- With nothing waiting the block idles. -/
theorem step_idle (s : State) (h : s.pending = []) : step s = .next s := by simp [step, h]

/-- The front command acts on the state with the queue's rest. -/
theorem step_front (s : State) (c : Instr) (r : List Instr) (h : s.pending = c :: r) : step s = exec c s.popped := by simp [step, h]

end Sys2Proof.Machine
end

