-- ==== Sys2Proof/Laws/Memory.lean ====
section
/-! SUPPORT. Memory: what a byte reads after a byte was written, and the canonical form, which every memory operation keeps. -/

namespace Sys2Proof.Machine

/-! ### The canonical form -/

/-- A list in canonical form from a bound is in canonical form from every lower one. -/
theorem cellsWf_mono {l : List Host.Cell} {a b : Nat} (h : a ≤ b) (w : cellsWf b l = true) : cellsWf a l = true := by
  cases l with
  | nil => rfl
  | cons x r => simp only [cellsWf, Bool.and_eq_true, decide_eq_true_eq] at w ⊢; exact ⟨⟨by omega, w.1.2⟩, w.2⟩

/-- Writing a byte keeps the canonical form. -/
theorem cellPut_wf (l : List Host.Cell) (lo a : Nat) (v : Byte) (h : lo ≤ a) (w : cellsWf lo l = true) : cellsWf lo (cellPut l a v) = true := by
  induction l generalizing lo with
  | nil => unfold cellPut; split <;> simp_all [cellsWf]
  | cons x r ih =>
    obtain ⟨k, b⟩ := x
    simp only [cellsWf, Bool.and_eq_true, decide_eq_true_eq] at w
    obtain ⟨⟨hk, hb⟩, hr⟩ := w
    unfold cellPut
    split
    · next e =>
      subst e
      split
      · exact cellsWf_mono (by omega) hr
      · next hv => simp only [cellsWf, Bool.and_eq_true, decide_eq_true_eq]; exact ⟨⟨hk, hv⟩, hr⟩
    · next hka =>
      split
      · next hlt =>
        split <;> simp only [cellsWf, Bool.and_eq_true, decide_eq_true_eq]
        · exact ⟨⟨hk, hb⟩, hr⟩
        · next hv => exact ⟨⟨h, hv⟩, ⟨by omega, hb⟩, hr⟩
      · next hlt =>
        simp only [cellsWf, Bool.and_eq_true, decide_eq_true_eq]
        exact ⟨⟨hk, hb⟩, ih (k + 1) (by omega) hr⟩

/-- Leaving out some cells keeps the canonical form. -/
theorem filter_wf (p : Host.Cell → Bool) (l : List Host.Cell) (lo : Nat) (w : cellsWf lo l = true) : cellsWf lo (l.filter p) = true := by
  induction l generalizing lo with
  | nil => rfl
  | cons x r ih =>
    simp only [cellsWf, Bool.and_eq_true, decide_eq_true_eq] at w
    simp only [List.filter_cons]
    split
    · simp only [cellsWf, Bool.and_eq_true, decide_eq_true_eq]; exact ⟨w.1, ih _ w.2⟩
    · exact cellsWf_mono (by omega) (ih _ w.2)

theorem setByte_wf (s : State) (a : Nat) (v : Byte) (w : Memory.wf s.mem = true) : Memory.wf (setByte s a v).mem = true :=
  cellPut_wf s.mem 0 a v (Nat.zero_le a) w

theorem memWrite_wf (s : State) (a n v : Nat) (w : Memory.wf s.mem = true) : Memory.wf (memWrite s a n v).mem = true := by
  induction n generalizing s a v with
  | zero => exact w
  | succ n ih => exact ih _ _ _ (setByte_wf s a _ w)

theorem setWord_wf (s : State) (a v : Nat) (w : Memory.wf s.mem = true) : Memory.wf (setWord s a v).mem = true := memWrite_wf s a 4 v w

theorem reset_wf : Memory.wf State.reset.mem = true := rfl

/-! ### Reading after writing -/

/-- A byte below every listed one reads as an unlisted one. -/
theorem cellAt_below {l : List Host.Cell} {lo a : Nat} (w : cellsWf lo l = true) (h : a < lo) : cellAt l a = 0 := by
  cases l with
  | nil => rfl
  | cons x r =>
    obtain ⟨k, b⟩ := x
    simp only [cellsWf, Bool.and_eq_true, decide_eq_true_eq] at w
    have h1 : k ≠ a := by omega
    have h2 : a < k := by omega
    simp [cellAt, h1, h2]

/-- After a byte is written it reads what was written, and every other byte reads as before. -/
theorem cellAt_cellPut (l : List Host.Cell) (lo a c : Nat) (v : Byte) (w : cellsWf lo l = true) :
    cellAt (cellPut l a v) c = if c = a then v else cellAt l c := by
  induction l generalizing lo with
  | nil =>
    unfold cellPut
    split
    · next hv => split <;> simp_all [cellAt]
    · by_cases hc : c = a
      · subst hc; simp [cellAt]
      · simp [cellAt, hc, Ne.symm hc]
  | cons x r ih =>
    obtain ⟨k, b⟩ := x
    simp only [cellsWf, Bool.and_eq_true, decide_eq_true_eq] at w
    obtain ⟨⟨hk, hb⟩, hr⟩ := w
    unfold cellPut
    split
    · next e =>
      subst e
      split
      · next hv =>
        subst hv
        by_cases hc : c = k
        · subst hc; simp [cellAt_below hr (Nat.lt_succ_self c)]
        · simp only [hc, if_false, cellAt]
          rw [if_neg (Ne.symm hc)]
          split
          · exact cellAt_below hr (by omega)
          · rfl
      · by_cases hc : c = k
        · subst hc; simp [cellAt]
        · simp [cellAt, hc, Ne.symm hc]
    · next hka =>
      split
      · next hlt =>
        split
        · next hv =>
          subst hv
          by_cases hc : c = a
          · subst hc; simp [cellAt, hka, hlt]
          · simp [hc]
        · by_cases hc : c = a
          · subst hc; simp [cellAt]
          · simp only [cellAt, hc, if_false, if_neg (Ne.symm hc)]
            split
            · next hca => rw [if_neg (by omega), if_pos (by omega)]
            · rfl
      · next hlt =>
        have e := ih (k + 1) hr
        simp only [cellAt, e]
        by_cases hc : c = a
        · subst hc; simp [hka, hlt]
        · simp [hc]

theorem memByte_setByte (s : State) (a c : Nat) (v : Byte) (w : Memory.wf s.mem = true) :
    memByte (setByte s a v) c = if c = a then v else memByte s c := cellAt_cellPut s.mem 0 a c v w

/-- Writing n bytes leaves every byte outside them as it was. -/
theorem memByte_memWrite_other (s : State) (a n v c : Nat) (w : Memory.wf s.mem = true) (h : c < a ∨ a + n ≤ c) :
    memByte (memWrite s a n v) c = memByte s c := by
  induction n generalizing s a v with
  | zero => rfl
  | succ n ih =>
    have e := ih (setByte s a (BitVec.ofNat 8 v)) (a + 1) (v / 256) (setByte_wf s a _ w) (by omega)
    rw [memWrite, e, memByte_setByte s a c _ w, if_neg (by omega)]

/-- A byte written reads its part of the value written. -/
theorem memByte_memWrite_same (s : State) (a n v i : Nat) (w : Memory.wf s.mem = true) (h : i < n) :
    memByte (memWrite s a n v) (a + i) = BitVec.ofNat 8 (v / 256 ^ i) := by
  induction n generalizing s a v i with
  | zero => omega
  | succ n ih =>
    have w' := setByte_wf s a (BitVec.ofNat 8 v) w
    cases i with
    | zero => rw [memWrite, memByte_memWrite_other _ _ _ _ _ w' (by omega), memByte_setByte s a _ _ w]; simp
    | succ i =>
      have e := ih (setByte s a (BitVec.ofNat 8 v)) (a + 1) (v / 256) i w' (by omega)
      rw [memWrite, show a + (i + 1) = a + 1 + i by omega, e, Nat.div_div_eq_div_mul, Nat.pow_succ, Nat.mul_comm]

/-! ### Writing bytes changes memory alone -/

@[simp] theorem memWrite_regs (s : State) (a n v : Nat) : (memWrite s a n v).regs = s.regs := by
  induction n generalizing s a v with
  | zero => rfl
  | succ n ih => exact ih _ _ _
@[simp] theorem setWord_regs (s : State) (a v : Nat) : (setWord s a v).regs = s.regs := memWrite_regs s a 4 v
@[simp] theorem memWrite_now (s : State) (a n v : Nat) : (memWrite s a n v).now = s.now := by
  induction n generalizing s a v with
  | zero => rfl
  | succ n ih => exact ih _ _ _
@[simp] theorem setWord_now (s : State) (a v : Nat) : (setWord s a v).now = s.now := memWrite_now s a 4 v
@[simp] theorem memWrite_free (s : State) (a n v : Nat) : (memWrite s a n v).free = s.free := by
  induction n generalizing s a v with
  | zero => rfl
  | succ n ih => exact ih _ _ _
@[simp] theorem setWord_free (s : State) (a v : Nat) : (setWord s a v).free = s.free := memWrite_free s a 4 v
@[simp] theorem memWrite_sched (s : State) (a n v : Nat) : (memWrite s a n v).sched = s.sched := by
  induction n generalizing s a v with
  | zero => rfl
  | succ n ih => exact ih _ _ _
@[simp] theorem setWord_sched (s : State) (a v : Nat) : (setWord s a v).sched = s.sched := memWrite_sched s a 4 v
@[simp] theorem memWrite_bounds (s : State) (a n v : Nat) : (memWrite s a n v).bounds = s.bounds := by
  induction n generalizing s a v with
  | zero => rfl
  | succ n ih => exact ih _ _ _
@[simp] theorem setWord_bounds (s : State) (a v : Nat) : (setWord s a v).bounds = s.bounds := memWrite_bounds s a 4 v
@[simp] theorem memWrite_taints (s : State) (a n v : Nat) : (memWrite s a n v).taints = s.taints := by
  induction n generalizing s a v with
  | zero => rfl
  | succ n ih => exact ih _ _ _
@[simp] theorem setWord_taints (s : State) (a v : Nat) : (setWord s a v).taints = s.taints := memWrite_taints s a 4 v
@[simp] theorem memWrite_post (s : State) (a n v : Nat) : (memWrite s a n v).post = s.post := by
  induction n generalizing s a v with
  | zero => rfl
  | succ n ih => exact ih _ _ _
@[simp] theorem setWord_post (s : State) (a v : Nat) : (setWord s a v).post = s.post := memWrite_post s a 4 v
@[simp] theorem memWrite_seq (s : State) (a n v : Nat) : (memWrite s a n v).seq = s.seq := by
  induction n generalizing s a v with
  | zero => rfl
  | succ n ih => exact ih _ _ _
@[simp] theorem setWord_seq (s : State) (a v : Nat) : (setWord s a v).seq = s.seq := memWrite_seq s a 4 v
@[simp] theorem memWrite_out (s : State) (a n v : Nat) : (memWrite s a n v).out = s.out := by
  induction n generalizing s a v with
  | zero => rfl
  | succ n ih => exact ih _ _ _
@[simp] theorem setWord_out (s : State) (a v : Nat) : (setWord s a v).out = s.out := memWrite_out s a 4 v
@[simp] theorem memWrite_deckle (s : State) (a n v : Nat) : (memWrite s a n v).deckle = s.deckle := by
  induction n generalizing s a v with
  | zero => rfl
  | succ n ih => exact ih _ _ _
@[simp] theorem setWord_deckle (s : State) (a v : Nat) : (setWord s a v).deckle = s.deckle := memWrite_deckle s a 4 v
@[simp] theorem memWrite_head (s : State) (a n v : Nat) : (memWrite s a n v).head = s.head := by
  induction n generalizing s a v with
  | zero => rfl
  | succ n ih => exact ih _ _ _
@[simp] theorem setWord_head (s : State) (a v : Nat) : (setWord s a v).head = s.head := memWrite_head s a 4 v
@[simp] theorem memWrite_beater (s : State) (a n v : Nat) : (memWrite s a n v).beater = s.beater := by
  induction n generalizing s a v with
  | zero => rfl
  | succ n ih => exact ih _ _ _
@[simp] theorem setWord_beater (s : State) (a v : Nat) : (setWord s a v).beater = s.beater := memWrite_beater s a 4 v
@[simp] theorem memWrite_couch (s : State) (a n v : Nat) : (memWrite s a n v).couch = s.couch := by
  induction n generalizing s a v with
  | zero => rfl
  | succ n ih => exact ih _ _ _
@[simp] theorem setWord_couch (s : State) (a v : Nat) : (setWord s a v).couch = s.couch := memWrite_couch s a 4 v
@[simp] theorem memWrite_capture (s : State) (a n v : Nat) : (memWrite s a n v).capture = s.capture := by
  induction n generalizing s a v with
  | zero => rfl
  | succ n ih => exact ih _ _ _
@[simp] theorem setWord_capture (s : State) (a v : Nat) : (setWord s a v).capture = s.capture := memWrite_capture s a 4 v
@[simp] theorem memWrite_time (s : State) (a n v : Nat) : (memWrite s a n v).time = s.time := by
  induction n generalizing s a v with
  | zero => rfl
  | succ n ih => exact ih _ _ _
@[simp] theorem setWord_time (s : State) (a v : Nat) : (setWord s a v).time = s.time := memWrite_time s a 4 v
@[simp] theorem memWrite_chain (s : State) (a n v : Nat) : (memWrite s a n v).chain = s.chain := by
  induction n generalizing s a v with
  | zero => rfl
  | succ n ih => exact ih _ _ _
@[simp] theorem setWord_chain (s : State) (a v : Nat) : (setWord s a v).chain = s.chain := memWrite_chain s a 4 v
@[simp] theorem memWrite_store (s : State) (a n v : Nat) : (memWrite s a n v).store = s.store := by
  induction n generalizing s a v with
  | zero => rfl
  | succ n ih => exact ih _ _ _
@[simp] theorem setWord_store (s : State) (a v : Nat) : (setWord s a v).store = s.store := memWrite_store s a 4 v
@[simp] theorem memWrite_host (s : State) (a n v : Nat) : (memWrite s a n v).host = s.host := by
  induction n generalizing s a v with
  | zero => rfl
  | succ n ih => exact ih _ _ _
@[simp] theorem setWord_host (s : State) (a v : Nat) : (setWord s a v).host = s.host := memWrite_host s a 4 v
@[simp] theorem memWrite_sec (s : State) (a n v : Nat) : (memWrite s a n v).sec = s.sec := by
  induction n generalizing s a v with
  | zero => rfl
  | succ n ih => exact ih _ _ _
@[simp] theorem setWord_sec (s : State) (a v : Nat) : (setWord s a v).sec = s.sec := memWrite_sec s a 4 v
@[simp] theorem memWrite_sizing (s : State) (a n v : Nat) : (memWrite s a n v).sizing = s.sizing := by
  induction n generalizing s a v with
  | zero => rfl
  | succ n ih => exact ih _ _ _
@[simp] theorem setWord_sizing (s : State) (a v : Nat) : (setWord s a v).sizing = s.sizing := memWrite_sizing s a 4 v
@[simp] theorem memWrite_power (s : State) (a n v : Nat) : (memWrite s a n v).power = s.power := by
  induction n generalizing s a v with
  | zero => rfl
  | succ n ih => exact ih _ _ _
@[simp] theorem setWord_power (s : State) (a v : Nat) : (setWord s a v).power = s.power := memWrite_power s a 4 v
@[simp] theorem memWrite_emitted (s : State) (a n v : Nat) : (memWrite s a n v).emitted = s.emitted := by
  induction n generalizing s a v with
  | zero => rfl
  | succ n ih => exact ih _ _ _
@[simp] theorem setWord_emitted (s : State) (a v : Nat) : (setWord s a v).emitted = s.emitted := memWrite_emitted s a 4 v
@[simp] theorem memWrite_pending (s : State) (a n v : Nat) : (memWrite s a n v).pending = s.pending := by
  induction n generalizing s a v with
  | zero => rfl
  | succ n ih => exact ih _ _ _
@[simp] theorem setWord_pending (s : State) (a v : Nat) : (setWord s a v).pending = s.pending := memWrite_pending s a 4 v
@[simp] theorem getF_memWrite (s : State) (a n v : Nat) (f : Fld) : getF (memWrite s a n v) f = getF s f := by simp [getF]
@[simp] theorem getF_setWord (s : State) (a v : Nat) (f : Fld) : getF (setWord s a v) f = getF s f := by simp [getF]

end Sys2Proof.Machine
end

