-- ==== Sys2Proof/Laws/PerInstr.lean ====
section
/-! SUPPORT. The family Words: no command is both an instruction of a sequencer thread and one of a Beater context, so that a word of program
memory has its meaning from the memory it stands in (R94, R239). -/

namespace Sys2Proof.Laws.Words

open Sys2Proof.Machine

/-- The command has no word in sequencer program memory, or none in Beater program memory. -/
def Statement (i : Instr) : Prop := threadWord i = none ∨ contextWord i = none

theorem resetNFall : Statement (.resetNFall) := .inl rfl
theorem resetNRise (pers master : Bool × Bool × Bool) : Statement (.resetNRise pers master) := .inl rfl
theorem boot : Statement (.boot) := .inl rfl
theorem loftPowerOn (on : Bool) : Statement (.loftPowerOn on) := .inl rfl
theorem vddIoFall : Statement (.vddIoFall) := .inl rfl
theorem registerWrite (m : Master) (addr : Nat) (size : Nat) (val : Nat) : Statement (.registerWrite m addr size val) := .inl rfl
theorem windowWrite (m : Master) (addr : Nat) (size : Nat) (val : Nat) : Statement (.windowWrite m addr size val) := .inl rfl
theorem shotBoundary : Statement (.shotBoundary) := .inl rfl
theorem bridgeParityError (w : BridgeWord) : Statement (.bridgeParityError w) := .inl rfl
theorem bridgeLaneSwitch (g : Fin 4) (lane : BridgeLane) : Statement (.bridgeLaneSwitch g lane) := .inl rfl
theorem bridgeLaneSwitchDone (g : Fin 4) (lane : BridgeLane) : Statement (.bridgeLaneSwitchDone g lane) := .inl rfl
theorem cellFault (c : CellRef) : Statement (.cellFault c) := .inl rfl
theorem quireRestore (q : Fin 16) (w : Option QuireWord) : Statement (.quireRestore q w) := .inl rfl
theorem quireRestoreComplete (r : RestoreEnd) : Statement (.quireRestoreComplete r) := .inl rfl
theorem vatmanFault (g : Fin 4) (router : Bool) : Statement (.vatmanFault g router) := .inl rfl
theorem vatmanRestartComplete (g : Fin 4) (router : Bool) : Statement (.vatmanRestartComplete g router) := .inl rfl
theorem nocArbApply : Statement (.nocArbApply) := .inl rfl
theorem refEdgeTimeout : Statement (.refEdgeTimeout) := .inl rfl
theorem refFreqWindowEnd (inRange : Bool) : Statement (.refFreqWindowEnd inRange) := .inl rfl
theorem dandyLock : Statement (.dandyLock) := .inl rfl
theorem tbTimeLoRead : Statement (.tbTimeLoRead) := .inl rfl
theorem timingCellRx (p : Fin 8) (c : TimingCell) : Statement (.timingCellRx p c) := .inl rfl
theorem measurementComplete (p : Fin 8) : Statement (.measurementComplete p) := .inl rfl
theorem rootTrimMove : Statement (.rootTrimMove) := .inl rfl
theorem ptpSyncRx (e : Fin 2) (domain : Nat) (interval : Int) (origin : Option Nat) : Statement (.ptpSyncRx e domain interval origin) := .inl rfl
theorem ptpFollowUpRx (e : Fin 2) (domain : Nat) (origin : Nat) : Statement (.ptpFollowUpRx e domain origin) := .inl rfl
theorem ptpDelayReqTx : Statement (.ptpDelayReqTx) := .inl rfl
theorem ptpDelayRespRx (e : Fin 2) (domain : Nat) (t4 : Nat) : Statement (.ptpDelayRespRx e domain t4) := .inl rfl
theorem tbWctNsRead : Statement (.tbWctNsRead) := .inl rfl
theorem txDescriptorTake (e : Fin 2) : Statement (.txDescriptorTake e) := .inl rfl
theorem timedLaunch (e : Fin 2) : Statement (.timedLaunch e) := .inl rfl
theorem normalFrameTx (e : Fin 2) : Statement (.normalFrameTx e) := .inl rfl
theorem frameTxComplete (e : Fin 2) : Statement (.frameTxComplete e) := .inl rfl
theorem nop (q t : Fin 16) (rsv : Bool) : Statement (.nop q t rsv) := .inr rfl
theorem halt (q t : Fin 16) (rsv : Bool) : Statement (.halt q t rsv) := .inr rfl
theorem play (q t : Fin 16) (a l : Bool) (cond : Fin 16) (ch : Fin 32) (seg : Fin 1024) (sa : Bool) (amp : BitVec 16) (ofs : Fin 16384) (sub : Fin 64) : Statement (.play q t a l cond ch seg sa amp ofs sub) := .inr rfl
theorem flux (q t : Fin 16) (a l : Bool) (cond : Fin 16) (ch : Fin 32) (seg : Fin 1024) (amp : BitVec 16) (ofs : Fin 16384) (sub : Fin 64) : Statement (.flux q t a l cond ch seg amp ofs sub) := .inr rfl
theorem fluxMode1 (q t : Fin 16) (a l : Bool) (cond : Fin 16) (ch : Fin 32) (code : BitVec 20) (rsv : Bool) (ofs : Fin 16384) (sub : Fin 64) : Statement (.fluxMode1 q t a l cond ch code rsv ofs sub) := .inr rfl
theorem meas (q t : Fin 16) (rsv : Bool) (ch : Fin 16) (wgt : Fin 256) (len : Fin 8192) (arm : Fin 256) (ofs : Fin 16384) (sub : Fin 64) : Statement (.meas q t rsv ch wgt len arm ofs sub) := .inr rfl
theorem frame (q t : Fin 16) (rsv : Bool) (ch : Fin 32) (mode src : Bool) (ofs : Fin 16384) (val : BitVec 32) : Statement (.frame q t rsv ch mode src ofs val) := .inr rfl
theorem sjump (q t : Fin 16) (rsv : Bool) (ch : Fin 64) (seg : Fin 1024) : Statement (.sjump q t rsv ch seg) := .inr rfl
theorem waitImm (q t : Fin 16) (rsv : Bool) (imm : BitVec 32) : Statement (.waitImm q t rsv imm) := .inr rfl
theorem waitReg (q t : Fin 16) (rsv : Bool) (reg : Fin 16) : Statement (.waitReg q t rsv reg) := .inr rfl
theorem waitEvent (q t : Fin 16) (rsv : Bool) (ev : Fin 16) (clr : Bool) (gap : Fin 16384) : Statement (.waitEvent q t rsv ev clr gap) := .inr rfl
theorem waitd (q t : Fin 16) (rsv : Bool) (sub : Fin 8) (reb : Bool) (sd : Fin 16) (wr : Bool) (gap : Fin 16384) (tmo : Fin 65536) : Statement (.waitd q t rsv sub reb sd wr gap tmo) := .inr rfl
theorem waitdTimeout (q t : Fin 16) : Statement (.waitdTimeout q t) := .inl rfl
theorem br (q t : Fin 16) (rsv : Bool) (tgt : Fin 131072) : Statement (.br q t rsv tgt) := .inr rfl
theorem bre (q t : Fin 16) (rsv : Bool) (ev : Fin 16) (neg clr : Bool) (tgt : Fin 131072) : Statement (.bre q t rsv ev neg clr tgt) := .inr rfl
theorem brc (q t : Fin 16) (rsv : Bool) (cc : Fin 8) (immb : Bool) (sa sb : Fin 16) (imm : BitVec 16) (tgt : Fin 131072) : Statement (.brc q t rsv cc immb sa sb imm tgt) := .inr rfl
theorem brp (q t : Fin 16) (rsv : Bool) (sub : Fin 8) (neg reb : Bool) (gap : Fin 16384) (tgt : Fin 131072) : Statement (.brp q t rsv sub neg reb gap tgt) := .inr rfl
theorem loop (q t : Fin 16) (rsv : Bool) (src : Bool) (reg : Fin 16) (cnt : Fin 65536) (last : Fin 131072) : Statement (.loop q t rsv src reg cnt last) := .inr rfl
theorem sync (q t : Fin 16) (rsv : Bool) (scope : Fin 4) (bar : Fin 16) (gap : Fin 16384) : Statement (.sync q t rsv scope bar gap) := .inr rfl
theorem alu (q t : Fin 16) (rsv : Bool) (sd sa sb : Fin 16) (fn : Fin 16) : Statement (.alu q t rsv sd sa sb fn) := .inr rfl
theorem alui (q t : Fin 16) (rsv : Bool) (sd sa : Fin 16) (fn : Fin 16) (imm : BitVec 32) : Statement (.alui q t rsv sd sa fn imm) := .inr rfl
theorem get (q t : Fin 16) (rsv : Bool) (sd : Fin 16) (sel : Fin 16) : Statement (.get q t rsv sd sel) := .inr rfl
theorem barrierRelease (scope : Fin 3) (q bar : Fin 16) : Statement (.barrierRelease scope q bar) := .inl rfl
theorem barrierTimeout (q t : Fin 16) : Statement (.barrierTimeout q t) := .inl rfl
theorem commandPlay (q : Fin 16) (kind : ChanKind) (n : Fin 32) : Statement (.commandPlay q kind n) := .inl rfl
theorem segmentIterationEnd (q : Fin 16) (kind : ChanKind) (n : Fin 32) : Statement (.segmentIterationEnd q kind n) := .inl rfl
theorem streamWrite (q : Fin 16) (n : Fin 4) : Statement (.streamWrite q n) := .inl rfl
theorem streamUnderrun (q : Fin 16) (n : Fin 4) : Statement (.streamUnderrun q n) := .inl rfl
theorem streamEnable (m : Master) (q : Fin 16) (n : Fin 4) (ch : Fin 32) : Statement (.streamEnable m q n ch) := .inl rfl
theorem threadStart (m : Master) (q t : Fin 16) : Statement (.threadStart m q t) := .inl rfl
theorem threadStop (m : Master) (q t : Fin 16) : Statement (.threadStop m q t) := .inl rfl
theorem threadFlush (m : Master) (q t : Fin 16) : Statement (.threadFlush m q t) := .inl rfl
theorem seqRun (m : Master) (q : Fin 16) (run : Bool) : Statement (.seqRun m q run) := .inl rfl
theorem ftwCommit (m : Master) (q : Fin 16) (u : FtwUnit) (hi : Fin 65536) : Statement (.ftwCommit m q u hi) := .inl rfl
theorem ftwEffect (q : Fin 16) (u : FtwUnit) : Statement (.ftwEffect q u) := .inl rfl
theorem frameClr (m : Master) (q : Fin 16) (c : Fin 32) : Statement (.frameClr m q c) := .inl rfl
theorem pdCommit (m : Master) (q : Fin 16) (o : Fin 5) : Statement (.pdCommit m q o) := .inl rfl
theorem drvEnable (m : Master) (q : Fin 16) (o : Fin 5) : Statement (.drvEnable m q o) := .inl rfl
theorem rangeChange (m : Master) (q : Fin 16) (o : Fin 5) (range : Fin 4) : Statement (.rangeChange m q o range) := .inl rfl
theorem rangeSettled (q : Fin 16) (o : Fin 5) : Statement (.rangeSettled q o) := .inl rfl
theorem softwareMute (m : Master) (q : Fin 16) (o : OutRef) (mute : Bool) : Statement (.softwareMute m q o mute) := .inl rfl
theorem cwAmpWrite (m : Master) (q : Fin 16) (o : Fin 5) (amp : BitVec 16) : Statement (.cwAmpWrite m q o amp) := .inl rfl
theorem cwRampEnd (q : Fin 16) (o : Fin 5) : Statement (.cwRampEnd q o) := .inl rfl
theorem toneFault (q : Fin 16) (c : Fin 32) (why : FaultCause) : Statement (.toneFault q c why) := .inl rfl
theorem toneSubstitution (q : Fin 16) (pass : Bool) : Statement (.toneSubstitution q pass) := .inl rfl
theorem toneSpareForce (m : Master) (q : Fin 16) (c : Fin 16) : Statement (.toneSpareForce m q c) := .inl rfl
theorem toneSpareRelease (m : Master) (q : Fin 16) : Statement (.toneSpareRelease m q) := .inl rfl
theorem ladderWrite (m : Master) (q : Fin 16) (i : Fin 24) (code : BitVec 20) : Statement (.ladderWrite m q i code) := .inl rfl
theorem ladderRampUpdate (q : Fin 16) (i : Fin 24) : Statement (.ladderRampUpdate q i) := .inl rfl
theorem deglitchHoldEnd (q : Fin 16) (i : Fin 24) : Statement (.deglitchHoldEnd q i) := .inl rfl
theorem fluxEnable (m : Master) (q : Fin 16) (i : Fin 24) : Statement (.fluxEnable m q i) := .inl rfl
theorem fluxSwitchClose (q : Fin 16) (i : Fin 24) : Statement (.fluxSwitchClose q i) := .inl rfl
theorem fluxDisable (m : Master) (q : Fin 16) (i : Fin 24) : Statement (.fluxDisable m q i) := .inl rfl
theorem fluxSwitchOpen (q : Fin 16) (i : Fin 24) : Statement (.fluxSwitchOpen q i) := .inl rfl
theorem fluxRangeChange (m : Master) (q : Fin 16) (i : Fin 24) (srange : Fin 4) (frange : Bool) : Statement (.fluxRangeChange m q i srange frange) := .inl rfl
theorem fluxRangeSettled (q : Fin 16) (i : Fin 24) : Statement (.fluxRangeSettled q i) := .inl rfl
theorem pressCommit (m : Master) (q : Fin 16) (i : Fin 24) : Statement (.pressCommit m q i) := .inl rfl
theorem pressClr (m : Master) (q : Fin 16) (i : Fin 24) : Statement (.pressClr m q i) := .inl rfl
theorem biasSetWrite (m : Master) (q : Fin 16) (b : Fin 2) (code : BitVec 16) : Statement (.biasSetWrite m q b code) := .inl rfl
theorem biasRampUpdate (q : Fin 16) (b : Fin 2) : Statement (.biasRampUpdate q b) := .inl rfl
theorem biasIlim (q : Fin 16) (b : Fin 2) (on : Bool) : Statement (.biasIlim q b on) := .inl rfl
theorem biasSeqUp (m : Master) (q : Fin 16) : Statement (.biasSeqUp m q) := .inl rfl
theorem biasSeqDown (m : Master) (q : Fin 16) : Statement (.biasSeqDown m q) := .inl rfl
theorem biasSeqDwellEnd (q : Fin 16) : Statement (.biasSeqDwellEnd q) := .inl rfl
theorem windowCrossing (w : Fin 456) (level : Int) : Statement (.windowCrossing w level) := .inl rfl
theorem windowInside (w : Fin 456) (level : Int) : Statement (.windowInside w level) := .inl rfl
theorem windowArm (w : Fin 456) : Statement (.windowArm w) := .inl rfl
theorem dkWinThrWrite (m : Master) (w : Fin 456) (upper lower : Fin 1024) (hyst : Fin 8) : Statement (.dkWinThrWrite m w upper lower hyst) := .inl rfl
theorem dkMapWrite (m : Master) (w : DkMap) : Statement (.dkMapWrite m w) := .inl rfl
theorem dkLatchClear (m : Master) (l : DkLatch) : Statement (.dkLatchClear m l) := .inl rfl
theorem tripinFall (low : Bool) : Statement (.tripinFall low) := .inl rfl
theorem thresholdReadback (m : Master) (win : Fin 512) (upper : Bool) : Statement (.thresholdReadback m win upper) := .inl rfl
theorem readbackDone (result : BitVec 16) : Statement (.readbackDone result) := .inl rfl
theorem acqEnable (m : Master) (q : Fin 16) : Statement (.acqEnable m q) := .inl rfl
theorem adcReady (q : Fin 16) : Statement (.adcReady q) := .inl rfl
theorem adcOverload (q : Fin 16) (word : Nat) (sample : Fin 16) : Statement (.adcOverload q word sample) := .inl rfl
theorem windowResult (q j : Fin 16) (codes : List Int) : Statement (.windowResult q j codes) := .inl rfl
theorem recordEnqueue (q : Fin 16) : Statement (.recordEnqueue q) := .inl rfl
theorem discCommit (m : Master) (q : Fin 16) : Statement (.discCommit m q) := .inl rfl
theorem resultQueueEnable (m : Master) (q : Fin 16) (shotrec : Bool) (dest : Fin 4) (depth : Fin 1024) : Statement (.resultQueueEnable m q shotrec dest depth) := .inl rfl
theorem resultMove (q : Fin 16) : Statement (.resultMove q) := .inl rfl
theorem dstRdWrite (m : Master) (q : Fin 16) (slot : BitVec 32) : Statement (.dstRdWrite m q slot) := .inl rfl
theorem resultPop (m : Master) (q : Fin 16) : Statement (.resultPop m q) := .inl rfl
theorem readoutCellFault (q j : Fin 16) (why : FaultCause) : Statement (.readoutCellFault q j why) := .inl rfl
theorem readoutSubstitution (q : Fin 16) (pass : Bool) : Statement (.readoutSubstitution q pass) := .inl rfl
theorem readoutSpareForce (m : Master) (q : Fin 16) (tone : Bool) (n : Fin 16) : Statement (.readoutSpareForce m q tone n) := .inl rfl
theorem readoutSpareRelease (m : Master) (q : Fin 16) : Statement (.readoutSpareRelease m q) := .inl rfl
theorem beaterNop (q c : Fin 16) (p : Par) : Statement (.beaterNop q c p) := .inl rfl
theorem mpy (q c : Fin 16) (p : Par) : Statement (.mpy q c p) := .inl rfl
theorem mac (q c : Fin 16) (p : Par) : Statement (.mac q c p) := .inl rfl
theorem msu (q c : Fin 16) (p : Par) : Statement (.msu q c p) := .inl rfl
theorem dsq (q c : Fin 16) (p : Par) : Statement (.dsq q c p) := .inl rfl
theorem dsqa (q c : Fin 16) (p : Par) : Statement (.dsqa q c p) := .inl rfl
theorem lda (q c : Fin 16) (p : Par) : Statement (.lda q c p) := .inl rfl
theorem addv (q c : Fin 16) (p : Par) : Statement (.addv q c p) := .inl rfl
theorem adda (q c : Fin 16) (p : Par) : Statement (.adda q c p) := .inl rfl
theorem suba (q c : Fin 16) (p : Par) : Statement (.suba q c p) := .inl rfl
theorem sha (q c : Fin 16) (p : Par) : Statement (.sha q c p) := .inl rfl
theorem clr (q c : Fin 16) (p : Par) : Statement (.clr q c p) := .inl rfl
theorem minx (q c : Fin 16) (p : Par) : Statement (.minx q c p) := .inl rfl
theorem gex (q c : Fin 16) (p : Par) : Statement (.gex q c p) := .inl rfl
theorem cmp (q c : Fin 16) (p : Par) : Statement (.cmp q c p) := .inl rfl
theorem tst (q c : Fin 16) (p : Par) : Statement (.tst q c p) := .inl rfl
theorem stv (q c : Fin 16) (p : Par) : Statement (.stv q c p) := .inl rfl
theorem abs (q c : Fin 16) (p : Par) : Statement (.abs q c p) := .inl rfl
theorem ldal (q c : Fin 16) (p : Par) : Statement (.ldal q c p) := .inl rfl
theorem beaterHalt (q c : Fin 16) (rsv : Bool) : Statement (.beaterHalt q c rsv) := .inl rfl
theorem beaterBr (q c : Fin 16) (rsv : Bool) (tgt : Fin 8192) : Statement (.beaterBr q c rsv tgt) := .inl rfl
theorem brf (q c : Fin 16) (rsv : Bool) (cc : Fin 8) (tgt : Fin 8192) : Statement (.brf q c rsv cc tgt) := .inl rfl
theorem beaterLoop (q c : Fin 16) (rsv : Bool) (rot : Bool) (stg1 : Fin 8) (src : Bool) (cnt : Fin 65536) (vr : Fin 32) (last : Fin 8192) : Statement (.beaterLoop q c rsv rot stg1 src cnt vr last) := .inl rfl
theorem waitin (q c : Fin 16) (rsv : Bool) (vr : Fin 32) (tmo : Fin 65536) : Statement (.waitin q c rsv vr tmo) := .inl rfl
theorem waitinTimeout (q c : Fin 16) : Statement (.waitinTimeout q c) := .inl rfl
theorem outp (q c : Fin 16) (rsv : Bool) (out src imm : Fin 4) (gate : Bool) (vr : Fin 32) : Statement (.outp q c rsv out src imm gate vr) := .inl rfl
theorem outr (q c : Fin 16) (rsv : Bool) (vr : Fin 32) (last : Bool) (tag : Fin 128) : Statement (.outr q c rsv vr last tag) := .inl rfl
theorem setp (q c : Fin 16) (rsv : Bool) (p : Fin 8) (field : Fin 4) (imm : BitVec 16) : Statement (.setp q c rsv p field imm) := .inl rfl
theorem ldi (q c : Fin 16) (rsv : Bool) (vr : Fin 32) (imm : BitVec 24) : Statement (.ldi q c rsv vr imm) := .inl rfl
theorem rot (q c : Fin 16) (rsv : Bool) (n : Fin 16) : Statement (.rot q c rsv n) := .inl rfl
theorem ctxStart (m : Master) (q c : Fin 16) : Statement (.ctxStart m q c) := .inl rfl
theorem ctxStop (m : Master) (q c : Fin 16) : Statement (.ctxStop m q c) := .inl rfl
theorem beaterEnable (m : Master) (q : Fin 16) (en : Bool) : Statement (.beaterEnable m q en) := .inl rfl
theorem engineFault (q : Fin 16) : Statement (.engineFault q) := .inl rfl
theorem engineSubstitution (g : Fin 4) : Statement (.engineSubstitution g) := .inl rfl
theorem beaterForce (m : Master) (q : Fin 16) : Statement (.beaterForce m q) := .inl rfl
theorem beaterRelease (m : Master) (q : Fin 16) : Statement (.beaterRelease m q) := .inl rfl
theorem decisionCellRx (p : Fin 8) (entries : List DecEntry) : Statement (.decisionCellRx p entries) := .inl rfl
theorem cellSlot (p : Fin 8) (lane : Fin 2) : Statement (.cellSlot p lane) := .inl rfl
theorem pfXor (m : Master) (w : Fin 16) (mask : BitVec 32) : Statement (.pfXor m w mask) := .inl rfl
theorem pfClr (m : Master) : Statement (.pfClr m) := .inl rfl
theorem seStart (m : Master) : Statement (.seStart m) := .inl rfl
theorem seStop (m : Master) : Statement (.seStop m) := .inl rfl
theorem roundClose : Statement (.roundClose) := .inl rfl
theorem decodePass : Statement (.decodePass) := .inl rfl
theorem decodePassEnd : Statement (.decodePassEnd) := .inl rfl
theorem boundaryEntryRx (p : Fin 8) (index : Fin 512) (round : Fin 256) : Statement (.boundaryEntryRx p index round) := .inl rfl
theorem postEvent (prod : Fin 674) (ps : Nat) : Statement (.postEvent prod ps) := .inl rfl
theorem taskExecution (i : Fin 593) (same : Bool) : Statement (.taskExecution i same) := .inl rfl
theorem swfire (m : Master) (mask : BitVec 32) : Statement (.swfire m mask) := .inl rfl
theorem cellClr (m : Master) : Statement (.cellClr m) := .inl rfl
theorem captureArm (m : Master) (u : Fin 16) : Statement (.captureArm m u) := .inl rfl
theorem captureStop (m : Master) (u : Fin 16) : Statement (.captureStop m u) := .inl rfl
theorem captureForce (m : Master) (u : Fin 16) : Statement (.captureForce m u) := .inl rfl
theorem captureCntClr (m : Master) (u : Fin 16) : Statement (.captureCntClr m u) := .inl rfl
theorem prefillDone (u : Fin 16) : Statement (.prefillDone u) := .inl rfl
theorem captureTrigger (u : Fin 16) (w : Nat) (k : Fin 16) (code : BitVec 12) (more : List (BitVec 12)) : Statement (.captureTrigger u w k code more) := .inl rfl
theorem autoTimeout (u : Fin 16) : Statement (.autoTimeout u) := .inl rfl
theorem recordComplete (u : Fin 16) (codes : List (BitVec 12)) (corrupt : List Nat) (off : Bool) (lostAt : Nat) : Statement (.recordComplete u codes corrupt off lostAt) := .inl rfl
theorem rearmEnd (u : Fin 16) : Statement (.rearmEnd u) := .inl rfl
theorem capRdWrite (m : Master) (u : Fin 16) (val : BitVec 32) : Statement (.capRdWrite m u val) := .inl rfl
theorem portRoleWrite (m : Master) (p : Fin 8) (role : Fin 4) : Statement (.portRoleWrite m p role) := .inl rfl
theorem trainEnd (p : Fin 8) : Statement (.trainEnd p) := .inl rfl
theorem trainTimeout (p : Fin 8) : Statement (.trainTimeout p) := .inl rfl
theorem linkCellRx (p : Fin 8) (lane : Fin 2) (c : LinkCell) (own : Option Int) : Statement (.linkCellRx p lane c own) := .inl rfl
theorem cellCrcFail (p : Fin 8) (lane : Fin 2) (word : BitVec 256) : Statement (.cellCrcFail p lane word) := .inl rfl
theorem portReqWrite (m : Master) (p : Fin 8) (req : Fin 4) : Statement (.portReqWrite m p req) := .inl rfl
theorem idleCellRx (p : Fin 8) (st : Fin 4) : Statement (.idleCellRx p st) := .inl rfl
theorem signalDetect (p : Fin 8) : Statement (.signalDetect p) := .inl rfl
theorem eyeScanStart (m : Master) (p : Fin 8) (lane : Fin 2) (dwell : Fin 16) (vofs phase : Fin 128) : Statement (.eyeScanStart m p lane dwell vofs phase) := .inl rfl
theorem eyeScanDone (count : Nat) : Statement (.eyeScanDone count) := .inl rfl
theorem heartbeatSend : Statement (.heartbeatSend) := .inl rfl
theorem heartbeat (p : Fin 8) (src : Fin 64) (h : Heartbeat) : Statement (.heartbeat p src h) := .inl rfl
theorem masterTimeout : Statement (.masterTimeout) := .inl rfl
theorem join (p : Fin 8) (src : Fin 64) (uid : Nat) (bars : Fin 65536) : Statement (.join p src uid bars) := .inl rfl
theorem assign (p : Fin 8) (src : Fin 64) (uid : Nat) (dev : Fin 64) (epoch : Nat) : Statement (.assign p src uid dev epoch) := .inl rfl
theorem refuse (p : Fin 8) (src : Fin 64) (uid : Nat) : Statement (.refuse p src uid) := .inl rfl
theorem part (p : Fin 8) (src : Fin 64) (bars : Fin 65536) : Statement (.part p src bars) := .inl rfl
theorem shotAnnounce : Statement (.shotAnnounce) := .inl rfl
theorem shot (p : Fin 8) (src : Fin 64) (b : Nat) (prev : Option Nat) : Statement (.shot p src b prev) := .inl rfl
theorem shotNextWrite (m : Master) (hi : BitVec 32) : Statement (.shotNextWrite m hi) := .inl rfl
theorem barArrive (p : Fin 8) (src : Fin 64) (bar : Fin 16) (tt : Nat) : Statement (.barArrive p src bar tt) := .inl rfl
theorem barRelease (p : Fin 8) (src : Fin 64) (bar : Fin 16) (r : Nat) : Statement (.barRelease p src bar r) := .inl rfl
theorem clPrepare (m : Master) (id : BitVec 16) : Statement (.clPrepare m id) := .inl rfl
theorem prepare (p : Fin 8) (src : Fin 64) (epoch id : Nat) : Statement (.prepare p src epoch id) := .inl rfl
theorem ack (p : Fin 8) (src : Fin 64) (epoch code : Nat) : Statement (.ack p src epoch code) := .inl rfl
theorem prepareTimeout : Statement (.prepareTimeout) := .inl rfl
theorem commit (p : Fin 8) (src : Fin 64) (epoch t : Nat) : Statement (.commit p src epoch t) := .inl rfl
theorem cancel (p : Fin 8) (src : Fin 64) (epoch : Nat) : Statement (.cancel p src epoch) := .inl rfl
theorem commitApply : Statement (.commitApply) := .inl rfl
theorem clResync (m : Master) (target : Fin 64) : Statement (.clResync m target) := .inl rfl
theorem resync (p : Fin 8) (src dst : Fin 64) (epoch : Nat) : Statement (.resync p src dst epoch) := .inl rfl
theorem eccWriteback (cls : Fin 7) (addr : Nat) : Statement (.eccWriteback cls addr) := .inl rfl
theorem scrubPass (found : List ScrubFind) (met : List EccUse) : Statement (.scrubPass found met) := .inl rfl
theorem lpddr6Training (cap : Fin 65) (rate : Fin 10668) (failed : Fin 16) : Statement (.lpddr6Training cap rate failed) := .inl rfl
theorem lpddr6Recal (ch : Fin 4) : Statement (.lpddr6Recal ch) := .inl rfl
theorem lpddr6Refresh (ch : Fin 4) (bank : Fin 16) : Statement (.lpddr6Refresh ch bank) := .inl rfl
theorem reamStoreStart : Statement (.reamStoreStart) := .inl rfl
theorem reamStoreComplete : Statement (.reamStoreComplete) := .inl rfl
theorem dmaStart (m : Master) (d : Fin 4) (dir : Bool) (data : List Nat) : Statement (.dmaStart m d dir data) := .inl rfl
theorem dmaDone (d : Fin 4) : Statement (.dmaDone d) := .inl rfl
theorem ethFrameRx (e : Fin 2) (f : RxFrame) : Statement (.ethFrameRx e f) := .inl rfl
theorem feltHello (via : Via) (seq : Nat) (priv : Fin 4) (key : Nat) : Statement (.feltHello via seq priv key) := .inl rfl
theorem feltOpen (via : Via) (session seq : Nat) (sigOk : Bool) : Statement (.feltOpen via session seq sigOk) := .inl rfl
theorem feltRead (h : FeltHead) (index sub offset maxlen : Nat) : Statement (.feltRead h index sub offset maxlen) := .inl rfl
theorem feltWrite (h : FeltHead) (stage last : Bool) (index sub offset change : Nat) (val : List Nat) : Statement (.feltWrite h stage last index sub offset change val) := .inl rfl
theorem feltSubscribe (h : FeltHead) (mask : Nat) : Statement (.feltSubscribe h mask) := .inl rfl
theorem feltNotifyAck (h : FeltHead) (devseq : Nat) : Statement (.feltNotifyAck h devseq) := .inl rfl
theorem feltKeepalive (h : FeltHead) : Statement (.feltKeepalive h) := .inl rfl
theorem feltClose (h : FeltHead) : Statement (.feltClose h) := .inl rfl
theorem feltNotifyResend (session : Nat) (n : Fin 32) : Statement (.feltNotifyResend session n) := .inl rfl
theorem sessionIdleTimeout (session : Nat) : Statement (.sessionIdleTimeout session) := .inl rfl
theorem mailboxGo (m : Master) (len : Fin 8192) : Statement (.mailboxGo m len) := .inl rfl
theorem mailboxResponse : Statement (.mailboxResponse) := .inl rfl
theorem storeAll (h : FeltHead) : Statement (.storeAll h) := .inl rfl
theorem restoreDefaults (h : FeltHead) : Statement (.restoreDefaults h) := .inl rfl
theorem discardStaged (h : FeltHead) : Statement (.discardStaged h) := .inl rfl
theorem pmbUp (m : Master) : Statement (.pmbUp m) := .inl rfl
theorem pmbDown (m : Master) : Statement (.pmbDown m) := .inl rfl
theorem pmbPoll (cmd vout : PmbRead) : Statement (.pmbPoll cmd vout) := .inl rfl
theorem pmbEntryTimeout : Statement (.pmbEntryTimeout) := .inl rfl
theorem pmbDelayEnd : Statement (.pmbDelayEnd) := .inl rfl
theorem pmbMonitorRound (l : List PmbStatus) : Statement (.pmbMonitorRound l) := .inl rfl
theorem pmbSalert (low : Bool) (l : List (Fin 16 × PmbRead)) : Statement (.pmbSalert low l) := .inl rfl
theorem rootProvision (h : FeltHead) (modulus : List Nat) : Statement (.rootProvision h modulus) := .inl rfl
theorem keyInstall (h : FeltHead) (obj : SignedObj) (id priv : Nat) : Statement (.keyInstall h obj id priv) := .inl rfl
theorem keyRemove (h : FeltHead) (id : Nat) : Statement (.keyRemove h id) := .inl rfl
theorem imageWrite (h : FeltHead) (obj : SignedObj) : Statement (.imageWrite h obj) := .inl rfl
theorem imageConfirm (h : FeltHead) : Statement (.imageConfirm h) := .inl rfl
theorem recoveryImage (seq : Nat) (obj : SignedObj) : Statement (.recoveryImage seq obj) := .inl rfl
theorem quoteRequest (h : FeltHead) (nonce : List Nat) : Statement (.quoteRequest h nonce) := .inl rfl
theorem quoteRead (h : FeltHead) (offset maxlen : Nat) : Statement (.quoteRead h offset maxlen) := .inl rfl
theorem debugToken (word : DebugWord) (nonce : Nat) (level : Fin 4) (uidOk : Bool) : Statement (.debugToken word nonce level uidOk) := .inl rfl
theorem zeroize : Statement (.zeroize) := .inl rfl
theorem sizingRun (m : Master) (q : Fin 16) : Statement (.sizingRun m q) := .inl rfl
theorem pressFitRequest (m : Master) (q : Fin 16) (ch : Fin 32) : Statement (.pressFitRequest m q ch) := .inl rfl
theorem sizingAbort (m : Master) (q : Fin 16) : Statement (.sizingAbort m q) := .inl rfl
theorem tempUpdate (q : Fin 16) (t : Option Int) : Statement (.tempUpdate q t) := .inl rfl
theorem sizingIdleRunStart (q : Fin 16) : Statement (.sizingIdleRunStart q) := .inl rfl
theorem procedureComplete (q : Fin 16) (proc : Fin 9) (values : List SzValue) : Statement (.procedureComplete q proc values) := .inl rfl
theorem factorySetWrite (h : FeltHead) (q : Fin 16) (obj : SignedObj) (ps : List SzPoint) : Statement (.factorySetWrite h q obj ps) := .inl rfl
theorem fieldSetWrite (h : FeltHead) (q : Fin 16) (ps : List (SzPoint × List Nat)) : Statement (.fieldSetWrite h q ps) := .inl rfl
theorem powerReq (m : Master) (req : Fin 4) : Statement (.powerReq m req) := .inl rfl
theorem powerTransitionComplete : Statement (.powerTransitionComplete) := .inl rfl
theorem wake (w : WakeSource) (rails : Bool) : Statement (.wake w rails) := .inl rfl
theorem coreWarning : Statement (.coreWarning) := .inl rfl
theorem coreWarningRelease : Statement (.coreWarningRelease) := .inl rfl
theorem brownOut : Statement (.brownOut) := .inl rfl
theorem railLoss (g : Fin 4) : Statement (.railLoss g) := .inl rfl
theorem loftConversion (slot : Fin 64) (result : BitVec 16) : Statement (.loftConversion slot result) := .inl rfl
theorem thermalSample (l : List (Option Int)) : Statement (.thermalSample l) := .inl rfl
theorem sensorSelfTest (failed : List (Fin 64)) : Statement (.sensorSelfTest failed) := .inl rfl
theorem graceExpiry : Statement (.graceExpiry) := .inl rfl
theorem pwrStop (m : Master) : Statement (.pwrStop m) := .inl rfl
theorem orderlyStop : Statement (.orderlyStop) := .inl rfl
theorem stopPowerdown : Statement (.stopPowerdown) := .inl rfl
theorem pwrRestart (m : Master) : Statement (.pwrRestart m) := .inl rfl
theorem thermalTrip (n : Fin 64) : Statement (.thermalTrip n) := .inl rfl
theorem coreFault (q : Fin 16) : Statement (.coreFault q) := .inl rfl
theorem coreSubstitution (g : Fin 4) (pass : Bool) : Statement (.coreSubstitution g pass) := .inl rfl
theorem watchdogExpiry (core : Fin 4) : Statement (.watchdogExpiry core) := .inl rfl
theorem mgmtCoreRestart (core : Fin 4) : Statement (.mgmtCoreRestart core) := .inl rfl
theorem deviceTimeTick : Statement (.deviceTimeTick) := .inl rfl
theorem phaseLoopOutOfLock (p : Fin 8) (lane : Fin 2) : Statement (.phaseLoopOutOfLock p lane) := .inl rfl
theorem supplyRailReturn (g : Option (Fin 4)) : Statement (.supplyRailReturn g) := .inl rfl
theorem biasTmoExpiry : Statement (.biasTmoExpiry) := .inl rfl
theorem pcieLinkChange (width speed : Fin 16) : Statement (.pcieLinkChange width speed) := .inl rfl
theorem ethLinkChange (e : Fin 2) (up : Bool) : Statement (.ethLinkChange e up) := .inl rfl
theorem debugNonceRequest : Statement .debugNonceRequest := .inl rfl

end Sys2Proof.Laws.Words
end

