-- ==== Sys2Proof/Laws/Quire.lean ====
section
/-! SUPPORT. What a quire holds: an entry reads as it was set, every other entry as before, and no other primitive update reaches it. -/

namespace Sys2Proof.Machine

/-! ### thread -/

@[simp] theorem thread_setThread_same (s : State) (q t : Nat) (v : Thread) : thread (setThread s q t v) q t = v := tget_tset_same ..
theorem thread_setThread_other (s : State) (q t : Nat) (v : Thread) {q' t' : Nat} (h : (q', t') ≠ (q, t)) : thread (setThread s q t v) q' t' = thread s q' t' := tget_tset_other _ _ _ h
@[simp] theorem thread_setF (s : State) (f : Fld) (v : Nat) (q' t' : Nat) : thread (setF s f v) q' t' = thread s q' t' := rfl
@[simp] theorem thread_setB (s : State) (f : Fld) (b : Bool) (q' t' : Nat) : thread (setB s f b) q' t' = thread s q' t' := rfl
@[simp] theorem thread_setS (s : State) (f : Fld) (v : Int) (q' t' : Nat) : thread (setS s f v) q' t' = thread s q' t' := rfl
@[simp] theorem thread_incF (s : State) (f : Fld) (q' t' : Nat) : thread (incF s f) q' t' = thread s q' t' := rfl
@[simp] theorem thread_addF (s : State) (f : Fld) (n : Nat) (q' t' : Nat) : thread (addF s f n) q' t' = thread s q' t' := rfl
@[simp] theorem thread_setBitF (s : State) (f : Fld) (n : Nat) (b : Bool) (q' t' : Nat) : thread (setBitF s f n b) q' t' = thread s q' t' := rfl
@[simp] theorem thread_fire (s : State) (p : Nat) (q' t' : Nat) : thread (fire s p) q' t' = thread s q' t' := rfl
@[simp] theorem thread_after (s : State) (n : Nat) (a : Act) (q' t' : Nat) : thread (after s n a) q' t' = thread s q' t' := rfl
@[simp] theorem thread_takeFree (s : State) (q' t' : Nat) : thread (takeFree s) q' t' = thread s q' t' := rfl
@[simp] theorem thread_emit (s : State) (e : Emitted) (q' t' : Nat) : thread (emit s e) q' t' = thread s q' t' := rfl
@[simp] theorem thread_setByte (s : State) (a : Nat) (v : Byte) (q' t' : Nat) : thread (setByte s a v) q' t' = thread s q' t' := rfl
@[simp] theorem thread_setResults (s : State) (q : Nat) (r : ResultPath) (q' t' : Nat) : thread (setResults s q r) q' t' = thread s q' t' := rfl
@[simp] theorem thread_setQueue (s : State) (c : Chan) (l : List Entry) (q' t' : Nat) : thread (setQueue s c l) q' t' = thread s q' t' := rfl
@[simp] theorem thread_setPlayer (s : State) (c : Chan) (p : Player) (q' t' : Nat) : thread (setPlayer s c p) q' t' = thread s q' t' := rfl
@[simp] theorem thread_setStream (s : State) (q n : Nat) (v : Stream) (q' t' : Nat) : thread (setStream s q n v) q' t' = thread s q' t' := rfl
@[simp] theorem thread_setTone (s : State) (q c : Nat) (v : Tone) (q' t' : Nat) : thread (setTone s q c v) q' t' = thread s q' t' := rfl
@[simp] theorem thread_setOutput (s : State) (q o : Nat) (v : Output) (q' t' : Nat) : thread (setOutput s q o v) q' t' = thread s q' t' := rfl
@[simp] theorem thread_setFlux (s : State) (q i : Nat) (v : Flux) (q' t' : Nat) : thread (setFlux s q i v) q' t' = thread s q' t' := rfl
@[simp] theorem thread_setBias (s : State) (q b : Nat) (v : Bias) (q' t' : Nat) : thread (setBias s q b v) q' t' = thread s q' t' := rfl
@[simp] theorem thread_setCell (s : State) (q j : Nat) (v : Cell) (q' t' : Nat) : thread (setCell s q j v) q' t' = thread s q' t' := rfl
@[simp] theorem thread_setCtx (s : State) (q c : Nat) (v : Ctx) (q' t' : Nat) : thread (setCtx s q c v) q' t' = thread s q' t' := rfl
@[simp] theorem thread_setWindow (s : State) (w : Nat) (v : Window) (q' t' : Nat) : thread (setWindow s w v) q' t' = thread s q' t' := rfl

/-! ### queueOf -/

@[simp] theorem queueOf_setQueue_same (s : State) (c : Chan) (l : List Entry) : queueOf (setQueue s c l) c = l := tget_tset_same ..
theorem queueOf_setQueue_other (s : State) (c : Chan) (l : List Entry) {c' : Chan} (h : c' ≠ c) : queueOf (setQueue s c l) c' = queueOf s c' := tget_tset_other _ _ _ h
@[simp] theorem queueOf_setF (s : State) (f : Fld) (v : Nat) (c' : Chan) : queueOf (setF s f v) c' = queueOf s c' := rfl
@[simp] theorem queueOf_setB (s : State) (f : Fld) (b : Bool) (c' : Chan) : queueOf (setB s f b) c' = queueOf s c' := rfl
@[simp] theorem queueOf_setS (s : State) (f : Fld) (v : Int) (c' : Chan) : queueOf (setS s f v) c' = queueOf s c' := rfl
@[simp] theorem queueOf_incF (s : State) (f : Fld) (c' : Chan) : queueOf (incF s f) c' = queueOf s c' := rfl
@[simp] theorem queueOf_addF (s : State) (f : Fld) (n : Nat) (c' : Chan) : queueOf (addF s f n) c' = queueOf s c' := rfl
@[simp] theorem queueOf_setBitF (s : State) (f : Fld) (n : Nat) (b : Bool) (c' : Chan) : queueOf (setBitF s f n b) c' = queueOf s c' := rfl
@[simp] theorem queueOf_fire (s : State) (p : Nat) (c' : Chan) : queueOf (fire s p) c' = queueOf s c' := rfl
@[simp] theorem queueOf_after (s : State) (n : Nat) (a : Act) (c' : Chan) : queueOf (after s n a) c' = queueOf s c' := rfl
@[simp] theorem queueOf_takeFree (s : State) (c' : Chan) : queueOf (takeFree s) c' = queueOf s c' := rfl
@[simp] theorem queueOf_emit (s : State) (e : Emitted) (c' : Chan) : queueOf (emit s e) c' = queueOf s c' := rfl
@[simp] theorem queueOf_setByte (s : State) (a : Nat) (v : Byte) (c' : Chan) : queueOf (setByte s a v) c' = queueOf s c' := rfl
@[simp] theorem queueOf_setResults (s : State) (q : Nat) (r : ResultPath) (c' : Chan) : queueOf (setResults s q r) c' = queueOf s c' := rfl
@[simp] theorem queueOf_setThread (s : State) (q t : Nat) (v : Thread) (c' : Chan) : queueOf (setThread s q t v) c' = queueOf s c' := rfl
@[simp] theorem queueOf_setPlayer (s : State) (c : Chan) (p : Player) (c' : Chan) : queueOf (setPlayer s c p) c' = queueOf s c' := rfl
@[simp] theorem queueOf_setStream (s : State) (q n : Nat) (v : Stream) (c' : Chan) : queueOf (setStream s q n v) c' = queueOf s c' := rfl
@[simp] theorem queueOf_setTone (s : State) (q c : Nat) (v : Tone) (c' : Chan) : queueOf (setTone s q c v) c' = queueOf s c' := rfl
@[simp] theorem queueOf_setOutput (s : State) (q o : Nat) (v : Output) (c' : Chan) : queueOf (setOutput s q o v) c' = queueOf s c' := rfl
@[simp] theorem queueOf_setFlux (s : State) (q i : Nat) (v : Flux) (c' : Chan) : queueOf (setFlux s q i v) c' = queueOf s c' := rfl
@[simp] theorem queueOf_setBias (s : State) (q b : Nat) (v : Bias) (c' : Chan) : queueOf (setBias s q b v) c' = queueOf s c' := rfl
@[simp] theorem queueOf_setCell (s : State) (q j : Nat) (v : Cell) (c' : Chan) : queueOf (setCell s q j v) c' = queueOf s c' := rfl
@[simp] theorem queueOf_setCtx (s : State) (q c : Nat) (v : Ctx) (c' : Chan) : queueOf (setCtx s q c v) c' = queueOf s c' := rfl
@[simp] theorem queueOf_setWindow (s : State) (w : Nat) (v : Window) (c' : Chan) : queueOf (setWindow s w v) c' = queueOf s c' := rfl

/-! ### playerOf -/

@[simp] theorem playerOf_setPlayer_same (s : State) (c : Chan) (p : Player) : playerOf (setPlayer s c p) c = p := tget_tset_same ..
theorem playerOf_setPlayer_other (s : State) (c : Chan) (p : Player) {c' : Chan} (h : c' ≠ c) : playerOf (setPlayer s c p) c' = playerOf s c' := tget_tset_other _ _ _ h
@[simp] theorem playerOf_setF (s : State) (f : Fld) (v : Nat) (c' : Chan) : playerOf (setF s f v) c' = playerOf s c' := rfl
@[simp] theorem playerOf_setB (s : State) (f : Fld) (b : Bool) (c' : Chan) : playerOf (setB s f b) c' = playerOf s c' := rfl
@[simp] theorem playerOf_setS (s : State) (f : Fld) (v : Int) (c' : Chan) : playerOf (setS s f v) c' = playerOf s c' := rfl
@[simp] theorem playerOf_incF (s : State) (f : Fld) (c' : Chan) : playerOf (incF s f) c' = playerOf s c' := rfl
@[simp] theorem playerOf_addF (s : State) (f : Fld) (n : Nat) (c' : Chan) : playerOf (addF s f n) c' = playerOf s c' := rfl
@[simp] theorem playerOf_setBitF (s : State) (f : Fld) (n : Nat) (b : Bool) (c' : Chan) : playerOf (setBitF s f n b) c' = playerOf s c' := rfl
@[simp] theorem playerOf_fire (s : State) (p : Nat) (c' : Chan) : playerOf (fire s p) c' = playerOf s c' := rfl
@[simp] theorem playerOf_after (s : State) (n : Nat) (a : Act) (c' : Chan) : playerOf (after s n a) c' = playerOf s c' := rfl
@[simp] theorem playerOf_takeFree (s : State) (c' : Chan) : playerOf (takeFree s) c' = playerOf s c' := rfl
@[simp] theorem playerOf_emit (s : State) (e : Emitted) (c' : Chan) : playerOf (emit s e) c' = playerOf s c' := rfl
@[simp] theorem playerOf_setByte (s : State) (a : Nat) (v : Byte) (c' : Chan) : playerOf (setByte s a v) c' = playerOf s c' := rfl
@[simp] theorem playerOf_setResults (s : State) (q : Nat) (r : ResultPath) (c' : Chan) : playerOf (setResults s q r) c' = playerOf s c' := rfl
@[simp] theorem playerOf_setThread (s : State) (q t : Nat) (v : Thread) (c' : Chan) : playerOf (setThread s q t v) c' = playerOf s c' := rfl
@[simp] theorem playerOf_setQueue (s : State) (c : Chan) (l : List Entry) (c' : Chan) : playerOf (setQueue s c l) c' = playerOf s c' := rfl
@[simp] theorem playerOf_setStream (s : State) (q n : Nat) (v : Stream) (c' : Chan) : playerOf (setStream s q n v) c' = playerOf s c' := rfl
@[simp] theorem playerOf_setTone (s : State) (q c : Nat) (v : Tone) (c' : Chan) : playerOf (setTone s q c v) c' = playerOf s c' := rfl
@[simp] theorem playerOf_setOutput (s : State) (q o : Nat) (v : Output) (c' : Chan) : playerOf (setOutput s q o v) c' = playerOf s c' := rfl
@[simp] theorem playerOf_setFlux (s : State) (q i : Nat) (v : Flux) (c' : Chan) : playerOf (setFlux s q i v) c' = playerOf s c' := rfl
@[simp] theorem playerOf_setBias (s : State) (q b : Nat) (v : Bias) (c' : Chan) : playerOf (setBias s q b v) c' = playerOf s c' := rfl
@[simp] theorem playerOf_setCell (s : State) (q j : Nat) (v : Cell) (c' : Chan) : playerOf (setCell s q j v) c' = playerOf s c' := rfl
@[simp] theorem playerOf_setCtx (s : State) (q c : Nat) (v : Ctx) (c' : Chan) : playerOf (setCtx s q c v) c' = playerOf s c' := rfl
@[simp] theorem playerOf_setWindow (s : State) (w : Nat) (v : Window) (c' : Chan) : playerOf (setWindow s w v) c' = playerOf s c' := rfl

/-! ### streamOf -/

@[simp] theorem streamOf_setStream_same (s : State) (q n : Nat) (v : Stream) : streamOf (setStream s q n v) q n = v := tget_tset_same ..
theorem streamOf_setStream_other (s : State) (q n : Nat) (v : Stream) {q' n' : Nat} (h : (q', n') ≠ (q, n)) : streamOf (setStream s q n v) q' n' = streamOf s q' n' := tget_tset_other _ _ _ h
@[simp] theorem streamOf_setF (s : State) (f : Fld) (v : Nat) (q' n' : Nat) : streamOf (setF s f v) q' n' = streamOf s q' n' := rfl
@[simp] theorem streamOf_setB (s : State) (f : Fld) (b : Bool) (q' n' : Nat) : streamOf (setB s f b) q' n' = streamOf s q' n' := rfl
@[simp] theorem streamOf_setS (s : State) (f : Fld) (v : Int) (q' n' : Nat) : streamOf (setS s f v) q' n' = streamOf s q' n' := rfl
@[simp] theorem streamOf_incF (s : State) (f : Fld) (q' n' : Nat) : streamOf (incF s f) q' n' = streamOf s q' n' := rfl
@[simp] theorem streamOf_addF (s : State) (f : Fld) (n : Nat) (q' n' : Nat) : streamOf (addF s f n) q' n' = streamOf s q' n' := rfl
@[simp] theorem streamOf_setBitF (s : State) (f : Fld) (n : Nat) (b : Bool) (q' n' : Nat) : streamOf (setBitF s f n b) q' n' = streamOf s q' n' := rfl
@[simp] theorem streamOf_fire (s : State) (p : Nat) (q' n' : Nat) : streamOf (fire s p) q' n' = streamOf s q' n' := rfl
@[simp] theorem streamOf_after (s : State) (n : Nat) (a : Act) (q' n' : Nat) : streamOf (after s n a) q' n' = streamOf s q' n' := rfl
@[simp] theorem streamOf_takeFree (s : State) (q' n' : Nat) : streamOf (takeFree s) q' n' = streamOf s q' n' := rfl
@[simp] theorem streamOf_emit (s : State) (e : Emitted) (q' n' : Nat) : streamOf (emit s e) q' n' = streamOf s q' n' := rfl
@[simp] theorem streamOf_setByte (s : State) (a : Nat) (v : Byte) (q' n' : Nat) : streamOf (setByte s a v) q' n' = streamOf s q' n' := rfl
@[simp] theorem streamOf_setResults (s : State) (q : Nat) (r : ResultPath) (q' n' : Nat) : streamOf (setResults s q r) q' n' = streamOf s q' n' := rfl
@[simp] theorem streamOf_setThread (s : State) (q t : Nat) (v : Thread) (q' n' : Nat) : streamOf (setThread s q t v) q' n' = streamOf s q' n' := rfl
@[simp] theorem streamOf_setQueue (s : State) (c : Chan) (l : List Entry) (q' n' : Nat) : streamOf (setQueue s c l) q' n' = streamOf s q' n' := rfl
@[simp] theorem streamOf_setPlayer (s : State) (c : Chan) (p : Player) (q' n' : Nat) : streamOf (setPlayer s c p) q' n' = streamOf s q' n' := rfl
@[simp] theorem streamOf_setTone (s : State) (q c : Nat) (v : Tone) (q' n' : Nat) : streamOf (setTone s q c v) q' n' = streamOf s q' n' := rfl
@[simp] theorem streamOf_setOutput (s : State) (q o : Nat) (v : Output) (q' n' : Nat) : streamOf (setOutput s q o v) q' n' = streamOf s q' n' := rfl
@[simp] theorem streamOf_setFlux (s : State) (q i : Nat) (v : Flux) (q' n' : Nat) : streamOf (setFlux s q i v) q' n' = streamOf s q' n' := rfl
@[simp] theorem streamOf_setBias (s : State) (q b : Nat) (v : Bias) (q' n' : Nat) : streamOf (setBias s q b v) q' n' = streamOf s q' n' := rfl
@[simp] theorem streamOf_setCell (s : State) (q j : Nat) (v : Cell) (q' n' : Nat) : streamOf (setCell s q j v) q' n' = streamOf s q' n' := rfl
@[simp] theorem streamOf_setCtx (s : State) (q c : Nat) (v : Ctx) (q' n' : Nat) : streamOf (setCtx s q c v) q' n' = streamOf s q' n' := rfl
@[simp] theorem streamOf_setWindow (s : State) (w : Nat) (v : Window) (q' n' : Nat) : streamOf (setWindow s w v) q' n' = streamOf s q' n' := rfl

/-! ### toneOf -/

@[simp] theorem toneOf_setTone_same (s : State) (q c : Nat) (v : Tone) : toneOf (setTone s q c v) q c = v := tget_tset_same ..
theorem toneOf_setTone_other (s : State) (q c : Nat) (v : Tone) {q' c' : Nat} (h : (q', c') ≠ (q, c)) : toneOf (setTone s q c v) q' c' = toneOf s q' c' := tget_tset_other _ _ _ h
@[simp] theorem toneOf_setF (s : State) (f : Fld) (v : Nat) (q' c' : Nat) : toneOf (setF s f v) q' c' = toneOf s q' c' := rfl
@[simp] theorem toneOf_setB (s : State) (f : Fld) (b : Bool) (q' c' : Nat) : toneOf (setB s f b) q' c' = toneOf s q' c' := rfl
@[simp] theorem toneOf_setS (s : State) (f : Fld) (v : Int) (q' c' : Nat) : toneOf (setS s f v) q' c' = toneOf s q' c' := rfl
@[simp] theorem toneOf_incF (s : State) (f : Fld) (q' c' : Nat) : toneOf (incF s f) q' c' = toneOf s q' c' := rfl
@[simp] theorem toneOf_addF (s : State) (f : Fld) (n : Nat) (q' c' : Nat) : toneOf (addF s f n) q' c' = toneOf s q' c' := rfl
@[simp] theorem toneOf_setBitF (s : State) (f : Fld) (n : Nat) (b : Bool) (q' c' : Nat) : toneOf (setBitF s f n b) q' c' = toneOf s q' c' := rfl
@[simp] theorem toneOf_fire (s : State) (p : Nat) (q' c' : Nat) : toneOf (fire s p) q' c' = toneOf s q' c' := rfl
@[simp] theorem toneOf_after (s : State) (n : Nat) (a : Act) (q' c' : Nat) : toneOf (after s n a) q' c' = toneOf s q' c' := rfl
@[simp] theorem toneOf_takeFree (s : State) (q' c' : Nat) : toneOf (takeFree s) q' c' = toneOf s q' c' := rfl
@[simp] theorem toneOf_emit (s : State) (e : Emitted) (q' c' : Nat) : toneOf (emit s e) q' c' = toneOf s q' c' := rfl
@[simp] theorem toneOf_setByte (s : State) (a : Nat) (v : Byte) (q' c' : Nat) : toneOf (setByte s a v) q' c' = toneOf s q' c' := rfl
@[simp] theorem toneOf_setResults (s : State) (q : Nat) (r : ResultPath) (q' c' : Nat) : toneOf (setResults s q r) q' c' = toneOf s q' c' := rfl
@[simp] theorem toneOf_setThread (s : State) (q t : Nat) (v : Thread) (q' c' : Nat) : toneOf (setThread s q t v) q' c' = toneOf s q' c' := rfl
@[simp] theorem toneOf_setQueue (s : State) (c : Chan) (l : List Entry) (q' c' : Nat) : toneOf (setQueue s c l) q' c' = toneOf s q' c' := rfl
@[simp] theorem toneOf_setPlayer (s : State) (c : Chan) (p : Player) (q' c' : Nat) : toneOf (setPlayer s c p) q' c' = toneOf s q' c' := rfl
@[simp] theorem toneOf_setStream (s : State) (q n : Nat) (v : Stream) (q' c' : Nat) : toneOf (setStream s q n v) q' c' = toneOf s q' c' := rfl
@[simp] theorem toneOf_setOutput (s : State) (q o : Nat) (v : Output) (q' c' : Nat) : toneOf (setOutput s q o v) q' c' = toneOf s q' c' := rfl
@[simp] theorem toneOf_setFlux (s : State) (q i : Nat) (v : Flux) (q' c' : Nat) : toneOf (setFlux s q i v) q' c' = toneOf s q' c' := rfl
@[simp] theorem toneOf_setBias (s : State) (q b : Nat) (v : Bias) (q' c' : Nat) : toneOf (setBias s q b v) q' c' = toneOf s q' c' := rfl
@[simp] theorem toneOf_setCell (s : State) (q j : Nat) (v : Cell) (q' c' : Nat) : toneOf (setCell s q j v) q' c' = toneOf s q' c' := rfl
@[simp] theorem toneOf_setCtx (s : State) (q c : Nat) (v : Ctx) (q' c' : Nat) : toneOf (setCtx s q c v) q' c' = toneOf s q' c' := rfl
@[simp] theorem toneOf_setWindow (s : State) (w : Nat) (v : Window) (q' c' : Nat) : toneOf (setWindow s w v) q' c' = toneOf s q' c' := rfl

/-! ### outputOf -/

@[simp] theorem outputOf_setOutput_same (s : State) (q o : Nat) (v : Output) : outputOf (setOutput s q o v) q o = v := tget_tset_same ..
theorem outputOf_setOutput_other (s : State) (q o : Nat) (v : Output) {q' o' : Nat} (h : (q', o') ≠ (q, o)) : outputOf (setOutput s q o v) q' o' = outputOf s q' o' := tget_tset_other _ _ _ h
@[simp] theorem outputOf_setF (s : State) (f : Fld) (v : Nat) (q' o' : Nat) : outputOf (setF s f v) q' o' = outputOf s q' o' := rfl
@[simp] theorem outputOf_setB (s : State) (f : Fld) (b : Bool) (q' o' : Nat) : outputOf (setB s f b) q' o' = outputOf s q' o' := rfl
@[simp] theorem outputOf_setS (s : State) (f : Fld) (v : Int) (q' o' : Nat) : outputOf (setS s f v) q' o' = outputOf s q' o' := rfl
@[simp] theorem outputOf_incF (s : State) (f : Fld) (q' o' : Nat) : outputOf (incF s f) q' o' = outputOf s q' o' := rfl
@[simp] theorem outputOf_addF (s : State) (f : Fld) (n : Nat) (q' o' : Nat) : outputOf (addF s f n) q' o' = outputOf s q' o' := rfl
@[simp] theorem outputOf_setBitF (s : State) (f : Fld) (n : Nat) (b : Bool) (q' o' : Nat) : outputOf (setBitF s f n b) q' o' = outputOf s q' o' := rfl
@[simp] theorem outputOf_fire (s : State) (p : Nat) (q' o' : Nat) : outputOf (fire s p) q' o' = outputOf s q' o' := rfl
@[simp] theorem outputOf_after (s : State) (n : Nat) (a : Act) (q' o' : Nat) : outputOf (after s n a) q' o' = outputOf s q' o' := rfl
@[simp] theorem outputOf_takeFree (s : State) (q' o' : Nat) : outputOf (takeFree s) q' o' = outputOf s q' o' := rfl
@[simp] theorem outputOf_emit (s : State) (e : Emitted) (q' o' : Nat) : outputOf (emit s e) q' o' = outputOf s q' o' := rfl
@[simp] theorem outputOf_setByte (s : State) (a : Nat) (v : Byte) (q' o' : Nat) : outputOf (setByte s a v) q' o' = outputOf s q' o' := rfl
@[simp] theorem outputOf_setResults (s : State) (q : Nat) (r : ResultPath) (q' o' : Nat) : outputOf (setResults s q r) q' o' = outputOf s q' o' := rfl
@[simp] theorem outputOf_setThread (s : State) (q t : Nat) (v : Thread) (q' o' : Nat) : outputOf (setThread s q t v) q' o' = outputOf s q' o' := rfl
@[simp] theorem outputOf_setQueue (s : State) (c : Chan) (l : List Entry) (q' o' : Nat) : outputOf (setQueue s c l) q' o' = outputOf s q' o' := rfl
@[simp] theorem outputOf_setPlayer (s : State) (c : Chan) (p : Player) (q' o' : Nat) : outputOf (setPlayer s c p) q' o' = outputOf s q' o' := rfl
@[simp] theorem outputOf_setStream (s : State) (q n : Nat) (v : Stream) (q' o' : Nat) : outputOf (setStream s q n v) q' o' = outputOf s q' o' := rfl
@[simp] theorem outputOf_setTone (s : State) (q c : Nat) (v : Tone) (q' o' : Nat) : outputOf (setTone s q c v) q' o' = outputOf s q' o' := rfl
@[simp] theorem outputOf_setFlux (s : State) (q i : Nat) (v : Flux) (q' o' : Nat) : outputOf (setFlux s q i v) q' o' = outputOf s q' o' := rfl
@[simp] theorem outputOf_setBias (s : State) (q b : Nat) (v : Bias) (q' o' : Nat) : outputOf (setBias s q b v) q' o' = outputOf s q' o' := rfl
@[simp] theorem outputOf_setCell (s : State) (q j : Nat) (v : Cell) (q' o' : Nat) : outputOf (setCell s q j v) q' o' = outputOf s q' o' := rfl
@[simp] theorem outputOf_setCtx (s : State) (q c : Nat) (v : Ctx) (q' o' : Nat) : outputOf (setCtx s q c v) q' o' = outputOf s q' o' := rfl
@[simp] theorem outputOf_setWindow (s : State) (w : Nat) (v : Window) (q' o' : Nat) : outputOf (setWindow s w v) q' o' = outputOf s q' o' := rfl

/-! ### fluxOf -/

@[simp] theorem fluxOf_setFlux_same (s : State) (q i : Nat) (v : Flux) : fluxOf (setFlux s q i v) q i = v := tget_tset_same ..
theorem fluxOf_setFlux_other (s : State) (q i : Nat) (v : Flux) {q' i' : Nat} (h : (q', i') ≠ (q, i)) : fluxOf (setFlux s q i v) q' i' = fluxOf s q' i' := tget_tset_other _ _ _ h
@[simp] theorem fluxOf_setF (s : State) (f : Fld) (v : Nat) (q' i' : Nat) : fluxOf (setF s f v) q' i' = fluxOf s q' i' := rfl
@[simp] theorem fluxOf_setB (s : State) (f : Fld) (b : Bool) (q' i' : Nat) : fluxOf (setB s f b) q' i' = fluxOf s q' i' := rfl
@[simp] theorem fluxOf_setS (s : State) (f : Fld) (v : Int) (q' i' : Nat) : fluxOf (setS s f v) q' i' = fluxOf s q' i' := rfl
@[simp] theorem fluxOf_incF (s : State) (f : Fld) (q' i' : Nat) : fluxOf (incF s f) q' i' = fluxOf s q' i' := rfl
@[simp] theorem fluxOf_addF (s : State) (f : Fld) (n : Nat) (q' i' : Nat) : fluxOf (addF s f n) q' i' = fluxOf s q' i' := rfl
@[simp] theorem fluxOf_setBitF (s : State) (f : Fld) (n : Nat) (b : Bool) (q' i' : Nat) : fluxOf (setBitF s f n b) q' i' = fluxOf s q' i' := rfl
@[simp] theorem fluxOf_fire (s : State) (p : Nat) (q' i' : Nat) : fluxOf (fire s p) q' i' = fluxOf s q' i' := rfl
@[simp] theorem fluxOf_after (s : State) (n : Nat) (a : Act) (q' i' : Nat) : fluxOf (after s n a) q' i' = fluxOf s q' i' := rfl
@[simp] theorem fluxOf_takeFree (s : State) (q' i' : Nat) : fluxOf (takeFree s) q' i' = fluxOf s q' i' := rfl
@[simp] theorem fluxOf_emit (s : State) (e : Emitted) (q' i' : Nat) : fluxOf (emit s e) q' i' = fluxOf s q' i' := rfl
@[simp] theorem fluxOf_setByte (s : State) (a : Nat) (v : Byte) (q' i' : Nat) : fluxOf (setByte s a v) q' i' = fluxOf s q' i' := rfl
@[simp] theorem fluxOf_setResults (s : State) (q : Nat) (r : ResultPath) (q' i' : Nat) : fluxOf (setResults s q r) q' i' = fluxOf s q' i' := rfl
@[simp] theorem fluxOf_setThread (s : State) (q t : Nat) (v : Thread) (q' i' : Nat) : fluxOf (setThread s q t v) q' i' = fluxOf s q' i' := rfl
@[simp] theorem fluxOf_setQueue (s : State) (c : Chan) (l : List Entry) (q' i' : Nat) : fluxOf (setQueue s c l) q' i' = fluxOf s q' i' := rfl
@[simp] theorem fluxOf_setPlayer (s : State) (c : Chan) (p : Player) (q' i' : Nat) : fluxOf (setPlayer s c p) q' i' = fluxOf s q' i' := rfl
@[simp] theorem fluxOf_setStream (s : State) (q n : Nat) (v : Stream) (q' i' : Nat) : fluxOf (setStream s q n v) q' i' = fluxOf s q' i' := rfl
@[simp] theorem fluxOf_setTone (s : State) (q c : Nat) (v : Tone) (q' i' : Nat) : fluxOf (setTone s q c v) q' i' = fluxOf s q' i' := rfl
@[simp] theorem fluxOf_setOutput (s : State) (q o : Nat) (v : Output) (q' i' : Nat) : fluxOf (setOutput s q o v) q' i' = fluxOf s q' i' := rfl
@[simp] theorem fluxOf_setBias (s : State) (q b : Nat) (v : Bias) (q' i' : Nat) : fluxOf (setBias s q b v) q' i' = fluxOf s q' i' := rfl
@[simp] theorem fluxOf_setCell (s : State) (q j : Nat) (v : Cell) (q' i' : Nat) : fluxOf (setCell s q j v) q' i' = fluxOf s q' i' := rfl
@[simp] theorem fluxOf_setCtx (s : State) (q c : Nat) (v : Ctx) (q' i' : Nat) : fluxOf (setCtx s q c v) q' i' = fluxOf s q' i' := rfl
@[simp] theorem fluxOf_setWindow (s : State) (w : Nat) (v : Window) (q' i' : Nat) : fluxOf (setWindow s w v) q' i' = fluxOf s q' i' := rfl

/-! ### biasOf -/

@[simp] theorem biasOf_setBias_same (s : State) (q b : Nat) (v : Bias) : biasOf (setBias s q b v) q b = v := tget_tset_same ..
theorem biasOf_setBias_other (s : State) (q b : Nat) (v : Bias) {q' b' : Nat} (h : (q', b') ≠ (q, b)) : biasOf (setBias s q b v) q' b' = biasOf s q' b' := tget_tset_other _ _ _ h
@[simp] theorem biasOf_setF (s : State) (f : Fld) (v : Nat) (q' b' : Nat) : biasOf (setF s f v) q' b' = biasOf s q' b' := rfl
@[simp] theorem biasOf_setB (s : State) (f : Fld) (b : Bool) (q' b' : Nat) : biasOf (setB s f b) q' b' = biasOf s q' b' := rfl
@[simp] theorem biasOf_setS (s : State) (f : Fld) (v : Int) (q' b' : Nat) : biasOf (setS s f v) q' b' = biasOf s q' b' := rfl
@[simp] theorem biasOf_incF (s : State) (f : Fld) (q' b' : Nat) : biasOf (incF s f) q' b' = biasOf s q' b' := rfl
@[simp] theorem biasOf_addF (s : State) (f : Fld) (n : Nat) (q' b' : Nat) : biasOf (addF s f n) q' b' = biasOf s q' b' := rfl
@[simp] theorem biasOf_setBitF (s : State) (f : Fld) (n : Nat) (b : Bool) (q' b' : Nat) : biasOf (setBitF s f n b) q' b' = biasOf s q' b' := rfl
@[simp] theorem biasOf_fire (s : State) (p : Nat) (q' b' : Nat) : biasOf (fire s p) q' b' = biasOf s q' b' := rfl
@[simp] theorem biasOf_after (s : State) (n : Nat) (a : Act) (q' b' : Nat) : biasOf (after s n a) q' b' = biasOf s q' b' := rfl
@[simp] theorem biasOf_takeFree (s : State) (q' b' : Nat) : biasOf (takeFree s) q' b' = biasOf s q' b' := rfl
@[simp] theorem biasOf_emit (s : State) (e : Emitted) (q' b' : Nat) : biasOf (emit s e) q' b' = biasOf s q' b' := rfl
@[simp] theorem biasOf_setByte (s : State) (a : Nat) (v : Byte) (q' b' : Nat) : biasOf (setByte s a v) q' b' = biasOf s q' b' := rfl
@[simp] theorem biasOf_setResults (s : State) (q : Nat) (r : ResultPath) (q' b' : Nat) : biasOf (setResults s q r) q' b' = biasOf s q' b' := rfl
@[simp] theorem biasOf_setThread (s : State) (q t : Nat) (v : Thread) (q' b' : Nat) : biasOf (setThread s q t v) q' b' = biasOf s q' b' := rfl
@[simp] theorem biasOf_setQueue (s : State) (c : Chan) (l : List Entry) (q' b' : Nat) : biasOf (setQueue s c l) q' b' = biasOf s q' b' := rfl
@[simp] theorem biasOf_setPlayer (s : State) (c : Chan) (p : Player) (q' b' : Nat) : biasOf (setPlayer s c p) q' b' = biasOf s q' b' := rfl
@[simp] theorem biasOf_setStream (s : State) (q n : Nat) (v : Stream) (q' b' : Nat) : biasOf (setStream s q n v) q' b' = biasOf s q' b' := rfl
@[simp] theorem biasOf_setTone (s : State) (q c : Nat) (v : Tone) (q' b' : Nat) : biasOf (setTone s q c v) q' b' = biasOf s q' b' := rfl
@[simp] theorem biasOf_setOutput (s : State) (q o : Nat) (v : Output) (q' b' : Nat) : biasOf (setOutput s q o v) q' b' = biasOf s q' b' := rfl
@[simp] theorem biasOf_setFlux (s : State) (q i : Nat) (v : Flux) (q' b' : Nat) : biasOf (setFlux s q i v) q' b' = biasOf s q' b' := rfl
@[simp] theorem biasOf_setCell (s : State) (q j : Nat) (v : Cell) (q' b' : Nat) : biasOf (setCell s q j v) q' b' = biasOf s q' b' := rfl
@[simp] theorem biasOf_setCtx (s : State) (q c : Nat) (v : Ctx) (q' b' : Nat) : biasOf (setCtx s q c v) q' b' = biasOf s q' b' := rfl
@[simp] theorem biasOf_setWindow (s : State) (w : Nat) (v : Window) (q' b' : Nat) : biasOf (setWindow s w v) q' b' = biasOf s q' b' := rfl

/-! ### cellOf -/

@[simp] theorem cellOf_setCell_same (s : State) (q j : Nat) (v : Cell) : cellOf (setCell s q j v) q j = v := tget_tset_same ..
theorem cellOf_setCell_other (s : State) (q j : Nat) (v : Cell) {q' j' : Nat} (h : (q', j') ≠ (q, j)) : cellOf (setCell s q j v) q' j' = cellOf s q' j' := tget_tset_other _ _ _ h
@[simp] theorem cellOf_setF (s : State) (f : Fld) (v : Nat) (q' j' : Nat) : cellOf (setF s f v) q' j' = cellOf s q' j' := rfl
@[simp] theorem cellOf_setB (s : State) (f : Fld) (b : Bool) (q' j' : Nat) : cellOf (setB s f b) q' j' = cellOf s q' j' := rfl
@[simp] theorem cellOf_setS (s : State) (f : Fld) (v : Int) (q' j' : Nat) : cellOf (setS s f v) q' j' = cellOf s q' j' := rfl
@[simp] theorem cellOf_incF (s : State) (f : Fld) (q' j' : Nat) : cellOf (incF s f) q' j' = cellOf s q' j' := rfl
@[simp] theorem cellOf_addF (s : State) (f : Fld) (n : Nat) (q' j' : Nat) : cellOf (addF s f n) q' j' = cellOf s q' j' := rfl
@[simp] theorem cellOf_setBitF (s : State) (f : Fld) (n : Nat) (b : Bool) (q' j' : Nat) : cellOf (setBitF s f n b) q' j' = cellOf s q' j' := rfl
@[simp] theorem cellOf_fire (s : State) (p : Nat) (q' j' : Nat) : cellOf (fire s p) q' j' = cellOf s q' j' := rfl
@[simp] theorem cellOf_after (s : State) (n : Nat) (a : Act) (q' j' : Nat) : cellOf (after s n a) q' j' = cellOf s q' j' := rfl
@[simp] theorem cellOf_takeFree (s : State) (q' j' : Nat) : cellOf (takeFree s) q' j' = cellOf s q' j' := rfl
@[simp] theorem cellOf_emit (s : State) (e : Emitted) (q' j' : Nat) : cellOf (emit s e) q' j' = cellOf s q' j' := rfl
@[simp] theorem cellOf_setByte (s : State) (a : Nat) (v : Byte) (q' j' : Nat) : cellOf (setByte s a v) q' j' = cellOf s q' j' := rfl
@[simp] theorem cellOf_setResults (s : State) (q : Nat) (r : ResultPath) (q' j' : Nat) : cellOf (setResults s q r) q' j' = cellOf s q' j' := rfl
@[simp] theorem cellOf_setThread (s : State) (q t : Nat) (v : Thread) (q' j' : Nat) : cellOf (setThread s q t v) q' j' = cellOf s q' j' := rfl
@[simp] theorem cellOf_setQueue (s : State) (c : Chan) (l : List Entry) (q' j' : Nat) : cellOf (setQueue s c l) q' j' = cellOf s q' j' := rfl
@[simp] theorem cellOf_setPlayer (s : State) (c : Chan) (p : Player) (q' j' : Nat) : cellOf (setPlayer s c p) q' j' = cellOf s q' j' := rfl
@[simp] theorem cellOf_setStream (s : State) (q n : Nat) (v : Stream) (q' j' : Nat) : cellOf (setStream s q n v) q' j' = cellOf s q' j' := rfl
@[simp] theorem cellOf_setTone (s : State) (q c : Nat) (v : Tone) (q' j' : Nat) : cellOf (setTone s q c v) q' j' = cellOf s q' j' := rfl
@[simp] theorem cellOf_setOutput (s : State) (q o : Nat) (v : Output) (q' j' : Nat) : cellOf (setOutput s q o v) q' j' = cellOf s q' j' := rfl
@[simp] theorem cellOf_setFlux (s : State) (q i : Nat) (v : Flux) (q' j' : Nat) : cellOf (setFlux s q i v) q' j' = cellOf s q' j' := rfl
@[simp] theorem cellOf_setBias (s : State) (q b : Nat) (v : Bias) (q' j' : Nat) : cellOf (setBias s q b v) q' j' = cellOf s q' j' := rfl
@[simp] theorem cellOf_setCtx (s : State) (q c : Nat) (v : Ctx) (q' j' : Nat) : cellOf (setCtx s q c v) q' j' = cellOf s q' j' := rfl
@[simp] theorem cellOf_setWindow (s : State) (w : Nat) (v : Window) (q' j' : Nat) : cellOf (setWindow s w v) q' j' = cellOf s q' j' := rfl

/-! ### ctxOf -/

@[simp] theorem ctxOf_setCtx_same (s : State) (q c : Nat) (v : Ctx) : ctxOf (setCtx s q c v) q c = v := tget_tset_same ..
theorem ctxOf_setCtx_other (s : State) (q c : Nat) (v : Ctx) {q' c' : Nat} (h : (q', c') ≠ (q, c)) : ctxOf (setCtx s q c v) q' c' = ctxOf s q' c' := tget_tset_other _ _ _ h
@[simp] theorem ctxOf_setF (s : State) (f : Fld) (v : Nat) (q' c' : Nat) : ctxOf (setF s f v) q' c' = ctxOf s q' c' := rfl
@[simp] theorem ctxOf_setB (s : State) (f : Fld) (b : Bool) (q' c' : Nat) : ctxOf (setB s f b) q' c' = ctxOf s q' c' := rfl
@[simp] theorem ctxOf_setS (s : State) (f : Fld) (v : Int) (q' c' : Nat) : ctxOf (setS s f v) q' c' = ctxOf s q' c' := rfl
@[simp] theorem ctxOf_incF (s : State) (f : Fld) (q' c' : Nat) : ctxOf (incF s f) q' c' = ctxOf s q' c' := rfl
@[simp] theorem ctxOf_addF (s : State) (f : Fld) (n : Nat) (q' c' : Nat) : ctxOf (addF s f n) q' c' = ctxOf s q' c' := rfl
@[simp] theorem ctxOf_setBitF (s : State) (f : Fld) (n : Nat) (b : Bool) (q' c' : Nat) : ctxOf (setBitF s f n b) q' c' = ctxOf s q' c' := rfl
@[simp] theorem ctxOf_fire (s : State) (p : Nat) (q' c' : Nat) : ctxOf (fire s p) q' c' = ctxOf s q' c' := rfl
@[simp] theorem ctxOf_after (s : State) (n : Nat) (a : Act) (q' c' : Nat) : ctxOf (after s n a) q' c' = ctxOf s q' c' := rfl
@[simp] theorem ctxOf_takeFree (s : State) (q' c' : Nat) : ctxOf (takeFree s) q' c' = ctxOf s q' c' := rfl
@[simp] theorem ctxOf_emit (s : State) (e : Emitted) (q' c' : Nat) : ctxOf (emit s e) q' c' = ctxOf s q' c' := rfl
@[simp] theorem ctxOf_setByte (s : State) (a : Nat) (v : Byte) (q' c' : Nat) : ctxOf (setByte s a v) q' c' = ctxOf s q' c' := rfl
@[simp] theorem ctxOf_setResults (s : State) (q : Nat) (r : ResultPath) (q' c' : Nat) : ctxOf (setResults s q r) q' c' = ctxOf s q' c' := rfl
@[simp] theorem ctxOf_setThread (s : State) (q t : Nat) (v : Thread) (q' c' : Nat) : ctxOf (setThread s q t v) q' c' = ctxOf s q' c' := rfl
@[simp] theorem ctxOf_setQueue (s : State) (c : Chan) (l : List Entry) (q' c' : Nat) : ctxOf (setQueue s c l) q' c' = ctxOf s q' c' := rfl
@[simp] theorem ctxOf_setPlayer (s : State) (c : Chan) (p : Player) (q' c' : Nat) : ctxOf (setPlayer s c p) q' c' = ctxOf s q' c' := rfl
@[simp] theorem ctxOf_setStream (s : State) (q n : Nat) (v : Stream) (q' c' : Nat) : ctxOf (setStream s q n v) q' c' = ctxOf s q' c' := rfl
@[simp] theorem ctxOf_setTone (s : State) (q c : Nat) (v : Tone) (q' c' : Nat) : ctxOf (setTone s q c v) q' c' = ctxOf s q' c' := rfl
@[simp] theorem ctxOf_setOutput (s : State) (q o : Nat) (v : Output) (q' c' : Nat) : ctxOf (setOutput s q o v) q' c' = ctxOf s q' c' := rfl
@[simp] theorem ctxOf_setFlux (s : State) (q i : Nat) (v : Flux) (q' c' : Nat) : ctxOf (setFlux s q i v) q' c' = ctxOf s q' c' := rfl
@[simp] theorem ctxOf_setBias (s : State) (q b : Nat) (v : Bias) (q' c' : Nat) : ctxOf (setBias s q b v) q' c' = ctxOf s q' c' := rfl
@[simp] theorem ctxOf_setCell (s : State) (q j : Nat) (v : Cell) (q' c' : Nat) : ctxOf (setCell s q j v) q' c' = ctxOf s q' c' := rfl
@[simp] theorem ctxOf_setWindow (s : State) (w : Nat) (v : Window) (q' c' : Nat) : ctxOf (setWindow s w v) q' c' = ctxOf s q' c' := rfl

/-! ### windowOf -/

@[simp] theorem windowOf_setWindow_same (s : State) (w : Nat) (v : Window) : windowOf (setWindow s w v) w = v := tget_tset_same ..
theorem windowOf_setWindow_other (s : State) (w : Nat) (v : Window) {w' : Nat} (h : w' ≠ w) : windowOf (setWindow s w v) w' = windowOf s w' := tget_tset_other _ _ _ h
@[simp] theorem windowOf_setF (s : State) (f : Fld) (v : Nat) (w' : Nat) : windowOf (setF s f v) w' = windowOf s w' := rfl
@[simp] theorem windowOf_setB (s : State) (f : Fld) (b : Bool) (w' : Nat) : windowOf (setB s f b) w' = windowOf s w' := rfl
@[simp] theorem windowOf_setS (s : State) (f : Fld) (v : Int) (w' : Nat) : windowOf (setS s f v) w' = windowOf s w' := rfl
@[simp] theorem windowOf_incF (s : State) (f : Fld) (w' : Nat) : windowOf (incF s f) w' = windowOf s w' := rfl
@[simp] theorem windowOf_addF (s : State) (f : Fld) (n : Nat) (w' : Nat) : windowOf (addF s f n) w' = windowOf s w' := rfl
@[simp] theorem windowOf_setBitF (s : State) (f : Fld) (n : Nat) (b : Bool) (w' : Nat) : windowOf (setBitF s f n b) w' = windowOf s w' := rfl
@[simp] theorem windowOf_fire (s : State) (p : Nat) (w' : Nat) : windowOf (fire s p) w' = windowOf s w' := rfl
@[simp] theorem windowOf_after (s : State) (n : Nat) (a : Act) (w' : Nat) : windowOf (after s n a) w' = windowOf s w' := rfl
@[simp] theorem windowOf_takeFree (s : State) (w' : Nat) : windowOf (takeFree s) w' = windowOf s w' := rfl
@[simp] theorem windowOf_emit (s : State) (e : Emitted) (w' : Nat) : windowOf (emit s e) w' = windowOf s w' := rfl
@[simp] theorem windowOf_setByte (s : State) (a : Nat) (v : Byte) (w' : Nat) : windowOf (setByte s a v) w' = windowOf s w' := rfl
@[simp] theorem windowOf_setResults (s : State) (q : Nat) (r : ResultPath) (w' : Nat) : windowOf (setResults s q r) w' = windowOf s w' := rfl
@[simp] theorem windowOf_setThread (s : State) (q t : Nat) (v : Thread) (w' : Nat) : windowOf (setThread s q t v) w' = windowOf s w' := rfl
@[simp] theorem windowOf_setQueue (s : State) (c : Chan) (l : List Entry) (w' : Nat) : windowOf (setQueue s c l) w' = windowOf s w' := rfl
@[simp] theorem windowOf_setPlayer (s : State) (c : Chan) (p : Player) (w' : Nat) : windowOf (setPlayer s c p) w' = windowOf s w' := rfl
@[simp] theorem windowOf_setStream (s : State) (q n : Nat) (v : Stream) (w' : Nat) : windowOf (setStream s q n v) w' = windowOf s w' := rfl
@[simp] theorem windowOf_setTone (s : State) (q c : Nat) (v : Tone) (w' : Nat) : windowOf (setTone s q c v) w' = windowOf s w' := rfl
@[simp] theorem windowOf_setOutput (s : State) (q o : Nat) (v : Output) (w' : Nat) : windowOf (setOutput s q o v) w' = windowOf s w' := rfl
@[simp] theorem windowOf_setFlux (s : State) (q i : Nat) (v : Flux) (w' : Nat) : windowOf (setFlux s q i v) w' = windowOf s w' := rfl
@[simp] theorem windowOf_setBias (s : State) (q b : Nat) (v : Bias) (w' : Nat) : windowOf (setBias s q b v) w' = windowOf s w' := rfl
@[simp] theorem windowOf_setCell (s : State) (q j : Nat) (v : Cell) (w' : Nat) : windowOf (setCell s q j v) w' = windowOf s w' := rfl
@[simp] theorem windowOf_setCtx (s : State) (q c : Nat) (v : Ctx) (w' : Nat) : windowOf (setCtx s q c v) w' = windowOf s w' := rfl

/-! ### results -/

@[simp] theorem results_setResults_same (s : State) (q : Nat) (r : ResultPath) : results (setResults s q r) q = r := tget_tset_same ..
theorem results_setResults_other (s : State) (q : Nat) (r : ResultPath) {q' : Nat} (h : q' ≠ q) : results (setResults s q r) q' = results s q' := tget_tset_other _ _ _ h
@[simp] theorem results_setF (s : State) (f : Fld) (v : Nat) (q' : Nat) : results (setF s f v) q' = results s q' := rfl
@[simp] theorem results_setB (s : State) (f : Fld) (b : Bool) (q' : Nat) : results (setB s f b) q' = results s q' := rfl
@[simp] theorem results_setS (s : State) (f : Fld) (v : Int) (q' : Nat) : results (setS s f v) q' = results s q' := rfl
@[simp] theorem results_incF (s : State) (f : Fld) (q' : Nat) : results (incF s f) q' = results s q' := rfl
@[simp] theorem results_addF (s : State) (f : Fld) (n : Nat) (q' : Nat) : results (addF s f n) q' = results s q' := rfl
@[simp] theorem results_setBitF (s : State) (f : Fld) (n : Nat) (b : Bool) (q' : Nat) : results (setBitF s f n b) q' = results s q' := rfl
@[simp] theorem results_fire (s : State) (p : Nat) (q' : Nat) : results (fire s p) q' = results s q' := rfl
@[simp] theorem results_after (s : State) (n : Nat) (a : Act) (q' : Nat) : results (after s n a) q' = results s q' := rfl
@[simp] theorem results_takeFree (s : State) (q' : Nat) : results (takeFree s) q' = results s q' := rfl
@[simp] theorem results_emit (s : State) (e : Emitted) (q' : Nat) : results (emit s e) q' = results s q' := rfl
@[simp] theorem results_setByte (s : State) (a : Nat) (v : Byte) (q' : Nat) : results (setByte s a v) q' = results s q' := rfl
@[simp] theorem results_setThread (s : State) (q t : Nat) (v : Thread) (q' : Nat) : results (setThread s q t v) q' = results s q' := rfl
@[simp] theorem results_setQueue (s : State) (c : Chan) (l : List Entry) (q' : Nat) : results (setQueue s c l) q' = results s q' := rfl
@[simp] theorem results_setPlayer (s : State) (c : Chan) (p : Player) (q' : Nat) : results (setPlayer s c p) q' = results s q' := rfl
@[simp] theorem results_setStream (s : State) (q n : Nat) (v : Stream) (q' : Nat) : results (setStream s q n v) q' = results s q' := rfl
@[simp] theorem results_setTone (s : State) (q c : Nat) (v : Tone) (q' : Nat) : results (setTone s q c v) q' = results s q' := rfl
@[simp] theorem results_setOutput (s : State) (q o : Nat) (v : Output) (q' : Nat) : results (setOutput s q o v) q' = results s q' := rfl
@[simp] theorem results_setFlux (s : State) (q i : Nat) (v : Flux) (q' : Nat) : results (setFlux s q i v) q' = results s q' := rfl
@[simp] theorem results_setBias (s : State) (q b : Nat) (v : Bias) (q' : Nat) : results (setBias s q b v) q' = results s q' := rfl
@[simp] theorem results_setCell (s : State) (q j : Nat) (v : Cell) (q' : Nat) : results (setCell s q j v) q' = results s q' := rfl
@[simp] theorem results_setCtx (s : State) (q c : Nat) (v : Ctx) (q' : Nat) : results (setCtx s q c v) q' = results s q' := rfl
@[simp] theorem results_setWindow (s : State) (w : Nat) (v : Window) (q' : Nat) : results (setWindow s w v) q' = results s q' := rfl

end Sys2Proof.Machine
end

