-- ==== Sys2Proof/Machine/Package.lean ====
section
/-! DEFINITION. The package (R467 to R486): the name and place of every ball, the states of the digital outputs, the supplies, and the
figures of power and temperature. -/

namespace Sys2Proof.Machine

/-! ### The grid and the bands (R467, R468) -/

/-- The letters of the rows. -/
def rowLetters : List String := ["A", "B", "C", "D", "E", "F", "G", "H", "J", "K", "L", "M", "N", "P", "T", "U", "V", "W", "Y"]

/-- The name of a row, 1 to 64 (R467). -/
def rowName (r : Nat) : String :=
  (["", "A", "B", "C"].getD ((r - 1) / 19) "") ++ rowLetters.getD ((r - 1) % 19) ""

/-- A ball: its row and its column, from 1. -/
structure Ball where
  row : Nat
  col : Nat
deriving DecidableEq, Repr

/-- The name of a ball. -/
def ballName (b : Ball) : String := rowName b.row ++ toString b.col

/-- The ball of region g's band at a line and a band position (R468). -/
def bandBall (g line pos : Nat) : Ball :=
  match g with
  | 0 => ⟨line, pos⟩
  | 1 => ⟨pos, 65 - line⟩
  | 2 => ⟨65 - line, 65 - pos⟩
  | _ => ⟨65 - pos, line⟩

/-! ### What the balls carry (R469 to R471) -/

/-- Where a microwave group of a band starts (R469). -/
def groupPos (k : Nat) : Nat := if k < 8 then 2 * k + 1 else if k < 12 then 2 * k + 5 else 2 * k + 9

/-- A signal with a ball of its own; of a pair its P, else its N. -/
inductive Signal where
  | drv (n : Nat) (p : Bool)
  | prb (q : Nat) (p : Bool)
  | acq (q : Nat) (p : Bool)
  | flx (c : Nat)
  | flxMonitor (c : Nat)
  | bias (b : Nat)
  | biasSense (b : Nat)
  | laneTx (n : Nat) (p : Bool)
  | laneRx (n : Nat) (p : Bool)
deriving DecidableEq, Repr

/-- The group of a microwave signal within its region's band (R469). -/
def microwaveGroup : Signal → Nat
  | .drv n _ => if n % 16 < 8 then n % 16 else n % 16 + 8
  | .acq q _ => 8 + q % 4
  | .prb q _ => 12 + q % 4
  | _ => 0

/-- A ball of a microwave group: line 2, P in its first column, N in its second. -/
def microwaveBall (g k : Nat) (p : Bool) : Ball := bandBall g 2 (groupPos k + (if p then 0 else 1))

/-- The guard grounds of a microwave group: lines 1 and 3. -/
def guardBalls (g k : Nat) : List Ball := [1, 3].flatMap (fun line => [bandBall g line (groupPos k), bandBall g line (groupPos k + 1)])

/-- The ball of a quire's 14 columns at a line from 4 to 8 (R470). -/
def quireBall (q line col : Nat) : Ball := bandBall (q / 4) line (14 * (q % 4) + col)

/-- A ball of a SerDes lane (R471): its column within the lane's three, and whether it receives. -/
def laneBall (n col : Nat) (rx : Bool) : Ball := ⟨(if n < 14 then 53 else 55) + rx.toNat, 9 + 3 * (n % 14) + col⟩

/-- The ball of a signal (R469 to R471). -/
def signalBall (x : Signal) : Ball :=
  match x with
  | .drv n p => microwaveBall (n / 16) (microwaveGroup x) p
  | .prb q p => microwaveBall (q / 4) (microwaveGroup x) p
  | .acq q p => microwaveBall (q / 4) (microwaveGroup x) p
  | .flx c => if c % 24 < 12 then quireBall (c / 24) 5 (c % 24 + 1) else quireBall (c / 24) 7 (c % 24 - 11)
  | .flxMonitor c => if c % 24 < 12 then quireBall (c / 24) 6 (c % 24 + 1) else quireBall (c / 24) 8 (c % 24 - 11)
  | .bias b => quireBall (b / 2) 5 (13 + b % 2)
  | .biasSense b => quireBall (b / 2) 6 (13 + b % 2)
  | .laneTx n p => laneBall n (if p then 0 else 1) false
  | .laneRx n p => laneBall n (if p then 0 else 1) true

/-- The SerDes lanes (R471): of a chain port's lane, a PCIe lane, an Ethernet port, a production test lane. -/
def chainLane (p l : Nat) : Nat := 2 * p + l
def pcieLane (k : Nat) : Nat := 16 + k
def etherLane (e : Nat) : Nat := 24 + e
def testLane (k : Nat) : Nat := 26 + k

/-- The balls of an LPDDR6 channel (R471). -/
def ddrBalls (d : Nat) : List Ball := [9, 10, 11].flatMap (fun r => (List.range 11).map (fun k => ⟨r, 9 + 11 * d + k⟩))

/-! ### Supplies (R442, R472, R477, R478) -/

/-- The rails. -/
inductive Rail where
  | core | sram | dac | ana | adc | fluxP | fluxN | ser085 | ser120 | ddq | io | loft | vss
deriving DecidableEq, Repr

/-- Every rail. -/
def Rail.all : List Rail := [.core, .sram, .dac, .ana, .adc, .fluxP, .fluxN, .ser085, .ser120, .ddq, .io, .loft, .vss]

/-- The balls of a rail in each band and in the interior (R472). -/
def railBalls : Rail → Nat × Nat
  | .core => (0, 640)
  | .sram => (0, 96)
  | .dac => (24, 0)
  | .ana => (12, 0)
  | .adc => (12, 0)
  | .fluxP => (8, 0)
  | .fluxN => (8, 0)
  | .ser085 => (0, 48)
  | .ser120 => (0, 24)
  | .ddq => (0, 48)
  | .io => (0, 16)
  | .loft => (0, 4)
  | .vss => (32, 1032)

/-- The power and ground balls, the guard grounds apart. -/
def powerBalls : Nat := (Rail.all.map (fun r => 4 * (railBalls r).1 + (railBalls r).2)).sum

/-- The balls of the other groups (R472): drive and probe, read-out, flux and bias, SerDes, LPDDR6, control. -/
def groupBalls : List Nat := [480, 96, 832, 168, 132, 96]

/-- The least, nominal and greatest voltage of a rail in mV (R477); VDDQ as its devices' standard gives it, VSS the reference. -/
def railRange : Rail → Option (Int × Int × Int)
  | .core => some (720, 750, 780)
  | .sram => some (770, 800, 830)
  | .dac => some (970, 1000, 1030)
  | .ana => some (1750, 1800, 1850)
  | .adc => some (870, 900, 930)
  | .fluxP => some (4850, 5000, 5150)
  | .fluxN => some (-5150, -5000, -4850)
  | .ser085 => some (820, 850, 880)
  | .ser120 => some (1160, 1200, 1240)
  | .io | .loft => some (1710, 1800, 1890)
  | .ddq | .vss => none

/-- The typical and greatest current of a rail in mA (R477). -/
def railCurrent : Rail → Option (Nat × Nat)
  | .core => some (150000, 160000)
  | .sram => some (12000, 15000)
  | .dac => some (42000, 48000)
  | .ana => some (8500, 10000)
  | .adc => some (12000, 14000)
  | .fluxP | .fluxN => some (1600, 3000)
  | .ser085 => some (8000, 10000)
  | .ser120 => some (2000, 2500)
  | .io => some (600, 1000)
  | .loft => some (28, 40)
  | .ddq | .vss => none

/-- The stress limits of a rail in mV (R478). -/
def railLimit : Rail → Option (Int × Int)
  | .core => some (-300, 900)
  | .sram => some (-300, 950)
  | .dac | .adc => some (-300, 1150)
  | .ana | .io | .loft => some (-300, 2000)
  | .fluxP => some (-300, 5600)
  | .fluxN => some (-5600, 300)
  | .ser085 => some (-300, 1000)
  | .ser120 => some (-300, 1350)
  | .ddq => some (-300, 800)
  | .vss => none

/-- A voltage in mV lies in a rail's range. -/
def railGood (r : Rail) (mv : Int) : Bool :=
  match railRange r with
  | some (lo, _, hi) => decide (lo ≤ mv) && decide (mv ≤ hi)
  | none => true

/-! ### Control balls (R473, R475, R479) -/

/-- The direction of a control ball, and its internal pull. -/
inductive PinDir where
  | input | output | openDrain | both
deriving DecidableEq, Repr
inductive PinPull where
  | none | up | down
deriving DecidableEq, Repr

/-- A control ball (R473). -/
structure ControlBall where
  name : String
  ball : Ball
  dir : PinDir
  rail : Rail
  pull : PinPull
deriving DecidableEq, Repr

/-- The digital control balls (R473); rows W, Y and AA to AH are 18 to 27. -/
def controlBalls : List ControlBall :=
  [⟨"RESET_N", ⟨18, 53⟩, .input, .io, .none⟩, ⟨"PERS", ⟨18, 54⟩, .input, .io, .down⟩, ⟨"MASTER", ⟨18, 55⟩, .input, .io, .down⟩,
   ⟨"THROT_N", ⟨18, 56⟩, .openDrain, .io, .none⟩, ⟨"ALERT_N", ⟨19, 53⟩, .openDrain, .loft, .none⟩,
   ⟨"ZEROIZE_N", ⟨19, 54⟩, .input, .loft, .up⟩, ⟨"TRIPIN_N", ⟨19, 55⟩, .input, .io, .up⟩, ⟨"WAKE_N", ⟨19, 56⟩, .input, .loft, .up⟩,
   ⟨"PERST_N", ⟨20, 53⟩, .input, .io, .up⟩, ⟨"PMB_SCL", ⟨21, 53⟩, .openDrain, .loft, .none⟩,
   ⟨"PMB_SDA", ⟨21, 54⟩, .openDrain, .loft, .none⟩, ⟨"PMB_SALERT_N", ⟨21, 55⟩, .input, .loft, .none⟩]
  ++ [⟨"TCK", ⟨23, 53⟩, .input, .io, .down⟩, ⟨"TMS", ⟨23, 54⟩, .input, .io, .up⟩, ⟨"TDI", ⟨23, 55⟩, .input, .io, .up⟩,
   ⟨"TDO", ⟨23, 56⟩, .output, .io, .none⟩, ⟨"TRST_N", ⟨24, 53⟩, .input, .io, .down⟩, ⟨"QSPI_SCK", ⟨26, 53⟩, .output, .io, .none⟩,
   ⟨"QSPI_CS_N", ⟨26, 54⟩, .output, .io, .up⟩, ⟨"QSPI_IO0", ⟨27, 53⟩, .both, .io, .up⟩, ⟨"QSPI_IO1", ⟨27, 54⟩, .both, .io, .up⟩,
   ⟨"QSPI_IO2", ⟨27, 55⟩, .both, .io, .up⟩, ⟨"QSPI_IO3", ⟨27, 56⟩, .both, .io, .up⟩]

/-- The level of an open-drain output. -/
inductive PinState where
  | highZ | low
deriving DecidableEq, Repr

/-- THROT_N and ALERT_N (R451, R455, R475). -/
def throtPin (s : State) : PinState := if throtLow s then .low else .highZ
def alertPin (s : State) : PinState := if alertLow s then .low else .highZ

/-- A digital input reads high, or low, at a voltage, both in mV, on a rail at a voltage (R479); between the two neither is assured. -/
def inputHigh (rail v : Nat) : Bool := decide (65 * rail ≤ 100 * v)
def inputLow (rail v : Nat) : Bool := decide (100 * v ≤ 35 * rail)

/-! ### Power and temperature (R481, R482, R484) -/

/-- The typical power in Active in mW (R482): quires at full activity, the load currents drawn on each polarity in mA, LPDDR6 traffic in
GB/s, chain ports in Deep. -/
def typicalPower (quires posMa negMa ddr deep : Nat) : Nat := 141500 + 4000 * quires + 5 * (posMa + negMa) + 40 * ddr - 890 * deep

/-- The typical and greatest power of a power state in mW (R481); of Dormant with the Vats retained or not. -/
def statePower (st : Nat) (retain : Bool) : Nat × Nat :=
  match st with
  | 0 => (218000, 250000)
  | 1 => (168000, 195000)
  | 2 => (42000, 55000)
  | _ => if retain then (8000, 11000) else (600, 1000)

/-- The mean junction temperature in m°C at a case temperature and a power in mW, and the most a zone reads (R484). -/
def meanJunction (caseT power : Int) : Int := caseT + 30 * power / 1000
def hottestZone (caseT power : Int) : Int := meanJunction caseT power + 2000

/-! ### Boards and orders (R1, R485, R486) -/

/-- What an unused ball is connected to (R485). -/
inductive Unused where
  | leaveOpen
  /-- Unconnected, or AC-coupled into 100 Ω (R134). -/
  | openOrLoad
  /-- Unconnected, or tied to VDD_IO. -/
  | openOrTied
deriving DecidableEq, Repr
def unusedSignal : Signal → Unused
  | .drv _ _ | .prb _ _ => .openOrLoad
  | _ => .leaveOpen
def unusedControl (name : String) : Option Unused :=
  if name = "PERS" ∨ name = "MASTER" then some .openOrTied
  else if name = "TRIPIN_N" ∨ name = "WAKE_N" ∨ name = "ZEROIZE_N" then some .leaveOpen else none

/-- The ordering codes (R1, R486), and whether the customer root slot leaves the factory provisioned. -/
inductive OrderCode where
  | fa | fk
deriving DecidableEq, Repr
def OrderCode.provisioned : OrderCode → Bool
  | .fa => false
  | .fk => true

end Sys2Proof.Machine
end

