-- ==== Sys2Proof/Tests/Slice0.lean ====
section
/-! SUPPORT. Tests: an ill-formed term for each check of WellFormed; words of stored programs written out from the spec; the effect of some
commands; and, for each statement with hypotheses, states and operands that meet them (witness_…). A witness leaves out the hypotheses
that an object's signature verifies: they are about the free constants of Config, which have no value. -/

set_option maxRecDepth 100000
set_option Elab.async false

namespace Sys2Proof.Tests

open Sys2Proof.Machine

/-- The state after reset with some register fields set. -/
def st (l : List (Fld × Nat)) : State := l.foldl (fun s x => setF s x.1 x.2) State.reset

/-- The state with every power domain on. -/
def on (s : State) : State := (List.range 5).foldl (fun s k => setF s (F.PWR_DOM_ON k) (2 ^ 32 - 1)) s

/-- What a command makes of a state. -/
def run (c : Instr) (s : State) : State := match exec c s with | .next t => t | _ => s

/-! ### Ill-formed commands -/

/-- Every command of a list is refused by the check. -/
def allIll (l : List Instr) : Bool := l.all (fun i => !wellFormed i)

def hd : FeltHead := ⟨.eth 0, 5, 6, true⟩
def badHd : FeltHead := ⟨.eth 0, 2 ^ 32, 6, true⟩
def obj : SignedObj := ⟨.vendor, true, true, 1⟩
def tcell : TimingCell := ⟨0, 0, 0, 0, 0, 0, 0, 0⟩
def lcell : LinkCell := ⟨0, 0, 0, 0, 0, 0, true⟩
def beat : Heartbeat := ⟨0, 0, 0, 0, true, true, true, 0, 0⟩

theorem test_ill_bus : allIll [.registerWrite .pcie (2 ^ 26) 32 0, .registerWrite .pcie 0 7 0, .registerWrite .pcie 0 0 0,
    .registerWrite .pcie 0 32 (2 ^ 32), .windowWrite .pcie (2 ^ 31) 32 0, .windowWrite .pcie 0 9 0, .windowWrite .pcie 0 0 0,
    .windowWrite .pcie 0 8 256, .dmaStart .pcie 0 true [2 ^ 32]] = true := by decide

theorem test_ill_time : allIll [.timingCellRx 0 { tcell with tdep := 2 ^ 64 }, .timingCellRx 0 { tcell with echoDep := 2 ^ 64 },
    .timingCellRx 0 { tcell with echoArr := 2 ^ 64 }, .timingCellRx 0 { tcell with fasym := 32768 },
    .timingCellRx 0 { tcell with fasym := -32769 }, .ptpSyncRx 0 256 0 none, .ptpSyncRx 0 0 128 none, .ptpSyncRx 0 0 (-129) none,
    .ptpFollowUpRx 0 256 0, .ptpDelayRespRx 0 256 0] = true := by decide

theorem test_ill_samples : allIll [.windowResult 0 0 [2048], .windowResult 0 0 [-2049], .thermalSample []] = true := by decide

theorem test_ill_chain : allIll [.linkCellRx 0 0 { lcell with uid := 2 ^ 64 } none, .linkCellRx 0 0 { lcell with cid := 2 ^ 32 } none,
    .linkCellRx 0 0 { lcell with fasym := 32768 } none, .linkCellRx 0 0 { lcell with fasym := -32769 } none,
    .heartbeat 0 0 { beat with cid := 2 ^ 32 }, .heartbeat 0 0 { beat with uid := 2 ^ 64 }, .heartbeat 0 0 { beat with epoch := 2 ^ 32 },
    .heartbeat 0 0 { beat with pendEpoch := 2 ^ 32 }, .heartbeat 0 0 { beat with pendT := 2 ^ 32 }, .join 0 0 (2 ^ 64) 0,
    .assign 0 0 (2 ^ 64) 0 0, .assign 0 0 0 0 (2 ^ 32), .refuse 0 0 (2 ^ 64), .shot 0 0 (2 ^ 64) none, .barArrive 0 0 0 (2 ^ 64),
    .barRelease 0 0 0 (2 ^ 64), .prepare 0 0 (2 ^ 32) 0, .prepare 0 0 0 (2 ^ 16), .ack 0 0 (2 ^ 32) 0, .ack 0 0 0 256,
    .commit 0 0 (2 ^ 32) 0, .commit 0 0 0 (2 ^ 64), .cancel 0 0 (2 ^ 32), .resync 0 0 0 (2 ^ 32)] = true := by decide

theorem test_ill_felt : allIll [.feltHello .mailbox (2 ^ 32) 0 0, .feltHello .mailbox 0 0 (2 ^ 128), .feltOpen .mailbox (2 ^ 32) 0 true,
    .feltOpen .mailbox 0 (2 ^ 32) true, .feltRead badHd 0 0 0 0, .feltRead hd (2 ^ 16) 0 0 0, .feltRead hd 0 256 0 0,
    .feltRead hd 0 0 (2 ^ 32) 0, .feltRead hd 0 0 0 (2 ^ 16), .feltWrite badHd true true 0 0 0 0 [],
    .feltWrite hd true true (2 ^ 16) 0 0 0 [], .feltWrite hd true true 0 256 0 0 [], .feltWrite hd true true 0 0 (2 ^ 32) 0 [],
    .feltWrite hd true true 0 0 0 (2 ^ 16) [], .feltWrite hd true true 0 0 0 0 [256], .feltSubscribe badHd 0,
    .feltSubscribe hd (2 ^ 32), .feltNotifyAck badHd 0, .feltNotifyAck hd (2 ^ 32), .feltNotifyResend (2 ^ 32) 0,
    .sessionIdleTimeout (2 ^ 32), .feltKeepalive badHd, .feltClose badHd, .storeAll badHd, .restoreDefaults badHd,
    .discardStaged badHd, .feltClose { hd with seq := 2 ^ 32 }] = true := by decide

theorem test_ill_security : allIll [.rootProvision badHd [], .rootProvision hd [256], .keyInstall badHd obj 0 0,
    .keyInstall hd obj (2 ^ 128) 0, .keyInstall hd obj 0 256, .keyRemove badHd 0, .keyRemove hd (2 ^ 128), .imageWrite badHd obj,
    .imageConfirm badHd, .recoveryImage (2 ^ 32) obj, .quoteRequest badHd [], .quoteRequest hd [256], .quoteRead badHd 0 0,
    .quoteRead hd (2 ^ 32) 0, .quoteRead hd 0 (2 ^ 16), .debugToken (.token obj) (2 ^ 256) 0 true, .factorySetWrite badHd 0 obj [],
    .fieldSetWrite badHd 0 []] = true := by decide

/-! ### Words of stored programs -/

/-- The worked example of chapter 03: PLAY A, L, COND=s0, CH=3, SEG=12, AMP=0x7FFF, OFS=617. -/
theorem test_play_word : threadInstr 1 2 0x13018187FFF09A40 = .play 1 2 true true 0 3 12 false 0x7FFF 617 0 := by decide +kernel

/-- The all-zero word is NOP, the word a restore leaves in program memory is HALT (R94, R356). -/
theorem test_nop_halt_words : threadInstr 1 2 0 = .nop 1 2 false ∧ threadInstr 1 2 0x0400000000000000 = .halt 1 2 false := by decide +kernel

/-- An opcode not listed is read as an instruction with a reserved value (R94). -/
theorem test_unlisted_word : threadInstr 1 2 0x0800000000000000 = .nop 1 2 true := by decide +kernel

/-- The worked examples of chapter 08: DSQA A0, V1, V9, and the kernel of the pipelined loop. -/
theorem test_dsqa_words :
    contextInstr 1 2 0x0A01480000000000 = .dsqa 1 2 ⟨0, 0, 1, 9, ⟨false, false, 0, 0, 0, 0⟩, ⟨false, false, 0, 0, 0, 0⟩, 0, false⟩ ∧
    contextInstr 1 2 0x0A112D0040004000 = .dsqa 1 2 ⟨0, 0, 17, 5, ⟨true, false, 16, 0, 1, 0⟩, ⟨false, false, 0, 0, 0, 0⟩, 1, false⟩ := by
  decide +kernel

/-- No row of the table gives bits: no word spells a command, and withFetchWord leaves the state. -/
theorem test_no_table_words : decodeTableWord 64 5 = none ∧ State.withFetchWord State.reset 64 5 = State.reset := ⟨rfl, rfl⟩

/-! ### The effect of some commands -/

/-- The block idles on an empty queue; a waiting command runs and leaves the queue. -/
theorem test_step : (∃ t, step State.reset = .next t ∧ t = State.reset) ∧
    (∃ t, step (State.reset.withCommand .deviceTimeTick) = .next t ∧ t.pending = []) := ⟨⟨_, rfl, rfl⟩, ⟨_, rfl, by decide +kernel⟩⟩

/-- A register write reaches its field, and only that: SEQ_SYNC_TMO of quire 2 through the normal view. -/
theorem test_register_write :
    getF (run (.registerWrite .pcie (regAddr ⟨.SEQ_SYNC_TMO, 2, 0, 0⟩) 32 77) (on State.reset)) (F.SEQ_SYNC_TMO_TMO 2) = 77 ∧
    getF (run (.registerWrite .pcie (regAddr ⟨.SEQ_SYNC_TMO, 2, 0, 0⟩) 32 77) (on State.reset)) (F.SEQ_SYNC_TMO_TMO 3) = 0x7A120 := by
  decide +kernel

/-- A window write stores little-endian (R94): byte 1 of the Vat word. -/
theorem test_window_write : memByte (run (.windowWrite .pcie 0x10 32 0x11223344) (on State.reset)) 0x11 = 0x33 := by decide +kernel

/-- A thread of quire 1 that may issue. -/
def thr (x : Thread) : State :=
  setThread (st [(F.SEQ_CTRL_RUN 1, 1), (F.THR_WIN_LIMIT 1 2, 100), (F.THR_STAT_STATE 1 2, 1)]) 1 2 { x with started := true }

/-- ADD wraps at 32 bits (R94, FN 0). -/
theorem test_alui_wraps : sreg (run (.alui 1 2 false 3 3 0 5) (thr { Thread.init with s := (Vector.replicate 16 0xFFFFFFFF) })) 1 2 3 = 4 := by
  decide +kernel

/-- A reserved field that is not zero faults the thread with cause 1 (R94). -/
theorem test_reserved_faults : getF (run (.halt 1 2 true) (thr Thread.init)) (F.THR_STAT_FCAUSE 1 2) = 1 ∧
    thrState (run (.halt 1 2 true) (thr Thread.init)) 1 2 = 5 := by decide +kernel

/-- A context of engine 1 that may issue, with V1 = -1 (the least value) and A0 = 2^55 - 1. -/
def ctx : State :=
  setCtx (st [(F.BT_CTRL_EN 1, 1), (F.CTX_STAT_STATE 1 2, 1), (F.CTX_WIN_LIMIT 1 2, 100)]) 1 2
    { Ctx.init with started := true, v := Ctx.init.v.set 1 0x800000, a := Ctx.init.a.set 0 (2 ^ 55 - 1) }

/-- MAC saturates at 2^55 - 1 and sets SAT (R232); MPY of -1 by -1 gives 1, that is 2^46. -/
theorem test_mac_saturates :
    let p : Par := ⟨0, 0, 1, 1, ⟨false, false, 0, 0, 0, 0⟩, ⟨false, false, 0, 0, 0, 0⟩, 0, false⟩
    accOf (run (.mac 1 2 p) ctx) 1 2 0 = 2 ^ 55 - 1 ∧ getF (run (.mac 1 2 p) ctx) (F.CTX_LATCH_SAT 1 2) = 1 ∧
    accOf (run (.mpy 1 2 p) ctx) 1 2 0 = 2 ^ 46 := by decide +kernel

/-- STV rounds and saturates to 24 bits (R232). -/
theorem test_stv_saturates :
    vreg (run (.stv 1 2 ⟨0, 0, 3, 0, ⟨false, false, 0, 0, 0, 0⟩, ⟨false, false, 0, 0, 0, 0⟩, 0, false⟩) ctx) 1 2 3 = 0x7FFFFF := by
  decide +kernel

/-- A value halfway between two DAC codes rounds toward plus infinity, and one beyond the range saturates (R125, R487). -/
theorem test_dac_code : dacCode (5 / 2 ^ 14) = (3, false) ∧ dacCode (-5 / 2 ^ 14) = (-2, false) ∧ dacCode 1 = (8191, true) := by decide +kernel

/-- Subindex 0 of an entry is one byte, the number of the subindices that follow (R17): 0x10F0 has three. -/
theorem test_subindex_zero : dictEntry 0x10F0 0 = some (dRo (.num 1)) ∧
    (match dictRead State.reset 0x10F0 0 (dRo (.num 1)) with | .ok l => l | .error _ => []) = [3] := by decide +kernel

/-! ### The package -/

/-- The worked example of chapter 18, slot 183: the balls of its flux output and monitor, of drive output 45, of the acquisition input. -/
theorem test_slot_balls : ballName (signalBall (.flx 271)) = "CC15" ∧ ballName (signalBall (.flxMonitor 271)) = "CB15" ∧
    ballName (signalBall (.drv 45 true)) = "CF14" ∧ ballName (signalBall (.drv 45 false)) = "CF13" ∧
    ballName (signalBall (.acq 11 true)) = "CF38" ∧ ballName (signalBall (.acq 11 false)) = "CF37" := by decide +kernel

/-- The groups of balls make up the grid of 64 by 64 (R467, R472); the typical power of the worked example of chapter 18 (R481, R482). -/
theorem test_package_sums : powerBalls = 2292 ∧ powerBalls + groupBalls.sum = 4096 ∧ typicalPower 16 1150 1150 25 0 = 218000 := by
  decide +kernel

/-! ### Witnesses -/

namespace A

def run : State := { st [(F.SEQ_CTRL_RUN 2, 1), (F.THR_WIN_BASE 2 3, 0), (F.THR_WIN_LIMIT 2 3, 100), (F.THR_STAT_STATE 2 3, 1), (F.THR_SUB_VALID 2 3 4, 1), (F.SEQ_EVFLAG_FLAG 2, 32), (F.HB_RQ_CREDIT_FREE 2, 5), (F.SEQ_BAR_MASK 2 7, 8), (F.THR_PC_PC 2 3, 9),(F.SEQ_SYNC_TMO_TMO 2, 5)] with now := 1000, time := { State.reset.time with started := true } }

def thr : Thread := { Thread.init with tt := 2000, pc := 5, started := true, s := (Vector.ofFn (fun i : Fin 16 => BitVec.ofNat 32 (i.val * 0x12345677 + 3))) }

def r0 : State := setThread run 2 3 thr

def rw : State := setF (setThread r0 2 3 { thr with wait := some (.sub 4 true true 6 77 50) }) (F.THR_STAT_STATE 2 3) 3

def bar (k : Nat) : State := setF (setThread r0 2 3 { thr with wait := some (.barrier k 7 8) }) (F.THR_STAT_STATE 2 3) 3

theorem witness_ThreadArithmetic_1 : ∃ (s : State) (q t : Fin 16),
    mayIssue s q t :=
  ⟨r0, 2, 3, by unfold mayIssue; decide +kernel⟩

theorem witness_ThreadArithmetic_2 : ∃ (s : State) (q t : Fin 16),
    mayIssue s q t :=
  ⟨r0, 2, 3, by unfold mayIssue; decide +kernel⟩

theorem witness_ThreadArithmetic_3 : ∃ (s : State) (q t : Fin 16),
    mayIssue s q t ∧
    (let x := thread s q t
    x.tt < s.now + 2 ^ 31 ∧ s.now ≤ x.tt + 2 ^ 31) :=
  ⟨r0, 2, 3, by dsimp only; unfold mayIssue; decide +kernel⟩

theorem witness_ThreadArithmetic_4 : ∃ (s : State) (q t : Fin 16),
    mayIssue s q t :=
  ⟨r0, 2, 3, by unfold mayIssue; decide +kernel⟩

theorem witness_ThreadWaits_1 : ∃ (s : State) (q t ev : Fin 16),
    mayIssue s q t ∧
    bitF s (F.SEQ_EVFLAG_FLAG q) ev = true :=
  ⟨r0, 2, 3, 5, by unfold mayIssue; decide +kernel⟩

theorem witness_ThreadWaits_2 : ∃ (s : State) (q t ev : Fin 16),
    mayIssue s q t ∧
    bitF s (F.SEQ_EVFLAG_FLAG q) ev = false :=
  ⟨r0, 2, 3, 6, by unfold mayIssue; decide +kernel⟩

theorem witness_ThreadSubscriptions_1 : ∃ (s : State) (q t : Fin 16) (sub : Fin 8),
    mayIssue s q t ∧ subValid s q t sub = true :=
  ⟨r0, 2, 3, 4, by unfold mayIssue; decide +kernel⟩

theorem witness_ThreadSubscriptions_2 : ∃ (s : State) (q t : Fin 16) (sub : Fin 8),
    mayIssue s q t ∧ subValid s q t sub = false :=
  ⟨r0, 2, 3, 5, by unfold mayIssue; decide +kernel⟩

theorem witness_ThreadSubscriptions_3 : ∃ (s : State) (q t sd : Fin 16) (sub : Fin 8) (reb : Bool) (gap : Fin 16384) (tmo : Fin 65536),
    let x := thread s q t
    x.wait = some (.sub sub reb true sd gap.val tmo.val) ∧ 0 < tmo.val ∧ x.since + tmo.val ≤ s.now :=
  ⟨rw, 2, 3, 6, 4, true, 77, 50, by dsimp only; decide +kernel⟩

theorem witness_ThreadBranches_1 : ∃ (s : State) (q t : Fin 16),
    mayIssue s q t :=
  ⟨r0, 2, 3, by unfold mayIssue; decide +kernel⟩

theorem witness_ThreadBranches_2 : ∃ (s : State) (q t reg : Fin 16) (tgt : Fin 131072) (src : Bool) (cnt : Fin 65536),
    mayIssue s q t ∧
    (let x := thread s q t
    let count := if src then (sreg s q t reg).toNat else cnt.val
    x.loops = [] ∧ x.pc < tgt.val ∧ count = 0) :=
  ⟨r0, 2, 3, 5, 99, false, 0, by dsimp only; unfold mayIssue; decide +kernel⟩

theorem witness_ThreadBranches_3 : ∃ (s : State) (q t reg : Fin 16) (tgt : Fin 131072) (src : Bool) (cnt : Fin 65536),
    mayIssue s q t ∧
    (let x := thread s q t
    let count := if src then (sreg s q t reg).toNat else cnt.val
    x.loops = [] ∧ x.pc < tgt.val ∧ 0 < count) :=
  ⟨r0, 2, 3, 5, 99, true, 0, by dsimp only; unfold mayIssue; decide +kernel⟩

theorem witness_ThreadCommands : ∃ (s : State) (q t : Fin 16) (ch : Fin 32) (mch : Fin 16) (seg : Fin 1024) (sa : Bool) (amp : BitVec 16) (len : Fin 8192) (jch : Fin 64),
    mayIssue s q t ∧ setOf s q t = .none ∧ lookaheadHeld s q t = false ∧
    (queueFull s ⟨q, .tone, ch⟩ = false ∧ flagF s (F.SEG_W1_FMT q seg) = false ∧ (sa = true → amp.toNat < 16)) ∧ ch.val < 24 ∧ queueFull s ⟨q, .flux, ch⟩ = false ∧ queueFull s ⟨q, .readout, mch⟩ = false ∧ getF s (F.HB_RQ_CREDIT_FREE q) ≠ 0 ∧ 0 < len.val ∧ len.val ≤ 8000 ∧ queueFull s ⟨q, .readout, mch⟩ = false ∧ 0 < getF s (F.HB_RQ_CREDIT_FREE q) ∧ getF s (F.HB_RQ_CREDIT_FREE q) < 1024 ∧ 0 < len.val ∧ len.val ≤ 8000 ∧ queueFull s ⟨q, .tone, ch⟩ = false ∧ jch.val < 56 :=
  ⟨r0, 2, 3, 7, 8, 9, false, 77, 600, 8, by unfold mayIssue; decide +kernel⟩

theorem witness_AlternateSets_1 : ∃ (s : State) (q t : Fin 16) (ch : Fin 32) (seg : Fin 1024),
    mayIssue s q t ∧ lookaheadHeld s q t = false ∧ queueFull s ⟨q, .tone, ch⟩ = false ∧ flagF s (F.SEG_W1_FMT q seg) = false ∧
    setOf s q t = .none :=
  ⟨r0, 2, 3, 7, 8, by unfold mayIssue; decide +kernel⟩

theorem witness_AlternateSets_2 : ∃ (s : State) (q t : Fin 16) (ch : Fin 32) (seg : Fin 1024) (ofs : Fin 16384) (sub : Fin 64) (ms : List (Option Cond × CmdBody)),
    mayIssue s q t ∧ lookaheadHeld s q t = false ∧ queueFull s ⟨q, .tone, ch⟩ = false ∧ flagF s (F.SEG_W1_FMT q seg) = false ∧
    (let k : Chan := ⟨q, .tone, ch⟩
    let p := (thread s q t).tt + ofs.val
    setOf s q t = .building k ⟨t, p, sub, ms⟩ ∧ ms.length < 4) :=
  ⟨(setThread r0 2 3 { thr with set := .building ⟨2, .tone, 7⟩ ⟨3, 2100, 3, [(none, .ladder 3)]⟩ }), 2, 3, 7, 8, 100, 3, [(none, .ladder 3)], by dsimp only; unfold mayIssue; decide +kernel⟩

theorem witness_ThreadFaults_1 : ∃ (s : State) (q t : Fin 16) (ch : Fin 32) (seg : Fin 1024) (fn : Fin 16),
    canIssue s q t = true ∧
    pcInWindow s q t = true ∧ pcInWindow s q t = true ∧ 12 ≤ fn.val ∧ mayIssue s q t ∧ thrState s q t = stRun ∧ lookaheadHeld s q t = false ∧ queueFull s ⟨q, .tone, ch⟩ = true ∧ setOf s q t = .none ∧ flagF s (F.SEG_W1_FMT q seg) = false :=
  ⟨(setQueue r0 ⟨2,.tone,7⟩ (List.replicate 64 ⟨1,1,1,[(none,.ladder 3)]⟩)), 2, 3, 7, 8, 13, by unfold mayIssue; decide +kernel⟩

theorem witness_ThreadFaults_2 : ∃ (s : State) (q t : Fin 16),
    canIssue s q t = true ∧
    pcInWindow s q t = false :=
  ⟨(setThread r0 2 3 { thr with pc := 99999 }), 2, 3, by decide +kernel⟩

theorem witness_ThreadControl_1 : ∃ (s : State) (q t : Fin 16),
    mayIssue s q t ∧ isActive (thrState s q t) = true :=
  ⟨r0, 2, 3, by unfold mayIssue; decide +kernel⟩

theorem witness_ThreadControl_2 : ∃ (s : State) (q t : Fin 16),
    isActive (thrState s q t) = false ∧ mayStart s q = false :=
  ⟨(setF r0 (F.THR_STAT_STATE 2 3) 0), 2, 3, by decide +kernel⟩

theorem witness_ThreadControl_3 : ∃ (s : State) (q t : Fin 16),
    isActive (thrState s q t) = false ∧ mayStart s q = true :=
  ⟨(setF (setF r0 (F.THR_STAT_STATE 2 3) 0) F.TB_TSTAT_STATE 3), 2, 3, by decide +kernel⟩

theorem witness_Barriers_1 : ∃ (s : State) (q t bar : Fin 16) (scope : Fin 4),
    let x := thread s q t
    (mayIssue s q t ∧ barMasked s q t bar = true ∧ scope.val < 3 ∧ (scope.val = 2 → flagF s F.CL_CFG_EN = false)) ∧ mayIssue s q t ∧ boundFrom s x.tt = none :=
  ⟨r0, 2, 3, 7, 0, by dsimp only; unfold mayIssue; decide +kernel⟩

theorem witness_Barriers_2 : ∃ (s : State) (q t bar : Fin 16) (scope : Fin 4) (b : Nat),
    let x := thread s q t
    mayIssue s q t ∧ barMasked s q t bar = false ∧ scope.val < 3 ∧ mayIssue s q t ∧ boundFrom s x.tt = some b :=
  ⟨{ r0 with bounds := [5000] }, 2, 3, 6, 2, 5000, by dsimp only; unfold mayIssue; decide +kernel⟩

theorem witness_Barriers_3 : ∃ (s : State) (q t p bar : Fin 16) (kind : Fin 3) (gap : Fin 16384),
    let x := thread s q t
    (barFull s kind p bar = true ∧ barLast s kind p bar < s.now ∧ (kind = 2 → flagF s F.CL_CFG_EN = false) ∧ (q.val, t.val) ∈ barThreads s kind p bar ∧ x.wait = some (.barrier kind bar gap)) ∧ x.wait = some (.barrier kind bar gap) ∧ getF s (F.SEQ_SYNC_TMO_TMO q) ≠ 0 ∧ x.since + getF s (F.SEQ_SYNC_TMO_TMO q) ≤ s.now :=
  ⟨(bar 0), 2, 3, 2, 7, 0, 8, by dsimp only; decide +kernel⟩

end A

namespace B

def seg1 : Entry := ⟨3, 900, 5, [(none, .segment 7 100 0)]⟩

def base : State := { st [(F.SEG_W1_LENGTH 2 7, 100), (F.SEG_W3_ACTIVE 2 7, 1), (F.SEG_W3_ACTIVE 2 8, 1), (F.HB_STAT_ADC_READY 2, 1), (F.MEM_DDR_STAT_CAP, 16),(F.MEM_DDR_STAT_READY,1), (F.STRM_RING_LEN 2 1, 4), (F.STRM_SRC_LEN_VALUE 2 1, 3), (F.STRM_CTRL_EN 2 1, 1), (F.STRM_CTRL_CH 2 1, 5)] with now := 1000, time := { State.reset.time with started := true } }

def qs (l : List Entry) : State := setQueue base ⟨2, .tone, 5⟩ l

def set1 : Entry := ⟨3, 900, 5, [(some ⟨false, 2⟩, .segment 7 100 0), (some ⟨true, 2⟩, .segment 8 100 0)]⟩

def fr1 : Entry := ⟨3, 900, 0, [(none, .frame true 77)]⟩

def me1 : Entry := ⟨3, 900, 0, [(none, .meas 3 100 7)]⟩

def pl (left : Option Nat) (js : List Jump) : State := setPlayer base ⟨2, .tone, 5⟩ { Player.init with active := true, tick := 100, seg := 7, left := left, jumps := js }

theorem witness_CommandPlay_1 : ∃ (s : State) (q : Fin 16) (n : Fin 32) (e : Entry) (rest : List Entry) (d : Nat) (amp : Int) (spos : Nat),
    let k : Chan := ⟨q, .tone, n⟩
    let due := fun (c : Chan) => queueOf s c = e :: rest ∧ e.tick ≤ s.now ∧ getF s F.THM_STAT_STATE ≠ 2
    due k ∧ e.members.all (fun m => isSegment m.2) = true ∧ e.members ≠ [] ∧ resolved s q e.t e.members = true ∧ selected s q e.t e.members = some (.segment d amp spos) ∧ settling s k = false ∧ tripHeld s k = false ∧ toneDead s k = false :=
  ⟨(qs [seg1]), 2, 5, seg1, [], 7, 100, 0, by dsimp only; decide +kernel⟩

theorem witness_CommandPlay_2 : ∃ (s : State) (q : Fin 16) (n : Fin 32) (e : Entry) (rest : List Entry),
    let k : Chan := ⟨q, .tone, n⟩
    let due := fun (c : Chan) => queueOf s c = e :: rest ∧ e.tick ≤ s.now ∧ getF s F.THM_STAT_STATE ≠ 2
    due k ∧ e.members.all (fun m => isSegment m.2) = true ∧ e.members ≠ [] ∧ resolved s q e.t e.members = false :=
  ⟨(qs [set1, seg1]), 2, 5, set1, [seg1], by dsimp only; decide +kernel⟩

theorem witness_CommandPlay_3 : ∃ (s : State) (q : Fin 16) (n : Fin 32) (e : Entry) (rest : List Entry) (val : Nat) (rep : Bool),
    let k : Chan := ⟨q, .tone, n⟩
    let due := fun (c : Chan) => queueOf s c = e :: rest ∧ e.tick ≤ s.now ∧ getF s F.THM_STAT_STATE ≠ 2
    due k ∧ e.members = [(none, .frame rep val)] :=
  ⟨(qs [fr1]), 2, 5, fr1, [], 77, true, by dsimp only; decide +kernel⟩

theorem witness_CommandPlay_4 : ∃ (s : State) (q : Fin 16) (j : Fin 16) (e : Entry) (rest : List Entry) (w len arm : Nat),
    let r : Chan := ⟨q, .readout, j⟩
    let due := fun (c : Chan) => queueOf s c = e :: rest ∧ e.tick ≤ s.now ∧ getF s F.THM_STAT_STATE ≠ 2
    due r ∧ e.members = [(none, .meas w len arm)] ∧ cellServes s q j = true :=
  ⟨(setQueue base ⟨2, .readout, 5⟩ [me1]), 2, 5, me1, [], 3, 100, 7, by dsimp only; decide +kernel⟩

theorem witness_SegmentIterations_1 : ∃ (s : State) (q : Fin 16) (k : ChanKind) (n : Fin 32),
    let c : Chan := ⟨q, k, n⟩
    let p := playerOf s c
    let due := p.active = true ∧ p.closed = false ∧ fTick s c p ≤ s.now
    due ∧ honoured p (fTick s c p) = none ∧ p.left = none :=
  ⟨(pl none []), 2, .tone, 5, by dsimp only; decide +kernel⟩

theorem witness_SegmentIterations_2 : ∃ (s : State) (q : Fin 16) (k : ChanKind) (n : Fin 32) (left : Nat),
    let c : Chan := ⟨q, k, n⟩
    let p := playerOf s c
    let due := p.active = true ∧ p.closed = false ∧ fTick s c p ≤ s.now
    due ∧ honoured p (fTick s c p) = none ∧ p.left = some (left + 1) :=
  ⟨(pl (some 4) []), 2, .tone, 5, 3, by dsimp only; decide +kernel⟩

theorem witness_SegmentIterations_3 : ∃ (s : State) (q : Fin 16) (k : ChanKind) (n : Fin 32),
    let c : Chan := ⟨q, k, n⟩
    let p := playerOf s c
    let due := p.active = true ∧ p.closed = false ∧ fTick s c p ≤ s.now
    due ∧ honoured p (fTick s c p) = none ∧ p.left = some 0 :=
  ⟨(pl (some 0) []), 2, .tone, 5, by dsimp only; decide +kernel⟩

theorem witness_SegmentIterations_4 : ∃ (s : State) (q : Fin 16) (k : ChanKind) (n : Fin 32) (jump : Jump),
    let c : Chan := ⟨q, k, n⟩
    let p := playerOf s c
    let due := p.active = true ∧ p.closed = false ∧ fTick s c p ≤ s.now
    due ∧ honoured p (fTick s c p) = some jump :=
  ⟨(pl (some 0) [⟨99, 8, 3⟩]), 2, .tone, 5, ⟨99, 8, 3⟩, by dsimp only; decide +kernel⟩

theorem witness_Streams_1 : ∃ (s : State) (q : Fin 16) (n : Fin 4),
    let x := streamOf s q n
    let limit := fencePos s q n + ringLen s q n
    let p := playerOf s ⟨q, .tone, getF s (F.STRM_CTRL_CH q n)⟩
    x.outstanding = [] ∧ sourceFits s q n = true ∧ streamWaits s q n = false ∧ flagF s (F.STRM_CTRL_EN q n) = true ∧ getF s (F.STRM_RING_LEN q n) ≠ 0 ∧ x.under = false ∧ x.write < sourceLen s q n ∧ x.write < limit ∧ p.active = true ∧ segStream s q p.seg = true ∧ streamNo s q p.seg = n.val ∧ streamWritten s q n (readPos s q n) = false :=
  ⟨(setF (setPlayer base ⟨2, .tone, 5⟩ { Player.init with active := true, tick := 100, seg := 7, left := none }) (F.SEG_W1_STREAM 2 7) 1 |> fun s => setF s (F.SEG_W0_START 2 7) 1), 2, 1, by dsimp only; decide +kernel⟩

theorem witness_Streams_2 : ∃ (s : State) (q : Fin 16) (n : Fin 4),
    let x := streamOf s q n
    x.outstanding ≠ [] ∧ flagF s (F.STRM_CTRL_EN q n) = false :=
  ⟨(setF (setStream base 2 1 { Stream.init with outstanding := [5] }) (F.STRM_CTRL_EN 2 1) 0), 2, 1, by dsimp only; decide +kernel⟩

theorem witness_FrequencyWords_1 : ∃ (s : State) (q : Fin 16) (c : Fin 32) (j : Fin 16) (w tick : Nat),
    let t := toneOf s q c
    let d := cellOf s q j
    flagF s (F.TONE_CTRL_FTW_TIMED q c) = false ∧ t.pend = some (w, tick) ∧ tick ≤ s.now ∧ d.pend = some (w, tick) ∧ tick ≤ s.now :=
  ⟨(setCell (setTone base 2 5 { Tone.init with pend := some (77, 800), ftw := 9, frame := 4 }) 2 6 { Cell.init with pend := some (77, 800), ftw := 9 }), 2, 5, 6, 77, 800, by dsimp only; decide +kernel⟩

theorem witness_FrequencyWords_2 : ∃ (s : State) (q : Fin 16) (c : Fin 32),
    let start := getF s (F.TONE_AT_LO_TICK q c) + 2 ^ 32 * getF s (F.TONE_AT_HI_TICK q c)
    let early := regDelay s.now 8
    flagF s (F.TONE_CTRL_FTW_TIMED q c) = true ∧ start < early :=
  ⟨(setF base (F.TONE_CTRL_FTW_TIMED 2 5) 1), 2, 5, by dsimp only; decide +kernel⟩

theorem witness_FrequencyWords_3 : ∃ (s : State) (q : Fin 16) (c : Fin 32),
    let start := getF s (F.TONE_AT_LO_TICK q c) + 2 ^ 32 * getF s (F.TONE_AT_HI_TICK q c)
    let early := regDelay s.now 8
    flagF s (F.TONE_CTRL_FTW_TIMED q c) = true ∧ early ≤ start :=
  ⟨(setF (setF base (F.TONE_CTRL_FTW_TIMED 2 5) 1) (F.TONE_AT_LO_TICK 2 5) 5000), 2, 5, by dsimp only; decide +kernel⟩

theorem witness_IdleWrites_1 : ∃ (s : State) (q : Fin 16) (c : Fin 32) (o : Fin 5),
    quireIdle s q = true ∧ quireIdle s q = true ∧ c.val ∈ outputTones o :=
  ⟨base, 2, 5, 1, by decide +kernel⟩

theorem witness_IdleWrites_2 : ∃ (s : State) (q : Fin 16) (o : Fin 5),
    quireIdle s q = false ∧ quireIdle s q = false ∧ flagF s (F.DRV_CFG_EN q o) = false :=
  ⟨(qs [seg1]), 2, 1, by decide +kernel⟩

theorem witness_DriveOutputs_1 : ∃ (s : State) (q : Fin 16) (o : Fin 5) (range : Fin 4),
    quireIdle s q = true ∧ getF s (F.DRV_CFG_RANGE q o) ≠ range.val :=
  ⟨(setOutput (setB (setB base (F.DRV_STAT_MUTED 2 1) true) (F.DRV_CFG_MODE 2 1) true) 2 1 { Output.init with ramp := some ⟨1, 2, 3, 4⟩ }), 2, 1, 2, by decide +kernel⟩

theorem witness_DriveOutputs_2 : ∃ (s : State) (q : Fin 16) (o : Fin 5) (range : Fin 4),
    quireIdle s q = false ∧ getF s (F.DRV_CFG_RANGE q o) ≠ range.val :=
  ⟨(qs [seg1]), 2, 1, 2, by decide +kernel⟩

theorem witness_DriveOutputs_3 : ∃ (s : State) (q : Fin 16) (o : Fin 5) (ramp : CwRamp),
    (outputOf s q o).ramp = some ramp ∧ ramp.start + ramp.len ≤ s.now :=
  ⟨(setOutput (setB (setB base (F.DRV_STAT_MUTED 2 1) true) (F.DRV_CFG_MODE 2 1) true) 2 1 { Output.init with ramp := some ⟨1, 2, 3, 4⟩ }), 2, 1, ⟨1,2,3,4⟩, by decide +kernel⟩

end B

namespace C

def base : State := { st [(F.FLX_SLOW_RAMP_STEP 2 5, 100), (F.FLX_LADDER_NOW_CODE 2 5, 2^20-5000), (F.BIAS_RAMP_STEP 2 1, 7)] with now := 100000, time := { State.reset.time with started := true } }

def busy (s : State) : State := setF s (F.THR_STAT_STATE 2 3) 1

def fx (f : Flux) : State := setFlux base 2 5 f

def wn (armed : Bool) : State := setWindow (setF (setF (setF (setF (setB (setF (setF base (F.DK_WIN_THR_UPPER 70) 800) (F.DK_WIN_THR_LOWER 70) 100) (F.DK_WIN_CFG_EN 70) true) (F.DK_WIN_CFG_TRIP_EN 70) 1) (F.DK_WIN_CFG_GROUP 70) 9) (F.DK_GRP_QMASK_QMASK 9) 4) (F.DK_QMAP_MAP 2 0) 0xffffffff) 70 { Window.init 70 with armed := armed }

def rw : State := setWindow (setF (setF (setF (setF (setB (setF (setF base (F.DK_WIN_THR_UPPER 440) 800) (F.DK_WIN_THR_LOWER 440) 100) (F.DK_WIN_CFG_EN 440) true) (F.DK_WIN_CFG_TRIP_EN 440) 1) (F.DK_WIN_CFG_GROUP 440) 9) (F.DK_GRP_QMASK_QMASK 9) 4) (F.DK_QMAP_MAP 2 0) 0xffffffff) 440 { Window.init 440 with armed := true }

def rwh : State := setFlux { rw with sched := [(1003, .hold 2 5 77)], bounds := [5] } 2 5 { Flux.init with holdEnd := some (2000, 7) }

theorem witness_FluxLadderAndSwitch_1 : ∃ (s : State) (q : Fin 16) (i : Fin 24) (ramp : Ramp) (held : Int) (tick : Nat) (sr : Fin 4),
    let en := flagF s (F.FLX_CFG_EN q i)
    (fluxOf s q i).ramp = some ramp ∧ ramp.kind = .steps ∧ ramp.next ≤ s.now ∧ -(2 ^ 19) ≤ ramp.target ∧ ramp.target < 2 ^ 19 ∧ getF s (F.FLX_LADDER_NOW_CODE q i) < 2 ^ 20 ∧ (fluxOf s q i).holdEnd = some (tick, held) ∧ tick ≤ s.now ∧ quireIdle s q = true ∧ en = false ∧ (quireIdle s q = false ∨ sr = 3 ∨ ladderCode s q i ≠ 0 ∧ getF s (F.FLX_CFG_SRANGE q i) ≠ sr.val) :=
  ⟨(fx { Flux.init with ramp := some ⟨.steps, 50, 300⟩ , holdEnd := some (7, 8) }), 2, 5, ⟨.steps, 50, 300⟩, 8, 7, 2, by dsimp only; decide +kernel⟩

theorem witness_FluxLadderAndSwitch_2 : ∃ (s : State) (q : Fin 16) (i : Fin 24) (sr : Fin 4),
    let f := fluxOf s q i
    f.opening = true ∧ ladderCode s q i = 0 ∧ s.power.stop = none ∧ quireIdle s q = true ∧ sr ≠ 3 ∧ ladderCode s q i = 0 ∧ getF s (F.FLX_CFG_SRANGE q i) ≠ sr.val :=
  ⟨(setF (fx { Flux.init with opening := true }) (F.FLX_LADDER_NOW_CODE 2 5) 0), 2, 5, 2, by dsimp only; decide +kernel⟩

theorem witness_FluxLadderAndSwitch_3 : ∃ (s : State) (q : Fin 16) (i : Fin 24),
    let en := flagF s (F.FLX_CFG_EN q i)
    quireIdle s q = false ∧ en = false :=
  ⟨(busy base), 2, 5, by dsimp only; decide +kernel⟩

theorem witness_FluxLadderAndSwitch_4 : ∃ (s : State) (q : Fin 16) (i : Fin 24),
    let en := flagF s (F.FLX_CFG_EN q i)
    quireIdle s q = false ∧ en = true :=
  ⟨(busy (setB base (F.FLX_CFG_EN 2 5) true)), 2, 5, by dsimp only; decide +kernel⟩

theorem witness_FluxLadderAndSwitch_5 : ∃ (s : State) (q : Fin 16) (i : Fin 24),
    let en := flagF s (F.FLX_CFG_EN q i)
    quireIdle s q = true ∧ en = true ∧ flagF s (F.FLX_STAT_SWITCH q i) = true :=
  ⟨(setF (setB (setB base (F.FLX_CFG_EN 2 5) true) (F.FLX_STAT_SWITCH 2 5) true) (F.FLX_SLOW_RAMP_STEP 2 5) 0), 2, 5, by dsimp only; decide +kernel⟩

theorem witness_FluxLadderAndSwitch_6 : ∃ (s : State) (q : Fin 16) (i : Fin 24) (tick : Nat),
    let f := fluxOf s q i
    f.closeAt = some tick ∧ tick ≤ s.now :=
  ⟨(setF (setF (fx { Flux.init with closeAt := some 8, opening := true }) (F.FLX_SLOW_RAMP_STEP 2 5) 0) (F.FLX_LADDER_CODE 2 5) 77777), 2, 5, 8, by dsimp only; decide +kernel⟩

theorem witness_Press_1 : ∃ (s : State) (q : Fin 16) (i : Fin 24),
    pressRefused s q i = false ∧ quireIdle s q = true ∧ quireIdle s q = true :=
  ⟨base, 2, 5, by decide +kernel⟩

theorem witness_Press_2 : ∃ (s : State) (q : Fin 16) (i : Fin 24),
    pressRefused s q i = false ∧ quireIdle s q = false ∧ quireIdle s q = false :=
  ⟨(busy base), 2, 5, by decide +kernel⟩

theorem witness_Press_3 : ∃ (s : State) (q : Fin 16) (i : Fin 24) (k : Fin 8),
    bitF s (F.FLX_PRESS_CTRL_SEC_EN q i) k = true ∧ getF s (F.FLX_IIR_D_COEF q i k) = 2 ^ 23 :=
  ⟨(setF (setF base (F.FLX_PRESS_CTRL_SEC_EN 2 5) 15) (F.FLX_IIR_D_COEF 2 5 3) (2^23)), 2, 5, 3, by decide +kernel⟩

theorem witness_BiasSources_1 : ∃ (s : State) (q : Fin 16) (b : Fin 2) (ramp : Ramp),
    let step := getF s (F.BIAS_RAMP_STEP q b)
    let first := getF s (F.BIAS_SEQ_ORDER q)
    (biasOf s q b).ramp = some ramp ∧ ramp.kind = .steps ∧ ramp.next ≤ s.now ∧ (biasOf s q b).opening = false ∧ step ≠ 0 ∧ getF s (F.BIAS_NOW_CODE q b) < 2 ^ 16 ∧ biasVal s q b (ofSigned 16 ramp.target) = ramp.target ∧ biasPowered s q = true ∧ first < 2 ∧ biasPowered s q = true :=
  ⟨(setBias base 2 1 { Bias.init with ramp := some ⟨.steps, -50, 300⟩ }), 2, 1, ⟨.steps, -50, 300⟩, by dsimp only; decide +kernel⟩

theorem witness_BiasSources_2 : ∃ (s : State) (q : Fin 16) (x : BiasSeq) (tick : Nat),
    tget s.out.seqs none q.val = some x ∧ x.dwell = some tick ∧ tick ≤ s.now :=
  ⟨{ base with out := { base.out with seqs := [(2, some ⟨true, false, some 7⟩)] } }, 2, ⟨true, false, some 7⟩, 7, by decide +kernel⟩

theorem witness_BiasSources_3 : ∃ (s : State) (q : Fin 16),
    biasPowered s q = false :=
  ⟨(setF base (F.PWR_DOM_ON 2) 0), 2, by decide +kernel⟩

theorem witness_DeckleWindows_1 : ∃ (s : State) (w : Fin 456) (level : Int) (g : Fin 32) (tick : Nat),
    let crosses := winOn s w = true ∧ winOutside s w = false ∧ beyond s w level = true
    crosses ∧ (windowOf s w).armed = false ∧ (windowOf s w).armAt = some tick ∧ tick ≤ s.now ∧ winOn s w = true ∧ beyond s w (windowOf s w).level = true ∧ winLatched s w = false ∧ getF s (F.DK_WIN_CFG_GROUP w) = g.val :=
  ⟨(setWindow (wn true) 70 ⟨900, some 8, false⟩), 70, 900, 9, 8, by dsimp only; decide +kernel⟩

theorem witness_DeckleWindows_2 : ∃ (s : State) (w : Fin 456) (level : Int) (g : Fin 32),
    let crosses := winOn s w = true ∧ winOutside s w = false ∧ beyond s w level = true
    crosses ∧ (windowOf s w).armed = true ∧ winLatched s w = false ∧ getF s (F.DK_WIN_CFG_GROUP w) = g.val :=
  ⟨(wn true), 70, 900, 9, by dsimp only; decide +kernel⟩

theorem witness_DeckleWindows_3 : ∃ (s : State) (w : Fin 456) (tick : Nat),
    (windowOf s w).armAt = some tick ∧ tick ≤ s.now ∧ beyond s w (windowOf s w).level = false ∧ winOutside s w = false :=
  ⟨(setWindow (wn true) 70 ⟨500, some 8, false⟩), 70, 8, by decide +kernel⟩

theorem witness_DeckleWindows_4 : ∃ (s : State) (w : Fin 456) (level : Int),
    winOn s w = true ∧ winOutside s w = true ∧ within s w level = true :=
  ⟨(setF (setWindow (wn true) 70 ⟨900, none, true⟩) (F.DK_STAT_STATE 2) (2^6)), 70, 500, by decide +kernel⟩

theorem witness_DeckleWindows_5 : ∃ (s : State) (w : Fin 456) (level : Int),
    winOn s w = true ∧ winOutside s w = true ∧ within s w level = false :=
  ⟨(setF (setWindow (wn true) 70 ⟨900, none, true⟩) (F.DK_STAT_STATE 2) (2^6)), 70, 850, by decide +kernel⟩

theorem witness_DeckleWrites_1 : ∃ (s : State) (w : Fin 456) (upper lower : Fin 1024) (action : Fin 4),
    upper ≤ lower ∧ w.val ≠ 453 ∧ flagF s (F.DK_WIN_CFG_EN w) = false ∧ beyond s w (windowOf s w).level = false ∧ action = 3 :=
  ⟨{ setB (setF (setF (wn true) (F.DK_STAT_STATE 2) (2^6)) (F.DK_LATCH_LATCH 2) (2^6)) F.DK_RB_BUSY true with deckle := { (wn true).deckle with rb := some (70, 1) } }, 71, 50, 900, 3, by decide +kernel⟩

theorem witness_DeckleWrites_2 : ∃ (s : State) (w : Fin 456) (upper lower : Fin 1024) (action : Fin 4) (win : Fin 512),
    lower < upper ∧ beyond s w (windowOf s w).level = false ∧ winOutside s w = false ∧ lower.val ≤ (windowOf s w).level ∧ (windowOf s w).level ≤ upper.val ∧ action ≠ 3 ∧ winOutside s w = false ∧ flagF s F.DK_EXT_CTRL_PIN = true ∧ flagF s F.DK_RB_BUSY = false ∧ win.val < 456 :=
  ⟨(wn true), 70, 900, 50, 2, 70, by decide +kernel⟩

theorem witness_DeckleWrites_3 : ∃ (s : State) (win : Fin 512) (v x : Nat),
    (flagF s F.DK_RB_BUSY = true ∨ 456 ≤ win.val) ∧ s.deckle.rb = some (v, x) :=
  ⟨{ setB (setF (setF (wn true) (F.DK_STAT_STATE 2) (2^6)) (F.DK_LATCH_LATCH 2) (2^6)) F.DK_RB_BUSY true with deckle := { (wn true).deckle with rb := some (70, 1) } }, 70, 70, 1, by decide +kernel⟩

theorem witness_DeckleWrites_4 : ∃ (s : State) (w : Fin 456),
    winOutside s w = true ∧ winLatched s w = true :=
  ⟨(setF (setF (wn true) (F.DK_STAT_STATE 2) (2^6)) (F.DK_LATCH_LATCH 2) (2^6)), 70, by decide +kernel⟩

theorem witness_DeckleWrites_5 : ∃ (s : State) (w : Fin 456),
    w.val ≠ 453 ∧ flagF s (F.DK_WIN_CFG_EN w) = false ∧ winPowered s w = true ∧ beyond s w (windowOf s w).level = true :=
  ⟨(setWindow (setB (wn false) (F.DK_WIN_CFG_EN 70) false) 70 ⟨900, none, false⟩), 70, by decide +kernel⟩

end C

namespace D

def base : State := { st [(F.HB_STAT_ADC_READY 2, 0), (F.MEM_DDR_STAT_CAP, 16),(F.MEM_DDR_STAT_READY,1), (F.HB_RQ_DST_SIZE_VALUE 2, 16), (F.WGT_W0_MODE 2 3, 1), (F.WGT_W2_CONST_I 2 3, 9999), (F.HB_DISC_THR0_VALUE 2 6, 6), (F.CTX_STAT_STATE 2 4, 1), (F.CTX_IN_MASK 2 4, 0xffff)] with now := 10000, time := { State.reset.time with started := true } }

def busy (s : State) : State := setF s (F.THR_STAT_STATE 2 3) 1

def w1 (m : Nat) : OpenWin := ⟨3, 3, 900, 5, 10, ⟨m, 32767, 0, 5, 6, 7, 8⟩, false, [], false⟩

def cw (m : Nat) : State := setCell base 2 6 { Cell.init with wins := [w1 m] }

def pk : Packet := .meas 6 3 3 5 900 10 77 78 false false false true true false 1 false

def rq : State := setResults base 2 { ResultPath.init with ready := [(50, .shot 5 6 false), (60, pk), (20000, pk)], seq := 255, queue := [⟨[1,2^40+2,3,4,5,6,7,8], 10⟩, ⟨[1,2,3,4,5,6,7,8], 10⟩] }

def rm (d w r : Nat) : State := setF (setF (setF (setF rq (F.HB_RQ_CFG_DEST 2) d) (F.HB_RQ_CFG_EN 2) 1) (F.HB_RQ_DST_WR_SLOT 2) w) (F.HB_RQ_DST_RD_SLOT 2) r

def tbase : State := { st [(F.SEG_W1_LENGTH 2 7, 100), (F.SEG_W3_ACTIVE 2 7, 1)] with now := 1000, time := { State.reset.time with started := true } }

theorem witness_Acquisition_1 : ∃ (s : State) (q : Fin 16) (word : Nat),
    let en := flagF s (F.HB_CTRL_ACQ_EN q)
    quireIdle s q = true ∧ en = false ∧ adcPowered s q = false ∧ tget s.head.ovlWord none q.val ≠ some word :=
  ⟨base, 2, 8, by dsimp only; decide +kernel⟩

theorem witness_Acquisition_2 : ∃ (s : State) (q j : Fin 16) (word : Nat) (k : Fin 16) (w : OpenWin),
    let sample := 16 * word + k.val
    adcPowered s q = true ∧ w ∈ (cellOf s q j).wins ∧ 128 * w.p + 2 * w.sub ≤ 3 * sample ∧ 3 * sample < 128 * (w.p + w.len) :=
  ⟨(setB (cw 0) (F.HB_CTRL_ACQ_EN 2) true), 2, 6, 2402, 7, (w1 0), by dsimp only; decide +kernel⟩

theorem witness_Acquisition_3 : ∃ (s : State) (q : Fin 16),
    let en := flagF s (F.HB_CTRL_ACQ_EN q)
    quireIdle s q = false ∧ en = false :=
  ⟨(busy base), 2, by dsimp only; decide +kernel⟩

theorem witness_Acquisition_4 : ∃ (s : State) (q : Fin 16) (word : Nat),
    tget s.head.ovlWord none q.val = some word :=
  ⟨(overloadOp (cw 0) 2 2402 5), 2, 2402, by decide +kernel⟩

theorem witness_WindowResults_1 : ∃ (s : State) (q : Fin 16) (w : OpenWin),
    w.disc.mode = 0 ∧ discRefused s q = false ∧ quireIdle s q = true :=
  ⟨(cw 0), 2, (w1 0), by decide +kernel⟩

theorem witness_WindowResults_2 : ∃ (s : State) (q : Fin 16) (w : OpenWin),
    w.disc.mode = 1 ∧ discRefused s q = false ∧ quireIdle s q = false :=
  ⟨(busy (cw 1)), 2, (w1 1), by decide +kernel⟩

theorem witness_WindowResults_3 : ∃ (s : State) (q j : Fin 16),
    let shadow := fun (k : Nat) => (getF s (F.HB_DISC_CFG_MODE q k), getS s (F.HB_DISC_THR0_VALUE q k), getS s (F.HB_DISC_THR1_VALUE q k))
    (shadow j).1 = 1 ∧ (shadow j).2.2 < (shadow j).2.1 :=
  ⟨(setF base (F.HB_DISC_CFG_MODE 2 6) 1), 2, 6, by dsimp only; decide +kernel⟩

theorem witness_ResultQueue_1 : ∃ (s : State) (q : Fin 16) (dest : Fin 4) (depth : Fin 1024) (slot : BitVec 32),
    let wr := getF s (F.HB_RQ_DST_WR_SLOT q)
    let size := getF s (F.HB_RQ_DST_SIZE_VALUE q)
    let used := (wr + 2 ^ 32 - slot.toNat) % 2 ^ 32
    resultWritable s q = true ∧ resultCfgOk s q true dest depth = true ∧ size < used ∧ headOf s q = none :=
  ⟨base, 2, 2, 100, 7, by dsimp only; decide +kernel⟩

theorem witness_ResultQueue_2 : ∃ (s : State) (q : Fin 16) (slot : BitVec 32) (x : Nat × Packet) (h : Queued),
    let rp := results s q
    let wr := getF s (F.HB_RQ_DST_WR_SLOT q)
    let size := getF s (F.HB_RQ_DST_SIZE_VALUE q)
    let used := (wr + 2 ^ 32 - slot.toNat) % 2 ^ 32
    let moves := getF s (F.HB_RQ_CFG_DEST q) ≠ 0 ∧ flagF s (F.HB_RQ_CFG_EN q) = true ∧ regionUp s (q.val / 4) = true ∧
      flagF s F.MEM_DDR_STAT_READY = true ∧ headOf s q = some h
    firstPacket (rp.ready.filter (fun y => decide (y.1 ≤ s.now) && mayWrite s q y.2)) = some x ∧ moves ∧ ringFull s q = false ∧ used ≤ size :=
  ⟨(rm 2 8 5), 2, 7, (50, .shot 5 6 false), ⟨[1,2^40+2,3,4,5,6,7,8], 10⟩, by dsimp only; decide +kernel⟩

theorem witness_ResultQueue_3 : ∃ (s : State) (q : Fin 16),
    quireIdle s q = false ∧ flagF s (F.HB_RQ_CFG_EN q) = false :=
  ⟨(busy base), 2, by decide +kernel⟩

theorem witness_ResultQueue_4 : ∃ (s : State) (q : Fin 16) (h : Queued),
    let rp := results s q
    let moves := getF s (F.HB_RQ_CFG_DEST q) ≠ 0 ∧ flagF s (F.HB_RQ_CFG_EN q) = true ∧ regionUp s (q.val / 4) = true ∧
      flagF s F.MEM_DDR_STAT_READY = true ∧ headOf s q = some h
    moves ∧ ringFull s q = true ∧ rp.stopped = false :=
  ⟨(rm 2 21 5), 2, ⟨[1,2^40+2,3,4,5,6,7,8], 10⟩, by dsimp only; decide +kernel⟩

theorem witness_ResultQueue_5 : ∃ (s : State) (q : Fin 16) (h : Queued),
    getF s (F.HB_RQ_CFG_DEST q) = 0 ∧ headOf s q = some h :=
  ⟨(rm 0 21 5), 2, ⟨[1,2^40+2,3,4,5,6,7,8], 10⟩, by decide +kernel⟩

theorem witness_ToneAndReadoutSpares_1 : ∃ (s : State) (q c j : Fin 16) (why : FaultCause) (tone : Bool) (n : Fin 16),
    let fails := fun (audited : Prop) => resetNow s q = false ∧ (why = .audit ∧ audited ∨ why = .ecc ∨ why = .parity)
    fails (s.now % 16 = c.val) ∧ toneSpareFree s q = true ∧ toneSpareFree s q = true ∧ flagF s (F.TONE_STAT_FAILED q c) = false ∧ fails (unitAudits s q 0 j = true) ∧ unitFree s q = true ∧ unitFree s q = true ∧ flagF s (itemFailed q tone.toNat n) = false :=
  ⟨(setCell base 2 6 { Cell.init with wins := [w1 1] }), 2, 5, 6, .ecc, true, 5, by dsimp only; decide +kernel⟩

theorem witness_ToneAndReadoutSpares_2 : ∃ (s : State) (q : Fin 16) (tick : Nat) (kind : Fin 2) (n : Fin 16),
    vatmanUp s (q.val / 4) = true ∧ tget s.head.subst none q.val = some (kind.val, n.val, tick) ∧ unitFree s q = false :=
  ⟨{ base with head := { base.head with subst := [(2, some (1, 5, 7))] } }, 2, 7, 1, 5, by decide +kernel⟩

theorem witness_ToneAndReadoutSpares_3 : ∃ (s : State) (q : Fin 16) (e tick : Nat),
    vatmanUp s (q.val / 4) = true ∧ tget s.out.subst none q.val = some (e, tick) ∧ toneSpareFree s q = false :=
  ⟨{ tbase with out := { tbase.out with subst := [(2, some (5, 6))] } }, 2, 5, 6, by decide +kernel⟩

theorem witness_ToneAndReadoutSpares_4 : ∃ (s : State) (q : Fin 16),
    flagF s (F.HB_SPARE_STAT_IN_USE q) = true ∧ flagF s (F.HB_SPARE_STAT_FORCED q) = true ∧ tget s.head.move none q.val = none :=
  ⟨(setF (setF (setB (setB base (F.HB_SPARE_STAT_IN_USE 2) true) (F.HB_SPARE_STAT_FORCED 2) true) (F.HB_SPARE_STAT_KIND 2) 1) (F.HB_SPARE_STAT_TARGET 2) 9), 2, by decide +kernel⟩

theorem witness_ToneAndReadoutSpares_5 : ∃ (s : State) (q : Fin 16),
    flagF s (F.TONE_SPARE_STAT_IN_USE q) = true ∧ tget s.out.move none q.val = none ∧ flagF s (F.TONE_SPARE_STAT_FORCED q) = true :=
  ⟨(setB (setF (setB tbase (F.TONE_SPARE_STAT_IN_USE 2) true) (F.TONE_SPARE_STAT_TARGET 2) 7) (F.TONE_SPARE_STAT_FORCED 2) true), 2, by decide +kernel⟩

theorem witness_ToneAndReadoutSpares_6 : ∃ (why : FaultCause),
    why = .corrected :=
  ⟨.corrected, by decide +kernel⟩

end D

namespace E

def bs0 : State := { st [(F.BT_CTRL_EN 2, 1), (F.CTX_STAT_STATE 2 3, 1), (F.CTX_PTR_A_BASE 2 3 1, 100), (F.CTX_PTR_A_LEN 2 3 1, 7), (F.CTX_PTR_B_OFS 2 3 1, 6), (F.HB_RQ_CREDIT_FREE 2, 5), (F.CTX_IX_RRB 2 3, 5), (F.CTX_IN_SHIFT 2 3, 0)] with now := 1000, time := { State.reset.time with started := true } }

def cx : Ctx := { Ctx.init with pc := 5, started := true, v := Vector.ofFn (fun i : Fin 32 => BitVec.ofNat 24 (i.val * 0x1234577 + 3)), a := #v[2^50+3, -(2^51), 77, -5] }

def b0 : State := setCtx bs0 2 3 cx

def bM : State := setWord (setWord b0 (beaterKey 2 false 106) 0x87654321) (beaterKey 2 true 106) 99

def pr (ad as va vb : Nat) (x y : Lane) : Par := ⟨Fin.ofNat 4 ad, Fin.ofNat 4 as, Fin.ofNat 32 va, Fin.ofNat 32 vb, x, y, 0, false⟩

def nl : Lane := ⟨false, false, 0, 0, 0, 0⟩

def ll : Lane := ⟨true, false, 20, 1, 1, 0⟩

def sl : Lane := ⟨true, true, 20, 1, 1, 0⟩

def ent : InEntry := ⟨5, -777, 888, true, false, false, true, false, 900, 800⟩

def ln (wr : Bool) (r p m st : Nat) : Lane := ⟨true, wr, Fin.ofNat 32 r, Fin.ofNat 8 p, Fin.ofNat 8 m, Fin.ofNat 8 st⟩

def b1 : State := setF (setF b0 (F.CTX_PTR_B_STEP 2 3 1) 0xfffd) (F.CTX_IX_IX 2 3) 5

def rl : CtxLoop := ⟨3, 5, 4, true, 2, 6, 3⟩

theorem witness_BeaterArithmetic_1 : ∃ (s : State) (q c : Fin 16) (p : Par),
    parRuns s q c p false ∧ stageActs s q c p.so = true :=
  ⟨b0, 2, 3, (pr 0 1 3 4 nl nl), by unfold parRuns ctxMayIssue; decide +kernel⟩

theorem witness_BeaterArithmetic_2 : ∃ (s : State) (q c : Fin 16) (p : Par),
    parRuns s q c p false ∧ stageActs s q c p.so = true :=
  ⟨b0, 2, 3, (pr 0 1 3 4 nl nl), by unfold parRuns ctxMayIssue; decide +kernel⟩

theorem witness_BeaterArithmetic_3 : ∃ (s : State) (q c : Fin 16) (p : Par),
    parRuns s q c p false ∧ stageActs s q c p.so = true :=
  ⟨b0, 2, 3, (pr 0 1 3 4 nl nl), by unfold parRuns ctxMayIssue; decide +kernel⟩

theorem witness_BeaterCompareAndLanes_1 : ∃ (s : State) (q c : Fin 16) (p : Par),
    let acts := stageActs s q c p.so = true
    parRuns s q c p false ∧ acts ∧ parRuns s q c p true ∧ acts ∧ p.vb.val ≤ 24 ∧ parRuns s q c p false :=
  ⟨b0, 2, 3, (pr 0 1 3 4 nl nl), by dsimp only; unfold parRuns ctxMayIssue; decide +kernel⟩

theorem witness_BeaterCompareAndLanes_2 : ∃ (s : State) (q c : Fin 16) (p : Par) (n : Nat),
    parRuns s q c p false ∧ issueCycle s q c = some n ∧ parRuns s q c p true ∧ p.vb.val ≤ 24 ∧ issueCycle s q c = some n :=
  ⟨b0, 2, 3, (pr 0 1 3 4 nl nl), 2000, by unfold parRuns ctxMayIssue; decide +kernel⟩

theorem witness_BeaterCompareAndLanes_3 : ∃ (s : State) (q c : Fin 16) (p : Par),
    ctxMayIssue s q c ∧ parBad s q c p = true ∧ ctxMayIssue s q c ∧ 24 < p.vb.val :=
  ⟨b1, 2, 3, (pr 1 1 20 31 (ln false 20 1 7 0) (ln false 20 2 4 0)), by unfold ctxMayIssue; decide +kernel⟩

theorem witness_BeaterCompareAndLanes_4 : ∃ (s : State) (q c : Fin 16) (p : Par),
    ctxMayIssue s q c ∧ parBad s q c p = false ∧ doubleWrite s q c p false = true :=
  ⟨b1, 2, 3, (pr 1 1 20 0 (ln false 20 1 3 0) (ln false 20 2 4 0)), by unfold ctxMayIssue; decide +kernel⟩

theorem witness_BeaterCompareAndLanes_5 : ∃ (s : State) (q c : Fin 16) (p : Par),
    ctxMayIssue s q c ∧ parBad s q c p = false ∧ doubleWrite s q c p false = false ∧ laneFits s q c false p.x = false ∨ laneFits s q c true p.y = false :=
  ⟨(setF b1 (F.CTX_PTR_A_BASE 2 3 1) 65535), 2, 3, (pr 1 1 20 31 (ln false 20 1 1 0) (ln false 21 2 4 0)), by unfold ctxMayIssue; decide +kernel⟩

theorem witness_BeaterCompareAndLanes_6 : ∃ (s : State) (n word v : Nat),
    s.beater.stores = [⟨n, word, v⟩] :=
  ⟨{ b1 with beater := { b1.beater with stores := [⟨1999, beaterKey 2 false 106, 2000⟩] } }, 1999, (beaterKey 2 false 106), 2000, by decide +kernel⟩

theorem witness_BeaterControl_1 : ∃ (s : State) (q c : Fin 16) (tgt : Fin 8192) (cc : Fin 8) (src : Bool) (cnt : Fin 65536) (vr : Fin 32),
    let x := ctxOf s q c
    let count := if src then (vreg s q c vr).toNat % 65536 else cnt.val
    let zero := flagF s (F.CTX_STAT_Z q c)
    let neg := flagF s (F.CTX_STAT_N q c)
    let holds := [zero, !zero, neg, !neg, neg || zero, !(neg || zero), flagF s (F.CTX_STAT_SAT q c)].getD cc.val false
    let runs := ctxMayIssue s q c
    let nests := match x.loops with
      | [] => true
      | [l] => !l.rot && decide (tgt.val ≤ l.last)
      | _ => false
    runs ∧ runs ∧ cc.val < 7 ∧ holds = true ∧ runs ∧ nests = true ∧ x.pc < tgt.val ∧ 0 < count :=
  ⟨b0, 2, 3, 99, 3, false, 77, 4, by dsimp only; unfold ctxMayIssue; decide +kernel⟩

theorem witness_BeaterControl_2 : ∃ (s : State) (q c : Fin 16) (tgt : Fin 8192) (cc : Fin 8) (src : Bool) (cnt : Fin 65536) (vr : Fin 32),
    let x := ctxOf s q c
    let count := if src then (vreg s q c vr).toNat % 65536 else cnt.val
    let zero := flagF s (F.CTX_STAT_Z q c)
    let neg := flagF s (F.CTX_STAT_N q c)
    let holds := [zero, !zero, neg, !neg, neg || zero, !(neg || zero), flagF s (F.CTX_STAT_SAT q c)].getD cc.val false
    let runs := ctxMayIssue s q c
    let nests := match x.loops with
      | [] => true
      | [l] => !l.rot && decide (tgt.val ≤ l.last)
      | _ => false
    runs ∧ cc.val < 7 ∧ holds = false ∧ runs ∧ nests = true ∧ x.pc < tgt.val ∧ count = 0 ∧ runs :=
  ⟨b0, 2, 3, 99, 2, false, 0, 4, by dsimp only; unfold ctxMayIssue; decide +kernel⟩

theorem witness_BeaterControl_3 : ∃ (s : State) (q c : Fin 16) (tgt : Fin 8192),
    let x := ctxOf s q c
    let runs := ctxMayIssue s q c
    let beyondOuter := match x.loops with
      | [] => false
      | l :: _ => decide (l.last < tgt.val)
    runs ∧ tgt.val ≤ x.pc ∨ beyondOuter = true :=
  ⟨(setCtx b1 2 3 { cx with loops := [rl] }), 2, 3, 99, by dsimp only; unfold ctxMayIssue; decide +kernel⟩

theorem witness_BeaterControl_4 : ∃ (s : State) (q c : Fin 16) (tgt : Fin 8192),
    let x := ctxOf s q c
    let runs := ctxMayIssue s q c
    let deep := match x.loops with
      | [] => false
      | l :: r => l.rot || !r.isEmpty
    let beyondOuter := match x.loops with
      | [] => false
      | l :: _ => decide (l.last < tgt.val)
    runs ∧ x.pc < tgt.val ∧ beyondOuter = false ∧ deep = true :=
  ⟨(setCtx b1 2 3 { cx with loops := [⟨3, 200, 4, true, 2, 6, 3⟩] }), 2, 3, 99, by dsimp only; unfold ctxMayIssue; decide +kernel⟩

theorem witness_BeaterControl_5 : ∃ (s : State) (q c : Fin 16),
    let x := ctxOf s q c
    ctxCanIssue s q c = true ∧ x.pc < getF s (F.CTX_WIN_BASE q c) ∨ getF s (F.CTX_WIN_LIMIT q c) < x.pc :=
  ⟨(setF b1 (F.CTX_WIN_BASE 2 3) 6), 2, 3, by dsimp only; decide +kernel⟩

theorem witness_BeaterInputOutput_1 : ∃ (s : State) (q c : Fin 16) (vr : Fin 32) (gate : Bool) (w since : Nat),
    let x := ctxOf s q c
    let has := x.pkt.isSome = true ∨ x.credit = true
    ctxMayIssue s q c ∧ vr.val ≤ 29 ∧ headEntry s q c = none ∧ x.wait = some (vr.val, w, since) ∧ vr.val ≤ 29 ∧ 0 < w ∧ since + w ≤ s.now ∧ headEntry s q c = none ∧ engineIssues s q = true ∧ ctxMayIssue s q c ∧ (gate && x.bad) = false ∧ (ctxMayIssue s q c ∧ has ∨ creditTaken s q c = false) :=
  ⟨(setF (setCtx b0 2 3 { cx with wait := some (17, 4, 5), pkt := some ⟨1,2,[3]⟩ }) (F.HB_RQ_CREDIT_FREE 2) 0), 2, 3, 17, true, 4, 5, by dsimp only; unfold ctxMayIssue; decide +kernel⟩

theorem witness_BeaterInputOutput_2 : ∃ (s : State) (q c : Fin 16) (vr : Fin 32) (gate : Bool) (e : InEntry),
    let x := ctxOf s q c
    ctxMayIssue s q c ∧ vr.val ≤ 29 ∧ headEntry s q c = some e ∧ ctxMayIssue s q c ∧ gate = true ∧ x.bad = true :=
  ⟨(setCtx b0 2 3 { cx with inq := [ent, ent] , bad := true }), 2, 3, 29, true, ent, by dsimp only; unfold ctxMayIssue; decide +kernel⟩

theorem witness_BeaterInputOutput_3 : ∃ (s : State) (q c : Fin 16),
    let x := ctxOf s q c
    let has := x.pkt.isSome = true ∨ x.credit = true
    ctxMayIssue s q c ∧ ¬has ∧ creditTaken s q c = true :=
  ⟨(setF b0 (F.HB_RQ_CREDIT_FREE 2) 0), 2, 3, by dsimp only; unfold ctxMayIssue; decide +kernel⟩

theorem witness_BeaterInputOutput_4 : ∃ (s : State) (q c : Fin 16) (vr : Fin 32),
    ctxMayIssue s q c ∧ 29 < vr.val :=
  ⟨(setCtx b0 2 3 { cx with pkt := some ⟨1,2,[3]⟩ }), 2, 3, 30, by unfold ctxMayIssue; decide +kernel⟩

theorem witness_BeaterContexts_1 : ∃ (s : State) (q c : Fin 16),
    let active := isActive (ctxState s q c)
    active = true :=
  ⟨b0, 2, 3, by dsimp only; decide +kernel⟩

theorem witness_BeaterContexts_2 : ∃ (s : State) (q c : Fin 16),
    let en := flagF s (F.BT_CTRL_EN q)
    let paused := flagF s (F.BT_ESTAT_PAUSED q)
    let active := isActive (ctxState s q c)
    active = false ∧ en = true ∧ paused = false ∧ active = false :=
  ⟨b0, 2, 4, by dsimp only; decide +kernel⟩

theorem witness_BeaterContexts_3 : ∃ (s : State) (q c : Fin 16),
    let en := flagF s (F.BT_CTRL_EN q)
    let active := isActive (ctxState s q c)
    active = false ∧ en = false :=
  ⟨(setF b0 (F.BT_CTRL_EN 2) 0), 2, 4, by dsimp only; decide +kernel⟩

theorem witness_BeaterContexts_4 : ∃ (s : State) (q c : Fin 16),
    let en := flagF s (F.BT_CTRL_EN q)
    let paused := flagF s (F.BT_ESTAT_PAUSED q)
    let active := isActive (ctxState s q c)
    active = false ∧ en = true ∧ paused = true :=
  ⟨(setB b0 (F.BT_ESTAT_PAUSED 2) true), 2, 4, by dsimp only; decide +kernel⟩

theorem witness_EngineSpare_1 : ∃ (s : State) (q : Fin 16) (forced : Bool),
    let g := q.val / 4
    let free := engineSpareFree s g = true
    let failed := flagF s (F.BT_ESTAT_FAILED q)
    resetNow s q = false ∧ ¬free ∧ engineMoving s q = false ∧ engineYields s q = none ∧ (¬free ∨ failed = true) ∧ (tget s.beater.spare none g = some (q.val, forced) ∧ tget s.beater.pending none g = none ∧ forced = true ∨ tget s.beater.checked false q.val = true) :=
  ⟨{ b0 with beater := { b0.beater with spare := [(0, some (2, true))] } }, 2, true, by dsimp only; decide +kernel⟩

theorem witness_EngineSpare_2 : ∃ (s : State) (q : Fin 16),
    let g := q.val / 4
    let free := engineSpareFree s g = true
    let failed := flagF s (F.BT_ESTAT_FAILED q)
    resetNow s q = false ∧ free ∧ free ∧ failed = false :=
  ⟨b0, 2, by dsimp only; decide +kernel⟩

theorem witness_EngineSpare_3 : ∃ (s : State) (q : Fin 16),
    let g := q.val / 4
    vatmanUp s g = true ∧ tget s.beater.pending none g = some (q.val, true) :=
  ⟨{ b0 with beater := { b0.beater with pending := [(0, some (2, true))] } }, 2, by dsimp only; decide +kernel⟩

theorem witness_EngineSpare_4 : ∃ (s : State) (q : Fin 16),
    let g := q.val / 4
    vatmanUp s g = true ∧ tget s.beater.pending none g = some (q.val, false) :=
  ⟨{ b0 with beater := { b0.beater with pending := [(0, some (2, false))] } }, 2, by dsimp only; decide +kernel⟩

theorem witness_EngineSpare_5 : ∃ (s : State) (q : Fin 16),
    let g := q.val / 4
    tget s.beater.spare none g = some (q.val, false) ∧ tget s.beater.checked false q.val = false :=
  ⟨{ b0 with beater := { b0.beater with spare := [(0, some (2, false))] } }, 2, by dsimp only; decide +kernel⟩

theorem witness_EngineSpare_6 : ∃ (s : State) (q q' : Fin 16),
    resetNow s q = false ∧ engineYields s q = some q'.val :=
  ⟨(setB { b0 with beater := { b0.beater with pending := [(0, some (3, false))], since := [(0, 1000)] } } (F.BT_ESTAT_FAILED 3) true), 2, 3, by decide +kernel⟩

end E

namespace F

def base : State := { st [(F.CHN_PORT_STAT_STATE 3, 3), (F.XIN_CFG_EN 7, 1), (F.XIN_CFG_PORT 7, 3), (F.XIN_CFG_EXPORT 7, 9), (F.COUCH_PORT_CDLY 3, 5), (F.SE_GEOM_C, 2), (F.SE_GEOM_W, 3), (F.SE_GEOM_HOLD, 1), (F.SE_RWIN_TICKS, 10), (F.POST_CH_EN 20, 1), (F.POST_CH_PROD 20, 77), (F.POST_CH_EN 21, 1), (F.POST_CH_PROD 21, 77), (F.POST_CSEL_EN 35, 1), (F.POST_CSEL_SRC 35, 20), (F.POST_GRP_EN, 0xffff), (F.POST_CELL_Q 4, 1)] with now := 1000, time := { State.reset.time with started := true } }

def graph : State := setWord (setWord (setWord (setWord base (couchKey 4) 0x10000) (couchKey 12) 0x10001) (couchKey 0x1000) 0x00011004) (couchKey 0x1004) 0x00001004

def se (e : Syndrome) : State := { setB graph F.SE_STAT_RUN true with couch := { graph.couch with se := e } }

def rd : Round := ⟨7, 900, false, [0]⟩

def arr (k n : Nat) : State := { base with post := { base.post with arrived := [(k, List.replicate n 2000000)] } }

def badg : State := { graph with store := { graph.store with bad := [couchKey 0x40] } }

def alone1 : State := setF (setF base (F.POST_CH_EN 21) 0) F.POST_GRP_ONCE_ONCE 2

def nss : Session := ⟨5, .eth 1, 0, 2, true, 0, none, 0, 32, []⟩

def nsb (s : State) : State := { s with sec := { s.sec with running := true }, host := { s.host with sessions := [nss] } }

theorem witness_CouchDecisions_1 : ∃ (s : State) (p : Fin 8) (e : DecEntry) (n : Fin 64),
    let takes := fun (n : Fin 64) => flagF s (F.XIN_CFG_EN n) = true ∧ getF s (F.XIN_CFG_PORT n) = p.val ∧ getF s (F.XIN_CFG_EXPORT n) = e.exp.val
    let d := s.now - (s.now + 256 - e.l8.val) % 256 + 16 + getF s (F.COUCH_PORT_CDLY p)
    portRuns s p = true ∧ takes n ∧ s.now < d ∧ portRuns s p = true ∧ allIdle s = true :=
  ⟨base, 3, ⟨9, false, 2, 230⟩, 7, by dsimp only; decide +kernel⟩

theorem witness_CouchDecisions_2 : ∃ (s : State) (p : Fin 8),
    portRuns s p = false ∧ allIdle s = false :=
  ⟨(setF base (F.THR_STAT_STATE 2 3) 1), 4, by decide +kernel⟩

theorem witness_CouchDecisions_3 : ∃ (s : State) (p : Fin 8) (e : DecEntry) (n : Fin 64),
    let takes := fun (n : Fin 64) => flagF s (F.XIN_CFG_EN n) = true ∧ getF s (F.XIN_CFG_PORT n) = p.val ∧ getF s (F.XIN_CFG_EXPORT n) = e.exp.val
    let d := s.now - (s.now + 256 - e.l8.val) % 256 + 16 + getF s (F.COUCH_PORT_CDLY p)
    portRuns s p = true ∧ takes n ∧ d < s.now :=
  ⟨base, 3, ⟨9, true, 2, 0⟩, 7, by dsimp only; decide +kernel⟩

theorem witness_CouchDecisions_4 : ∃ (s : State) (p : Fin 8) (e : DecEntry) (n : Fin 64) (k : Nat),
    let takes := fun (n : Fin 64) => flagF s (F.XIN_CFG_EN n) = true ∧ getF s (F.XIN_CFG_PORT n) = p.val ∧ getF s (F.XIN_CFG_EXPORT n) = e.exp.val
    portRuns s p = true ∧ (∀ k : Fin 64, ¬takes k) :=
  ⟨(setF base (F.XIN_CFG_EN 7) 0), 3, ⟨9, true, 2, 0⟩, 7, 50, by dsimp only; decide +kernel⟩

theorem witness_CouchDecisions_5 : ∃ (s : State) (p : Fin 8) (e : DecEntry) (n : Fin 64),
    let takes := fun (n : Fin 64) => flagF s (F.XIN_CFG_EN n) = true ∧ getF s (F.XIN_CFG_PORT n) = p.val ∧ getF s (F.XIN_CFG_EXPORT n) = e.exp.val
    let d := s.now - (s.now + 256 - e.l8.val) % 256 + 16 + getF s (F.COUCH_PORT_CDLY p)
    portRuns s p = true ∧ takes n ∧ d = s.now ∧ e.arm = false :=
  ⟨base, 3, ⟨9, false, 2, 211⟩, 7, by dsimp only; decide +kernel⟩

theorem witness_CouchDecisions_6 : ∃ (s : State) (p : Fin 8) (e : DecEntry) (n : Fin 64),
    let takes := fun (n : Fin 64) => flagF s (F.XIN_CFG_EN n) = true ∧ getF s (F.XIN_CFG_PORT n) = p.val ∧ getF s (F.XIN_CFG_EXPORT n) = e.exp.val
    let d := s.now - (s.now + 256 - e.l8.val) % 256 + 16 + getF s (F.COUCH_PORT_CDLY p)
    portRuns s p = true ∧ takes n ∧ d = s.now ∧ e.arm = true :=
  ⟨{ base with couch := { base.couch with frame := [(50, 3), (52, 1)] } }, 3, ⟨9, true, 2, 211⟩, 7, by dsimp only; decide +kernel⟩

theorem witness_SyndromeEngine_1 : ∃ (s : State) (p : Fin 8) (b : Nat),
    let e := s.couch.se
    let idle := flagF s F.SE_STAT_ARMED = false ∧ flagF s F.SE_STAT_RUN = false
    idle ∧ tableBad s = some b ∧ roundDue s = false ∧ e.waiting = [] ∧ (portRuns s p = true ∧ flagF s F.SE_STAT_RUN = false ∨ getF s (F.SE_PORT_ROLE p) ≠ 2) ∧ portRuns s p = false :=
  ⟨badg, 4, 0x40, by dsimp only; decide +kernel⟩

theorem witness_SyndromeEngine_2 : ∃ (s : State) (x : Round) (rest : List Round),
    let e := s.couch.se
    let idle := flagF s F.SE_STAT_ARMED = false ∧ flagF s F.SE_STAT_RUN = false
    let good := tableBad s = none
    ¬idle ∧ roundDue s = true ∧ overloaded s = false ∧ good ∧ e.pass = none ∧ e.waiting = x :: rest ∧ flagF s F.SE_STAT_RUN = true :=
  ⟨(se { Syndrome.init with waiting := [rd, rd], got := [(0, 1), (1, 0)], closeAt := some 1000, round := 70000 }), rd, [rd], by dsimp only; decide +kernel⟩

theorem witness_SyndromeEngine_3 : ∃ (s : State) (l : PassLog),
    let e := s.couch.se
    roundDue s = true ∧ overloaded s = true ∧ e.pass = some l ∧ l.done ≤ s.now ∧ getF s F.SE_LOG_WR < 4096 :=
  ⟨(se { Syndrome.init with waiting := [rd, rd, rd, rd], got := [(0, 1)], closeAt := some 1000, round := 70000, pass := some ⟨1000,70005,2^40+5,true,true,true,true,1,2⟩ }), ⟨1000,70005,2^40+5,true,true,true,true,1,2⟩, by dsimp only; decide +kernel⟩

theorem witness_SyndromeEngine_4 : ∃ (s : State),
    let idle := flagF s F.SE_STAT_ARMED = false ∧ flagF s F.SE_STAT_RUN = false
    let good := tableBad s = none
    idle ∧ good ∧ graphError s = none :=
  ⟨graph, by dsimp only; decide +kernel⟩

theorem witness_SyndromeEngine_5 : ∃ (s : State) (code at_ : Nat) (check : Bool),
    let idle := flagF s F.SE_STAT_ARMED = false ∧ flagF s F.SE_STAT_RUN = false
    let good := tableBad s = none
    idle ∧ good ∧ graphError s = some (code, check, at_) :=
  ⟨(setF base F.SE_GEOM_C 0), 1, 0, false, by dsimp only; decide +kernel⟩

theorem witness_SyndromeEngine_6 : ∃ (s : State) (p : Fin 8),
    portRuns s p = true ∧ flagF s F.SE_STAT_RUN = true ∧ getF s (F.SE_PORT_ROLE p) = 2 :=
  ⟨(setF (se Syndrome.init) (F.SE_PORT_ROLE 3) 2), 3, by decide +kernel⟩

theorem witness_SyndromeEngine_7 : ∃ (s : State) (b : Nat) (x : Round) (rest : List Round),
    let e := s.couch.se
    tableBad s = some b ∧ e.waiting = x :: rest ∧ flagF s F.SE_STAT_RUN = true :=
  ⟨{ se { Syndrome.init with waiting := [rd] } with store := { graph.store with bad := [couchKey 0x40] } }, 0x40, rd, [], by dsimp only; decide +kernel⟩

theorem witness_PostEvents_1 : ∃ (s : State) (prod : Fin 674) (ps : Nat) (n : Fin 256),
    let g := n.val / 16
    let reaches' := mgmtOff s = false ∨ loftProducer prod = true
    let alone := ∀ j : Fin 256, j ≠ n → carries s j prod = false
    let still := s.post.ps ≤ ps ∧ ∀ j : Fin 32, flagF s (F.POST_CSEL_EN (384 + j.val)) = false
    let once := bitF s F.POST_GRP_ONCE_ONCE g = true
    let carried := carries s n prod = true ∧ reaches' ∧ still
    let open_ := bitF s F.POST_GRP_EN g = true
    let free := match tget s.post.passed none n.val with
      | some t => decide (t + 4000 ≤ ps)
      | none => true
    carried ∧ ¬once ∧ open_ ∧ free = true ∧ (carried ∧ ¬once ∨ alone ∧ open_ ∧ free = false) :=
  ⟨base, 77, 5000, 20, by dsimp only; decide +kernel⟩

theorem witness_PostEvents_2 : ∃ (s : State) (prod : Fin 674) (ps : Nat) (n : Fin 256),
    let g := n.val / 16
    let reaches' := mgmtOff s = false ∨ loftProducer prod = true
    let still := s.post.ps ≤ ps ∧ ∀ j : Fin 32, flagF s (F.POST_CSEL_EN (384 + j.val)) = false
    let carried := carries s n prod = true ∧ reaches' ∧ still
    let open_ := bitF s F.POST_GRP_EN g = true
    carried ∧ ¬open_ :=
  ⟨(setF base F.POST_GRP_EN 0), 77, 5000, 20, by dsimp only; decide +kernel⟩

theorem witness_PostEvents_3 : ∃ (s : State) (prod : Fin 674) (ps : Nat) (n : Fin 256),
    let g := n.val / 16
    let reaches' := mgmtOff s = false ∨ loftProducer prod = true
    let alone := ∀ j : Fin 256, j ≠ n → carries s j prod = false
    let still := s.post.ps ≤ ps ∧ ∀ j : Fin 32, flagF s (F.POST_CSEL_EN (384 + j.val)) = false
    let once := bitF s F.POST_GRP_ONCE_ONCE g = true
    let carried := carries s n prod = true ∧ reaches' ∧ still
    let open_ := bitF s F.POST_GRP_EN g = true
    let free := match tget s.post.passed none n.val with
      | some t => decide (t + 4000 ≤ ps)
      | none => true
    carried ∧ alone ∧ once ∧ open_ ∧ free = true :=
  ⟨alone1, 77, 5000, 20, by dsimp only; decide +kernel⟩

theorem witness_PostEvents_4 : ∃ (s : State) (prod : Fin 674) (ps : Nat),
    let reaches' := mgmtOff s = false ∨ loftProducer prod = true
    s.post.ps ≤ ps ∧ ¬reaches' ∨ (∀ j : Fin 256, carries s j prod = false) :=
  ⟨base, 78, 5000, by dsimp only; decide +kernel⟩

theorem witness_TaskInputs_1 : ∃ (s : State) (i : Fin 593) (q u : Fin 16),
    let arrived := fun (k : Nat) => tget s.post.arrived [] k
    let counts := fun (k : Nat) => arrived k ≠ [] ∧ inputOff s k = false
    let due := fun (k : Nat) => tget s.post.execs 0 k % (getF s (F.POST_CSEL_EVERY k) + 1) = 0
    let acts := fun (k : Nat) => counts k ∧ due k
    arrived i = [] ∧ acts (256 + 2 * q) ∧ biasPowered s q = true ∧ (acts (368 + u) ∧ capStill s u = false ∨ capTapOff s u = true ∨ capHeldBySizing s u = true) ∧ (acts 592 ∧ flagF s F.LOFT_WAKE_POST = false ∨ powerState s < 2) :=
  ⟨(arr 260 3), 35, 2, 3, by dsimp only; decide +kernel⟩

theorem witness_TaskInputs_2 : ∃ (s : State) (i : Fin 593) (f : Fin 32),
    let arrived := fun (k : Nat) => tget s.post.arrived [] k
    let counts := fun (k : Nat) => arrived k ≠ [] ∧ inputOff s k = false
    let due := fun (k : Nat) => tget s.post.execs 0 k % (getF s (F.POST_CSEL_EVERY k) + 1) = 0
    let acts := fun (k : Nat) => counts k ∧ due k
    counts i ∧ acts (320 + f) :=
  ⟨(setF (arr 325 3) F.COUCH_PSRC_FLAG 0xffff), 325, 5, by dsimp only; decide +kernel⟩

theorem witness_TaskInputs_3 : ∃ (s : State) (q ev : Fin 16),
    let arrived := fun (k : Nat) => tget s.post.arrived [] k
    let counts := fun (k : Nat) => arrived k ≠ [] ∧ inputOff s k = false
    let due := fun (k : Nat) => tget s.post.execs 0 k % (getF s (F.POST_CSEL_EVERY k) + 1) = 0
    let acts := fun (k : Nat) => counts k ∧ due k
    acts (16 * q + ev) :=
  ⟨(arr 35 3), 2, 3, by dsimp only; decide +kernel⟩

theorem witness_TaskInputs_4 : ∃ (s : State) (i : Fin 593),
    let arrived := fun (k : Nat) => tget s.post.arrived [] k
    arrived i ≠ [] ∧ inputOff s i = true :=
  ⟨(setF (arr 35 3) (F.PWR_DOM_ON 0) 0), 35, by dsimp only; decide +kernel⟩

theorem witness_TaskInputs_5 : ∃ (s : State) (f : Fin 32),
    let arrived := fun (k : Nat) => tget s.post.arrived [] k
    let counts := fun (k : Nat) => arrived k ≠ [] ∧ inputOff s k = false
    let due := fun (k : Nat) => tget s.post.execs 0 k % (getF s (F.POST_CSEL_EVERY k) + 1) = 0
    let acts := fun (k : Nat) => counts k ∧ due k
    acts (288 + f) :=
  ⟨(arr 293 3), 5, by dsimp only; decide +kernel⟩

theorem witness_TaskInputs_6 : ∃ (s : State) (u : Fin 16),
    let arrived := fun (k : Nat) => tget s.post.arrived [] k
    let counts := fun (k : Nat) => arrived k ≠ [] ∧ inputOff s k = false
    let due := fun (k : Nat) => tget s.post.execs 0 k % (getF s (F.POST_CSEL_EVERY k) + 1) = 0
    let acts := fun (k : Nat) => counts k ∧ due k
    acts (352 + u) ∧ capEvaluates s u = false :=
  ⟨(arr 355 3), 3, by dsimp only; decide +kernel⟩

theorem witness_TaskInputs_7 : ∃ (s : State) (i : Fin 593),
    let arrived := fun (k : Nat) => tget s.post.arrived [] k
    let counts := fun (k : Nat) => arrived k ≠ [] ∧ inputOff s k = false
    let due := fun (k : Nat) => tget s.post.execs 0 k % (getF s (F.POST_CSEL_EVERY k) + 1) = 0
    counts i ∧ ¬due i :=
  ⟨{ setF (arr 35 3) (F.POST_CSEL_EVERY 35) 1 with post := { (arr 35 3).post with execs := [(35, 3)] } }, 35, by dsimp only; decide +kernel⟩

theorem witness_TaskInputs_8 : ∃ (s : State) (q : Fin 16),
    let arrived := fun (k : Nat) => tget s.post.arrived [] k
    let counts := fun (k : Nat) => arrived k ≠ [] ∧ inputOff s k = false
    let due := fun (k : Nat) => tget s.post.execs 0 k % (getF s (F.POST_CSEL_EVERY k) + 1) = 0
    let acts := fun (k : Nat) => counts k ∧ due k
    acts (257 + 2 * q) ∧ biasPowered s q = true :=
  ⟨(arr 261 3), 2, by dsimp only; decide +kernel⟩

theorem witness_TaskInputs_9 : ∃ (s : State) (u : Fin 16),
    let arrived := fun (k : Nat) => tget s.post.arrived [] k
    let counts := fun (k : Nat) => arrived k ≠ [] ∧ inputOff s k = false
    let due := fun (k : Nat) => tget s.post.execs 0 k % (getF s (F.POST_CSEL_EVERY k) + 1) = 0
    let acts := fun (k : Nat) => counts k ∧ due k
    acts (352 + u) ∧ capEvaluates s u = true :=
  ⟨(setF (arr 355 3) (F.CAP_STAT_STATE 3) 2), 3, by dsimp only; decide +kernel⟩

theorem witness_TaskInputs_10 : ∃ (s : State) (u : Fin 16),
    let arrived := fun (k : Nat) => tget s.post.arrived [] k
    let counts := fun (k : Nat) => arrived k ≠ [] ∧ inputOff s k = false
    let due := fun (k : Nat) => tget s.post.execs 0 k % (getF s (F.POST_CSEL_EVERY k) + 1) = 0
    let acts := fun (k : Nat) => counts k ∧ due k
    acts (368 + u) ∧ capStill s u = true ∧ capTapOff s u = false ∧ capHeldBySizing s u = false :=
  ⟨(setF (setF (arr 371 3) (F.CAP_CFG_SRC 3) 0x10) (F.CAP_PRE_COUNT 3) 5), 3, by dsimp only; decide +kernel⟩

theorem witness_TaskInputs_11 : ∃ (s : State) (n : Fin 32),
    let arrived := fun (k : Nat) => tget s.post.arrived [] k
    let counts := fun (k : Nat) => arrived k ≠ [] ∧ inputOff s k = false
    let due := fun (k : Nat) => tget s.post.execs 0 k % (getF s (F.POST_CSEL_EVERY k) + 1) = 0
    let acts := fun (k : Nat) => counts k ∧ due k
    acts (544 + n) ∧ bitF s F.PCI_NOTIFY_EN_EN n = true ∧ bitF s (F.MSIX_TABLE_DATA (4 * n.val + 3)) 0 = true :=
  ⟨(setF (arr 549 3) F.PCI_NOTIFY_EN_EN 32), 5, by dsimp only; decide +kernel⟩

theorem witness_TaskInputs_12 : ∃ (s : State) (z : Fin 16),
    let arrived := fun (k : Nat) => tget s.post.arrived [] k
    let counts := fun (k : Nat) => arrived k ≠ [] ∧ inputOff s k = false
    let due := fun (k : Nat) => tget s.post.execs 0 k % (getF s (F.POST_CSEL_EVERY k) + 1) = 0
    let acts := fun (k : Nat) => counts k ∧ due k
    acts (576 + z) ∧ szBusy (szOf s z) = false ∧ flagF s (F.SZ_Q_CFG_EN z) = true :=
  ⟨(setF (arr 578 3) (F.SZ_Q_CFG_EN 2) 1), 2, by dsimp only; decide +kernel⟩

theorem witness_TaskInputs_13 : ∃ (s : State),
    let arrived := fun (k : Nat) => tget s.post.arrived [] k
    let counts := fun (k : Nat) => arrived k ≠ [] ∧ inputOff s k = false
    let due := fun (k : Nat) => tget s.post.execs 0 k % (getF s (F.POST_CSEL_EVERY k) + 1) = 0
    let acts := fun (k : Nat) => counts k ∧ due k
    acts 592 ∧ flagF s F.LOFT_WAKE_POST = true ∧ powerState s = 3 :=
  ⟨(setB (setF (arr 592 3) F.PWR_STAT_STATE 3) F.LOFT_WAKE_POST true), by dsimp only; decide +kernel⟩

theorem witness_TaskInputs_14 : ∃ (s : State) (n : Fin 32),
    let arrived := fun (k : Nat) => tget s.post.arrived [] k
    let counts := fun (k : Nat) => arrived k ≠ [] ∧ inputOff s k = false
    let due := fun (k : Nat) => tget s.post.execs 0 k % (getF s (F.POST_CSEL_EVERY k) + 1) = 0
    let acts := fun (k : Nat) => counts k ∧ due k
    acts (544 + n) ∧ bitF s F.PCI_NOTIFY_EN_EN n = true ∧ bitF s (F.MSIX_TABLE_DATA (4 * n.val + 3)) 0 = false :=
  ⟨(setF (setF (arr 549 3) F.PCI_NOTIFY_EN_EN 32) (F.MSIX_TABLE_DATA 23) 0), 5, by dsimp only; decide +kernel⟩

end F

namespace G

def base : State := { st [(F.CAP_SEG_NLOG 3, 2), (F.CAP_WR_COUNT 3, 5), (F.CAP_RD_COUNT 3, 4), (F.CAP_PRE_COUNT 3, 20), (F.CAP_POST_COUNT 3, 30), (F.CAP_CFG_SRC 3, 0x10), (F.CAP_TRIG_LEVEL 3, 1), (F.CAP_THR_HI 3, 100), (F.CAP_THR_LO 3, 50), (F.CAP_TRIG_EDGE 3, 1), (F.CAP_TT_LO_VALUE 3, 77)] with now := 1001, time := { State.reset.time with started := true }, capture := [(4, { CapUnit.init with start := 5 }), (3, { CapUnit.init with start := 64, armed := 100, trig := 200, header := 900 })] }

def cs (k : Nat) : State := setF base (F.CAP_STAT_STATE 3) k

def szh : State := setSz base 2 { szOf base 2 with held := some 3 }

def cu (x : CapUnit) (s : State) : State := setCap s 3 x

def u3 : CapUnit := { CapUnit.init with start := 64, armed := 100, trig := 200, header := 900, last := some 20, fell := true, tt := 2000, tper := 7 }

theorem witness_CaptureControl_1 : ∃ (s : State) (u : Fin 16),
    let ours := capHeldBySizing s u = false
    ours ∧ capTapOff s u = false ∧ ours ∧ capStill s u = true ∧ ours ∧ capEvaluates s u = false :=
  ⟨base, 3, by dsimp only; decide +kernel⟩

theorem witness_CaptureControl_2 : ∃ (s : State) (u : Fin 16) (val : BitVec 32),
    let n := 2 ^ getF s (F.CAP_SEG_NLOG u)
    let gap := (getF s (F.CAP_WR_COUNT u) + 2 ^ 32 - val.toNat) % 2 ^ 32
    let ours := capHeldBySizing s u = false
    capStill s u = false ∧ capEvaluates s u = true ∧ ours ∧ capStill s u = false ∧ (ours ∧ gap ≤ n ∧ capState s u ≠ capFull ∨ gap = n) :=
  ⟨(cs 2), 3, 2, by dsimp only; decide +kernel⟩

theorem witness_CaptureControl_3 : ∃ (s : State) (u : Fin 16) (val : BitVec 32),
    let n := 2 ^ getF s (F.CAP_SEG_NLOG u)
    let gap := (getF s (F.CAP_WR_COUNT u) + 2 ^ 32 - val.toNat) % 2 ^ 32
    let ours := capHeldBySizing s u = false
    ours ∧ capTapOff s u = true ∧ ours ∧ n < gap :=
  ⟨(setF (cs 3) (F.CAP_CFG_SRC 3) 1), 3, 0, by dsimp only; decide +kernel⟩

theorem witness_CaptureControl_4 : ∃ (s : State) (u : Fin 16) (val : BitVec 32),
    let n := 2 ^ getF s (F.CAP_SEG_NLOG u)
    let gap := (getF s (F.CAP_WR_COUNT u) + 2 ^ 32 - val.toNat) % 2 ^ 32
    let ours := capHeldBySizing s u = false
    ours ∧ gap < n ∧ capState s u = capFull :=
  ⟨(cs 5), 3, 3, by dsimp only; decide +kernel⟩

theorem witness_CaptureRecords_1 : ∃ (s : State) (u : Fin 16) (w : Nat) (i : Fin 16) (code : BitVec 12) (tl more : List (BitVec 12)),
    let n := 16 * w + i.val
    let codes := code :: tl
    let next := n + 2 ^ getF s (F.CAP_CFG_DEC u)
    let unit := capUnit s u
    let pre := getF s (F.CAP_PRE_COUNT u)
    let post := getF s (F.CAP_POST_COUNT u)
    let d := getF s (F.CAP_CFG_DEC u)
    let step := 2 ^ d
    let x : Int := (32 * (codes.map BitVec.toInt).sum + 2 ^ d) / 2 ^ (d + 1)
    let hi := getS s (F.CAP_THR_HI u)
    let lo := getS s (F.CAP_THR_LO u)
    let beyondLevel := fun (v : Int) => if flagF s (F.CAP_TRIG_POL u) then decide (v ≤ lo) else decide (hi ≤ v)
    let inside := fun (v : Int) => decide (lo ≤ v) && decide (v ≤ hi)
    let crossed := (unit.last.map (fun v => if flagF s (F.CAP_TRIG_WIN_IN u) then inside x && !inside v else !inside x && inside v)).getD false
    let c : CapConds :=
      { level := flagF s (F.CAP_TRIG_LEVEL u) && beyondLevel x
        edge := flagF s (F.CAP_TRIG_EDGE u) && (beyondLevel x && unit.fell)
        window := flagF s (F.CAP_TRIG_WINDOW u) && crossed
        post := flagF s (F.CAP_TRIG_POST u) && capPostMet s u n
        time := flagF s (F.CAP_TRIG_TIME u) && capTimeMet s u n
        sw := capSwMet s u n }
    let one := codes.length = step ∧ n % step = 0 ∧ 3 * (n + step - 1) / 128 + 6 ≤ s.now
    let auto := max unit.armed (gridUp step (sampleAt unit.autoAt))
    let expired := capState s u = capArmed ∧ flagF s (F.CAP_CFG_AUTO u) = true ∧ 3 * (auto + step - 1) / 128 + 6 ≤ s.now
    let filled := capState s u = capPrefill ∧ 3 * (unit.start + pre * step) / 128 ≤ s.now
    let ended := capState s u = capPost ∧ 3 * (unit.trig + post * step - 1) / 128 + 7 ≤ s.now
    filled ∧ one ∧ c.count ≠ 0 ∧ capState s u = capPrefill ∧ unit.start ≤ n ∧ one ∧ 3 * (next + more.length) / 128 + 6 ≤ s.now ∧ ¬expired ∧ ¬ended :=
  ⟨(cs 1), 3, 64, 0, 7, [], [8], by dsimp only; decide +kernel⟩

theorem witness_CaptureRecords_2 : ∃ (s : State) (u : Fin 16) (w : Nat) (i : Fin 16) (code : BitVec 12) (tl : List (BitVec 12)),
    let n := 16 * w + i.val
    let codes := code :: tl
    let unit := capUnit s u
    let pre := getF s (F.CAP_PRE_COUNT u)
    let post := getF s (F.CAP_POST_COUNT u)
    let d := getF s (F.CAP_CFG_DEC u)
    let step := 2 ^ d
    let x : Int := (32 * (codes.map BitVec.toInt).sum + 2 ^ d) / 2 ^ (d + 1)
    let hi := getS s (F.CAP_THR_HI u)
    let lo := getS s (F.CAP_THR_LO u)
    let beyondLevel := fun (v : Int) => if flagF s (F.CAP_TRIG_POL u) then decide (v ≤ lo) else decide (hi ≤ v)
    let inside := fun (v : Int) => decide (lo ≤ v) && decide (v ≤ hi)
    let crossed := (unit.last.map (fun v => if flagF s (F.CAP_TRIG_WIN_IN u) then inside x && !inside v else !inside x && inside v)).getD false
    let c : CapConds :=
      { level := flagF s (F.CAP_TRIG_LEVEL u) && beyondLevel x
        edge := flagF s (F.CAP_TRIG_EDGE u) && (beyondLevel x && unit.fell)
        window := flagF s (F.CAP_TRIG_WINDOW u) && crossed
        post := flagF s (F.CAP_TRIG_POST u) && capPostMet s u n
        time := flagF s (F.CAP_TRIG_TIME u) && capTimeMet s u n
        sw := capSwMet s u n }
    let one := codes.length = step ∧ n % step = 0 ∧ 3 * (n + step - 1) / 128 + 6 ≤ s.now
    let auto := max unit.armed (gridUp step (sampleAt unit.autoAt))
    let forced : CapConds := ⟨false, false, false, flagF s (F.CAP_TRIG_POST u) && capPostMet s u auto,
      flagF s (F.CAP_TRIG_TIME u) && capTimeMet s u auto, capSwMet s u auto⟩
    let expired := capState s u = capArmed ∧ flagF s (F.CAP_CFG_AUTO u) = true ∧ 3 * (auto + step - 1) / 128 + 6 ≤ s.now
    let filled := capState s u = capPrefill ∧ 3 * (unit.start + pre * step) / 128 ≤ s.now
    let waited := capState s u = capRearm ∧ unit.header + 16 ≤ s.now
    ¬filled ∧ (one ∧ c.count = 0 ∨ capAfterAuto s u n = true) ∧ expired ∧ forced.count = 0 ∧ ¬waited :=
  ⟨(setF (cs 2) (F.CAP_CFG_AUTO 3) 1), 3, 64, 0, 7, [], by dsimp only; decide +kernel⟩

theorem witness_CaptureRecords_3 : ∃ (s : State) (u : Fin 16) (w : Nat) (i : Fin 16) (code : BitVec 12) (tl : List (BitVec 12)),
    let n := 16 * w + i.val
    let codes := code :: tl
    let unit := capUnit s u
    let post := getF s (F.CAP_POST_COUNT u)
    let d := getF s (F.CAP_CFG_DEC u)
    let step := 2 ^ d
    let one := codes.length = step ∧ n % step = 0 ∧ 3 * (n + step - 1) / 128 + 6 ≤ s.now
    let ended := capState s u = capPost ∧ 3 * (unit.trig + post * step - 1) / 128 + 7 ≤ s.now
    (one ∧ capStill s u = true ∨ capState s u = capPost) ∧ ended :=
  ⟨(cs 3), 3, 64, 0, 7, [], by dsimp only; decide +kernel⟩

theorem witness_CaptureRecords_4 : ∃ (s : State) (u : Fin 16) (w : Nat) (i : Fin 16) (code : BitVec 12) (tl : List (BitVec 12)),
    let n := 16 * w + i.val
    let codes := code :: tl
    let unit := capUnit s u
    let post := getF s (F.CAP_POST_COUNT u)
    let d := getF s (F.CAP_CFG_DEC u)
    let step := 2 ^ d
    let x : Int := (32 * (codes.map BitVec.toInt).sum + 2 ^ d) / 2 ^ (d + 1)
    let hi := getS s (F.CAP_THR_HI u)
    let lo := getS s (F.CAP_THR_LO u)
    let beyondLevel := fun (v : Int) => if flagF s (F.CAP_TRIG_POL u) then decide (v ≤ lo) else decide (hi ≤ v)
    let inside := fun (v : Int) => decide (lo ≤ v) && decide (v ≤ hi)
    let crossed := (unit.last.map (fun v => if flagF s (F.CAP_TRIG_WIN_IN u) then inside x && !inside v else !inside x && inside v)).getD false
    let c : CapConds :=
      { level := flagF s (F.CAP_TRIG_LEVEL u) && beyondLevel x
        edge := flagF s (F.CAP_TRIG_EDGE u) && (beyondLevel x && unit.fell)
        window := flagF s (F.CAP_TRIG_WINDOW u) && crossed
        post := flagF s (F.CAP_TRIG_POST u) && capPostMet s u n
        time := flagF s (F.CAP_TRIG_TIME u) && capTimeMet s u n
        sw := capSwMet s u n }
    let one := codes.length = step ∧ n % step = 0 ∧ 3 * (n + step - 1) / 128 + 6 ≤ s.now
    let waited := capState s u = capRearm ∧ unit.header + 16 ≤ s.now
    one ∧ c.count ≠ 0 ∧ capState s u = capRearm ∧ waited ∧ capFree s u = true :=
  ⟨(cs 4), 3, 64, 0, 7, [], by dsimp only; decide +kernel⟩

theorem witness_CaptureRecords_5 : ∃ (s : State) (u : Fin 16) (w : Nat) (i : Fin 16) (code : BitVec 12) (tl : List (BitVec 12)),
    let n := 16 * w + i.val
    let codes := code :: tl
    let unit := capUnit s u
    let post := getF s (F.CAP_POST_COUNT u)
    let d := getF s (F.CAP_CFG_DEC u)
    let step := 2 ^ d
    let x : Int := (32 * (codes.map BitVec.toInt).sum + 2 ^ d) / 2 ^ (d + 1)
    let hi := getS s (F.CAP_THR_HI u)
    let lo := getS s (F.CAP_THR_LO u)
    let beyondLevel := fun (v : Int) => if flagF s (F.CAP_TRIG_POL u) then decide (v ≤ lo) else decide (hi ≤ v)
    let inside := fun (v : Int) => decide (lo ≤ v) && decide (v ≤ hi)
    let crossed := (unit.last.map (fun v => if flagF s (F.CAP_TRIG_WIN_IN u) then inside x && !inside v else !inside x && inside v)).getD false
    let c : CapConds :=
      { level := flagF s (F.CAP_TRIG_LEVEL u) && beyondLevel x
        edge := flagF s (F.CAP_TRIG_EDGE u) && (beyondLevel x && unit.fell)
        window := flagF s (F.CAP_TRIG_WINDOW u) && crossed
        post := flagF s (F.CAP_TRIG_POST u) && capPostMet s u n
        time := flagF s (F.CAP_TRIG_TIME u) && capTimeMet s u n
        sw := capSwMet s u n }
    let one := codes.length = step ∧ n % step = 0 ∧ 3 * (n + step - 1) / 128 + 6 ≤ s.now
    let auto := max unit.armed (gridUp step (sampleAt unit.autoAt))
    let forced : CapConds := ⟨false, false, false, flagF s (F.CAP_TRIG_POST u) && capPostMet s u auto,
      flagF s (F.CAP_TRIG_TIME u) && capTimeMet s u auto, capSwMet s u auto⟩
    let expired := capState s u = capArmed ∧ flagF s (F.CAP_CFG_AUTO u) = true ∧ 3 * (auto + step - 1) / 128 + 6 ≤ s.now
    one ∧ c.count ≠ 0 ∧ capAfterAuto s u n = false ∧ capState s u = capArmed ∧ unit.armed ≤ n ∧ expired ∧ forced.count ≠ 0 :=
  ⟨(cu { u3 with autoAt := 501, swAt := some 501 } (setF (cs 2) (F.CAP_CFG_AUTO 3) 1)), 3, 64, 0, 7, [], by dsimp only; decide +kernel⟩

theorem witness_CaptureRecords_6 : ∃ (s : State) (u : Fin 16),
    let unit := capUnit s u
    let waited := capState s u = capRearm ∧ unit.header + 16 ≤ s.now
    waited ∧ capFree s u = false :=
  ⟨(setF (cs 4) (F.CAP_RD_COUNT 3) 1), 3, by dsimp only; decide +kernel⟩

theorem witness_CaptureRecords_7 : ∃ (s : State) (u : Fin 16) (w : Nat) (i : Fin 16) (code : BitVec 12) (tl : List (BitVec 12)),
    let n := 16 * w + i.val
    let codes := code :: tl
    let unit := capUnit s u
    let post := getF s (F.CAP_POST_COUNT u)
    let d := getF s (F.CAP_CFG_DEC u)
    let step := 2 ^ d
    let x : Int := (32 * (codes.map BitVec.toInt).sum + 2 ^ d) / 2 ^ (d + 1)
    let hi := getS s (F.CAP_THR_HI u)
    let lo := getS s (F.CAP_THR_LO u)
    let beyondLevel := fun (v : Int) => if flagF s (F.CAP_TRIG_POL u) then decide (v ≤ lo) else decide (hi ≤ v)
    let inside := fun (v : Int) => decide (lo ≤ v) && decide (v ≤ hi)
    let crossed := (unit.last.map (fun v => if flagF s (F.CAP_TRIG_WIN_IN u) then inside x && !inside v else !inside x && inside v)).getD false
    let c : CapConds :=
      { level := flagF s (F.CAP_TRIG_LEVEL u) && beyondLevel x
        edge := flagF s (F.CAP_TRIG_EDGE u) && (beyondLevel x && unit.fell)
        window := flagF s (F.CAP_TRIG_WINDOW u) && crossed
        post := flagF s (F.CAP_TRIG_POST u) && capPostMet s u n
        time := flagF s (F.CAP_TRIG_TIME u) && capTimeMet s u n
        sw := capSwMet s u n }
    let one := codes.length = step ∧ n % step = 0 ∧ 3 * (n + step - 1) / 128 + 6 ≤ s.now
    one ∧ c.count ≠ 0 ∧ capAfterAuto s u n = false ∧ capState s u = capArmed ∧ unit.start ≤ n ∧ n < unit.armed :=
  ⟨(cu u3 (cs 2)), 3, 6, 3, 7, [], by dsimp only; decide +kernel⟩

theorem witness_CaptureRecords_8 : ∃ (s : State) (u : Fin 16) (w : Nat) (i : Fin 16) (code : BitVec 12) (tl : List (BitVec 12)),
    let n := 16 * w + i.val
    let codes := code :: tl
    let unit := capUnit s u
    let post := getF s (F.CAP_POST_COUNT u)
    let d := getF s (F.CAP_CFG_DEC u)
    let step := 2 ^ d
    let x : Int := (32 * (codes.map BitVec.toInt).sum + 2 ^ d) / 2 ^ (d + 1)
    let hi := getS s (F.CAP_THR_HI u)
    let lo := getS s (F.CAP_THR_LO u)
    let beyondLevel := fun (v : Int) => if flagF s (F.CAP_TRIG_POL u) then decide (v ≤ lo) else decide (hi ≤ v)
    let inside := fun (v : Int) => decide (lo ≤ v) && decide (v ≤ hi)
    let crossed := (unit.last.map (fun v => if flagF s (F.CAP_TRIG_WIN_IN u) then inside x && !inside v else !inside x && inside v)).getD false
    let c : CapConds :=
      { level := flagF s (F.CAP_TRIG_LEVEL u) && beyondLevel x
        edge := flagF s (F.CAP_TRIG_EDGE u) && (beyondLevel x && unit.fell)
        window := flagF s (F.CAP_TRIG_WINDOW u) && crossed
        post := flagF s (F.CAP_TRIG_POST u) && capPostMet s u n
        time := flagF s (F.CAP_TRIG_TIME u) && capTimeMet s u n
        sw := capSwMet s u n }
    let one := codes.length = step ∧ n % step = 0 ∧ 3 * (n + step - 1) / 128 + 6 ≤ s.now
    one ∧ c.count ≠ 0 ∧ capState s u = capFull :=
  ⟨(cu u3 (cs 5)), 3, 64, 0, 7, [], by dsimp only; decide +kernel⟩

theorem witness_CaptureRecords_9 : ∃ (s : State) (u : Fin 16) (w : Nat) (i : Fin 16),
    let n := 16 * w + i.val
    let d := getF s (F.CAP_CFG_DEC u)
    let step := 2 ^ d
    n % step ≠ 0 :=
  ⟨(cu u3 (setF (cs 5) (F.CAP_CFG_DEC 3) 2)), 3, 64, 1, by dsimp only; decide +kernel⟩

end G

namespace H

def base : State := { st [(F.TB_REF_STAT_REF_PRESENT, 1), (F.TB_REF_STAT_DANDY_LOCK, 1), (F.TB_TSTAT_STATE, 3), (F.THR_STAT_STATE 2 3, 1), (F.CHN_PORT_STAT_STATE 3, 3), (F.TB_TSTAT_PARENT, 3), (F.TB_PHASE_TRIM, 64), (F.CAP_STAT_STATE 4, 2), (F.ETH_STAT_LINK 1, 1), (F.ETH_STAT_SPEED 1, 1), (F.MEM_DDR_STAT_READY, 1), (F.ETH_TXR_SIZE_VALUE 1, 8), (F.ETH_TXR_WR_COUNT 1, 9), (F.ETH_TXR_RD_COUNT 1, 2), (F.MEM_DDR_STAT_CAP, 64)] with now := 5*2^32+1001, bounds := [5*2^32+1001], time := { State.reset.time with started := true, wall := some (2^32*12345678912345), steps := 2 } }

def tst (n : Nat) : State := setF base F.TB_TSTAT_STATE n

def tc (n : Nat) : TimingCell := ⟨1, 2, 100, n, 300, 77, -4, 99⟩

def mm (n : Int) : PortMeas := ⟨1024, n, 88888, -3, true⟩

def ms (st : Nat) (n : Int) (par : Nat) : State := { setF (tst st) F.TB_TSTAT_PARENT_VALID par with time := { base.time with meas := [(2, mm 5), (3, mm n), (4, mm 5)], peers := [(3, some ⟨tc 5, 40⟩)] } }

def idle (s : State) : State := setF s (F.THR_STAT_STATE 2 3) 0

def tr (v : TrimMove) : State := { base with time := { base.time with trim := some v } }

def wc (o : Option Nat) (set q : Nat) : State := { setF (setF base F.TB_WCT_STAT_PORT 1) F.TB_WCT_STAT_SET set with time := { base.time with sync := some (o, 5000), reqAt := some 6000, quiet := q } }

def k (n : Nat) : Nat := ddrKey (64 + n)

def ring : State := setWord (setWord (setWord (setWord (setF base (F.ETH_TXR_LO_VALUE 1) 0) (k 0) 0x1000) (k 8) (2^31+100)) (k 16) (base.now % 2^32 + 5000)) (k 20) 5

def ep (x : EthPort) : State := setEth ring 1 x

def de (l : Option Nat) : TxDesc := ⟨k 0, 0x1000, l, 100⟩

def hbt : Heartbeat := ⟨0, 3, 99, 3, false, true, false, 0, 0⟩

def fol (m : Nat) : State := setPort { setF (setF (setF (ms 1 5 0) F.CL_CFG_EN 1) F.CL_STAT_MEMBER m) (F.CHN_PORT_CFG_ROLE 3) 1 with time := { base.time with peers := [(3, some ⟨tc 5, 40⟩)] } } 3 { PortLink.init with hb := some hbt }

theorem witness_ReferenceAndTime_1 : ∃ (s : State) (ns : Nat),
    let lock := flagF s F.TB_REF_STAT_DANDY_LOCK
    let present := flagF s F.TB_REF_STAT_REF_PRESENT
    let good := timeStatus s = tsMaster ∨ timeStatus s = tsMeasure ∨ timeStatus s = tsLocked ∨ timeStatus s = tsHold
    regPowered s ⟨.TB_TIME_LO, 0, 0, 0⟩ = true ∧ regPowered s ⟨.TB_WCT_NS, 0, 0, 0⟩ = true ∧ ns = (s.time.wall.getD 0) / 2 ^ 32 ∧ present = true ∧ good ∧ s.time.gap = false ∧ (domainOn s 133 = false ∨ present = false ∨ lock = true) :=
  ⟨base, (((base.time.wall).getD 0) / 2^32), by dsimp only; decide +kernel⟩

theorem witness_ReferenceAndTime_2 : ∃ (s : State),
    let lock := flagF s F.TB_REF_STAT_DANDY_LOCK
    let present := flagF s F.TB_REF_STAT_REF_PRESENT
    let good := timeStatus s = tsMaster ∨ timeStatus s = tsMeasure ∨ timeStatus s = tsLocked ∨ timeStatus s = tsHold
    let locks := domainOn s 133 = true ∧ present = true ∧ lock = false
    present = true ∧ lock = false ∧ ¬ good ∧ present = true ∧ ¬ good ∧ s.time.gap = true ∧ locks ∧ timeStatus s = tsUnsync ∧ isMaster s = true :=
  ⟨{ setF (tst 0) F.TB_REF_STAT_DANDY_LOCK 0 with time := { base.time with started := false, gap := true } }, by dsimp only; decide +kernel⟩

theorem witness_ReferenceAndTime_3 : ∃ (s : State),
    regPowered s ⟨.TB_TIME_LO, 0, 0, 0⟩ = false ∧ regPowered s ⟨.TB_WCT_NS, 0, 0, 0⟩ = false :=
  ⟨(setF base (F.PWR_DOM_ON 4) 0), by decide +kernel⟩

theorem witness_ReferenceAndTime_4 : ∃ (s : State),
    let present := flagF s F.TB_REF_STAT_REF_PRESENT
    present = false :=
  ⟨(setF (tst 5) F.TB_REF_STAT_REF_PRESENT 0), by dsimp only; decide +kernel⟩

theorem witness_ReferenceAndTime_5 : ∃ (s : State),
    let lock := flagF s F.TB_REF_STAT_DANDY_LOCK
    let present := flagF s F.TB_REF_STAT_REF_PRESENT
    let locks := domainOn s 133 = true ∧ present = true ∧ lock = false
    locks ∧ timeStatus s ≠ tsUnsync ∨ isMaster s = false ∧ parentRuns s = false :=
  ⟨(setF (tst 5) F.TB_REF_STAT_DANDY_LOCK 0), by dsimp only; decide +kernel⟩

theorem witness_ReferenceAndTime_6 : ∃ (s : State),
    let lock := flagF s F.TB_REF_STAT_DANDY_LOCK
    let present := flagF s F.TB_REF_STAT_REF_PRESENT
    let locks := domainOn s 133 = true ∧ present = true ∧ lock = false
    locks ∧ timeStatus s = tsUnsync ∧ isMaster s = false ∧ parentRuns s = true :=
  ⟨(setF (setF (setF (tst 0) F.TB_REF_STAT_DANDY_LOCK 0) F.CL_CFG_EN 1) F.TB_TSTAT_PARENT_VALID 1), by dsimp only; decide +kernel⟩

theorem witness_ReferenceAndTime_7 : ∃ (s : State),
    let lock := flagF s F.TB_REF_STAT_DANDY_LOCK
    let present := flagF s F.TB_REF_STAT_REF_PRESENT
    let good := timeStatus s = tsMaster ∨ timeStatus s = tsMeasure ∨ timeStatus s = tsLocked ∨ timeStatus s = tsHold
    present = true ∧ lock = true ∧ ¬ good :=
  ⟨(tst 0), by dsimp only; decide +kernel⟩

theorem witness_DelayMeasurement_1 : ∃ (s : State) (p : Fin 8) (c : TimingCell) (m : PortMeas),
    let parent := flagF s F.TB_TSTAT_PARENT_VALID = true ∧ getF s F.TB_TSTAT_PARENT = p.val
    let held := flagF s F.TB_TSTAT_PARENT_HOLD = true
    let done := s.time.meas.find? (fun x => x.1 == p.val) = some (p.val, m) ∧ 1024 ≤ m.count
    let seen := { s with time := { s.time with peers := tset s.time.peers p.val (some ⟨c, s.now⟩) } }
    let stays := flagF s F.TB_TSTAT_PARENT_VALID = true ∧ (candidate seen (getF s F.TB_TSTAT_PARENT)).isSome = true
    (portRuns s p = true ∧ ¬ parent ∧ isMaster s = true ∨ stays ∨ bestCandidate seen = none) ∧ (portRuns s p = true ∧ parent ∧ isMaster s = true ∨ stays ∨ bestCandidate seen = none) ∧ (done ∧ parent ∧ m.usable = true ∧ timeStatus s = tsMeasure ∧ s.time.steps = 0 ∨ s.time.steps < 4 ∧ 8192 < m.theta2.natAbs) ∧ done ∧ parent ∧ m.usable = true ∧ timeStatus s = tsLocked ∧ 4096 < m.theta2.natAbs ∧ ¬ held ∧ allIdle s = false ∧ s.time.trim = none :=
  ⟨(ms 3 50000 1), 3, (tc 6), (mm 50000), by dsimp only; decide +kernel⟩

theorem witness_DelayMeasurement_2 : ∃ (s : State) (p : Fin 8) (v : TrimMove),
    let held := flagF s F.TB_TSTAT_PARENT_HOLD = true
    let delay := getF s F.TB_PHASE_TRIM
    let goal : Int := (delay : Int) - v.theta
    let due := v.ready ≤ s.now ∧ (v.lock = true ∨ ¬ held) ∧ (s.bounds.head? = some s.now ∨ v.lock = false ∧ allIdle s = true)
    (measOf s p).count < 1024 ∧ s.time.trim = some v ∧ due ∧ 0 ≤ goal ∧ goal ≤ 127 :=
  ⟨(tr ⟨5, 9, true⟩), 3, ⟨5, 9, true⟩, by dsimp only; decide +kernel⟩

theorem witness_DelayMeasurement_3 : ∃ (s : State) (p : Fin 8) (m : PortMeas),
    let parent := flagF s F.TB_TSTAT_PARENT_VALID = true ∧ getF s F.TB_TSTAT_PARENT = p.val
    let held := flagF s F.TB_TSTAT_PARENT_HOLD = true
    let done := s.time.meas.find? (fun x => x.1 == p.val) = some (p.val, m) ∧ 1024 ≤ m.count
    portRuns s p = false ∧ portState s p ≠ psIdle ∧ (done ∧ parent ∧ m.usable = true ∧ timeStatus s = tsLocked ∧ m.theta2.natAbs ≤ 4096 ∨ held) :=
  ⟨{ setF (ms 3 5 1) (F.CHN_PORT_STAT_STATE 3) 1 with now := 7 }, 3, (mm 5), by dsimp only; decide +kernel⟩

theorem witness_DelayMeasurement_4 : ∃ (s : State) (p : Fin 8) (m : PortMeas),
    let parent := flagF s F.TB_TSTAT_PARENT_VALID = true ∧ getF s F.TB_TSTAT_PARENT = p.val
    let done := s.time.meas.find? (fun x => x.1 == p.val) = some (p.val, m) ∧ 1024 ≤ m.count
    done ∧ ¬ parent ∨ m.usable = false :=
  ⟨(ms 1 5 0), 3, (mm 5), by dsimp only; decide +kernel⟩

theorem witness_DelayMeasurement_5 : ∃ (s : State) (p : Fin 8) (m : PortMeas),
    let parent := flagF s F.TB_TSTAT_PARENT_VALID = true ∧ getF s F.TB_TSTAT_PARENT = p.val
    let done := s.time.meas.find? (fun x => x.1 == p.val) = some (p.val, m) ∧ 1024 ≤ m.count
    done ∧ parent ∧ m.usable = true ∧ timeStatus s = tsMeasure ∧ 1 ≤ s.time.steps ∧ s.time.steps ≤ 4 ∧ m.theta2.natAbs ≤ 8192 :=
  ⟨(ms 2 5 1), 3, (mm 5), by dsimp only; decide +kernel⟩

theorem witness_DelayMeasurement_6 : ∃ (s : State) (p : Fin 8) (m : PortMeas),
    let parent := flagF s F.TB_TSTAT_PARENT_VALID = true ∧ getF s F.TB_TSTAT_PARENT = p.val
    let done := s.time.meas.find? (fun x => x.1 == p.val) = some (p.val, m) ∧ 1024 ≤ m.count
    done ∧ parent ∧ m.usable = true ∧ timeStatus s = tsMeasure ∧ s.time.steps = 4 ∧ 8192 < m.theta2.natAbs :=
  ⟨{ ms 2 50000 1 with time := { (ms 2 50000 1).time with steps := 4 } }, 3, (mm 50000), by dsimp only; decide +kernel⟩

theorem witness_DelayMeasurement_7 : ∃ (s : State) (p : Fin 8) (m : PortMeas),
    let parent := flagF s F.TB_TSTAT_PARENT_VALID = true ∧ getF s F.TB_TSTAT_PARENT = p.val
    let held := flagF s F.TB_TSTAT_PARENT_HOLD = true
    let done := s.time.meas.find? (fun x => x.1 == p.val) = some (p.val, m) ∧ 1024 ≤ m.count
    let delay := getF s F.TB_PHASE_TRIM
    done ∧ parent ∧ m.usable = true ∧ timeStatus s = tsLocked ∧ 4096 < m.theta2.natAbs ∧ ¬ held ∧ allIdle s = true ∧ (0 < m.theta2 → 1 ≤ delay) ∧ (m.theta2 < 0 → delay ≤ 126) :=
  ⟨(idle (ms 3 50000 1)), 3, (mm 50000), by dsimp only; decide +kernel⟩

theorem witness_DelayMeasurement_8 : ∃ (s : State) (p : Fin 8) (m : PortMeas),
    let parent := flagF s F.TB_TSTAT_PARENT_VALID = true ∧ getF s F.TB_TSTAT_PARENT = p.val
    let done := s.time.meas.find? (fun x => x.1 == p.val) = some (p.val, m) ∧ 1024 ≤ m.count
    done ∧ parent ∧ m.usable = true ∧ timeStatus s = tsHold :=
  ⟨(ms 4 50000 1), 3, (mm 50000), by dsimp only; decide +kernel⟩

theorem witness_DelayMeasurement_9 : ∃ (s : State) (v : TrimMove),
    let held := flagF s F.TB_TSTAT_PARENT_HOLD = true
    let delay := getF s F.TB_PHASE_TRIM
    let goal : Int := (delay : Int) - v.theta
    let due := v.ready ≤ s.now ∧ (v.lock = true ∨ ¬ held) ∧ (s.bounds.head? = some s.now ∨ v.lock = false ∧ allIdle s = true)
    s.time.trim = some v ∧ due ∧ goal < 0 ∨ 127 < goal :=
  ⟨(tr ⟨-500, 9, false⟩), ⟨-500, 9, false⟩, by dsimp only; decide +kernel⟩

theorem witness_DelayMeasurement_10 : ∃ (s : State) (v : TrimMove),
    let held := flagF s F.TB_TSTAT_PARENT_HOLD = true
    let due := v.ready ≤ s.now ∧ (v.lock = true ∨ ¬ held) ∧ (s.bounds.head? = some s.now ∨ v.lock = false ∧ allIdle s = true)
    s.time.trim = some v ∧ ¬ due :=
  ⟨(tr ⟨500, 2^40, false⟩), ⟨500, 2^40, false⟩, by dsimp only; decide +kernel⟩

theorem witness_DelayMeasurement_11 : ∃ (s : State) (p : Fin 8) (m : PortMeas),
    let parent := flagF s F.TB_TSTAT_PARENT_VALID = true ∧ getF s F.TB_TSTAT_PARENT = p.val
    let done := s.time.meas.find? (fun x => x.1 == p.val) = some (p.val, m) ∧ 1024 ≤ m.count
    done ∧ parent ∧ m.usable = true ∧ timeStatus s = tsMeasure ∧ 4 < s.time.steps :=
  ⟨{ ms 2 (-5000000) 1 with time := { (ms 2 (-5000000) 1).time with steps := 5 } }, 3, (mm (-5000000)), by dsimp only; decide +kernel⟩

theorem witness_DelayMeasurement_12 : ∃ (s : State) (p : Fin 8) (c : TimingCell) (b : Nat),
    let seen := { s with time := { s.time with peers := tset s.time.peers p.val (some ⟨c, s.now⟩) } }
    let stays := flagF s F.TB_TSTAT_PARENT_VALID = true ∧ (candidate seen (getF s F.TB_TSTAT_PARENT)).isSome = true
    let chooses := portRuns s p = true ∧ isMaster s = false ∧ ¬ stays
    chooses ∧ flagF s F.CL_STAT_MEMBER = true ∧ bestCandidate seen = some b :=
  ⟨(fol 1), 3, { tc 6 with tstat := 1 }, 3, by dsimp only; decide +kernel⟩

theorem witness_DelayMeasurement_13 : ∃ (s : State) (p : Fin 8) (c : TimingCell) (b : Nat),
    let seen := { s with time := { s.time with peers := tset s.time.peers p.val (some ⟨c, s.now⟩) } }
    let stays := flagF s F.TB_TSTAT_PARENT_VALID = true ∧ (candidate seen (getF s F.TB_TSTAT_PARENT)).isSome = true
    let chooses := portRuns s p = true ∧ isMaster s = false ∧ ¬ stays
    chooses ∧ flagF s F.CL_STAT_MEMBER = false ∧ bestCandidate seen = some b :=
  ⟨(fol 0), 3, { tc 6 with tstat := 1 }, 3, by dsimp only; decide +kernel⟩

theorem witness_WallClock_1 : ∃ (s : State) (e : Fin 2) (domain : Nat),
    let ok := ptpAccepts s e domain = true
    let port := getF s F.TB_WCT_STAT_PORT = e.val
    ¬ ok ∧ (¬ ok ∨ ¬ port) ∧ s.time.sync = none ∧ s.time.reqAt = none :=
  ⟨{ wc (some 4000) 1 15 with time := { base.time with sync := none } }, 1, 7, by dsimp only; decide +kernel⟩

theorem witness_WallClock_2 : ∃ (s : State) (e : Fin 2) (domain : Nat) (interval : Int) (t1 t2 t3 : Nat) (o : Option Nat),
    let ok := ptpAccepts s e domain = true
    let whole := s.time.sync = some (some t1, t2) ∧ s.time.reqAt = some t3
    let port := getF s F.TB_WCT_STAT_PORT = e.val
    ok ∧ -4 ≤ interval ∧ interval ≤ 4 ∧ s.time.sync = some (o, t2) ∧ ok ∧ port ∧ whole ∧ flagF s F.TB_WCT_STAT_SET = false :=
  ⟨(wc (some 4000) 0 0), 1, 0, 3, 4000, 5000, 6000, (some 4000), by dsimp only; decide +kernel⟩

theorem witness_WallClock_3 : ∃ (s : State) (e : Fin 2) (domain : Nat) (interval : Int) (t1 t2 t3 : Nat),
    let ok := ptpAccepts s e domain = true
    let whole := s.time.sync = some (some t1, t2) ∧ s.time.reqAt = some t3
    let port := getF s F.TB_WCT_STAT_PORT = e.val
    (ok ∧ interval < -4 ∨ 4 < interval) ∧ ok ∧ port ∧ whole ∧ flagF s F.TB_WCT_STAT_SET = true :=
  ⟨(wc (some 4000) 1 0), 1, 0, (-5), 4000, 5000, 6000, by dsimp only; decide +kernel⟩

theorem witness_WallClock_4 : ∃ (s : State) (e : Fin 2) (domain : Nat) (t2 : Nat),
    let ok := ptpAccepts s e domain = true
    let port := getF s F.TB_WCT_STAT_PORT = e.val
    ok ∧ port ∧ s.time.sync = some (none, t2) :=
  ⟨(wc none 1 0), 1, 0, 5000, by dsimp only; decide +kernel⟩

theorem witness_EthernetPorts_1 : ∃ (s : State) (e : Fin 2) (f : RxFrame),
    let ready := domainOn s 143 = true ∧ flagF s F.MEM_DDR_STAT_READY = true ∧ getF s (F.ETH_TXR_SIZE_VALUE e) ≠ 0 ∧
      getF s (F.ETH_TXR_RD_COUNT e) ≠ getF s (F.ETH_TXR_WR_COUNT e)
    let idle := (ethOf s e).wire = none
    ¬ ready ∧ idle ∧ (ethOf s e).timed = [] ∧ (idle ∧ (ethOf s e).normal = [] ∨ portUp s e = false) ∧ idle ∧ (portUp s e = true ∧ f = .arp ∨ f = .ndp ∨ f = .icmp4 ∨ f = .icmp6) ∧ portUp s e = false :=
  ⟨(setF (setF ring (F.PWR_DOM_ON 4) 0) (F.ETH_STAT_LINK 1) 0), 1, .ndp, by dsimp only; decide +kernel⟩

theorem witness_EthernetPorts_2 : ∃ (s : State) (e : Fin 2) (f : RxFrame) (d x : TxDesc) (rest : List TxDesc) (at_ : Nat),
    (ethOf s e).wire = some (x, at_) ∧ s.now < at_ ∧ (ethOf s e).timed = d :: rest ∧ d.launch = some s.now ∧ (ethOf s e).wire = some (x, at_) ∧ s.now < at_ ∧ (portUp s e = true ∧ f = .fragment ∨ f = .other) ∧ domainOn s 143 = true :=
  ⟨(ep { EthPort.init with timed := [de (some base.now), de none], wire := some (de none, 2^50) }), 1, .fragment, (de (some base.now)), (de none), [de none], (2^50), by decide +kernel⟩

theorem witness_EthernetPorts_3 : ∃ (s : State) (e : Fin 2) (at_ : Nat),
    let ready := domainOn s 143 = true ∧ flagF s F.MEM_DDR_STAT_READY = true ∧ getF s (F.ETH_TXR_SIZE_VALUE e) ≠ 0 ∧
      getF s (F.ETH_TXR_RD_COUNT e) ≠ getF s (F.ETH_TXR_WR_COUNT e)
    let next := readDesc s (nextDesc s e)
    let st := descStatus s e next
    ready ∧ st = 0 ∧ next.launch = some at_ :=
  ⟨ring, 1, (base.now+5000), by dsimp only; decide +kernel⟩

theorem witness_EthernetPorts_4 : ∃ (s : State) (e : Fin 2),
    let ready := domainOn s 143 = true ∧ flagF s F.MEM_DDR_STAT_READY = true ∧ getF s (F.ETH_TXR_SIZE_VALUE e) ≠ 0 ∧
      getF s (F.ETH_TXR_RD_COUNT e) ≠ getF s (F.ETH_TXR_WR_COUNT e)
    let next := readDesc s (nextDesc s e)
    let st := descStatus s e next
    ready ∧ st = 0 ∧ next.launch = none :=
  ⟨(setWord ring (k 8) 100), 1, by dsimp only; decide +kernel⟩

theorem witness_EthernetPorts_5 : ∃ (s : State) (e : Fin 2),
    let ready := domainOn s 143 = true ∧ flagF s F.MEM_DDR_STAT_READY = true ∧ getF s (F.ETH_TXR_SIZE_VALUE e) ≠ 0 ∧
      getF s (F.ETH_TXR_RD_COUNT e) ≠ getF s (F.ETH_TXR_WR_COUNT e)
    let next := readDesc s (nextDesc s e)
    let st := descStatus s e next
    ready ∧ st ≠ 0 :=
  ⟨(setWord ring (k 8) 10), 1, by dsimp only; decide +kernel⟩

theorem witness_EthernetPorts_6 : ∃ (s : State) (e : Fin 2) (d : TxDesc) (rest : List TxDesc),
    let idle := (ethOf s e).wire = none
    idle ∧ (ethOf s e).timed = d :: rest ∧ d.launch = some s.now ∧ portUp s e = true :=
  ⟨(ep { EthPort.init with timed := [de (some base.now), de none] }), 1, (de (some base.now)), [de none], by dsimp only; decide +kernel⟩

theorem witness_EthernetPorts_7 : ∃ (s : State) (e : Fin 2) (d : TxDesc) (rest : List TxDesc) (at_ : Nat),
    let idle := (ethOf s e).wire = none
    idle ∧ (ethOf s e).timed = d :: rest ∧ d.launch = some at_ ∧ at_ < s.now ∨ at_ = s.now ∧ portUp s e = false :=
  ⟨(ep { EthPort.init with timed := [de (some 9), de none] }), 1, (de (some 9)), [de none], 9, by dsimp only; decide +kernel⟩

theorem witness_EthernetPorts_8 : ∃ (s : State) (e : Fin 2) (d : TxDesc) (rest : List TxDesc) (at_ : Nat),
    let idle := (ethOf s e).wire = none
    idle ∧ (ethOf s e).timed = d :: rest ∧ d.launch = some at_ ∧ s.now < at_ :=
  ⟨(ep { EthPort.init with timed := [de (some (2^40)), de none] }), 1, (de (some (2^40))), [de none], (2^40), by dsimp only; decide +kernel⟩

theorem witness_EthernetPorts_9 : ∃ (s : State) (e : Fin 2) (d : TxDesc) (rest : List TxDesc),
    let idle := (ethOf s e).wire = none
    idle ∧ (ethOf s e).normal = d :: rest ∧ portUp s e = true ∧ d.launch = none ∧ (∀ y ∈ (ethOf s e).timed, s.now + wireTicks s e d.len ≤ y.launch.getD 0) :=
  ⟨(ep { EthPort.init with normal := [de none, de none] }), 1, (de none), [de none], by dsimp only; decide +kernel⟩

theorem witness_EthernetPorts_10 : ∃ (s : State) (e : Fin 2) (d x : TxDesc) (rest : List TxDesc) (at_ : Nat),
    let idle := (ethOf s e).wire = none
    idle ∧ (ethOf s e).normal = d :: rest ∧ x ∈ (ethOf s e).timed ∧ x.launch = some at_ ∧ at_ < s.now + wireTicks s e d.len :=
  ⟨(ep { EthPort.init with normal := [de none, de none], timed := [de (some (base.now + 5))] }), 1, (de none), (de (some (base.now + 5))), [de none], (base.now + 5), by dsimp only; decide +kernel⟩

theorem witness_EthernetPorts_11 : ∃ (s : State) (e : Fin 2) (d : TxDesc) (at_ : Nat),
    (ethOf s e).wire = some (d, at_) ∧ at_ ≤ s.now :=
  ⟨(ep { EthPort.init with wire := some (de none, 50) }), 1, (de none), 50, by decide +kernel⟩

theorem witness_EthernetPorts_12 : ∃ (s : State),
    domainOn s 143 = false :=
  ⟨(setF (setF ring (F.PWR_DOM_ON 4) 0) (F.ETH_STAT_LINK 1) 0), by decide +kernel⟩

end H

namespace I

def base : State := { st [(F.TB_TSTAT_STATE, 3), (F.CHN_PORT_STAT_STATE 3, 3), (F.CHN_PORT_CFG_ROLE 3, 2), (F.CHN_PORT_STAT_LOCK 3, 3), (F.CL_CID_VALUE, 77), (F.TB_TSTAT_PARENT, 3), (F.TB_TSTAT_PARENT_VALID, 1), (F.CHN_PORT_STAT_PARENT 3, 1), (F.CHN_PORT_SKEW_SKEW 3, 9)] with now := 2000004, time := { State.reset.time with started := true } }

def ps (n : Nat) : State := setF base (F.CHN_PORT_STAT_STATE 3) n

def pl (n : Nat) (l : PortLink) : State := setPort (ps n) 3 l

def lc : LinkCell := ⟨2^40+5, 2, 2, 1, -4, 77, true⟩

def ct : Ctrl := ⟨3, none, .refuse 5⟩

def de : List (Nat × DecEntry) := [(5, ⟨9, true, 2, 0⟩), (5, ⟨2, true, 2, 0⟩), (2^50, ⟨1, true, 2, 0⟩)]

def T (s : State) (n : Nat) : State := { s with now := n }

def good : BitVec 256 := BitVec.ofNat 256 (cellBits 0 .idle)

def goodD : BitVec 256 := BitVec.ofNat 256 (cellBits 0 (.decision [] []))

def rq (n : Nat) (l : PortLink) : State := setF (pl 3 l) (F.CHN_PORT_CFG_REQ 3) n

theorem witness_ChainPorts_1 : ∃ (s : State) (p : Fin 8) (role : Fin 4) (lane : Fin 2),
    let st := portState s p
    let l := portOf s p
    (role.val = 1 ∨ role.val = 2 ∧ st = psOff) ∧ (role.val = 1 ∨ role.val = 2 ∧ st ≠ psOff) ∧ (st ≠ psTrain ∨ s.now < l.since + 8192) ∧ (st ≠ psTrain ∧ st ≠ psAlign ∨ s.now < l.train + 1000000) ∧ st = psRun ∧ lane = 0 ∧ (st ≠ psRun ∧ st ≠ psAlign ∧ st ≠ psIdle ∨ lane = 0) :=
  ⟨(pl 3 { PortLink.init with fails := (7, 0) }), 3, 1, 0, by dsimp only; decide +kernel⟩

theorem witness_ChainPorts_2 : ∃ (s : State) (p : Fin 8) (role : Fin 4) (lane : Fin 2) (c : LinkCell) (own : Option Int) (w : BitVec 256),
    let st := portState s p
    let l := portOf s p
    let role' := getF s (F.CHN_PORT_CFG_ROLE p)
    let rx := l.rxOk || own.isSome
    let peerOk := withLane l.peerOk lane (laneOf l.peerOk lane || c.rxOk)
    let agreed := rx = true ∧ peerOk.1 = true ∧ peerOk.2 = true ∧ c.role.val = role'
    role.val = 0 ∧ st ≠ psOff ∧ (st = psTrain ∨ st = psAlign ∧ l.train + 1000000 ≤ s.now) ∧ st = psAlign ∧ ¬ agreed ∧ (st ≠ psRun ∨ cellVerdict lane w.toNat = .good) ∧ st = psAlign :=
  ⟨(ps 2), 3, 0, 1, { lc with role := 1 }, none, 5, by dsimp only; decide +kernel⟩

theorem witness_ChainPorts_3 : ∃ (s : State) (p : Fin 8) (lane : Fin 2) (w : BitVec 256),
    let st := portState s p
    let l := portOf s p
    st = psRun ∧ lane = 1 ∧ st = psRun ∧ cellVerdict lane w.toNat = .badCrc ∧ laneOf l.fails lane < 7 ∧ st = psRun :=
  ⟨base, 3, 1, 5, by dsimp only; decide +kernel⟩

theorem witness_ChainPorts_4 : ∃ (s : State) (p : Fin 8) (role : Fin 4),
    let st := portState s p
    role = 3 ∧ st ≠ psRun ∧ st ≠ psAlign :=
  ⟨(ps 0), 3, 3, by dsimp only; decide +kernel⟩

theorem witness_ChainPorts_5 : ∃ (s : State) (p : Fin 8) (lane : Fin 2) (c : LinkCell) (own : Option Int),
    let st := portState s p
    let l := portOf s p
    let role' := getF s (F.CHN_PORT_CFG_ROLE p)
    let rx := l.rxOk || own.isSome
    let peerOk := withLane l.peerOk lane (laneOf l.peerOk lane || c.rxOk)
    let agreed := rx = true ∧ peerOk.1 = true ∧ peerOk.2 = true ∧ c.role.val = role'
    st = psAlign ∧ agreed :=
  ⟨(pl 2 { PortLink.init with peerOk := (true, false) }), 3, 1, lc, (some 7), by dsimp only; decide +kernel⟩

theorem witness_ChainPorts_6 : ∃ (s : State) (p : Fin 8),
    let st := portState s p
    let l := portOf s p
    st = psTrain ∧ l.since + 8192 ≤ s.now :=
  ⟨(ps 1), 3, by dsimp only; decide +kernel⟩

theorem witness_ChainPorts_7 : ∃ (s : State) (p : Fin 8) (lane : Fin 2) (w : BitVec 256),
    let st := portState s p
    let l := portOf s p
    st = psRun ∧ cellVerdict lane w.toNat = .badCrc ∧ 7 ≤ laneOf l.fails lane :=
  ⟨(pl 3 { PortLink.init with fails := (7, 0) }), 3, 0, 5, by dsimp only; decide +kernel⟩

theorem witness_ChainPorts_8 : ∃ (s : State) (p : Fin 8) (role : Fin 4),
    let st := portState s p
    role.val = 0 ∧ st = psOff :=
  ⟨(ps 0), 3, 0, by dsimp only; decide +kernel⟩

theorem witness_ChainPorts_9 : ∃ (s : State) (p : Fin 8) (lane : Fin 2) (w : BitVec 256),
    let st := portState s p
    st = psRun ∧ cellVerdict lane w.toNat = .discarded :=
  ⟨(pl 3 { PortLink.init with fails := (7, 0) }), 3, 0, good, by dsimp only; decide +kernel⟩

theorem witness_ChainPorts_10 : ∃ (s : State) (p : Fin 8) (lane : Fin 2),
    let st := portState s p
    st = psIdle ∧ lane = 1 :=
  ⟨(ps 4), 3, 1, by dsimp only; decide +kernel⟩

theorem witness_ChainTraffic_1 : ∃ (s : State) (p : Fin 8) (req : Fin 4),
    let l := portOf s p
    let slot := s.now % 4 = 0
    let run := portState s p = psRun
    let reqNow := getF s (F.CHN_PORT_CFG_REQ p)
    let norm := reqNow = 0
    let fresh := fun (n : Nat) => laneOf l.slots n ≠ some s.now
    let barred := reqBarred s p = true
    slot ∧ run ∧ fresh 0 ∧ slot ∧ run ∧ fresh 1 ∧ s.now % 512 = 0 ∧ run ∧ norm ∧ idleAgreed s p = false ∧ (req = 3 ∨ req ≠ 0 ∧ barred) ∧ (req.val = 1 ∨ req.val = 2 ∧ ¬ barred) :=
  ⟨(T base 2048), 3, 1, by dsimp only; decide +kernel⟩

theorem witness_ChainTraffic_2 : ∃ (s : State) (p : Fin 8) (lane : Fin 2) (req : Fin 4) (vofs phase : Fin 128),
    let l := portOf s p
    let slot := s.now % 4 = 0
    let run := portState s p = psRun
    let fresh := fun (n : Nat) => laneOf l.slots n ≠ some s.now
    let scanOk := vofs ≠ 64 ∧ -32 ≤ toSigned 7 phase.val ∧ toSigned 7 phase.val ≤ 31
    let awake := s.power.inReset = false ∧ s.power.tripped = false ∧ getF s F.PWR_STAT_STATE ≠ 3
    slot ∧ portState s p = psAlign ∧ fresh lane.val ∧ ¬ run ∧ portState s p ≠ psIdle ∧ req = 0 ∧ portState s p ≠ psDeep ∧ portState s p ≠ psIdle ∧ awake ∧ portState s p ≠ psDeep ∧ (flagF s F.CHN_EYE_STAT_BUSY = true ∨ ¬ run ∨ ¬ scanOk) ∧ s.chain.eye = none :=
  ⟨(ps 2), 3, 1, 0, 5, 32, by dsimp only; decide +kernel⟩

theorem witness_ChainTraffic_3 : ∃ (s : State) (p : Fin 8) (st : Fin 4) (vofs phase : Fin 128),
    let l := portOf s p
    let slot := s.now % 4 = 0
    let run := portState s p = psRun
    let reqNow := getF s (F.CHN_PORT_CFG_REQ p)
    let norm := reqNow = 0
    let fresh := fun (n : Nat) => laneOf l.slots n ≠ some s.now
    let scanOk := vofs ≠ 64 ∧ -32 ≤ toSigned 7 phase.val ∧ toSigned 7 phase.val ≤ 31
    slot ∧ run ∧ fresh 1 ∧ s.now % 512 ≠ 0 ∧ (∀ y ∈ l.ctrl.head?, s.now ≤ y.1) ∧ l.linkDue ≤ s.now ∧ run ∧ ¬ norm ∧ st.val = 0 ∧ flagF s F.CHN_EYE_STAT_BUSY = false ∧ run ∧ scanOk :=
  ⟨(setF (setF (pl 3 { PortLink.init with got := 7, sent := 9, gotState := 2 }) (F.CHN_PORT_CFG_REQ 3) 2) F.TB_TSTAT_PARENT_VALID 0), 3, 0, 5, 100, by dsimp only; decide +kernel⟩

theorem witness_ChainTraffic_4 : ∃ (s : State) (p : Fin 8) (lane : Fin 2) (req : Fin 4),
    let l := portOf s p
    let slot := s.now % 4 = 0
    let fresh := fun (n : Nat) => laneOf l.slots n ≠ some s.now
    let awake := s.power.inReset = false ∧ s.power.tripped = false ∧ getF s F.PWR_STAT_STATE ≠ 3
    (slot ∧ portState s p = psOff ∨ portState s p = psTrain ∨ portState s p = psDeep ∧ fresh lane.val) ∧ req = 0 ∧ portState s p = psDeep ∧ awake ∧ domainOn s (134 + p.val) = true ∧ portState s p = psDeep :=
  ⟨(ps 5), 3, 1, 0, by dsimp only; decide +kernel⟩

theorem witness_ChainTraffic_5 : ∃ (s : State) (p : Fin 8) (lane : Fin 2) (req : Fin 4),
    let l := portOf s p
    let slot := s.now % 4 = 0
    let reqNow := getF s (F.CHN_PORT_CFG_REQ p)
    let norm := reqNow = 0
    let fresh := fun (n : Nat) => laneOf l.slots n ≠ some s.now
    slot ∧ portState s p = psIdle ∧ fresh lane.val ∧ portState s p = psIdle ∧ norm ∧ req = 0 ∧ portState s p = psIdle :=
  ⟨(setF (ps 4) F.TB_TSTAT_STATE 0), 3, 1, 0, by dsimp only; decide +kernel⟩

theorem witness_ChainTraffic_6 : ∃ (s : State) (p : Fin 8) (st : Fin 4),
    let l := portOf s p
    let slot := s.now % 4 = 0
    let run := portState s p = psRun
    let reqNow := getF s (F.CHN_PORT_CFG_REQ p)
    let norm := reqNow = 0
    let fresh := fun (n : Nat) => laneOf l.slots n ≠ some s.now
    slot ∧ run ∧ fresh 1 ∧ s.now % 512 ≠ 0 ∧ (∀ y ∈ l.ctrl.head?, s.now ≤ y.1) ∧ s.now < l.linkDue ∧ run ∧ ¬ norm ∧ st.val ≠ 0 :=
  ⟨(rq 1 { PortLink.init with gotState := 2, got := 8, sent := 7, scram := (5, 9), linkDue := 2^50 }), 3, 2, by dsimp only; decide +kernel⟩

theorem witness_ChainTraffic_7 : ∃ (s : State) (p : Fin 8) (x : Ctrl) (k : Nat) (rest : List (Nat × Ctrl)),
    let l := portOf s p
    let slot := s.now % 4 = 0
    let run := portState s p = psRun
    let fresh := fun (n : Nat) => laneOf l.slots n ≠ some s.now
    slot ∧ run ∧ fresh 1 ∧ s.now % 512 ≠ 0 ∧ l.ctrl = (k, x) :: rest ∧ k < s.now :=
  ⟨(T (pl 3 { PortLink.init with ctrl := [(5, ct), (6, ct)] }) 2052), 3, ct, 5, [(6, ct)], by dsimp only; decide +kernel⟩

theorem witness_ChainTraffic_8 : ∃ (s : State) (p : Fin 8) (lane : Fin 2),
    let l := portOf s p
    let slot := s.now % 4 = 0
    ¬ slot ∨ laneOf l.slots lane = some s.now :=
  ⟨(T base 2050), 3, 1, by dsimp only; decide +kernel⟩

theorem witness_ChainTraffic_9 : ∃ (s : State) (k : Nat) (q : Nat),
    s.chain.eye = some (q, k) ∧ k ≤ s.now :=
  ⟨(setB { base with chain := { base.chain with eye := some (3, 50) } } F.CHN_EYE_STAT_BUSY true), 50, 3, by decide +kernel⟩

theorem witness_ChainTraffic_10 : ∃ (s : State) (p : Fin 8),
    let run := portState s p = psRun
    run ∧ idleAgreed s p = true :=
  ⟨(rq 2 { PortLink.init with gotState := 2, got := 8, sent := 8, scram := (5, 9) }), 3, by dsimp only; decide +kernel⟩

theorem witness_ChainTraffic_11 : ∃ (s : State),
    s.power.inReset = true ∨ s.power.tripped = true :=
  ⟨{ ps 3 with power := { base.power with tripped := true } }, by decide +kernel⟩

theorem witness_ChainTraffic_12 : ∃ (s : State) (k : Nat) (q : Nat),
    s.chain.eye = some (q, k) ∧ s.now < k :=
  ⟨(setB { base with chain := { base.chain with eye := some (3, 2^50) } } F.CHN_EYE_STAT_BUSY true), (2^50), 3, by decide +kernel⟩

end I

namespace J

def base : State := { st [(F.TB_TSTAT_STATE, 3), (F.CL_CFG_EN, 1), (F.CHN_PORT_STAT_STATE 3, 3), (F.CHN_PORT_CFG_ROLE 3, 1), (F.CHN_PORT_STAT_STATE 5, 3), (F.CHN_PORT_CFG_ROLE 5, 1), (F.CHN_PORT_STAT_CHILD 5, 1), (F.CL_CID_VALUE, 77), (F.TB_TSTAT_PARENT, 3), (F.TB_TSTAT_PARENT_VALID, 1), (F.CHN_PORT_STAT_PARENT 3, 1), (F.CL_STAT_MEMBER, 1), (F.CL_STAT_DEVNUM, 4), (F.CL_UID_LO_VALUE, 99), (F.CL_MTMO_TICKS, 100), (F.TB_REF_STAT_REF_PRESENT, 1), (F.TB_REF_STAT_DANDY_LOCK, 1), (F.CL_EPOCH_EPOCH, 6), (F.PWR_SHOTCAP_PER, 1), (F.CL_SHOT_CTRL_LEAD, 100), (F.CL_SHOT_PER_VALUE, 1000), (F.CL_SHOT_NEXT_LO_VALUE, 5), (F.THR_STAT_STATE 2 3, 3), (F.SEQ_SYNC_CL_MARGIN 0, 30), (F.SEQ_BAR_MASK 2 7, 8), (F.SEQ_BAR_CLUSTER 2 7, 1), (F.CL_BARPART_LO_MASK 7, 0x11)] with now := 2000000, time := { State.reset.time with started := true } }

def ms (s : State) : State := setF (setF (setF s F.CHIP_PERS_MASTER 1) F.TB_TSTAT_PARENT_VALID 0) F.TB_TSTAT_STATE 1

def ch (s : State) (f : ClusterState → ClusterState) : State := { s with chain := f s.chain }

def hb : Heartbeat := ⟨77, 6, 50, 3, true, false, false, 0, 0⟩

def wt : State := setThread base 2 3 { thread base 2 3 with wait := some (.shot 40), tt := 50 }

def wb : State := setThread base 2 3 { thread base 2 3 with wait := some (.barrier 2 7 40), tt := 50, since := 10 }

def ag (a : Agreement) (s : State) : State := ms (ch s (fun c => { c with agree := some a }))

def a0 : Agreement := ⟨7, 8, 5, [4, 5], [5], none, none⟩

def a1 : Agreement := ⟨7, 8, 5, [4, 5, 9], [5], none, none⟩

def stg (s : State) : State := { s with host := { s.host with staged := [⟨1, 0x2310, 1, [5]⟩], changeId := 8 } }

def pr (s : State) (l : Option Nat) : State := setF (ch s (fun c => { c with prepared := some 7, learned := l })) F.CL_STAT_PREPARED 1

def oe : State := setF (setF (pr base none) F.CL_STAT_OUT_EPOCH 1) F.TB_TSTAT_STATE 5

def seenP (f : Nat) (s : State) : State := setPort { s with time := { s.time with peers := [(3, some ⟨⟨1, 3, 4, 5, 6, 7, 0, 0⟩, 50⟩)] } } 3 { PortLink.init with hb := some { hb with parent := false } }

def pn : Heartbeat := { hb with parent := false }

theorem witness_ClusterMembership_1 : ∃ (s : State) (p : Fin 8) (h : Heartbeat) (uid : Nat),
    let run := portRuns s p = true ∧ treePort s p = true
    let follower := isMaster s = false
    let mine := s.chain.joining = some p.val ∧ uid = ownUid s
    let silent := s.chain.heard + max 1 (getF s F.CL_MTMO_TICKS) ≤ s.now
    let member := flagF s F.CL_STAT_MEMBER = true
    let beatDue := flagF s F.CL_CFG_EN = true ∧ (s.chain.beat = none ∨ (s.chain.beat.getD 0) + 1024 ≤ s.now)
    let seen := setPort s p { portOf s p with hb := some h }
    let stays := flagF s F.TB_TSTAT_PARENT_VALID = true ∧ (candidate seen (getF s F.TB_TSTAT_PARENT)).isSome = true
    beatDue ∧ (run ∧ follower ∧ isParent s p = false ∨ ¬ member ∧ stays ∨ bestCandidate seen = none) ∧ follower ∧ member ∧ silent ∧ flagF s F.CL_STAT_MASTER_LOST = false ∧ run ∧ isParent s p = true ∧ run ∧ follower ∧ ¬ mine ∧ isParent s p = true :=
  ⟨base, 3, hb, 99, by dsimp only; decide +kernel⟩

theorem witness_ClusterMembership_2 : ∃ (s : State) (p : Fin 8) (h : Heartbeat) (uid d : Nat),
    let run := portRuns s p = true ∧ treePort s p = true
    let master := isMaster s = true
    let mine := s.chain.joining = some p.val ∧ uid = ownUid s
    let silent := s.chain.heard + max 1 (getF s F.CL_MTMO_TICKS) ≤ s.now
    let member := flagF s F.CL_STAT_MEMBER = true
    let ours := h.cid = getF s F.CL_CID_VALUE ∧ h.uid ≠ ownUid s
    run ∧ master ∧ ours ∧ h.uid < ownUid s ∧ (master ∨ ¬ member ∨ ¬ silent ∨ flagF s F.CL_STAT_MASTER_LOST = true) ∧ run ∧ isParent s p = false ∧ master ∧ numberFor s uid = some d ∧ d < 64 ∧ (run ∧ master ∨ ¬ mine ∧ isParent s p = false) ∧ run ∧ isChild s p = true ∧ master :=
  ⟨(ms base), 5, hb, 99, 1, by dsimp only; decide +kernel⟩

theorem witness_ClusterMembership_3 : ∃ (s : State) (p : Fin 8) (uid : Nat),
    let run := portRuns s p = true ∧ treePort s p = true
    let follower := isMaster s = false
    let mine := s.chain.joining = some p.val ∧ uid = ownUid s
    run ∧ isParent s p = false ∧ follower ∧ run ∧ follower ∧ mine ∧ run ∧ isChild s p = false :=
  ⟨(setF (setF (setF (ch base (fun c => { c with joining := some 3 })) F.TB_TSTAT_PARENT_VALID 0) F.TB_TSTAT_STATE 0) F.CL_STAT_MEMBER 0), 3, 99, by dsimp only; decide +kernel⟩

theorem witness_ClusterMembership_4 : ∃ (s : State) (p : Fin 8) (h : Heartbeat) (uid : Nat),
    let run := portRuns s p = true ∧ treePort s p = true
    let master := isMaster s = true
    let ours := h.cid = getF s F.CL_CID_VALUE ∧ h.uid ≠ ownUid s
    run ∧ master ∧ ¬ ours ∧ run ∧ isParent s p = false ∧ master ∧ numberFor s uid = none :=
  ⟨(ms (setF (setF base F.CL_MEMB_LO_MASK (2^32-1)) F.CL_MEMB_HI_MASK (2^32-1))), 5, { hb with uid := 99 }, 99, by dsimp only; decide +kernel⟩

theorem witness_ClusterMembership_5 : ∃ (s : State),
    let beatDue := flagF s F.CL_CFG_EN = true ∧ (s.chain.beat = none ∨ (s.chain.beat.getD 0) + 1024 ≤ s.now)
    ¬ beatDue :=
  ⟨(ch base (fun c => { c with beat := some 1999000 })), by dsimp only; decide +kernel⟩

theorem witness_ClusterMembership_6 : ∃ (s : State) (p : Fin 8),
    let deaf := portRuns s p = false ∧ portState s p ≠ psIdle
    deaf :=
  ⟨(ch base (fun c => { c with beat := some 1 })), 4, by dsimp only; decide +kernel⟩

theorem witness_ClusterMembership_7 : ∃ (s : State) (p : Fin 8),
    let run := portRuns s p = true ∧ treePort s p = true
    let follower := isMaster s = false
    run ∧ isChild s p = true ∧ follower :=
  ⟨base, 5, by dsimp only; decide +kernel⟩

theorem witness_ClusterMembership_8 : ∃ (s : State) (p : Fin 8) (h : Heartbeat),
    let run := portRuns s p = true ∧ treePort s p = true
    let follower := isMaster s = false
    let member := flagF s F.CL_STAT_MEMBER = true
    let seen := setPort s p { portOf s p with hb := some h }
    let parent := isParent s p = true ∧ (candidate seen p).isSome = true
    let now := getF s F.CL_EPOCH_EPOCH
    run ∧ follower ∧ member ∧ parent ∧ h.epoch ≤ now ∧ h.pending = false :=
  ⟨(seenP 0 base), 3, pn, by dsimp only; decide +kernel⟩

theorem witness_ClusterMembership_9 : ∃ (s : State) (p : Fin 8) (h : Heartbeat),
    let run := portRuns s p = true ∧ treePort s p = true
    let follower := isMaster s = false
    let member := flagF s F.CL_STAT_MEMBER = true
    let seen := setPort s p { portOf s p with hb := some h }
    let parent := isParent s p = true ∧ (candidate seen p).isSome = true
    let now := getF s F.CL_EPOCH_EPOCH
    run ∧ follower ∧ member ∧ parent ∧ h.epoch ≤ now ∧ h.pending = true ∧ flagF s F.CL_STAT_OUT_EPOCH = false ∧ s.chain.prepared = some h.pendEpoch ∧ s.chain.learned = none ∧ s.now + 16 ≤ tickNear s.now h.pendT :=
  ⟨(seenP 0 (ch base (fun c => { c with prepared := some 7 }))), 3, { pn with pending := true, pendEpoch := 7, pendT := 2000016 }, by dsimp only; decide +kernel⟩

theorem witness_ClusterMembership_10 : ∃ (s : State) (p : Fin 8) (h : Heartbeat),
    let run := portRuns s p = true ∧ treePort s p = true
    let follower := isMaster s = false
    let member := flagF s F.CL_STAT_MEMBER = true
    let seen := setPort s p { portOf s p with hb := some h }
    let parent := isParent s p = true ∧ (candidate seen p).isSome = true
    let now := getF s F.CL_EPOCH_EPOCH
    run ∧ follower ∧ member ∧ parent ∧ now < h.epoch :=
  ⟨(seenP 0 base), 3, { pn with epoch := 7 }, by dsimp only; decide +kernel⟩

theorem witness_ClusterMembership_11 : ∃ (s : State) (p : Fin 8) (h : Heartbeat),
    let run := portRuns s p = true ∧ treePort s p = true
    let master := isMaster s = true
    let ours := h.cid = getF s F.CL_CID_VALUE ∧ h.uid ≠ ownUid s
    run ∧ master ∧ ours ∧ ownUid s < h.uid :=
  ⟨(ms base), 5, { hb with uid := 100 }, by dsimp only; decide +kernel⟩

theorem witness_ShotsAndClusterBarriers_1 : ∃ (s : State) (p : Fin 8) (b : Nat) (hi : BitVec 32),
    let lead := getF s F.CL_SHOT_CTRL_LEAD
    let mode := getF s F.CL_SHOT_CTRL_MODE
    let next := genNext s 0
    let last? := s.chain.lastAnn
    let tree := portRuns s p = true ∧ treePort s p = true
    let above := tree ∧ isParent s p = true ∧ isMaster s = false
    let settled := ∀ a ∈ s.chain.agree, a.done = none ∨ a.t.isSome = true
    let commit := getF s F.CL_SHOT_NEXT_LO_VALUE + 2 ^ 32 * hi.toNat
    let tooNear := mode = 2 ∧ (commit < s.now / 4 * 4 + 4 + lead ∨ (∃ l ∈ last?, commit ≤ l ∨ isMaster s = true ∧ commit < l + minPeriod s))
    next = some b ∧ next = some b ∧ mode = 1 ∧ next = some b ∧ mode = 1 ∧ s.chain.phase = none ∧ (next ≠ some (s.now + lead) ∨ isMaster s = false) ∧ tree ∧ ¬ above ∧ ¬ tooNear ∧ settled :=
  ⟨(setF (ms (ch wt (fun c => { c with lastAnn := some 1999600, next := 1234567 }))) F.CL_SHOT_CTRL_MODE 1), 5, 2000567, 3, by dsimp only; decide +kernel⟩

theorem witness_ShotsAndClusterBarriers_2 : ∃ (s : State) (p : Fin 8) (src : Fin 64) (b : Nat) (bar : Fin 16) (hi : BitVec 32),
    let lead := getF s F.CL_SHOT_CTRL_LEAD
    let mode := getF s F.CL_SHOT_CTRL_MODE
    let next := genNext s 0
    let last? := s.chain.lastAnn
    let tree := portRuns s p = true ∧ treePort s p = true
    let below := tree ∧ isChild s p = true
    let settled := ∀ a ∈ s.chain.agree, a.done = none ∨ a.t.isSome = true
    let commit := getF s F.CL_SHOT_NEXT_LO_VALUE + 2 ^ 32 * hi.toNat
    let tooNear := mode = 2 ∧ (commit < s.now / 4 * 4 + 4 + lead ∨ (∃ l ∈ last?, commit ≤ l ∨ isMaster s = true ∧ commit < l + minPeriod s))
    let r := (tget s.chain.rounds none bar.val).getD ⟨barDevices s bar, [], 0⟩
    let last := ∀ d ∈ r.devs, d = src.val ∨ d ∈ r.arrived
    next = some b ∧ mode = 2 ∧ next = some b ∧ b = s.now + lead ∧ isMaster s = true ∧ settled ∧ tooNear ∧ below ∧ isMaster s = true ∧ ¬ last :=
  ⟨(setF (ms (ch wt (fun c => { c with written := some 2000100 }))) F.CL_SHOT_CTRL_MODE 2), 5, 4, 2000100, 7, 0, by dsimp only; decide +kernel⟩

theorem witness_ShotsAndClusterBarriers_3 : ∃ (s : State) (p : Fin 8) (b : Nat) (prev : Option Nat),
    let tree := portRuns s p = true ∧ treePort s p = true
    let above := tree ∧ isParent s p = true ∧ isMaster s = false
    let below := tree ∧ isChild s p = true
    let late := b < s.now + 16
    let missed := ∃ l ∈ prev, s.bounds.head? ≠ some l ∧ l ∉ s.seq.announced ∧ s.chain.learned ≠ some l
    above ∧ ¬ missed ∧ ¬ late ∧ tree ∧ ¬ below ∧ above :=
  ⟨wt, 3, 2000100, none, by dsimp only; decide +kernel⟩

theorem witness_ShotsAndClusterBarriers_4 : ∃ (s : State) (p : Fin 8) (b : Nat) (prev : Option Nat),
    let tree := portRuns s p = true ∧ treePort s p = true
    let above := tree ∧ isParent s p = true ∧ isMaster s = false
    let late := b < s.now + 16
    let missed := ∃ l ∈ prev, s.bounds.head? ≠ some l ∧ l ∉ s.seq.announced ∧ s.chain.learned ≠ some l
    above ∧ missed ∧ ¬ late :=
  ⟨wt, 3, 2000100, (some 1), by dsimp only; decide +kernel⟩

theorem witness_ShotsAndClusterBarriers_5 : ∃ (s : State) (p : Fin 8) (b : Nat) (prev : Option Nat),
    let tree := portRuns s p = true ∧ treePort s p = true
    let above := tree ∧ isParent s p = true ∧ isMaster s = false
    let late := b < s.now + 16
    let missed := ∃ l ∈ prev, s.bounds.head? ≠ some l ∧ l ∉ s.seq.announced ∧ s.chain.learned ≠ some l
    above ∧ ¬ missed ∧ late ∧ s.now < b :=
  ⟨wt, 3, 2000010, none, by dsimp only; decide +kernel⟩

theorem witness_ShotsAndClusterBarriers_6 : ∃ (s : State) (p : Fin 8) (b : Nat) (prev : Option Nat),
    let tree := portRuns s p = true ∧ treePort s p = true
    let above := tree ∧ isParent s p = true ∧ isMaster s = false
    let late := b < s.now + 16
    let missed := ∃ l ∈ prev, s.bounds.head? ≠ some l ∧ l ∉ s.seq.announced ∧ s.chain.learned ≠ some l
    above ∧ missed ∧ late :=
  ⟨wt, 3, 2000010, (some 1), by dsimp only; decide +kernel⟩

theorem witness_ShotsAndClusterBarriers_7 : ∃ (s : State) (p : Fin 8) (b : Nat) (prev : Option Nat),
    let tree := portRuns s p = true ∧ treePort s p = true
    let above := tree ∧ isParent s p = true ∧ isMaster s = false
    let missed := ∃ l ∈ prev, s.bounds.head? ≠ some l ∧ l ∉ s.seq.announced ∧ s.chain.learned ≠ some l
    above ∧ ¬ missed ∧ b ≤ s.now :=
  ⟨wt, 3, 1999010, none, by dsimp only; decide +kernel⟩

theorem witness_ShotsAndClusterBarriers_8 : ∃ (s : State) (p : Fin 8) (src : Fin 64) (bar : Fin 16),
    let last? := s.chain.lastAnn
    let tree := portRuns s p = true ∧ treePort s p = true
    let below := tree ∧ isChild s p = true
    let r := (tget s.chain.rounds none bar.val).getD ⟨barDevices s bar, [], 0⟩
    let last := ∀ d ∈ r.devs, d = src.val ∨ d ∈ r.arrived
    below ∧ isMaster s = true ∧ last :=
  ⟨(ms (ch wb (fun c => { c with rounds := [(7, some ⟨[4, 5], [5], 2^30⟩)]}))), 5, 4, 7, by dsimp only; decide +kernel⟩

theorem witness_ShotsAndClusterBarriers_9 : ∃ (s : State) (p : Fin 8),
    let tree := portRuns s p = true ∧ treePort s p = true
    let below := tree ∧ isChild s p = true
    below ∧ isMaster s = false :=
  ⟨wb, 5, by dsimp only; decide +kernel⟩

theorem witness_ShotsAndClusterBarriers_10 : ∃ (s : State) (b x : Nat),
    let mode := getF s F.CL_SHOT_CTRL_MODE
    let next := genNext s 0
    next = some b ∧ mode = 1 ∧ s.chain.phase = some x :=
  ⟨(setF (ms (ch wt (fun c => { c with phase := some 1999100 }))) F.CL_SHOT_CTRL_MODE 1), 2000100, 1999100, by dsimp only; decide +kernel⟩

theorem witness_ClusterChanges_1 : ∃ (s : State) (p : Fin 8) (src : Fin 64) (epoch code tk x : Nat) (a : Agreement),
    let tree := portRuns s p = true ∧ treePort s p = true
    let above := tree ∧ isParent s p = true ∧ isMaster s = false
    let below := tree ∧ isChild s p = true ∧ isMaster s = true
    let now := s.chain.agree = some a
    let asks := now ∧ a.epoch = epoch ∧ a.done = none ∧ src.val ∈ a.asked
    let inEpoch := flagF s F.CL_STAT_OUT_EPOCH = false
    let last := ∀ d ∈ a.asked, d = src.val ∨ d ∈ a.accepted
    boundaryFrom s x = some tk ∧ (isMaster s = false ∨ s.chain.agree.isSome = true) ∧ below ∧ asks ∧ code = 0 ∧ last ∧ a.t = none ∧ boundaryFrom s (s.now + 5000) = some tk ∧ now ∧ a.done = none ∧ a.opened + max 1 (getF s F.CL_PREP_TMO_TICKS) ≤ s.now ∧ (above ∧ ¬ inEpoch ∨ s.chain.prepared ≠ some epoch) ∧ (s.chain.learned ≠ some s.now ∨ boundaryDue s = false) :=
  ⟨(ag a0 { base with seq := { base.seq with announced := [3, 3000000, 2900000, 2900001] } }), 5, 4, 7, 0, 2900000, 2900000, a0, by dsimp only; decide +kernel⟩

theorem witness_ClusterChanges_2 : ∃ (s : State) (p : Fin 8) (dst : Fin 64) (epoch code : Nat),
    let tree := portRuns s p = true ∧ treePort s p = true
    let above := tree ∧ isParent s p = true ∧ isMaster s = false
    let bad := fun (e : Nat) => flagF s F.CL_STAT_OUT_EPOCH = true ∨ s.host.staged = [] ∨ s.host.changeId ≠ e
    let inEpoch := flagF s F.CL_STAT_OUT_EPOCH = false
    let ref := flagF s F.TB_REF_STAT_REF_PRESENT = true
    above ∧ bad code ∧ s.chain.agree = none ∧ above ∧ inEpoch ∧ s.chain.prepared = some epoch ∧ s.chain.learned.isSome = true ∧ above ∧ s.chain.prepared = some epoch ∧ boundaryDue s = true ∧ s.chain.learned = some s.now ∧ s.chain.prepared = some epoch ∧ (isMaster s = false ∨ dst = 0 ∧ ¬ ref) :=
  ⟨(pr base (some 2000000)), 3, 4, 7, 0, by dsimp only; decide +kernel⟩

theorem witness_ClusterChanges_3 : ∃ (s : State) (p : Fin 8) (src dst : Fin 64) (epoch : Nat) (a : Agreement),
    let tree := portRuns s p = true ∧ treePort s p = true
    let above := tree ∧ isParent s p = true ∧ isMaster s = false
    let below := tree ∧ isChild s p = true ∧ isMaster s = true
    let now := s.chain.agree = some a
    let asks := now ∧ a.epoch = epoch ∧ a.done = none ∧ src.val ∈ a.asked
    let dev := getF s F.CL_STAT_DEVNUM
    let inEpoch := flagF s F.CL_STAT_OUT_EPOCH = false
    let ref := flagF s F.TB_REF_STAT_REF_PRESENT = true
    let stays := ¬ inEpoch ∧ s.chain.dual = false ∧ (timeStatus s = tsFenced → ref)
    below ∧ ¬ asks ∧ now ∧ (now ∧ a.done.isSome = true ∨ s.now < a.opened + max 1 (getF s F.CL_PREP_TMO_TICKS)) ∧ isMaster s = true ∧ dst ≠ 0 ∧ (above ∧ flagF s F.CL_STAT_MEMBER = false ∨ dev ≠ dst.val ∨ ¬ stays) ∧ tree ∧ ¬ above :=
  ⟨(ag a0 { base with now := 9 }), 5, 7, 4, 7, a0, by dsimp only; decide +kernel⟩

theorem witness_ClusterChanges_4 : ∃ (s : State) (dst : Fin 64) (id : BitVec 16),
    let bad := fun (e : Nat) => flagF s F.CL_STAT_OUT_EPOCH = true ∨ s.host.staged = [] ∨ s.host.changeId ≠ e
    let inEpoch := flagF s F.CL_STAT_OUT_EPOCH = false
    let ref := flagF s F.TB_REF_STAT_REF_PRESENT = true
    let may := isMaster s = true ∧ s.chain.agree = none
    let stays := ¬ inEpoch ∧ s.chain.dual = false ∧ (timeStatus s = tsFenced → ref)
    may ∧ excluded s 0 = false ∧ bad id.toNat ∧ isMaster s = true ∧ dst = 0 ∧ ref ∧ ¬ stays :=
  ⟨(ms base), 0, 8, by dsimp only; decide +kernel⟩

theorem witness_ClusterChanges_5 : ∃ (s : State) (p : Fin 8) (epoch code : Nat),
    let tree := portRuns s p = true ∧ treePort s p = true
    let above := tree ∧ isParent s p = true ∧ isMaster s = false
    let bad := fun (e : Nat) => flagF s F.CL_STAT_OUT_EPOCH = true ∨ s.host.staged = [] ∨ s.host.changeId ≠ e
    above ∧ ¬ bad code ∧ above ∧ s.chain.prepared ≠ some epoch :=
  ⟨(stg base), 3, 7, 8, by dsimp only; decide +kernel⟩

theorem witness_ClusterChanges_6 : ∃ (s : State),
    let may := isMaster s = true ∧ s.chain.agree = none
    may ∧ excluded s 0 = true :=
  ⟨(ms (setF base F.CL_EXCL_LO_MASK 0x21)), by dsimp only; decide +kernel⟩

theorem witness_ClusterChanges_7 : ∃ (s : State) (p : Fin 8) (src : Fin 64) (epoch code : Nat) (a : Agreement),
    let tree := portRuns s p = true ∧ treePort s p = true
    let below := tree ∧ isChild s p = true ∧ isMaster s = true
    let now := s.chain.agree = some a
    let asks := now ∧ a.epoch = epoch ∧ a.done = none ∧ src.val ∈ a.asked
    below ∧ asks ∧ code ≠ 0 :=
  ⟨(ag a0 base), 5, 4, 7, 3, a0, by dsimp only; decide +kernel⟩

theorem witness_ClusterChanges_8 : ∃ (s : State) (p : Fin 8) (src : Fin 64) (epoch code : Nat) (a : Agreement),
    let tree := portRuns s p = true ∧ treePort s p = true
    let below := tree ∧ isChild s p = true ∧ isMaster s = true
    let now := s.chain.agree = some a
    let asks := now ∧ a.epoch = epoch ∧ a.done = none ∧ src.val ∈ a.asked
    let last := ∀ d ∈ a.asked, d = src.val ∨ d ∈ a.accepted
    below ∧ asks ∧ code = 0 ∧ ¬ last :=
  ⟨(ag a1 base), 5, 4, 7, 0, a1, by dsimp only; decide +kernel⟩

theorem witness_ClusterChanges_9 : ∃ (s : State) (p : Fin 8) (epoch tk : Nat),
    let tree := portRuns s p = true ∧ treePort s p = true
    let above := tree ∧ isParent s p = true ∧ isMaster s = false
    let inEpoch := flagF s F.CL_STAT_OUT_EPOCH = false
    above ∧ inEpoch ∧ s.chain.prepared = some epoch ∧ s.chain.learned = none ∧ s.now + 16 ≤ tk :=
  ⟨(pr wt none), 3, 7, 2000020, by dsimp only; decide +kernel⟩

theorem witness_ClusterChanges_10 : ∃ (s : State) (p : Fin 8) (epoch tk : Nat),
    let tree := portRuns s p = true ∧ treePort s p = true
    let above := tree ∧ isParent s p = true ∧ isMaster s = false
    let inEpoch := flagF s F.CL_STAT_OUT_EPOCH = false
    above ∧ inEpoch ∧ s.chain.prepared = some epoch ∧ s.chain.learned = none ∧ tk ≤ s.now :=
  ⟨(pr wt none), 3, 7, 2000000, by dsimp only; decide +kernel⟩

theorem witness_ClusterChanges_11 : ∃ (s : State) (p : Fin 8) (dst : Fin 64),
    let tree := portRuns s p = true ∧ treePort s p = true
    let above := tree ∧ isParent s p = true ∧ isMaster s = false
    let dev := getF s F.CL_STAT_DEVNUM
    let inEpoch := flagF s F.CL_STAT_OUT_EPOCH = false
    let ref := flagF s F.TB_REF_STAT_REF_PRESENT = true
    let stays := ¬ inEpoch ∧ s.chain.dual = false ∧ (timeStatus s = tsFenced → ref)
    above ∧ flagF s F.CL_STAT_MEMBER = true ∧ dev = dst.val ∧ stays :=
  ⟨oe, 3, 4, by dsimp only; decide +kernel⟩

theorem witness_ClusterChanges_12 : ∃ (s : State) (dst : Fin 64),
    let inEpoch := flagF s F.CL_STAT_OUT_EPOCH = false
    let ref := flagF s F.TB_REF_STAT_REF_PRESENT = true
    let stays := ¬ inEpoch ∧ s.chain.dual = false ∧ (timeStatus s = tsFenced → ref)
    isMaster s = true ∧ dst = 0 ∧ ref ∧ stays :=
  ⟨(setF (ms oe) F.TB_TSTAT_STATE 5), 0, by dsimp only; decide +kernel⟩

theorem witness_ClusterChanges_13 : ∃ (s : State) (id : BitVec 16),
    let bad := fun (e : Nat) => flagF s F.CL_STAT_OUT_EPOCH = true ∨ s.host.staged = [] ∨ s.host.changeId ≠ e
    let may := isMaster s = true ∧ s.chain.agree = none
    let asked := (List.range 64).filter (fun d => (assigned s d || d == 0) && !excluded s d)
    may ∧ excluded s 0 = false ∧ ¬ bad id.toNat ∧ asked ≠ [0] :=
  ⟨(stg (ms (setF (setF base F.CL_MEMB_LO_MASK 0x21) F.CL_STAT_DEVNUM 0))), 8, by dsimp only; decide +kernel⟩

theorem witness_ClusterChanges_14 : ∃ (s : State) (id : BitVec 16) (tk : Nat),
    let bad := fun (e : Nat) => flagF s F.CL_STAT_OUT_EPOCH = true ∨ s.host.staged = [] ∨ s.host.changeId ≠ e
    let may := isMaster s = true ∧ s.chain.agree = none
    let asked := (List.range 64).filter (fun d => (assigned s d || d == 0) && !excluded s d)
    may ∧ excluded s 0 = false ∧ ¬ bad id.toNat ∧ asked = [0] ∧ boundaryFrom s (s.now + 5000) = some tk :=
  ⟨(stg (ms { setF base F.CL_STAT_DEVNUM 0 with seq := { base.seq with announced := [3, 3000000, 2900000, 2900001] } })), 8, 2900000, by dsimp only; decide +kernel⟩

theorem witness_ClusterChanges_15 : ∃ (s : State) (p : Fin 8) (src : Fin 64) (epoch code : Nat) (a : Agreement),
    let tree := portRuns s p = true ∧ treePort s p = true
    let below := tree ∧ isChild s p = true ∧ isMaster s = true
    let now := s.chain.agree = some a
    let asks := now ∧ a.epoch = epoch ∧ a.done = none ∧ src.val ∈ a.asked
    let last := ∀ d ∈ a.asked, d = src.val ∨ d ∈ a.accepted
    below ∧ asks ∧ code = 0 ∧ last ∧ a.t = none ∧ boundaryFrom s (s.now + 5000) = none :=
  ⟨(ag a0 base), 5, 4, 7, 0, a0, by dsimp only; decide +kernel⟩

theorem witness_ClusterChanges_16 : ∃ (s : State) (p : Fin 8),
    let tree := portRuns s p = true ∧ treePort s p = true
    tree ∧ isChild s p = true ∧ isMaster s = false :=
  ⟨base, 5, by dsimp only; decide +kernel⟩

theorem witness_ClusterChanges_17 : ∃ (s : State) (p : Fin 8) (epoch tk : Nat),
    let tree := portRuns s p = true ∧ treePort s p = true
    let above := tree ∧ isParent s p = true ∧ isMaster s = false
    let inEpoch := flagF s F.CL_STAT_OUT_EPOCH = false
    above ∧ inEpoch ∧ s.chain.prepared = some epoch ∧ s.chain.learned = none ∧ s.now < tk ∧ tk < s.now + 16 :=
  ⟨(pr wt none), 3, 7, 2000015, by dsimp only; decide +kernel⟩

end J

namespace K

def base : State := { st [(F.CL_MTMO_TICKS, 0xf0f0), (F.MEM_DDR_STAT_READY, 1), (F.MEM_DDR_STAT_CAP, 64), (F.MEM_SCRUB_PERIOD, 5), (F.DMA_LEN_VALUE 2, 4), (F.DMA_DEV_VALUE 2, 0x100), (F.SEG_W3_ACTIVE 1 7, 1), (F.SEG_W0_START 1 7, 16), (F.SEG_W1_LENGTH 1 7, 512), (F.THR_STAT_STATE 2 3, 1), (F.THR_WIN_BASE 2 3, 4), (F.THR_WIN_LIMIT 2 3, 9), (F.CTX_STAT_STATE 2 3, 1), (F.CTX_WIN_BASE 2 3, 4), (F.CTX_WIN_LIMIT 2 3, 9), (F.WGT_W3_ACTIVE 2 5, 1), (F.WGT_W0_START 2 5, 10), (F.WGT_W1_WLEN 2 5, 10), (F.SE_STAT_RUN, 1)] with now := 2000000, time := { State.reset.time with started := true } }

def off (k : Nat) : State := setF base (F.PWR_DOM_ON (k/32)) (2^32-1-2^(k%32))

def r0 : Reg := ⟨.CL_MTMO, 0, 0, 0⟩

def full (r : Reg) : State := (fieldsOf r).foldl (fun s y => setF s y.1 0xcccc3333) base

def dn : State := { base with power := { base.power with vatman := [(0, 5)] } }

def c0 : StoreCmd := ⟨.boot, .empty⟩

def ss (f : MemState → MemState) : State := { base with store := f base.store }

def db : State := setF (setF base (F.DMA_STAT_BUSY 2) 1) F.MBX_STAT_BUSY 1

theorem witness_RegisterAccess_1 : ∃ (s : State) (m : Master) (addr size : Nat),
    let on := domainOn s 131 = true
    let n := size / 8
    let goes := addrStalls s addr = false
    let closed := fun (x : Nat) => inSecurity x = true ∧ isCore m = false
    let part := n ≠ 4 ∧ n < 8 ∧ (n ≤ 1 ∨ n = 2 ∧ addr % 2 = 0 ∨ 3 ≤ n ∧ (addr % 4 = 0 ∨ addr % 4 + n ≤ 4))
    on ∧ (goes ∧ n = 4 ∨ n = 8 ∨ part ∧ addr % 4 = 0 ∧ closed addr ∧ n ≠ 8 ∨ closed (addr + 4)) :=
  ⟨base, .pcie, (regAddr r0 + 2), 32, by dsimp only; decide +kernel⟩

theorem witness_RegisterAccess_2 : ∃ (s : State) (m : Master) (addr size : Nat) (r : Reg),
    let n := size / 8
    let goes := addrStalls s addr = false
    let closed := fun (x : Nat) => inSecurity x = true ∧ isCore m = false
    let part := n ≠ 4 ∧ n < 8 ∧ (n ≤ 1 ∨ n = 2 ∧ addr % 2 = 0 ∨ 3 ≤ n ∧ (addr % 4 = 0 ∨ addr % 4 + n ≤ 4))
    (goes ∧ n = 4 ∨ n = 8 ∧ addr % 4 ≠ 0) ∧ goes ∧ 3 ≤ n ∧ n < 8 ∧ addr % 4 ≠ 0 ∧ 4 < addr % 4 + n ∧ (goes ∧ part ∧ ¬ closed addr ∧ regAt (addr - addr % 4) = some r ∧ r.name ≠ .MBX_REQ ∨ viewAt addr ≠ .normal ∨ n ≠ 1 ∧ n ≠ 2) :=
  ⟨base, .pcie, (regAddr r0 + 2), 32, r0, by dsimp only; decide +kernel⟩

theorem witness_RegisterAccess_3 : ∃ (s : State) (addr size : Nat),
    let n := size / 8
    let goes := addrStalls s addr = false
    goes ∧ n = 2 ∧ addr % 2 ≠ 0 :=
  ⟨base, (regAddr r0 + 1), 16, by dsimp only; decide +kernel⟩

theorem witness_RegisterAccess_4 : ∃ (s : State) (addr size : Nat),
    let n := size / 8
    let goes := addrStalls s addr = false
    goes ∧ 8 < n :=
  ⟨base, (regAddr r0 + 2), 128, by dsimp only; decide +kernel⟩

theorem witness_RegisterAccess_5 : ∃ (s : State) (m : Master) (addr size : Nat),
    let n := size / 8
    let goes := addrStalls s addr = false
    let closed := fun (x : Nat) => inSecurity x = true ∧ isCore m = false
    let word := goes ∧ n = 4 ∧ addr % 4 = 0 ∧ ¬ closed addr
    word ∧ regAt addr = none :=
  ⟨base, .pcie, (0x3ff0), 32, by dsimp only; decide +kernel⟩

theorem witness_RegisterAccess_6 : ∃ (s : State) (m : Master) (addr size : Nat),
    let n := size / 8
    let goes := addrStalls s addr = false
    let closed := fun (x : Nat) => inSecurity x = true ∧ isCore m = false
    let double := goes ∧ n = 8 ∧ addr % 4 = 0 ∧ ¬ closed addr ∧ ¬ closed (addr + 4)
    double ∧ regAt addr = none ∧ regAt (addr + 4) = none :=
  ⟨base, .pcie, (0x3ff0), 64, by dsimp only; decide +kernel⟩

theorem witness_RegisterAccess_7 : ∃ (s : State) (m : Master) (addr size : Nat),
    let n := size / 8
    let goes := addrStalls s addr = false
    let closed := fun (x : Nat) => inSecurity x = true ∧ isCore m = false
    let part := n ≠ 4 ∧ n < 8 ∧ (n ≤ 1 ∨ n = 2 ∧ addr % 2 = 0 ∨ 3 ≤ n ∧ (addr % 4 = 0 ∨ addr % 4 + n ≤ 4))
    goes ∧ part ∧ ¬ closed addr ∧ regAt (addr - addr % 4) = none :=
  ⟨base, .pcie, (0x3ff1), 8, by dsimp only; decide +kernel⟩

theorem witness_RegisterAccess_8 : ∃ (s : State) (m : Master) (addr size : Nat) (r : Reg),
    let n := size / 8
    let goes := addrStalls s addr = false
    let closed := fun (x : Nat) => inSecurity x = true ∧ isCore m = false
    let word := goes ∧ n = 4 ∧ addr % 4 = 0 ∧ ¬ closed addr
    word ∧ regAt addr = some r ∧ regPowered s r = false :=
  ⟨(off 10), .dma, (regAddr ⟨.SEQ_CTRL, 2, 0, 0⟩), 32, ⟨.SEQ_CTRL, 2, 0, 0⟩, by dsimp only; decide +kernel⟩

theorem witness_RegisterAccess_9 : ∃ (s : State) (m : Master) (addr size : Nat) (r : Reg),
    let n := size / 8
    let goes := addrStalls s addr = false
    let closed := fun (x : Nat) => inSecurity x = true ∧ isCore m = false
    let part := n ≠ 4 ∧ n < 8 ∧ (n ≤ 1 ∨ n = 2 ∧ addr % 2 = 0 ∨ 3 ≤ n ∧ (addr % 4 = 0 ∨ addr % 4 + n ≤ 4))
    let buffer := fun (k : Nat) => goes ∧ n = k ∧ part ∧ ¬ closed addr ∧ regAt (addr - addr % 4) = some r ∧ r.name = .MBX_REQ ∧ viewAt addr = .normal
    buffer 1 :=
  ⟨base, .pcie, (regAddr ⟨.MBX_REQ, 5, 0, 0⟩ + 1), 8, ⟨.MBX_REQ, 5, 0, 0⟩, by dsimp only; decide +kernel⟩

theorem witness_RegisterAccess_10 : ∃ (s : State) (m : Master) (addr size : Nat) (r : Reg),
    let n := size / 8
    let goes := addrStalls s addr = false
    let closed := fun (x : Nat) => inSecurity x = true ∧ isCore m = false
    let part := n ≠ 4 ∧ n < 8 ∧ (n ≤ 1 ∨ n = 2 ∧ addr % 2 = 0 ∨ 3 ≤ n ∧ (addr % 4 = 0 ∨ addr % 4 + n ≤ 4))
    let buffer := fun (k : Nat) => goes ∧ n = k ∧ part ∧ ¬ closed addr ∧ regAt (addr - addr % 4) = some r ∧ r.name = .MBX_REQ ∧ viewAt addr = .normal
    buffer 2 :=
  ⟨base, .pcie, (regAddr ⟨.MBX_REQ, 5, 0, 0⟩ + 2), 16, ⟨.MBX_REQ, 5, 0, 0⟩, by dsimp only; decide +kernel⟩

theorem witness_RegisterAccess_11 : ∃ (s : State) (addr : Nat),
    addrStalls s addr = true :=
  ⟨(dn), (regAddr ⟨.SEQ_CTRL, 2, 0, 0⟩), by decide +kernel⟩

theorem witness_RegisterAccess_12 : ∃ (s : State) (m : Master) (addr size : Nat) (r : Reg),
    let n := size / 8
    let goes := addrStalls s addr = false
    let closed := fun (x : Nat) => inSecurity x = true ∧ isCore m = false
    let word := goes ∧ n = 4 ∧ addr % 4 = 0 ∧ ¬ closed addr
    let ordinary := fun (x : Reg) => spareEntry x = false ∧ x.name ∈ plainRegs
    word ∧ regAt addr = some r ∧ regPowered s r = true ∧ ordinary r :=
  ⟨(full ⟨.CL_MTMO, 0, 0, 0⟩), .pcie, (regAddr ⟨.CL_MTMO, 0, 0, 0⟩ + 0), 32, ⟨.CL_MTMO, 0, 0, 0⟩, by dsimp only; decide +kernel⟩

theorem witness_RegisterAccess_13 : ∃ (s : State) (m : Master) (addr size : Nat) (r r2 : Reg),
    let n := size / 8
    let goes := addrStalls s addr = false
    let closed := fun (x : Nat) => inSecurity x = true ∧ isCore m = false
    let double := goes ∧ n = 8 ∧ addr % 4 = 0 ∧ ¬ closed addr ∧ ¬ closed (addr + 4)
    let ordinary := fun (x : Reg) => spareEntry x = false ∧ x.name ∈ plainRegs
    double ∧ regAt addr = some r ∧ regAt (addr + 4) = some r2 ∧ regPowered s r = true ∧ regPowered s r2 = true ∧ ordinary r ∧ ordinary r2 :=
  ⟨(full ⟨.STRM_SRC_LO, 2, 1, 0⟩), .pcie, (regAddr ⟨.STRM_SRC_LO, 2, 1, 0⟩), 64, ⟨.STRM_SRC_LO, 2, 1, 0⟩, ⟨.STRM_SRC_HI, 2, 1, 0⟩, by dsimp only; decide +kernel⟩

theorem witness_RegisterAccess_14 : ∃ (s : State) (m : Master) (addr size : Nat) (r : Reg),
    let n := size / 8
    let goes := addrStalls s addr = false
    let closed := fun (x : Nat) => inSecurity x = true ∧ isCore m = false
    let double := goes ∧ n = 8 ∧ addr % 4 = 0 ∧ ¬ closed addr ∧ ¬ closed (addr + 4)
    let ordinary := fun (x : Reg) => spareEntry x = false ∧ x.name ∈ plainRegs
    double ∧ regAt addr = some r ∧ regAt (addr + 4) = none ∧ regPowered s r = true ∧ ordinary r ∧ r.name ∉ errorRegs :=
  ⟨(full ⟨.SEQ_CNT_STALL, 2, 0, 0⟩), .pcie, (regAddr ⟨.SEQ_CNT_STALL, 2, 0, 0⟩ + 0x8000), 64, ⟨.SEQ_CNT_STALL, 2, 0, 0⟩, by dsimp only; decide +kernel⟩

theorem witness_RegisterAccess_15 : ∃ (s : State) (m : Master) (addr v size : Nat) (r : Reg) (e : Err),
    let w := v % 2 ^ 32
    let n := size / 8
    let goes := addrStalls s addr = false
    let closed := fun (x : Nat) => inSecurity x = true ∧ isCore m = false
    let word := goes ∧ n = 4 ∧ addr % 4 = 0 ∧ ¬ closed addr
    let rule := regEffect r ⟨viewAt addr, w⟩ s
    word ∧ regAt addr = some r ∧ regPowered s r = true ∧ rule = (s, some e) :=
  ⟨base, .pcie, (regAddr ⟨.THR_PC, 2, 3, 0⟩), 5, 32, ⟨.THR_PC, 2, 3, 0⟩, .refused, by dsimp only; decide +kernel⟩

theorem witness_RegisterAccess_16 : ∃ (s u : State) (m : Master) (addr v size : Nat) (r : Reg),
    let w := v % 2 ^ 32
    let n := size / 8
    let goes := addrStalls s addr = false
    let closed := fun (x : Nat) => inSecurity x = true ∧ isCore m = false
    let word := goes ∧ n = 4 ∧ addr % 4 = 0 ∧ ¬ closed addr
    let rule := regEffect r ⟨viewAt addr, w⟩ s
    word ∧ regAt addr = some r ∧ regPowered s r = true ∧ rule = (u, none) :=
  ⟨base, (regEffect ⟨.SEQ_CTRL, 2, 0, 0⟩ ⟨.normal, 1⟩ base).1, .pcie, (regAddr ⟨.SEQ_CTRL, 2, 0, 0⟩), 1, 32, ⟨.SEQ_CTRL, 2, 0, 0⟩, by dsimp only; decide +kernel⟩

theorem witness_WindowAccess_1 : ∃ (s : State) (addr j : Nat),
    let fits := addr % 4 = 0 ∧ windowStalls s addr = false
    let free := windowReject s addr = none
    let goes := windowStalls s addr = false
    let a0 := addr - addr % 4
    fits ∧ free ∧ goes ∧ windowReject s a0 = none ∧ wordBad s (windowKey s a0) = false ∧ goes ∧ addr % 2 = 0 ∧ windowReject s a0 = none ∧ wordBad s (windowKey s a0) = false ∧ fits ∧ 1 ≤ j ∧ (∀ i < j, windowReject s (addr + 4 * i) = none) :=
  ⟨base, 0x8900020, 3, by dsimp only; decide +kernel⟩

theorem witness_WindowAccess_2 : ∃ (s : State) (addr : Nat),
    let fits := addr % 4 = 0 ∧ windowStalls s addr = false
    let free := windowReject s addr = none
    let k := windowKey s addr
    fits ∧ free ∧ wordBad s k = true ∧ fits ∧ free ∧ windowReject s (addr + 4) = none ∧ addr + 8 ≤ 0x4000000 :=
  ⟨{ base with store := { base.store with bad := [0x400010] } }, 0x400014, by dsimp only; decide +kernel⟩

theorem witness_WindowAccess_3 : ∃ (s : State) (addr : Nat),
    let goes := windowStalls s addr = false
    goes ∧ addr % 2 ≠ 0 :=
  ⟨base, 0x3, by dsimp only; decide +kernel⟩

theorem witness_WindowAccess_4 : ∃ (s : State) (addr : Nat),
    let fits := addr % 4 = 0 ∧ windowStalls s addr = false
    let free := windowReject s addr = none
    fits ∧ free ∧ addr + 8 ≤ 0x4000000 ∧ windowReject s (addr + 4) = some (.segBusy, incF s (F.SEQ_CNT_SEG_SEGCONF ((addr + 4) / 0x400000))) ∧ vatActive s ((addr + 4) / 0x400000) ((addr + 4) % 0x400000 / 4) = true :=
  ⟨base, 0x40003c, by dsimp only; decide +kernel⟩

theorem witness_WindowAccess_5 : ∃ (s : State) (addr : Nat),
    let fits := addr % 4 = 0 ∧ windowStalls s addr = false
    let live := windowOff s addr = false
    let q := addr / 0x400000
    let w := addr % 0x400000 / 4
    fits ∧ live ∧ addr < 0x4000000 ∧ vatActive s q w = true ∨ inRing s q w = true :=
  ⟨base, 0x400044, by dsimp only; decide +kernel⟩

theorem witness_WindowAccess_6 : ∃ (s : State) (addr : Nat),
    let fits := addr % 4 = 0 ∧ windowStalls s addr = false
    let live := windowOff s addr = false
    let p := addr / 0x100000 % 16
    fits ∧ live ∧ 0x4000000 ≤ addr ∧ addr < 0x5000000 ∧ programActive s p (addr % 0x100000 / 8) = true :=
  ⟨base, 0x4200120, by dsimp only; decide +kernel⟩

theorem witness_WindowAccess_7 : ∃ (s : State) (addr : Nat),
    let fits := addr % 4 = 0 ∧ windowStalls s addr = false
    let live := windowOff s addr = false
    let p := addr / 0x100000 % 16
    fits ∧ live ∧ 0x5000000 ≤ addr ∧ addr < 0x6000000 ∧ windowExists s addr = true ∧ weightActive s p (addr % 0x100000 / 4) = true :=
  ⟨base, 0x520002c, by dsimp only; decide +kernel⟩

theorem witness_WindowAccess_8 : ∃ (s : State) (addr : Nat),
    let fits := addr % 4 = 0 ∧ windowStalls s addr = false
    let live := windowOff s addr = false
    let b := addr / 0x80000 % 16
    fits ∧ live ∧ 0x6000000 ≤ addr ∧ addr < 0x6800000 ∧ addr % 0x80000 < 0x10000 ∧ engineActive s b (addr % 0x80000 / 8) = true :=
  ⟨base, 0x6100020, by dsimp only; decide +kernel⟩

theorem witness_WindowAccess_9 : ∃ (s : State) (addr : Nat),
    let fits := addr % 4 = 0 ∧ windowStalls s addr = false
    let live := windowOff s addr = false
    fits ∧ live ∧ 0x6800000 ≤ addr ∧ addr < 0x8800000 :=
  ⟨base, 0x6900020, by dsimp only; decide +kernel⟩

theorem witness_WindowAccess_10 : ∃ (s : State) (addr : Nat),
    let fits := addr % 4 = 0 ∧ windowStalls s addr = false
    let live := windowOff s addr = false
    fits ∧ live ∧ 0x8800000 ≤ addr ∧ addr < 0x9000000 ∧ tableLocked s addr = true :=
  ⟨base, 0x8800020, by dsimp only; decide +kernel⟩

theorem witness_WindowAccess_11 : ∃ (s : State) (addr : Nat),
    let fits := addr % 4 = 0 ∧ windowStalls s addr = false
    let live := windowOff s addr = false
    fits ∧ live ∧ windowExists s addr = false :=
  ⟨base, 0x9900020, by dsimp only; decide +kernel⟩

theorem witness_WindowAccess_12 : ∃ (s : State) (addr : Nat),
    let fits := addr % 4 = 0 ∧ windowStalls s addr = false
    fits ∧ windowOff s addr = true :=
  ⟨(off 6), 0x400014, by dsimp only; decide +kernel⟩

theorem witness_WindowAccess_13 : ∃ (s : State) (addr : Nat),
    windowStalls s addr = true :=
  ⟨dn, 0x400014, by decide +kernel⟩

theorem witness_WindowAccess_14 : ∃ (s : State) (addr : Nat),
    let goes := windowStalls s addr = false
    goes ∧ addr % 4 ≠ 0 :=
  ⟨base, 0x40000202, by dsimp only; decide +kernel⟩

theorem witness_MemoryAndTransfers_1 : ∃ (s : State) (found : List ScrubFind) (failed : Fin 16) (ch : Fin 4),
    let ready := flagF s F.MEM_DDR_STAT_READY = true
    getF s F.MEM_SCRUB_PERIOD ≠ 0 ∧ (∀ f ∈ found, f.ue = false ∧ f.addr < 0x9000000) ∧ domainOn s 132 = true ∧ failed.val = 0 ∧ ready ∧ (∀ b ∈ tget s.store.recalAt none ch.val, b + 500000 ≤ s.now) ∧ ready ∧ (s.store.running.isSome = true ∨ s.store.stores = [] ∨ flagF s F.PWR_STAT_CORE_WARN = true) :=
  ⟨(ss (fun x => { x with writeback := [(1, 8), (2, 16)] })), [⟨9, false⟩, ⟨0x5000000, false⟩], 0, 2, by dsimp only; decide +kernel⟩

theorem witness_MemoryAndTransfers_2 : ∃ (s : State) (failed : Fin 16) (ch : Fin 4) (c : StoreCmd) (rest : List StoreCmd) (d : Fin 4) (at_ : Nat),
    let ready := flagF s F.MEM_DDR_STAT_READY = true
    let goes := dmaStalls s d = false
    domainOn s 132 = true ∧ failed.val ≠ 0 ∧ ready ∧ tget s.store.recalAt none ch.val = some at_ ∧ s.now < at_ + 500000 ∧ s.store.running = none ∧ s.store.stores = c :: rest ∧ flagF s F.PWR_STAT_CORE_WARN = false ∧ s.store.running = none ∧ (goes ∧ flagF s (F.DMA_STAT_BUSY d) = true ∨ dmaOk s d = false) :=
  ⟨(ss (fun x => { x with recalAt := [(2, some 1999000)], stores := [c0, c0] })), 3, 2, c0, [c0], 1, 1999000, by dsimp only; decide +kernel⟩

theorem witness_MemoryAndTransfers_3 : ∃ (s : State) (d : Fin 4) (dir : Bool) (width speed : Fin 16) (len : Fin 8192),
    let ready := flagF s F.MEM_DDR_STAT_READY = true
    let ctl : Reg := ⟨.DMA_CTRL, d, 0, 0⟩
    let dev := getF s (F.DMA_DEV_VALUE d)
    let one := flagF s (F.DMA_STAT_BUSY d) = false ∧ getF s (F.DMA_HOST_LO_VALUE d) % 4 = 0 ∧ dev % 4 = 0 ∧ getF s (F.DMA_LEN_VALUE d) = 4
    let goes := dmaStalls s d = false
    let busy := flagF s F.MBX_STAT_BUSY = true
    domainOn s 132 = false ∧ ¬ ready ∧ goes ∧ one ∧ dir = true ∧ windowReadErr s dev = none ∧ regPowered s ctl = true ∧ flagF s (F.DMA_STAT_BUSY d) = false ∧ (domainOn s 142 = false ∨ pcieOk width speed = false) ∧ (busy ∨ len.val < 16 ∨ 4096 < len.val) :=
  ⟨(setF (off 132) F.MEM_DDR_STAT_READY 0), 2, true, 7, 5, 10, by dsimp only; decide +kernel⟩

theorem witness_MemoryAndTransfers_4 : ∃ (s : State) (m : Master) (d : Fin 4) (dir : Bool) (width speed : Fin 16) (len : Fin 8192),
    let dev := getF s (F.DMA_DEV_VALUE d)
    let one := flagF s (F.DMA_STAT_BUSY d) = false ∧ getF s (F.DMA_HOST_LO_VALUE d) % 4 = 0 ∧ dev % 4 = 0 ∧ getF s (F.DMA_LEN_VALUE d) = 4
    let goes := dmaStalls s d = false
    let busy := flagF s F.MBX_STAT_BUSY = true
    goes ∧ one ∧ dir = false ∧ windowReject s dev = none ∧ m ≠ .dma ∧ domainOn s 142 = true ∧ pcieOk width speed = true ∧ ¬ busy ∧ 16 ≤ len.val ∧ len.val ≤ 4096 ∧ ¬ busy :=
  ⟨(ss (fun x => { x with writeback := [(1, 8), (2, 16)] })), .pcie, 2, false, 4, 5, 20, by dsimp only; decide +kernel⟩

theorem witness_MemoryAndTransfers_5 : ∃ (s : State) (d : Fin 4),
    let busy := flagF s F.MBX_STAT_BUSY = true
    flagF s (F.DMA_STAT_BUSY d) = true ∧ tget s.host.dma 0 d.val = 0 ∧ busy ∧ s.host.mbx = none :=
  ⟨db, 2, by dsimp only; decide +kernel⟩

theorem witness_MemoryAndTransfers_6 : ∃ (s : State) (d : Fin 4) (r : FeltRsp) (k : Nat × Nat),
    let busy := flagF s F.MBX_STAT_BUSY = true
    flagF s (F.DMA_STAT_BUSY d) = true ∧ tget s.host.dma 0 d.val ≠ 0 ∧ busy ∧ s.host.mbx = some (k.1, k.2, r) :=
  ⟨{ db with host := { db.host with dma := [(2, 6)], mbx := some (5, 6, ⟨3, 0, [1,2,3]⟩) } }, 2, ⟨3, 0, [1,2,3]⟩, (5, 6), by dsimp only; decide +kernel⟩

theorem witness_MemoryAndTransfers_7 : ∃ (s : State),
    getF s F.MEM_SCRUB_PERIOD = 0 :=
  ⟨(setF base F.MEM_SCRUB_PERIOD 0), by decide +kernel⟩

theorem witness_MemoryAndTransfers_8 : ∃ (s : State) (c : StoreCmd),
    s.store.running = some c :=
  ⟨(ss (fun x => { x with running := some c0, stores := [c0, c0], records := [(.boot, some ⟨true, 2^32-1, .empty⟩)] })), c0, by decide +kernel⟩

theorem witness_MemoryAndTransfers_9 : ∃ (s : State) (d : Fin 4),
    dmaStalls s d = true :=
  ⟨(setF dn (F.DMA_DEV_VALUE 2) 0x100), 2, by decide +kernel⟩

end K

namespace L

def se : Session := ⟨5, .eth 1, 9, 2, true, 50, some (6, some ⟨0x96, 0, [4]⟩), 60, 3, [⟨4, 8, 1, 20, 30, 0, 0⟩, ⟨5, 9, 1, 20, 30, 2, 77⟩]⟩

def so : Session := { se with id := 6 }

def base0 : State := st [(F.ETH_STAT_LINK 1, 1), (F.CL_UID_LO_VALUE, 77)]

def base : State := { base0 with now := 2^40, sec := { base0.sec with running := true, keys := [⟨9, 2⟩] }, host := { base0.host with sessions := [so, se], nextId := 40 } }

def H (n : Nat) : FeltHead := ⟨.eth 1, 5, n, true⟩

def hs (f : HostState → HostState) : State := { base with host := f base.host }

def nt : Notify := ⟨4, 8, 1, 20, 30, 0, 0⟩

def R : FeltRsp := ⟨0x96, 0, [4]⟩

def dn : DEntry := dRo (.num 1)

def de (i k : Nat) : DEntry := (dictEntry i k).getD dn

def rd (s : State) (i k : Nat) : List Nat := match dictRead s i k (de i k) with | .ok l => l | .error _ => [7777]

def mb : Session := { se with via := .mailbox }

def mbs (f : HostState → HostState) : State := { setF base F.MBX_STAT_BUSY 1 with host := f { base.host with sessions := [so, mb] } }

def HM (n : Nat) : FeltHead := ⟨.mailbox, 5, n, true⟩

def s1 : Session := { se with priv := 1 }

def s0 : Session := { se with priv := 0 }

def s2 : Session := { se with isOpen := false, asked := 2^40 - 9 }

def s3 : Session := { se with last := none, heard := 2^40-5 }

def nr : State := { base with sec := { base.sec with running := false }, power := { base.power with booting := false } }

theorem witness_FeltRequests_1 : ∃ (s : State) (h : FeltHead) (x : Session) (key index sub off : Nat) (priv : Fin 4) (err : Err) (d : DEntry) (l : List Nat),
    let up := feltArrives s h
    let asks := feltAsks s h x
    let text := d.ty = .str ∨ d.ty = .blob
    let entry := asks ∧ dictEntry index sub = some d
    up ∧ helloErr s h.via priv key = some err ∧ (∀ k ∈ s.sec.keys, k.id ≠ key) ∧ (entry ∧ d.rp ≤ x.priv ∧ text ∨ off = 0 ∧ dictRead s index sub d = .ok l) ∧ asks ∧ dictEntry index sub = none ∧ asks ∧ h.via ≠ .mailbox :=
  ⟨base, (H 7), se, 8, 0x2000, 99, 0, 0, .auth, (de 0x2000 1), (rd base 0x2000 1), by dsimp only; unfold feltAsks feltArrives; decide +kernel⟩

theorem witness_FeltRequests_2 : ∃ (s : State) (h : FeltHead) (x : Session) (key index sub off n : Nat) (priv : Fin 4) (err : Err) (d : DEntry) (last : Bool),
    let up := feltArrives s h
    let asks := feltAsks s h x
    let text := d.ty = .str ∨ d.ty = .blob
    let entry := asks ∧ dictEntry index sub = some d
    let writes := entry ∧ d.acc ≠ .ro ∧ d.wp ≤ x.priv
    let got := tget s.host.partials [] (x.id, index, sub)
    let noted := x.notes.find? (fun y => y.seq == n)
    let mine := sessionOf s (fun y => y.isOpen && y.id == x.id) = some x
    up ∧ helloErr s h.via priv key = none ∧ (entry ∧ d.rp ≤ x.priv ∧ text ∨ off = 0 ∧ dictRead s index sub d = .error err) ∧ writes ∧ text ∧ off = got.length ∧ last = false ∧ asks ∧ (asks ∧ noted = none ∨ (noted.map (·.more)) = some 0 ∧ mine) :=
  ⟨base, (H 7), se, 9, 0x5000, 1, 0, 8, 2, .refused, (de 0x5000 1), false, by dsimp only; unfold feltAsks feltArrives; decide +kernel⟩

theorem witness_FeltRequests_3 : ∃ (s : State) (h : FeltHead) (x : Session) (index sub off n : Nat) (d : DEntry) (w : Notify) (bit : Fin 32),
    let asks := feltAsks s h x
    let text := d.ty = .str ∨ d.ty = .blob
    let entry := asks ∧ dictEntry index sub = some d
    let room := s.store.stores.length < 16
    let noted := x.notes.find? (fun y => y.seq == n)
    let mine := sessionOf s (fun y => y.isOpen && y.id == x.id) = some x
    entry ∧ d.rp ≤ x.priv ∧ ¬ text ∧ off ≠ 0 ∧ entry ∧ d.acc = .ro ∧ asks ∧ noted = some w ∧ w.more ≠ 0 ∧ mine ∧ (feltUp s = false ∨ sessionOf s (fun y => y.isOpen && y.id == n) = none ∨
      sessionOf s (fun y => y.isOpen && y.id == n) = some x ∧ x.notes.find? (fun y => y.n == bit.val && decide (y.sent + 50000000 ≤ s.now)) = none) ∧ feltUp s = true ∧ asks ∧ 2 ≤ x.priv ∧ room :=
  ⟨base, (H 7), se, 0x2000, 1, 2, 9, (de 0x2000 1), ⟨5, 9, 1, 20, 30, 2, 77⟩, 5, by dsimp only; unfold feltAsks feltArrives; decide +kernel⟩

theorem witness_FeltRequests_4 : ∃ (s : State) (h : FeltHead) (index sub off : Nat) (d : DEntry) (l : List Nat),
    let up := feltArrives s h
    let text := d.ty = .str ∨ d.ty = .blob
    up ∧ sessionOf s (fun y => y.id == h.session && y.via == h.via) = none ∧ (up ∧ h.session = 0 ∧ h.via ≠ .mailbox ∨ h.auth = false) ∧ up ∧ h.session = 0 ∧ dictNat s 0x1110 3 0 ≠ 1 ∧ up ∧ h.session = 0 ∧ dictNat s 0x1110 3 0 ≠ 1 ∧ rootWrite s index sub = false ∧ (feltOperator s h ∧ dictEntry index sub = some d ∧ d.rp ≤ 1 ∧ text ∨ off = 0 ∧ dictRead s index sub d = .ok l) ∧ (routeOpen s h.via = true ∧ feltUp s = false ∧ recovering s = false ∨ h.via ≠ .mailbox) :=
  ⟨base, { (H 7) with session := 0 }, 0x2000, 9, 0, dn, [0], by dsimp only; unfold feltOperator feltArrives; decide +kernel⟩

theorem witness_FeltRequests_5 : ∃ (s : State) (h : FeltHead) (x : Session) (n : Nat) (w : Notify) (bit : Fin 32),
    let asks := feltAsks s h x
    let room := s.store.stores.length < 16
    feltUp s = true ∧ sessionOf s (fun y => y.isOpen && y.id == n) = some x ∧ x.notes.find? (fun y => y.n == bit.val && decide (y.sent + 50000000 ≤ s.now)) = some w ∧ asks ∧ 2 ≤ x.priv ∧ room ∧ asks ∧ 2 ≤ x.priv :=
  ⟨base, (H 7), se, 5, nt, 4, by dsimp only; unfold feltAsks feltArrives; decide +kernel⟩

theorem witness_FeltRequests_6 : ∃ (s : State) (h : FeltHead) (x : Session) (index sub : Nat) (d : DEntry),
    let asks := feltAsks s h x
    let entry := asks ∧ dictEntry index sub = some d
    entry ∧ x.priv < d.rp ∧ entry ∧ d.acc ≠ .ro ∧ x.priv < d.wp ∧ asks ∧ x.priv < 2 :=
  ⟨(hs (fun x => { x with sessions := [s1], staged := [⟨5, 2, 3, [4]⟩, ⟨6, 2, 3, [4]⟩] })), (H 7), s1, 0x1220, 2, (de 0x1220 2), by dsimp only; unfold feltAsks feltArrives; decide +kernel⟩

theorem witness_FeltRequests_7 : ∃ (s : State) (h : FeltHead) (x : Session) (sigOk : Bool),
    let up := feltArrives s h
    let attempt := sessionOf s (fun y => y.id == h.session && y.via == h.via) = some x
    up ∧ attempt ∧ x.isOpen = false ∧ openOk s x true = true ∧ up ∧ attempt ∧ x.isOpen = false ∧ openOk s x sigOk = false ∧ (up ∧ h.session ≠ 0 ∧ feltSession s h = none ∨ h.auth = false ∨ (∃ y ∈ feltSession s h, ∃ z ∈ y.last, h.seq < z.1)) :=
  ⟨(hs (fun x => { x with sessions := [s2] })), (H 7), s2, false, by dsimp only; unfold feltArrives; decide +kernel⟩

theorem witness_FeltRequests_8 : ∃ (s : State) (h : FeltHead),
    feltUp s = false ∧ routeOpen s h.via = true ∧ feltUp s = false ∧ recovering s = true ∧ h.via = .mailbox :=
  ⟨(setF (setF nr F.MBX_STAT_BUSY 1) F.SEC_STAT_BOOT_SRC 3), (HM 7), by decide +kernel⟩

theorem witness_FeltRequests_9 : ∃ (s u : State) (h : FeltHead) (x : Session) (index sub off : Nat) (d : DEntry) (stage : Bool) (val : List Nat),
    let asks := feltAsks s h x
    let v := val.map (· % 256)
    let text := d.ty = .str ∨ d.ty = .blob
    let entry := asks ∧ dictEntry index sub = some d
    let writes := entry ∧ d.acc ≠ .ro ∧ d.wp ≤ x.priv
    let whole := writes ∧ ¬ text ∧ off = 0
    whole ∧ valueErr d v = none ∧ stage = false ∧ dictApply s index sub v = (u, none) :=
  ⟨base, (dictApply base 0x2000 3 [5]).1, (H 7), se, 0x2000, 3, 0, (de 0x2000 3), false, [261], by dsimp only; unfold feltAsks feltArrives; decide +kernel⟩

theorem witness_FeltRequests_10 : ∃ (s : State) (h : FeltHead) (x : Session) (index sub off : Nat) (err : Err) (d : DEntry) (val : List Nat),
    let asks := feltAsks s h x
    let v := val.map (· % 256)
    let text := d.ty = .str ∨ d.ty = .blob
    let entry := asks ∧ dictEntry index sub = some d
    let writes := entry ∧ d.acc ≠ .ro ∧ d.wp ≤ x.priv
    let whole := writes ∧ ¬ text ∧ off = 0
    whole ∧ valueErr d v = some err :=
  ⟨base, (H 7), se, 0x2000, 3, 0, .refused, (de 0x2000 3), [200], by dsimp only; unfold feltAsks feltArrives; decide +kernel⟩

theorem witness_FeltRequests_11 : ∃ (s : State) (h : FeltHead) (x : Session) (index sub off : Nat) (d : DEntry),
    let asks := feltAsks s h x
    let text := d.ty = .str ∨ d.ty = .blob
    let entry := asks ∧ dictEntry index sub = some d
    let writes := entry ∧ d.acc ≠ .ro ∧ d.wp ≤ x.priv
    writes ∧ ¬ text ∧ off ≠ 0 :=
  ⟨base, (H 7), se, 0x2000, 3, 1, (de 0x2000 3), by dsimp only; unfold feltAsks feltArrives; decide +kernel⟩

theorem witness_FeltRequests_12 : ∃ (s : State) (h : FeltHead) (x : Session) (index sub off : Nat) (err : Err) (d : DEntry) (stage : Bool) (val : List Nat),
    let asks := feltAsks s h x
    let v := val.map (· % 256)
    let text := d.ty = .str ∨ d.ty = .blob
    let entry := asks ∧ dictEntry index sub = some d
    let writes := entry ∧ d.acc ≠ .ro ∧ d.wp ≤ x.priv
    let whole := writes ∧ ¬ text ∧ off = 0
    whole ∧ valueErr d v = none ∧ stage = false ∧ dictApply s index sub v = (s, some err) :=
  ⟨base, (H 7), se, 0x10F0, 1, 0, .refused, (de 0x10F0 1), false, [20, 3, 4, 5], by dsimp only; unfold feltAsks feltArrives; decide +kernel⟩

theorem witness_FeltRequests_13 : ∃ (s : State) (h : FeltHead) (x : Session) (index sub off : Nat) (d : DEntry) (stage : Bool) (val : List Nat),
    let asks := feltAsks s h x
    let v := val.map (· % 256)
    let text := d.ty = .str ∨ d.ty = .blob
    let entry := asks ∧ dictEntry index sub = some d
    let writes := entry ∧ d.acc ≠ .ro ∧ d.wp ≤ x.priv
    let whole := writes ∧ ¬ text ∧ off = 0
    whole ∧ stage = true ∧ valueErr d v = none ∧ d.stage = false :=
  ⟨base, (H 7), se, 0x2000, 3, 0, (de 0x2000 3), true, [20], by dsimp only; unfold feltAsks feltArrives; decide +kernel⟩

theorem witness_FeltRequests_14 : ∃ (s : State) (h : FeltHead) (x : Session) (index sub off change : Nat) (d : DEntry) (stage : Bool) (val : List Nat),
    let asks := feltAsks s h x
    let v := val.map (· % 256)
    let text := d.ty = .str ∨ d.ty = .blob
    let entry := asks ∧ dictEntry index sub = some d
    let writes := entry ∧ d.acc ≠ .ro ∧ d.wp ≤ x.priv
    let whole := writes ∧ ¬ text ∧ off = 0
    let staged := if s.host.changeId = change then s.host.staged else []
    let bytes := (staged.map (·.value.length)).sum + v.length
    let stages := whole ∧ stage = true ∧ valueErr d v = none ∧ d.stage = true ∧ s.chain.prepared = none
    stages ∧ staged.length < 4096 ∧ bytes ≤ 262144 :=
  ⟨base, (H 7), se, 0x4000, 2, 0, 7, (de 0x4000 2), true, [20, 1], by dsimp only; unfold feltAsks feltArrives; decide +kernel⟩

theorem witness_FeltRequests_15 : ∃ (s : State) (h : FeltHead) (x : Session) (index sub off change : Nat) (d : DEntry) (stage : Bool) (val : List Nat),
    let asks := feltAsks s h x
    let v := val.map (· % 256)
    let text := d.ty = .str ∨ d.ty = .blob
    let entry := asks ∧ dictEntry index sub = some d
    let writes := entry ∧ d.acc ≠ .ro ∧ d.wp ≤ x.priv
    let whole := writes ∧ ¬ text ∧ off = 0
    let staged := if s.host.changeId = change then s.host.staged else []
    let bytes := (staged.map (·.value.length)).sum + v.length
    let stages := whole ∧ stage = true ∧ valueErr d v = none ∧ d.stage = true ∧ s.chain.prepared = none
    stages ∧ 4096 ≤ staged.length ∨ 262144 < bytes :=
  ⟨(hs (fun x => { x with changeId := 7, staged := List.replicate 4096 ⟨5, 2, 3, [4]⟩ })), (H 7), se, 0x4000, 2, 0, 7, (de 0x4000 2), true, [20, 1], by dsimp only; unfold feltAsks feltArrives; decide +kernel⟩

theorem witness_FeltRequests_16 : ∃ (s : State) (h : FeltHead) (x : Session) (index sub off : Nat) (d : DEntry) (stage : Bool) (val : List Nat),
    let asks := feltAsks s h x
    let v := val.map (· % 256)
    let text := d.ty = .str ∨ d.ty = .blob
    let entry := asks ∧ dictEntry index sub = some d
    let writes := entry ∧ d.acc ≠ .ro ∧ d.wp ≤ x.priv
    let whole := writes ∧ ¬ text ∧ off = 0
    whole ∧ stage = true ∧ valueErr d v = none ∧ d.stage = true ∧ s.chain.prepared.isSome = true :=
  ⟨{ base with chain := { base.chain with prepared := some 3 } }, (H 7), se, 0x4000, 2, 0, (de 0x4000 2), true, [20, 1], by dsimp only; unfold feltAsks feltArrives; decide +kernel⟩

theorem witness_FeltRequests_17 : ∃ (s : State) (h : FeltHead) (x : Session) (index sub off : Nat) (d : DEntry),
    let asks := feltAsks s h x
    let text := d.ty = .str ∨ d.ty = .blob
    let entry := asks ∧ dictEntry index sub = some d
    let writes := entry ∧ d.acc ≠ .ro ∧ d.wp ≤ x.priv
    let got := tget s.host.partials [] (x.id, index, sub)
    writes ∧ text ∧ off ≠ got.length :=
  ⟨base, (H 7), se, 0x5000, 1, 4, (de 0x5000 1), by dsimp only; unfold feltAsks feltArrives; decide +kernel⟩

theorem witness_FeltRequests_18 : ∃ (s : State) (h : FeltHead) (x : Session) (r : FeltRsp),
    let up := feltArrives s h
    up ∧ h.session ≠ 0 ∧ h.auth = true ∧ feltSession s h = some x ∧ x.last = some (h.seq, some r) :=
  ⟨base, (H 6), se, R, by dsimp only; unfold feltArrives; decide +kernel⟩

theorem witness_FeltRequests_19 : ∃ (s : State) (h : FeltHead) (x : Session) (seq : Nat) (r : FeltRsp),
    let up := feltArrives s h
    let attempt := sessionOf s (fun y => y.id == h.session && y.via == h.via) = some x
    up ∧ attempt ∧ x.isOpen = true ∧ x.last = some (seq, some r) :=
  ⟨base, (H 7), se, 6, R, by dsimp only; unfold feltArrives; decide +kernel⟩

theorem witness_FeltRequests_20 : ∃ (s : State) (h : FeltHead) (x : Session),
    let asks := feltAsks s h x
    let full := 16 ≤ s.store.stores.length
    asks ∧ 2 ≤ x.priv ∧ full :=
  ⟨{ (hs (fun x => { x with sessions := [s3] })) with store := { base.store with stores := (List.range 16).map (fun _ => ⟨.boot, .empty⟩) } }, (H 0), s3, by dsimp only; unfold feltAsks feltArrives; decide +kernel⟩

theorem witness_FeltRequests_21 : ∃ (s : State) (h : FeltHead) (x : Session),
    let asks := feltAsks s h x
    asks ∧ h.via = .mailbox :=
  ⟨(mbs id), (HM 7), mb, by dsimp only; unfold feltAsks feltArrives; decide +kernel⟩

theorem witness_FeltRequests_22 : ∃ (s u : State) (h : FeltHead) (index sub off : Nat) (d : DEntry) (stage : Bool) (val : List Nat),
    let v := val.map (· % 256)
    let text := d.ty = .str ∨ d.ty = .blob
    feltOperator s h ∧ dictEntry index sub = some d ∧ d.acc ≠ .ro ∧ d.wp ≤ 1 ∧ ¬ text ∧ off = 0 ∧ valueErr d v = none ∧ stage = false ∧ dictApply s index sub v = (u, none) :=
  ⟨(mbs (fun x => { x with dict := [((0x1110, 3), some 1)] })), (dictApply (mbs (fun x => { x with dict := [((0x1110, 3), some 1)] })) 0x4000 2 [5,0]).1, { HM 7 with session := 0 }, 0x4000, 2, 0, (de 0x4000 2), false, [5, 0], by dsimp only; unfold feltOperator feltArrives; decide +kernel⟩

theorem witness_FeltRequests_23 : ∃ (s : State) (h : FeltHead),
    routeOpen s h.via = false :=
  ⟨base, (HM 7), by decide +kernel⟩

theorem witness_FeltRequests_24 : ∃ (s u : State) (h : FeltHead) (x : Session) (index sub off : Nat) (d : DEntry) (stage last : Bool) (val : List Nat),
    let asks := feltAsks s h x
    let v := val.map (· % 256)
    let text := d.ty = .str ∨ d.ty = .blob
    let entry := asks ∧ dictEntry index sub = some d
    let writes := entry ∧ d.acc ≠ .ro ∧ d.wp ≤ x.priv
    let got := tget s.host.partials [] (x.id, index, sub)
    writes ∧ text ∧ off = got.length ∧ last = true ∧ stage = false ∧ valueErr d (got ++ v) = none ∧ dictApply (setPartial s x.id index sub []) index sub (got ++ v) = (u, none) :=
  ⟨(hs (fun x => { x with partials := [((5, 0x5000, 1), [1, 2])] })), (dictApply (setPartial (hs (fun x => { x with partials := [((5, 0x5000, 1), [1, 2])] })) 5 0x5000 1 []) 0x5000 1 [1, 2, 3]).1, (H 7), se, 0x5000, 1, 2, (de 0x5000 1), false, true, [3], by dsimp only; unfold feltAsks feltArrives; decide +kernel⟩

end L

namespace M

def se : Session := ⟨5, .eth 1, 9, 2, true, 50, some (6, some ⟨0x96, 0, [4]⟩), 60, 3, []⟩

def so : Session := { se with id := 6, key := 4 }

def base0 : State := st [(F.ETH_STAT_LINK 1, 1), (F.CL_UID_LO_VALUE, 77)]

def base : State := { base0 with now := 2^40, sec := { base0.sec with running := true, keys := [⟨9, 2⟩, ⟨4, 2⟩] }, host := { base0.host with sessions := [so, se], nextId := 40, staged := [⟨6, 1, 1, [3]⟩, ⟨5, 1, 1, [3]⟩] } }

def sc (f : SecState → SecState) : State := { base with sec := f base.sec }

def H (n : Nat) : FeltHead := ⟨.eth 1, 5, n, true⟩

def HM (n : Nat) : FeltHead := ⟨.mailbox, 5, n, true⟩

def H0 : FeltHead := ⟨.mailbox, 0, 7, true⟩

def mb : Session := { se with via := .mailbox }

def mbs (f : HostState → HostState) (g : SecState → SecState) : State := { setF base F.MBX_STAT_BUSY 1 with host := f { base.host with sessions := [so, mb] }, sec := g base.sec }

def cu : SignedObj := ⟨.customer, true, true, 5⟩

def ve : SignedObj := ⟨.vendor, true, true, 5⟩

def mo : List Nat := (List.range 512).map (fun _ => 3)

def no : List Nat := (List.range 32)

def R : FeltRsp := ⟨0x96, 0, [4]⟩

def CS : List ScanCell := [⟨.digital, 4, true⟩, ⟨.drive, 5, true⟩]

def opr (x : HostState) : HostState := { x with dict := [((0x1110, 3), some 1)] }

def s1 : Session := { se with priv := 1 }

def s0 : Session := { se with priv := 0 }

def rc0 : State := setF (setF (setF base F.SEC_STAT_BOOT_SRC 3) F.MBX_STAT_BUSY 1) F.PWR_STAT_RGOOD 15

def rc : State := { rc0 with sec := { base.sec with running := false }, host := { base.host with mbx := none }, power := { rc0.power with booting := false } }

def pb : State := { st [(F.CHIP_PERS_ACTIVE, 1), (F.PMB_CFG_EN, 1), (F.PMB_ENT_A_EN 3, 1), (F.PMB_ENT_A_ORDER 3, 2), (F.PMB_ENT_A_EN 5, 1), (F.PMB_ENT_A_ORDER 5, 1), (F.PMB_ENT_A_WIN 3, 5), (F.PMB_ENT_A_ADDR 3, 33), (F.PMB_ENT_A_ADDR 5, 35), (F.PMB_ENT_A_PAGE 5, 2), (F.PMB_ENT_B_DELAY 3, 9), (F.PMB_ENT_B_TMO 3, 2), (F.PMB_CFG_PERIOD, 3)] with now := 2000000, time := { State.reset.time with started := true } }

def pbv (x : PmbSeq) : State := { pb with host := { pb.host with pmb := some x, vcmd := [(3, 1000)] } }

def ups (n : Nat) (s : State) : State := setF s F.PMB_STAT_UP n

def L : List PmbStatus := [⟨3, none⟩]

def W : List (Fin 16 × PmbRead) := [(3, .failed)]

def X : PmbSeq := ⟨true, 3, 5, true, 2, none⟩

def Y : PmbSeq := ⟨true, 3, 5, false, 0, none⟩

def D : PmbSeq := ⟨false, 3, 5, false, 0, none⟩

theorem witness_Security_1 : ∃ (s : State) (h : FeltHead) (x : Session) (modulus nonce : List Nat) (id : Nat),
    let asks := feltAsks s h x
    let trusted := asks ∧ 2 ≤ x.priv
    let knows := asks ∧ 1 ≤ x.priv
    let store := keysClosed s = false ∧ s.sec.zeroized = false
    asks ∧ rootEmpty s = true ∧ modulus.length = 512 ∧ trusted ∧ store ∧ (trusted ∧ (∃ k ∈ s.sec.keys, k.id = id)) ∧ trusted ∧ knows ∧ store ∧ nonce.length = 32 :=
  ⟨base, (H 7), se, mo, no, 4, by dsimp only; unfold feltAsks feltArrives; decide +kernel⟩

theorem witness_Security_2 : ∃ (s : State) (h : FeltHead) (x : Session) (id : Nat) (l : List Nat),
    let asks := feltAsks s h x
    let trusted := asks ∧ 2 ≤ x.priv
    let knows := asks ∧ 1 ≤ x.priv
    let store := keysClosed s = false ∧ s.sec.zeroized = false
    let others := s.sec.keys.filter (fun y => y.id != id)
    let waits := s.store.stores.length < 16
    let alive := debugUp s = true
    asks ∧ rootEmpty s = false ∧ trusted ∧ store ∧ others.length < 32 ∧ trusted ∧ (∀ k ∈ s.sec.keys, k.id ≠ id) ∧ trusted ∧ waits ∧ knows ∧ s.sec.quote = some l ∧ alive ∧ s.sec.lockUntil ≤ s.now :=
  ⟨(sc (fun x => { x with rootProv := true, quote := some [1,2,3], nonce := some 3, fuse := 5 })), (H 7), se, 20, [1,2,3], by dsimp only; unfold feltAsks feltArrives; decide +kernel⟩

theorem witness_Security_3 : ∃ (s : State) (h : FeltHead) (x : Session),
    let asks := feltAsks s h x
    let trusted := asks ∧ 2 ≤ x.priv
    let knows := asks ∧ 1 ≤ x.priv
    let store := keysClosed s = false ∧ s.sec.zeroized = false
    let alive := debugUp s = true
    trusted ∧ ¬ store ∧ knows ∧ ¬ store ∧ knows ∧ s.sec.quote = none ∧ (¬ alive ∨ s.now < s.sec.lockUntil) ∧ s.power.inReset = false ∧ alive :=
  ⟨(sc (fun x => { x with zeroized := true, lockUntil := 2^50, preferred := .b })), (H 7), se, by dsimp only; unfold feltAsks feltArrives; decide +kernel⟩

theorem witness_Security_4 : ∃ (s : State) (h : FeltHead) (nonce : List Nat) (l : List Nat),
    let store := keysClosed s = false ∧ s.sec.zeroized = false
    let rom := routeOpen s .mailbox = true ∧ recovering s = true ∧ domainOn s 128 = true
    feltOperator s h ∧ rootEmpty s = false ∧ feltOperator s h ∧ store ∧ nonce.length = 32 ∧ feltOperator s h ∧ s.sec.quote = some l ∧ feltOperator s h ∧ ¬ rom ∧ s.power.loftOn = true :=
  ⟨(mbs opr (fun x => { x with rootRevoked := true, quote := some [1,2,3] })), H0, no, [1,2,3], by dsimp only; unfold feltOperator feltArrives; decide +kernel⟩

theorem witness_Security_5 : ∃ (s : State) (h : FeltHead) (x : Session) (modulus nonce : List Nat),
    let asks := feltAsks s h x
    let knows := asks ∧ 1 ≤ x.priv
    let store := keysClosed s = false ∧ s.sec.zeroized = false
    asks ∧ rootEmpty s = true ∧ modulus.length ≠ 512 ∧ knows ∧ store ∧ nonce.length ≠ 32 :=
  ⟨base, (H 7), se, [3], [300], by dsimp only; unfold feltAsks feltArrives; decide +kernel⟩

theorem witness_Security_6 : ∃ (s : State) (h : FeltHead) (x : Session) (id : Nat),
    let asks := feltAsks s h x
    let trusted := asks ∧ 2 ≤ x.priv
    let store := keysClosed s = false ∧ s.sec.zeroized = false
    let others := s.sec.keys.filter (fun y => y.id != id)
    let alive := debugUp s = true
    trusted ∧ store ∧ 32 ≤ others.length ∧ alive :=
  ⟨(sc (fun x => { x with rootProv := true, keys := (List.range 32).map (fun k => ⟨k+50, 1⟩), nonce := some 3 })), (H 7), se, 4, by dsimp only; unfold feltAsks feltArrives; decide +kernel⟩

theorem witness_Security_7 : ∃ (s : State),
    let alive := debugUp s = true
    s.power.inReset = true ∧ ¬ alive :=
  ⟨{ base with power := { base.power with inReset := true } }, by dsimp only; decide +kernel⟩

theorem witness_Security_8 : ∃ (s : State) (h : FeltHead) (x : Session),
    let asks := feltAsks s h x
    let trusted := asks ∧ 2 ≤ x.priv
    let waits := s.store.stores.length < 16
    trusted ∧ ¬ waits ∧ s.power.loftOn = false :=
  ⟨{ base with power := { base.power with loftOn := false }, store := { base.store with stores := (List.range 16).map (fun _ => ⟨.boot, .empty⟩) } }, (H 7), se, by dsimp only; unfold feltAsks feltArrives; decide +kernel⟩

theorem witness_Security_9 : ∃ (s : State) (h : FeltHead) (x : Session),
    let asks := feltAsks s h x
    asks ∧ x.priv < 2 ∧ asks ∧ x.priv < 1 :=
  ⟨{ (sc (fun x => { x with trial := true, fuse := 130 })) with host := { base.host with sessions := [s0] } }, (H 7), s0, by dsimp only; unfold feltAsks feltArrives; decide +kernel⟩

theorem witness_Security_10 : ∃ (s : State) (h : FeltHead),
    let up := feltArrives s h
    (up ∧ h.session = 0 ∧ h.via ≠ .mailbox ∨ h.auth = false) ∧ up ∧ h.session = 0 ∧ dictNat s 0x1110 3 0 ≠ 1 :=
  ⟨base, { H 7 with session := 0 }, by dsimp only; unfold feltArrives; decide +kernel⟩

theorem witness_Security_11 : ∃ (s : State) (h : FeltHead) (x : Session) (r : FeltRsp),
    let up := feltArrives s h
    up ∧ h.session ≠ 0 ∧ h.auth = true ∧ feltSession s h = some x ∧ x.last = some (h.seq, some r) :=
  ⟨base, (H 6), se, R, by dsimp only; unfold feltArrives; decide +kernel⟩

theorem witness_Security_12 : ∃ (s : State) (h : FeltHead),
    let up := feltArrives s h
    up ∧ h.session ≠ 0 ∧ feltSession s h = none ∨ h.auth = false ∨ (∃ y ∈ feltSession s h, ∃ z ∈ y.last, h.seq < z.1) :=
  ⟨base, (H 5), by dsimp only; unfold feltArrives; decide +kernel⟩

theorem witness_Security_13 : ∃ (s : State) (h : FeltHead) (modulus : List Nat),
    let up := feltArrives s h
    up ∧ h.session = 0 ∧ h.via = .mailbox ∧ h.auth = true ∧ rootEmpty s = true ∧ modulus.length = 512 :=
  ⟨(mbs id id), H0, mo, by dsimp only; unfold feltArrives; decide +kernel⟩

theorem witness_Security_14 : ∃ (s : State) (h : FeltHead) (modulus : List Nat),
    let up := feltArrives s h
    up ∧ h.session = 0 ∧ h.via = .mailbox ∧ h.auth = true ∧ rootEmpty s = true ∧ modulus.length ≠ 512 :=
  ⟨(mbs id id), H0, [4], by dsimp only; unfold feltArrives; decide +kernel⟩

theorem witness_Security_15 : ∃ (s : State) (h : FeltHead),
    let up := feltArrives s h
    up ∧ h.session = 0 ∧ dictNat s 0x1110 3 0 ≠ 1 ∧ rootEmpty s = false :=
  ⟨(mbs id (fun x => { x with rootRevoked := true })), H0, by dsimp only; unfold feltArrives; decide +kernel⟩

theorem witness_Security_16 : ∃ (s : State),
    let rom := routeOpen s .mailbox = true ∧ recovering s = true ∧ domainOn s 128 = true
    rom :=
  ⟨rc, by dsimp only; decide +kernel⟩

theorem witness_Security_17 : ∃ (s : State),
    let rom := routeOpen s .mailbox = true ∧ recovering s = true ∧ domainOn s 128 = true
    rom :=
  ⟨rc, by dsimp only; decide +kernel⟩

theorem witness_PowerConverters_1 : ∃ (s : State) (e : Nat) (x : PmbSeq) (v : Nat) (n : Fin 16) (st : Nat) (tick : Nat),
    let reg : Reg := ⟨.PMB_CMD, 0, 0, 0⟩
    let up := regPowered s reg = true ∧ accessStalls s reg = false
    let on := pmbOn s = true
    let late := x.since + 500000 * max 1 (getF s (F.PMB_ENT_B_TMO x.entry)) ≤ s.now ∨ s.time.started = false
    let due := s.host.round + 500000 * max 1 (getF s F.PMB_CFG_PERIOD) ≤ s.now ∨ s.time.started = false
    let watched := on ∧ due ∧ pmbIsUp s n = true
    let wrong := pmbStatusBad st = true ∨ pmbInWindow s n v = false
    up ∧ on ∧ pmbNext s false = some e ∧ on ∧ pmbNext s true = none ∧ (s.host.pmb = none ∨ s.host.pmb = some x ∧ x.delay ≠ none) ∧ (s.host.pmb = none ∨ s.host.pmb = some x ∧ (x.delay ≠ none ∨ ¬ late)) ∧ (s.host.pmb = none ∨ s.host.pmb = some x ∧ (x.delay = none ∨ x.delay = some tick ∧ s.now < tick ∧ s.time.started = true)) ∧ watched ∧ ¬ wrong :=
  ⟨(ups 0x28 { pb with host := { pb.host with vcmd := [(3, 1000)] } }), 3, X, 1010, 3, 0, 5, by dsimp only; decide +kernel⟩

theorem witness_PowerConverters_2 : ∃ (s : State) (e : Nat) (x : PmbSeq) (v : Nat) (n : Fin 16),
    let reg : Reg := ⟨.PMB_CMD, 0, 0, 0⟩
    let up := regPowered s reg = true ∧ accessStalls s reg = false
    let on := pmbOn s = true
    let seq := s.host.pmb = some x ∧ x.delay = none ∧ x.entry < 16
    let late := x.since + 500000 * max 1 (getF s (F.PMB_ENT_B_TMO x.entry)) ≤ s.now ∨ s.time.started = false
    let due := s.host.round + 500000 * max 1 (getF s F.PMB_CFG_PERIOD) ≤ s.now ∨ s.time.started = false
    up ∧ on ∧ pmbNext s true = some e ∧ on ∧ pmbNext s false = none ∧ seq ∧ x.up = true ∧ x.begun = true ∧ pmbInWindow s x.entry v = true ∧ seq ∧ x.up = true ∧ x.begun = true ∧ seq ∧ late ∧ x.up = true ∧ on ∧ due ∧ pmbIsUp s n = false :=
  ⟨(pbv X), 5, X, 1010, 3, by dsimp only; decide +kernel⟩

theorem witness_PowerConverters_3 : ∃ (s : State) (x : PmbSeq) (c v : Nat) (n : Fin 16) (st : Nat),
    let on := pmbOn s = true
    let seq := s.host.pmb = some x ∧ x.delay = none ∧ x.entry < 16
    let known := { s with host := { s.host with vcmd := tset s.host.vcmd x.entry c } }
    let more := if pmbInWindow known x.entry v = true then x.good + 1 else 0
    let act := getF s (F.PMB_ENT_A_ACTION n)
    let falls := flagF s F.PMB_STAT_SALERT = false
    seq ∧ x.up = true ∧ x.begun = false ∧ more < 3 ∧ seq ∧ x.up = true ∧ x.begun = false ∧ on ∧ falls ∧ pmbEntryOn s n = true ∧ pmbStatusBad st = false ∧ on ∧ falls ∧ pmbEntryOn s n = true ∧ act ≠ 1 ∧ act ≠ 2 :=
  ⟨(ups 0x20 (pbv Y)), Y, 1000, 1110, 3, 0, by dsimp only; decide +kernel⟩

theorem witness_PowerConverters_4 : ∃ (s : State) (x : PmbSeq) (v : Nat) (n : Fin 16) (st : Nat),
    let on := pmbOn s = true
    let seq := s.host.pmb = some x ∧ x.delay = none ∧ x.entry < 16
    let late := x.since + 500000 * max 1 (getF s (F.PMB_ENT_B_TMO x.entry)) ≤ s.now ∨ s.time.started = false
    let due := s.host.round + 500000 * max 1 (getF s F.PMB_CFG_PERIOD) ≤ s.now ∨ s.time.started = false
    let watched := on ∧ due ∧ pmbIsUp s n = true
    let wrong := pmbStatusBad st = true ∨ pmbInWindow s n v = false
    let act := getF s (F.PMB_ENT_A_ACTION n)
    seq ∧ x.up = false ∧ tget s.host.vcmd 0 x.entry ≤ 10 * v ∧ seq ∧ x.up = false ∧ seq ∧ late ∧ x.up = false ∧ watched ∧ wrong ∧ act = 1 ∧ s.host.pmb.map (·.up) = some false :=
  ⟨(setF (ups 0x28 { pb with host := { pb.host with vcmd := [(3, 1000)], pmb := some { X with up := false } } }) (F.PMB_ENT_A_ACTION 3) 1), { X with up := false }, 1010, 3, 0x180, by dsimp only; decide +kernel⟩

theorem witness_PowerConverters_5 : ∃ (s : State),
    let on := pmbOn s = true
    let due := s.host.round + 500000 * max 1 (getF s F.PMB_CFG_PERIOD) ≤ s.now ∨ s.time.started = false
    let inForce := flagF s F.CHIP_PERS_ACTIVE = true
    let falls := flagF s F.PMB_STAT_SALERT = false
    ¬ on ∧ (¬ on ∨ ¬ due) ∧ inForce ∧ falls ∧ ¬ on :=
  ⟨(setF pb F.PMB_CFG_EN 0), by dsimp only; decide +kernel⟩

theorem witness_PowerConverters_6 : ∃ (s : State) (v : Nat) (n : Fin 16) (st : Nat),
    let on := pmbOn s = true
    let due := s.host.round + 500000 * max 1 (getF s F.PMB_CFG_PERIOD) ≤ s.now ∨ s.time.started = false
    let watched := on ∧ due ∧ pmbIsUp s n = true
    let wrong := pmbStatusBad st = true ∨ pmbInWindow s n v = false
    let act := getF s (F.PMB_ENT_A_ACTION n)
    let falls := flagF s F.PMB_STAT_SALERT = false
    watched ∧ wrong ∧ act ≠ 1 ∧ act ≠ 2 ∧ watched ∧ act ≠ 1 ∧ act ≠ 2 ∧ on ∧ falls ∧ pmbEntryOn s n = true ∧ pmbStatusBad st = true ∧ act ≠ 1 ∧ act ≠ 2 :=
  ⟨(ups 0x28 { pb with host := { pb.host with vcmd := [(3, 1000)] } }), 1010, 3, 0x180, by dsimp only; decide +kernel⟩

theorem witness_PowerConverters_7 : ∃ (s : State) (low : Bool),
    let inForce := flagF s F.CHIP_PERS_ACTIVE = true
    let falls := flagF s F.PMB_STAT_SALERT = false
    inForce ∧ ¬ falls ∨ low = false :=
  ⟨(ups 0x28 { pb with host := { pb.host with vcmd := [(3, 1000)] } }), false, by dsimp only; decide +kernel⟩

theorem witness_PowerConverters_8 : ∃ (s : State) (e : Nat) (v : Nat) (n : Fin 16) (st : Nat),
    let on := pmbOn s = true
    let due := s.host.round + 500000 * max 1 (getF s F.PMB_CFG_PERIOD) ≤ s.now ∨ s.time.started = false
    let watched := on ∧ due ∧ pmbIsUp s n = true
    let wrong := pmbStatusBad st = true ∨ pmbInWindow s n v = false
    let act := getF s (F.PMB_ENT_A_ACTION n)
    watched ∧ wrong ∧ act = 1 ∧ s.host.pmb.map (·.up) ≠ some false ∧ pmbNext s false = some e :=
  ⟨(setF (ups 0x28 { pb with host := { pb.host with vcmd := [(3, 1000)] } }) (F.PMB_ENT_A_ACTION 3) 1), 3, 1010, 3, 0x180, by dsimp only; decide +kernel⟩

theorem witness_PowerConverters_9 : ∃ (s : State) (v : Nat) (n : Fin 16) (st : Nat),
    let on := pmbOn s = true
    let due := s.host.round + 500000 * max 1 (getF s F.PMB_CFG_PERIOD) ≤ s.now ∨ s.time.started = false
    let watched := on ∧ due ∧ pmbIsUp s n = true
    let wrong := pmbStatusBad st = true ∨ pmbInWindow s n v = false
    let act := getF s (F.PMB_ENT_A_ACTION n)
    watched ∧ wrong ∧ act = 2 :=
  ⟨(setF (ups 0x28 { pb with host := { pb.host with vcmd := [(3, 1000)] } }) (F.PMB_ENT_A_ACTION 3) 2), 1010, 3, 0x180, by dsimp only; decide +kernel⟩

theorem witness_PowerConverters_10 : ∃ (s : State),
    let inForce := flagF s F.CHIP_PERS_ACTIVE = true
    ¬ inForce :=
  ⟨(setF pb F.CHIP_PERS_ACTIVE 0), by dsimp only; decide +kernel⟩

theorem witness_PowerConverters_11 : ∃ (s : State) (n : Fin 16),
    let on := pmbOn s = true
    let falls := flagF s F.PMB_STAT_SALERT = false
    on ∧ falls ∧ pmbEntryOn s n = false :=
  ⟨(setF pb (F.PMB_ENT_A_EN 3) 0), 3, by dsimp only; decide +kernel⟩

theorem witness_PowerConverters_12 : ∃ (s : State) (x : PmbSeq) (v : Nat),
    let seq := s.host.pmb = some x ∧ x.delay = none ∧ x.entry < 16
    seq ∧ x.up = true ∧ x.begun = true ∧ pmbInWindow s x.entry v = true :=
  ⟨(pbv { X with good := 1 }), { X with good := 1 }, 1010, by dsimp only; decide +kernel⟩

theorem witness_PowerConverters_13 : ∃ (s : State) (x : PmbSeq) (v : Nat),
    let seq := s.host.pmb = some x ∧ x.delay = none ∧ x.entry < 16
    seq ∧ x.up = true ∧ x.begun = true ∧ pmbInWindow s x.entry v = false :=
  ⟨(pbv X), X, 1110, by dsimp only; decide +kernel⟩

theorem witness_PowerConverters_14 : ∃ (s : State) (x : PmbSeq) (c v : Nat),
    let seq := s.host.pmb = some x ∧ x.delay = none ∧ x.entry < 16
    let known := { s with host := { s.host with vcmd := tset s.host.vcmd x.entry c } }
    let more := if pmbInWindow known x.entry v = true then x.good + 1 else 0
    seq ∧ x.up = true ∧ x.begun = false ∧ 3 ≤ more :=
  ⟨(ups 0x20 (pbv { Y with good := 2 })), { Y with good := 2 }, 1000, 1000, by dsimp only; decide +kernel⟩

theorem witness_PowerConverters_15 : ∃ (s : State) (x : PmbSeq) (v : Nat),
    let seq := s.host.pmb = some x ∧ x.delay = none ∧ x.entry < 16
    seq ∧ x.up = false ∧ 10 * v < tget s.host.vcmd 0 x.entry :=
  ⟨(pbv D), D, 50, by dsimp only; decide +kernel⟩

theorem witness_PowerConverters_16 : ∃ (s : State) (e : Nat) (x : PmbSeq) (tick : Nat),
    let waited := s.host.pmb = some x ∧ x.delay = some tick ∧ (tick ≤ s.now ∨ s.time.started = false)
    waited ∧ pmbNext s x.up = some e :=
  ⟨(ups 0x20 (pbv ⟨true, 5, 5, true, 2, some 50⟩)), 3, ⟨true, 5, 5, true, 2, some 50⟩, 50, by dsimp only; decide +kernel⟩

theorem witness_PowerConverters_17 : ∃ (s : State) (x : PmbSeq) (tick : Nat),
    let waited := s.host.pmb = some x ∧ x.delay = some tick ∧ (tick ≤ s.now ∨ s.time.started = false)
    waited ∧ pmbNext s x.up = none :=
  ⟨(ups 0x0 (pbv ⟨false, 5, 5, true, 2, some 50⟩)), ⟨false, 5, 5, true, 2, some 50⟩, 50, by dsimp only; decide +kernel⟩

end M

namespace N

def base0 : State := { st [(F.SZ_Q_CFG_EN 2, 1), (F.FLX_CFG_EN 2 5, 1), (F.SZ_Q_CFG_PRESS_SEC 2, 3), (F.SZ_Q_CFG_LINE_EN 2, 1), (F.SZ_CTRL_AUTO, 1), (F.SZ_CTRL_DT, 2), (F.DRV_CFG_EN 2 1, 1), (F.ETH_STAT_LINK 1, 1)] with now := 2000000, time := { State.reset.time with started := true } }

def se : Session := ⟨5, .eth 1, 9, 2, true, 50, some (6, some ⟨0x96, 0, [4]⟩), 60, 3, []⟩

def base : State := { base0 with sec := { base0.sec with running := true }, host := { base0.host with sessions := [se] } }

def hh : FeltHead := ⟨.eth 1, 5, 7, true⟩

def cu : SignedObj := ⟨.customer, true, true, 5⟩

def ve : SignedObj := ⟨.vendor, true, true, 5⟩

def zs (s : State) (f : Sizing → Sizing) : State := setSz s 2 (f (szOf base 2))

def z (f : Sizing → Sizing) : State := zs base f

def nidle (s : State) : State := setF s (F.THR_STAT_STATE 2 1) 2

def vv : SzValue := ⟨.trim 1, 300, 0, 5, 7⟩

def v2 : SzValue := ⟨.trim 1, 30, 0, 5, 7⟩

def xg (c : Int) : SzValue := ⟨.xgain 5, c, 0, 0, 0⟩

def pp : List SzPoint := [⟨500, [v2]⟩]

def ff : List (SzPoint × List Nat) := [(⟨500, [v2]⟩, [2])]

def R : FeltRsp := ⟨0x96, 0, [4]⟩

def full (s : State) : State := { s with store := { s.store with stores := (List.range 16).map (fun _ => ⟨.boot, .empty⟩) } }

def dom : State := on base

def nofree (s : State) : State := (List.range 4).foldl (fun s u => setF s (F.CAP_STAT_STATE u) 2) s

def noline : State := setF dom (F.SZ_Q_CFG_LINE_EN 2) 0

def s1 : Session := { se with priv := 1 }

theorem witness_Sizing_1 : ∃ (s : State) (q : Fin 16) (ch : Fin 32) (v e : Int),
    let z := szOf s q
    let on := flagF s (F.SZ_Q_CFG_EN q) = true
    let press := ch.val < 24 ∧ flagF s (F.FLX_CFG_EN q ch) = true ∧ getF s (F.SZ_Q_CFG_PRESS_SEC q) ≠ 0 ∧ flagF s (F.SZ_Q_CFG_LINE_EN q) = true
    let fits := -32768 ≤ v ∧ v < 32768
    let drifts := flagF s F.SZ_CTRL_AUTO = true ∧ szDt s < ((v - getS s (F.SZ_Q_TEMP_LAST q)).natAbs : Int)
    let near := z.evalAt = some e ∧ (v - e).natAbs < 8
    szBusy z = false ∧ on ∧ press ∧ z.wanted = none ∧ z.active = false ∧ (on ∧ fits ∧ ¬ drifts ∨ szBusy z = true ∧ near) :=
  ⟨(nidle (setF base F.SZ_CTRL_AUTO 0)), 2, 5, 100, 103, by dsimp only; decide +kernel⟩

theorem witness_Sizing_2 : ∃ (s : State) (q : Fin 16) (ch : Fin 32) (v e : Int) (p : Nat) (rest : List Nat) (u : Nat),
    let z := szOf s q
    let on := flagF s (F.SZ_Q_CFG_EN q) = true
    let idle := quireIdle s q = true
    let press := ch.val < 24 ∧ flagF s (F.FLX_CFG_EN q ch) = true ∧ getF s (F.SZ_Q_CFG_PRESS_SEC q) ≠ 0 ∧ flagF s (F.SZ_Q_CFG_LINE_EN q) = true
    let region := (List.range 4).map (· + 4 * (q.val / 4))
    let may := szReady s q = true ∧ flagF s F.PWR_STAT_CORE_WARN = false ∧ (tget s.power.vatman 0 (q.val / 4)) % 2 = 0 ∧
      region.all (fun k => !(szOf s k).active && (decide (q.val ≤ k) || !szReady s k)) = true
    let left := fun (l : List Nat) => l.dropWhile (fun k => !procActs s q k)
    let fits := -32768 ≤ v ∧ v < 32768
    let drifts := flagF s F.SZ_CTRL_AUTO = true ∧ szDt s < ((v - getS s (F.SZ_Q_TEMP_LAST q)).natAbs : Int)
    let far := z.evalAt = none ∨ z.evalAt = some e ∧ 8 ≤ (v - e).natAbs
    (szBusy z = true ∨ ¬ on) ∧ ¬ press ∧ (on ∧ fits ∧ ¬ drifts ∨ szBusy z = true ∧ far ∧ idle) ∧ (may ∨ szWaits z = true ∧ idle ∧ left z.todo = p :: rest ∧ procHolds p = true ∧ freeUnit s (q.val / 4) = some u) ∧ (may ∨ szWaits z = true ∧ idle ∧ left z.todo = p :: rest ∧ procHolds p = true ∧ freeUnit s (q.val / 4) = none) ∧ may ∧ z.todo ≠ [] ∧ left z.todo = [] ∧ z.background = false :=
  ⟨(zs noline (fun x => { x with todo := [4, 3], idleSince := some 3 })), 2, 5, 100, 103, 4, [3], 0, by dsimp only; decide +kernel⟩

theorem witness_Sizing_3 : ∃ (s : State) (q : Fin 16) (rest : List Nat) (i : Nat) (proc : Fin 9) (vals : List SzValue) (o : Fin 5) (w : SzValue) (h : FeltHead) (x : Session) (obj : SignedObj) (fs : List (SzPoint × List Nat)),
    let z := szOf s q
    let idle := quireIdle s q = true
    let region := (List.range 4).map (· + 4 * (q.val / 4))
    let may := szReady s q = true ∧ flagF s F.PWR_STAT_CORE_WARN = false ∧ (tget s.power.vatman 0 (q.val / 4)) % 2 = 0 ∧
      region.all (fun k => !(szOf s k).active && (decide (q.val ≤ k) || !szReady s k)) = true
    let left := fun (l : List Nat) => l.dropWhile (fun k => !procActs s q k)
    let present := szRuns z = true ∧ z.todo = proc.val :: rest ∧ proc.val ≠ 1
    let bad := firstFailing s q proc vals = some i
    let asks := feltAsks s h x
    let trusted := asks ∧ 2 ≤ x.priv
    let signed := objVerifies .vendor obj = true ∧ s.sec.factorySvn ≤ obj.svn
    let points := fs.map (·.1)
    let good := pointsOk fs = true ∧ z.factory.length + (recordPoints points).length ≤ 8
    szRuns z = true ∧ (¬ may ∧ szWaits z = false ∨ ¬ idle) ∧ present ∧ bad ∧ left rest ≠ [] ∧ present ∧ proc.val ≠ 8 ∧ idle ∧ flagF s (F.DRV_CFG_EN q o) = true ∧ w.field = .trim o ∧ valueOk proc w = true ∧ trusted ∧ signed ∧ szBusy z = true ∧ (trusted ∧ ¬ good ∨ szBusy z = true) :=
  ⟨(z (fun x => { x with active := true, todo := [2, 4, 3], held := some 9 })), 2, [4, 3], 1, 2, [v2, vv], 1, v2, hh, se, ve, ff, by dsimp only; unfold feltAsks feltArrives; decide +kernel⟩

theorem witness_Sizing_4 : ∃ (s : State) (q : Fin 16) (v e : Int) (proc : Fin 9) (h : FeltHead) (x : Session) (obj : SignedObj) (fs : List (SzPoint × List Nat)),
    let z := szOf s q
    let on := flagF s (F.SZ_Q_CFG_EN q) = true
    let fits := -32768 ≤ v ∧ v < 32768
    let drifts := flagF s F.SZ_CTRL_AUTO = true ∧ szDt s < ((v - getS s (F.SZ_Q_TEMP_LAST q)).natAbs : Int)
    let far := z.evalAt = none ∨ z.evalAt = some e ∧ 8 ≤ (v - e).natAbs
    let asks := feltAsks s h x
    let trusted := asks ∧ 2 ≤ x.priv
    let room := s.store.stores.length < 16
    let signed := objVerifies .vendor obj = true ∧ s.sec.factorySvn ≤ obj.svn
    let points := fs.map (·.1)
    let good := pointsOk fs = true ∧ z.factory.length + (recordPoints points).length ≤ 8
    on ∧ fits ∧ drifts ∧ szBusy z = false ∧ far ∧ (proc.val = 1 ∧ z.background = false ∨ proc.val ≠ 1 ∧ (szRuns z = false ∨ z.todo.head? ≠ some proc.val)) ∧ trusted ∧ signed ∧ szBusy z = false ∧ room ∧ trusted ∧ good ∧ szBusy z = false ∧ room :=
  ⟨base, 2, 100, 103, 2, hh, se, ve, ff, by dsimp only; unfold feltAsks feltArrives; decide +kernel⟩

theorem witness_Sizing_5 : ∃ (s : State) (q : Fin 16) (h : FeltHead) (x : Session) (obj : SignedObj) (fs : List (SzPoint × List Nat)),
    let z := szOf s q
    let on := flagF s (F.SZ_Q_CFG_EN q) = true
    let asks := feltAsks s h x
    let trusted := asks ∧ 2 ≤ x.priv
    let room := s.store.stores.length < 16
    let signed := objVerifies .vendor obj = true ∧ s.sec.factorySvn ≤ obj.svn
    let points := fs.map (·.1)
    let good := pointsOk fs = true ∧ z.factory.length + (recordPoints points).length ≤ 8
    ¬ on ∧ trusted ∧ signed ∧ szBusy z = false ∧ ¬ room ∧ trusted ∧ good ∧ szBusy z = false ∧ ¬ room :=
  ⟨(full (setF base (F.SZ_Q_CFG_EN 2) 0)), 2, hh, se, ve, ff, by dsimp only; unfold feltAsks feltArrives; decide +kernel⟩

theorem witness_Sizing_6 : ∃ (s : State) (q : Fin 16) (v e : Int) (rest : List Nat) (proc : Fin 9) (vals : List SzValue),
    let z := szOf s q
    let on := flagF s (F.SZ_Q_CFG_EN q) = true
    let idle := quireIdle s q = true
    let left := fun (l : List Nat) => l.dropWhile (fun k => !procActs s q k)
    let present := szRuns z = true ∧ z.todo = proc.val :: rest ∧ proc.val ≠ 1
    let ok := firstFailing s q proc vals = none
    let fits := -32768 ≤ v ∧ v < 32768
    let drifts := flagF s F.SZ_CTRL_AUTO = true ∧ szDt s < ((v - getS s (F.SZ_Q_TEMP_LAST q)).natAbs : Int)
    let far := z.evalAt = none ∨ z.evalAt = some e ∧ 8 ≤ (v - e).natAbs
    (on ∧ fits ∧ ¬ drifts ∨ szBusy z = true ∧ far ∧ ¬ idle) ∧ present ∧ ok ∧ left rest ≠ [] :=
  ⟨(nidle (z (fun x => { x with active := true, todo := [2,4], held := some 9, placed := true }))), 2, 100, 103, [4], 2, [v2], by dsimp only; decide +kernel⟩

theorem witness_Sizing_7 : ∃ (s : State) (q : Fin 16) (ch : Fin 32) (u : Nat),
    let z := szOf s q
    let press := ch.val < 24 ∧ flagF s (F.FLX_CFG_EN q ch) = true ∧ getF s (F.SZ_Q_CFG_PRESS_SEC q) ≠ 0 ∧ flagF s (F.SZ_Q_CFG_LINE_EN q) = true
    let region := (List.range 4).map (· + 4 * (q.val / 4))
    let may := szReady s q = true ∧ flagF s F.PWR_STAT_CORE_WARN = false ∧ (tget s.power.vatman 0 (q.val / 4)) % 2 = 0 ∧
      region.all (fun k => !(szOf s k).active && (decide (q.val ≤ k) || !szReady s k)) = true
    press ∧ z.wanted ≠ none ∧ may ∧ z.todo = [] ∧ z.wanted = some u ∧ flagF s (F.SZ_Q_CFG_LINE_EN q) = true :=
  ⟨(zs dom (fun x => { x with wanted := some 5, idleSince := some 3 })), 2, 5, 5, by dsimp only; decide +kernel⟩

theorem witness_Sizing_8 : ∃ (s : State) (h : FeltHead) (x : Session) (obj : SignedObj),
    let asks := feltAsks s h x
    let trusted := asks ∧ 2 ≤ x.priv
    let signed := objVerifies .vendor obj = true ∧ s.sec.factorySvn ≤ obj.svn
    trusted ∧ ¬ signed :=
  ⟨(setF base (F.SZ_Q_CFG_EN 2) 0), hh, se, cu, by dsimp only; unfold feltAsks feltArrives; decide +kernel⟩

theorem witness_Sizing_9 : ∃ (s : State) (q : Fin 16) (rest : List Nat) (i : Nat) (proc : Fin 9) (vals : List SzValue),
    let z := szOf s q
    let left := fun (l : List Nat) => l.dropWhile (fun k => !procActs s q k)
    let present := szRuns z = true ∧ z.todo = proc.val :: rest ∧ proc.val ≠ 1
    let bad := firstFailing s q proc vals = some i
    present ∧ bad ∧ left rest = [] ∧ z.background = false :=
  ⟨(z (fun x => { x with active := true, todo := [2], held := some 9 })), 2, [], 1, 2, [v2, vv], by dsimp only; decide +kernel⟩

theorem witness_Sizing_10 : ∃ (s : State) (q : Fin 16) (rest : List Nat) (proc : Fin 9) (vals : List SzValue),
    let z := szOf s q
    let left := fun (l : List Nat) => l.dropWhile (fun k => !procActs s q k)
    let present := szRuns z = true ∧ z.todo = proc.val :: rest ∧ proc.val ≠ 1
    let ok := firstFailing s q proc vals = none
    present ∧ ok ∧ left rest = [] ∧ z.background = false :=
  ⟨(z (fun x => { x with active := true, todo := [2], held := some 9, placed := true })), 2, [], 2, [v2], by dsimp only; decide +kernel⟩

theorem witness_Sizing_11 : ∃ (s : State) (q : Fin 16) (rest : List Nat) (proc : Fin 9),
    let z := szOf s q
    let left := fun (l : List Nat) => l.dropWhile (fun k => !procActs s q k)
    let present := szRuns z = true ∧ z.todo = proc.val :: rest ∧ proc.val ≠ 1
    present ∧ left rest = [] ∧ z.background = true :=
  ⟨(z (fun x => { x with active := true, todo := [2], held := some 9, background := true })), 2, [], 2, by dsimp only; decide +kernel⟩

theorem witness_Sizing_12 : ∃ (s : State) (q : Fin 16) (proc : Fin 9),
    let z := szOf s q
    z.background = true ∧ proc.val = 1 ∧ z.todo ≠ [] :=
  ⟨(z (fun x => { x with todo := [2], background := true })), 2, 1, by dsimp only; decide +kernel⟩

theorem witness_Sizing_13 : ∃ (s : State) (q : Fin 16) (proc : Fin 9),
    let z := szOf s q
    z.background = true ∧ proc.val = 1 ∧ z.todo = [] :=
  ⟨(z (fun x => { x with todo := [], background := true })), 2, 1, by dsimp only; decide +kernel⟩

theorem witness_Sizing_14 : ∃ (s : State) (q : Fin 16) (v e : Int),
    let z := szOf s q
    let on := flagF s (F.SZ_Q_CFG_EN q) = true
    let fits := -32768 ≤ v ∧ v < 32768
    let drifts := flagF s F.SZ_CTRL_AUTO = true ∧ szDt s < ((v - getS s (F.SZ_Q_TEMP_LAST q)).natAbs : Int)
    let near := z.evalAt = some e ∧ (v - e).natAbs < 8
    on ∧ fits ∧ drifts ∧ szBusy z = false ∧ near :=
  ⟨(z (fun x => { x with evalAt := some 103, wanted := none })), 2, 100, 103, by dsimp only; decide +kernel⟩

theorem witness_Sizing_15 : ∃ (s : State) (q : Fin 16) (p : Nat) (rest : List Nat),
    let z := szOf s q
    let region := (List.range 4).map (· + 4 * (q.val / 4))
    let may := szReady s q = true ∧ flagF s F.PWR_STAT_CORE_WARN = false ∧ (tget s.power.vatman 0 (q.val / 4)) % 2 = 0 ∧
      region.all (fun k => !(szOf s k).active && (decide (q.val ≤ k) || !szReady s k)) = true
    let left := fun (l : List Nat) => l.dropWhile (fun k => !procActs s q k)
    may ∧ left z.todo = p :: rest ∧ procHolds p = false :=
  ⟨(zs dom (fun x => { x with todo := [5, 3], idleSince := some 3 })), 2, 5, [3], by dsimp only; decide +kernel⟩

theorem witness_Sizing_16 : ∃ (s : State) (q : Fin 16),
    let z := szOf s q
    let region := (List.range 4).map (· + 4 * (q.val / 4))
    let may := szReady s q = true ∧ flagF s F.PWR_STAT_CORE_WARN = false ∧ (tget s.power.vatman 0 (q.val / 4)) % 2 = 0 ∧
      region.all (fun k => !(szOf s k).active && (decide (q.val ≤ k) || !szReady s k)) = true
    let left := fun (l : List Nat) => l.dropWhile (fun k => !procActs s q k)
    may ∧ z.todo ≠ [] ∧ left z.todo = [] ∧ z.background = true :=
  ⟨(zs noline (fun x => { x with todo := [4, 3], idleSince := some 3, background := true })), 2, by dsimp only; decide +kernel⟩

theorem witness_Sizing_17 : ∃ (s : State) (q : Fin 16) (u : Nat),
    let z := szOf s q
    let region := (List.range 4).map (· + 4 * (q.val / 4))
    let may := szReady s q = true ∧ flagF s F.PWR_STAT_CORE_WARN = false ∧ (tget s.power.vatman 0 (q.val / 4)) % 2 = 0 ∧
      region.all (fun k => !(szOf s k).active && (decide (q.val ≤ k) || !szReady s k)) = true
    may ∧ z.todo = [] ∧ z.wanted = some u ∧ flagF s (F.SZ_Q_CFG_LINE_EN q) = false :=
  ⟨(zs noline (fun x => { x with wanted := some 5, idleSince := some 3 })), 2, 5, by dsimp only; decide +kernel⟩

theorem witness_Sizing_18 : ∃ (s : State) (h : FeltHead) (x : Session),
    let asks := feltAsks s h x
    asks ∧ x.priv < 2 :=
  ⟨{ base with host := { base.host with sessions := [s1] } }, hh, s1, by dsimp only; unfold feltAsks feltArrives; decide +kernel⟩

theorem witness_Sizing_19 : ∃ (s : State) (h : FeltHead) (x : Session) (r : FeltRsp),
    feltArrives s h ∧ h.session ≠ 0 ∧ h.auth = true ∧ feltSession s h = some x ∧ x.last = some (h.seq, some r) :=
  ⟨base, { hh with seq := 6 }, se, R, by unfold feltArrives; decide +kernel⟩

theorem witness_Sizing_20 : ∃ (s : State) (h : FeltHead),
    feltArrives s h ∧ h.session ≠ 0 ∧ feltSession s h = none ∨ h.auth = false :=
  ⟨base, { hh with auth := false }, by unfold feltArrives; decide +kernel⟩

theorem witness_Sizing_21 : ∃ (s : State) (h : FeltHead),
    feltOperator s h :=
  ⟨{ setF base F.MBX_STAT_BUSY 1 with host := { base.host with dict := [((0x1110, 3), some 1)] } }, ⟨.mailbox, 0, 9, true⟩, by unfold feltOperator feltArrives; decide +kernel⟩

end N

namespace O

def ts : TimeState := { State.reset.time with started := true }

def base0 : State := { st [(F.LOFT_WAKE_PIN, 1), (F.LOFT_WAKE_CHAIN, 0x20), (F.LOFT_SCAN_EN 7, 1), (F.PWR_STAT_RGOOD, 15)] with now := 2000000, time := ts }

def base1 : State := { base0 with power := { base0.power with booting := false, inReset := false, loftOn := true }, mem := [(5,1), (2^40+3, 9), (0x5000000, 7)] }

def base : State := setF (setWindow base1 5 { windowOf base1 5 with level := 5000, armed := true }) (F.DK_WIN_CFG_EN 5) 1

def pw (f : PowerState → PowerState) (s : State) : State := { s with power := f s.power }

def stt (n : Nat) : State := setF base F.PWR_STAT_STATE n

def busy (s : State) : State := setF s (F.THR_STAT_STATE 2 3) 1

def mv (n k : Nat) : State := pw (fun p => { p with moving := some (n, 2000000) }) (stt k)

def lossy : State := pw (fun p => { p with railOff := [1] }) (setDomains (setF base F.PWR_STAT_RGOOD 13) 88 8 false)

def fl : State := setF (setF (setF (setF (setF (setF base (F.LOFT_FILT_EN 3) 1) (F.LOFT_FILT_SLOT 3) 7) (F.LOFT_DEC_B_EN 2) 1) (F.LOFT_DEC_B_FILT 2) 3) (F.LOFT_DEC_B_PERSIST 2) 1) (F.LOFT_DEC_A_HI 2) 899

def emb (s : State) : State := setF (setF (setF s F.CHIP_PERS_ACTIVE 1) F.PMB_CFG_EN 1) (F.PMB_ENT_A_EN 3) 1

def nf (k : Nat) : State := setF (setF (pw (fun p => { p with fresh := [(3, false)] }) fl) (F.LOFT_FILT_K 3) k) (F.LOFT_DEC_B_OUT 2) 1

theorem witness_PowerStates_1 : ∃ (s : State) (req : Fin 4) (w : WakeSource) (tick : Nat),
    let st := getF s F.PWR_STAT_STATE
    let calm := s.power.moving = none
    let live := s.power.inReset = false ∧ s.power.tripped = false
    let wakes := wakeEnabled s w = true
    let warned := flagF s F.PWR_STAT_CORE_WARN = true
    calm ∧ st = 2 ∧ req ≠ 2 ∧ calm ∧ live ∧ wakes ∧ calm ∧ st = 2 ∧ (live ∧ s.power.moving = some (req.val, tick) ∧ req ≠ 0 ∨ tick ≠ s.now ∧ st = 2) ∧ ¬ warned :=
  ⟨(stt 2), 3, .pin, 5, by dsimp only; decide +kernel⟩

theorem witness_PowerStates_2 : ∃ (s : State) (req : Fin 4) (w : WakeSource) (g : Fin 4) (tick begun : Nat),
    let st := getF s F.PWR_STAT_STATE
    let live := s.power.inReset = false ∧ s.power.tripped = false
    let wakes := wakeEnabled s w = true
    let good := bitF s F.PWR_STAT_RGOOD g = true
    let lit := ∃ k : Fin 8, domainOn s (80 + 8 * g + k) = true
    (req.val ≠ st ∧ s.power.moving ≠ none ∨ (st ≤ 1 ∧ req = 3) ∨ 3 ≤ st ∨ (st ≤ 1 ∧ req = 2 ∧ allIdle s = false) ∨ (st = 0 ∧ req = 1 ∧ allIdle s = false)) ∧ s.power.moving = some (2, tick) ∧ rampsDone s = false ∧ s.power.biasDue = some tick ∧ tick ≤ s.now ∧ s.power.moving = some (2, begun) ∧ (live ∧ ¬ wakes ∨ st ≠ 2 ∧ st ≠ 3 ∧ s.power.waking = false) ∧ live ∧ st ≠ 3 ∧ good ∧ lit :=
  ⟨(setF (pw (fun p => { p with biasDue := some 2000000 }) (mv 2 0)) (F.FLX_STAT_SWITCH 2 5) 1), 1, .pin, 1, 2000000, 2000000, by dsimp only; decide +kernel⟩

theorem witness_PowerStates_3 : ∃ (s : State) (req : Fin 4) (g : Fin 4) (slot : Fin 64) (f : Fin 16),
    let st := getF s F.PWR_STAT_STATE
    let live := s.power.inReset = false ∧ s.power.tripped = false
    let up := setBitF s F.PWR_STAT_RGOOD g true
    let starts := live ∧ domainOn s (80 + 8 * g) = false ∧ st ≤ 1 ∧ getF s F.THM_STAT_STATE < 3 ∧ dieMayRun up g = true
    let takes := s.power.loftOn = true ∧ flagF s (F.LOFT_SCAN_EN slot) = true
    let mine := fun (k : Fin 16) => flagF s (F.LOFT_FILT_EN k) = true ∧ getF s (F.LOFT_FILT_SLOT k) = slot.val
    let k := getF s (F.LOFT_FILT_K f)
    req.val = st ∧ ¬ live ∧ (¬ live ∨ st = 3) ∧ ¬ starts ∧ (s.power.waking = false ∨ st ≠ 3) ∧ takes ∧ (∀ k : Fin 16, ¬ mine k) :=
  ⟨(pw (fun p => { p with tripped := true }) base), 0, 1, 7, 3, by dsimp only; decide +kernel⟩

theorem witness_PowerStates_4 : ∃ (s : State) (req : Fin 4) (slot : Fin 64) (f : Fin 16),
    let st := getF s F.PWR_STAT_STATE
    let calm := s.power.moving = none
    let warned := flagF s F.PWR_STAT_CORE_WARN = true
    let takes := s.power.loftOn = true ∧ flagF s (F.LOFT_SCAN_EN slot) = true
    let mine := fun (k : Fin 16) => flagF s (F.LOFT_FILT_EN k) = true ∧ getF s (F.LOFT_FILT_SLOT k) = slot.val
    let fresh := tget s.power.fresh true f = true
    let k := getF s (F.LOFT_FILT_K f)
    calm ∧ st = 0 ∧ req = 1 ∧ allIdle s = true ∧ warned ∧ (takes ∧ mine f ∧ k = 0 ∨ fresh) ∧ ¬ takes :=
  ⟨(setF base F.PWR_STAT_CORE_WARN 1), 1, 9, 3, by dsimp only; decide +kernel⟩

theorem witness_PowerStates_5 : ∃ (s : State) (g : Fin 4) (slot : Fin 64) (j : Fin 16),
    let st := getF s F.PWR_STAT_STATE
    let live := s.power.inReset = false ∧ s.power.tripped = false
    let good := bitF s F.PWR_STAT_RGOOD g = true
    let up := setBitF s F.PWR_STAT_RGOOD g true
    let starts := live ∧ domainOn s (80 + 8 * g) = false ∧ st ≤ 1 ∧ getF s F.THM_STAT_STATE < 3 ∧ dieMayRun up g = true
    let takes := s.power.loftOn = true ∧ flagF s (F.LOFT_SCAN_EN slot) = true
    let mine := fun (k : Fin 16) => flagF s (F.LOFT_FILT_EN k) = true ∧ getF s (F.LOFT_FILT_SLOT k) = slot.val
    ¬ good ∧ starts ∧ takes ∧ ¬ mine j :=
  ⟨(pw (fun p => { p with railOff := [] }) lossy), 1, 7, 4, by dsimp only; decide +kernel⟩

theorem witness_PowerStates_6 : ∃ (s : State) (req : Fin 4) (w : WakeSource) (tick : Nat),
    let st := getF s F.PWR_STAT_STATE
    let live := s.power.inReset = false ∧ s.power.tripped = false
    let wakes := wakeEnabled s w = true
    (st = 2 ∧ (req = 0 ∨ req = 1) ∧ s.power.moving = some (req.val, tick)) ∧ live ∧ wakes ∧ s.power.moving = some (0, s.now) ∧ st = 2 :=
  ⟨(mv 0 2), 0, .pin, 2000000, by dsimp only; decide +kernel⟩

theorem witness_PowerStates_7 : ∃ (s : State) (w : WakeSource) (rails : Bool),
    let st := getF s F.PWR_STAT_STATE
    let live := s.power.inReset = false ∧ s.power.tripped = false
    let wakes := wakeEnabled s w = true
    live ∧ wakes ∧ st = 3 ∧ rails = false ∧ s.power.waking = true ∧ st = 3 :=
  ⟨(pw (fun p => { p with waking := true }) (stt 3)), .pin, false, by dsimp only; decide +kernel⟩

theorem witness_PowerStates_8 : ∃ (s : State) (req : Fin 4),
    let st := getF s F.PWR_STAT_STATE
    let calm := s.power.moving = none
    calm ∧ st ≤ 1 ∧ req = 2 ∧ allIdle s = true :=
  ⟨base, 2, by dsimp only; decide +kernel⟩

theorem witness_PowerStates_9 : ∃ (s : State) (req : Fin 4),
    let st := getF s F.PWR_STAT_STATE
    let calm := s.power.moving = none
    calm ∧ st = 1 ∧ req = 0 :=
  ⟨(stt 1), 0, by dsimp only; decide +kernel⟩

theorem witness_PowerStates_10 : ∃ (s : State) (w : WakeSource) (rails : Bool),
    let st := getF s F.PWR_STAT_STATE
    let live := s.power.inReset = false ∧ s.power.tripped = false
    let wakes := wakeEnabled s w = true
    live ∧ wakes ∧ st = 3 ∧ rails = true :=
  ⟨(pw (fun p => { p with waking := false }) (stt 3)), (.chain 5), true, by dsimp only; decide +kernel⟩

theorem witness_PowerStates_11 : ∃ (s : State) (req : Fin 4) (tick : Nat),
    let st := getF s F.PWR_STAT_STATE
    st ≠ 2 ∧ (req = 0 ∨ req = 1) ∧ s.power.moving = some (req.val, tick) :=
  ⟨(mv 1 0), 1, 2000000, by dsimp only; decide +kernel⟩

theorem witness_PowerStates_12 : ∃ (s : State) (tick : Nat),
    s.power.moving = some (2, tick) ∧ rampsDone s = true :=
  ⟨(mv 2 0), 2000000, by decide +kernel⟩

theorem witness_PowerStates_13 : ∃ (s : State) (tick : Nat),
    s.power.moving = some (3, tick) :=
  ⟨(mv 3 2), 2000000, by decide +kernel⟩

theorem witness_PowerStates_14 : ∃ (s : State) (g : Fin 4),
    let good := bitF s F.PWR_STAT_RGOOD g = true
    let lit := ∃ k : Fin 8, domainOn s (80 + 8 * g + k) = true
    good ∧ ¬ lit :=
  ⟨(setDomains base 88 8 false), 1, by dsimp only; decide +kernel⟩

theorem witness_PowerStates_15 : ∃ (s : State) (slot : Fin 64) (f : Fin 16),
    let takes := s.power.loftOn = true ∧ flagF s (F.LOFT_SCAN_EN slot) = true
    let mine := fun (k : Fin 16) => flagF s (F.LOFT_FILT_EN k) = true ∧ getF s (F.LOFT_FILT_SLOT k) = slot.val
    let fresh := tget s.power.fresh true f = true
    takes ∧ mine f ∧ ¬ fresh :=
  ⟨(nf 2), 7, 3, by dsimp only; decide +kernel⟩

theorem witness_PowerStates_16 : ∃ (s : State) (slot : Fin 64) (q : Fin 16) (b : Fin 2),
    let takes := s.power.loftOn = true ∧ flagF s (F.LOFT_SCAN_EN slot) = true
    let sel := fun (n : Nat) => getF s (F.LOFT_SCAN_INPUT slot) = 24 + q / 4 ∧ getF s (F.LOFT_SCAN_SUB slot) = n + 2 * (q % 4) + b
    takes ∧ sel 96 :=
  ⟨(setF (setF fl (F.LOFT_SCAN_INPUT 7) 25) (F.LOFT_SCAN_SUB 7) 99), 7, 5, 1, by dsimp only; decide +kernel⟩

theorem witness_PowerStates_17 : ∃ (s : State) (slot : Fin 64) (q : Fin 16) (b : Fin 2),
    let takes := s.power.loftOn = true ∧ flagF s (F.LOFT_SCAN_EN slot) = true
    let sel := fun (n : Nat) => getF s (F.LOFT_SCAN_INPUT slot) = 24 + q / 4 ∧ getF s (F.LOFT_SCAN_SUB slot) = n + 2 * (q % 4) + b
    takes ∧ sel 104 :=
  ⟨(setF (setF fl (F.LOFT_SCAN_INPUT 7) 25) (F.LOFT_SCAN_SUB 7) 107), 7, 5, 1, by dsimp only; decide +kernel⟩

end O

namespace P

def ts : TimeState := { State.reset.time with started := true }

def base0 : State := { st [(F.PWR_STAT_RGOOD, 15), (F.THM_CFG_GRACE, 0), (F.DRV_CFG_EN 2 1, 1), (F.FLX_CFG_EN 2 5, 1), (F.FLX_STAT_SWITCH 2 5, 1), (F.BIAS_CFG_EN 3 1, 1), (F.BIAS_STAT_SWITCH 3 1, 1)] with now := 2000000, time := ts }

def base1 : State := { base0 with power := { base0.power with booting := false, inReset := false, loftOn := true, requested := 5 } }

def base : State := setF (setWindow base1 5 { windowOf base1 5 with level := 5000, armed := true }) (F.DK_WIN_CFG_EN 5) 1

def pw (f : PowerState → PowerState) (s : State) : State := { s with power := f s.power }

def thm (n : Nat) : State := setF base F.THM_STAT_STATE n

def rd (v : Int) (w : Int) : List (Option Int) := (List.range 64).map (fun k => if k = 9 then some w else some v)

def zs (v : Int) (s : State) : State := pw (fun p => { p with zones := [(2, List.replicate 7 v)] }) s

def busy (s : State) : State := setF s (F.THR_STAT_STATE 2 3) 1

theorem witness_ThermalAndStop_1 : ∃ (s : State) (l : List (Option Int)) (z : Fin 16),
    let th := getF s F.THM_STAT_STATE
    let live := s.power.inReset = false ∧ s.power.tripped = false
    let bad := fun (k : Nat) => bitF s (F.THM_ZONE_FAILED (k / 4)) (k % 4)
    let lost := fun (k : Nat) => (List.range 4).filter (fun j => bad (4 * k + j) || (l.getD (4 * k + j) none).isNone)
    let val := fun (k : Nat) => zoneValue s k l
    let old := fun (k : Nat) => getF s (F.THM_ZONE_LEVEL k)
    let new := fun (k : Nat) => nextLevel (old k) ((val k :: tget s.power.zones [] k).take 8)
    let enters := fun (k : Nat) (v : Nat) => new k = v ∧ old k < v
    let calm := (∀ k : Fin 16, ¬ enters k 2) ∧ ∀ k : Fin 16, (lost k).length < 2
    live ∧ live ∧ th < 3 ∧ enters z 2 ∧ (live ∧ th = 1 ∨ th = 2 ∧ calm ∧ (∀ k : Fin 16, new k = 0)) ∧ (live ∧ calm ∧ (th = 0 ∧ ∀ k : Fin 16, ¬ enters k 1) ∨ ((th = 1 ∨ th = 2) ∧ ∃ k : Fin 16, new k % 4 ≠ 0)) :=
  ⟨(setF (setF (zs 1850 (thm 1)) F.THM_STAT_WARN 4) (F.THM_ZONE_LEVEL 2) 1), (rd 400 1850), 2, by dsimp only; decide +kernel⟩

theorem witness_ThermalAndStop_2 : ∃ (s : State) (l : List (Option Int)) (z : Fin 16) (n : Fin 64) (tick begun : Nat),
    let th := getF s F.THM_STAT_STATE
    let live := s.power.inReset = false ∧ s.power.tripped = false
    let bad := fun (k : Nat) => bitF s (F.THM_ZONE_FAILED (k / 4)) (k % 4)
    let lost := fun (k : Nat) => (List.range 4).filter (fun j => bad (4 * k + j) || (l.getD (4 * k + j) none).isNone)
    let graced := th = 1 ∧ s.power.requested + 50000000 * getF s F.THM_CFG_GRACE ≤ s.now
    live ∧ bad n = false ∧ l.getD n none = none ∧ live ∧ th < 3 ∧ 2 ≤ (lost z).length ∧ live ∧ bad n = false ∧ ¬ graced ∧ th < 3 ∧ (s.power.stop = none ∨ s.power.stop = some (tick, begun + 1)) :=
  ⟨base, [], 2, 9, 5, 9, by dsimp only; decide +kernel⟩

theorem witness_ThermalAndStop_3 : ∃ (s : State) (tick begun : Nat),
    let th := getF s F.THM_STAT_STATE
    let live := s.power.inReset = false ∧ s.power.tripped = false
    let restored := ∀ q : Fin 16, tget s.power.restore none q.val = none
    live ∧ 3 ≤ th ∧ 3 ≤ th ∧ s.power.stop = some (tick, 0) ∧ tick ≤ s.now ∧ restored ∧ (s.power.stop = none ∨ s.power.stop = some (tick, 0) ∨ s.power.stop = some (tick, begun + 2)) ∧ (s.power.biasDue = none ∨ s.power.biasDue = some tick ∧ s.now < tick) :=
  ⟨(pw (fun p => { p with stop := some (5, 0) }) (busy (thm 3))), 5, 9, by dsimp only; decide +kernel⟩

theorem witness_ThermalAndStop_4 : ∃ (s : State) (n : Fin 64),
    let th := getF s F.THM_STAT_STATE
    let live := s.power.inReset = false ∧ s.power.tripped = false
    let bad := fun (k : Nat) => bitF s (F.THM_ZONE_FAILED (k / 4)) (k % 4)
    let barred := (∃ k : Fin 16, getF s (F.THM_ZONE_LEVEL k) = 2 ∨ 2 ≤ failedCount s k) ∨ getF s F.PWR_STAT_RGOOD ≠ 15
    ¬ live ∧ (barred ∨ (th ≠ 4 ∧ s.power.railOff = [])) ∧ (bad n = true ∨ s.power.tripped = true) :=
  ⟨(pw (fun p => { p with tripped := true }) base), 9, by dsimp only; decide +kernel⟩

theorem witness_ThermalAndStop_5 : ∃ (s : State) (l : List (Option Int)) (z : Fin 16) (n : Fin 64),
    let th := getF s F.THM_STAT_STATE
    let live := s.power.inReset = false ∧ s.power.tripped = false
    let bad := fun (k : Nat) => bitF s (F.THM_ZONE_FAILED (k / 4)) (k % 4)
    let lost := fun (k : Nat) => (List.range 4).filter (fun j => bad (4 * k + j) || (l.getD (4 * k + j) none).isNone)
    let val := fun (k : Nat) => zoneValue s k l
    let old := fun (k : Nat) => getF s (F.THM_ZONE_LEVEL k)
    let new := fun (k : Nat) => nextLevel (old k) ((val k :: tget s.power.zones [] k).take 8)
    let enters := fun (k : Nat) (v : Nat) => new k = v ∧ old k < v
    let calm := (∀ k : Fin 16, ¬ enters k 2) ∧ ∀ k : Fin 16, (lost k).length < 2
    live ∧ th = 0 ∧ calm ∧ enters z 1 ∧ bad n = false ∧ s.power.tripped = false :=
  ⟨(zs 1530 base), (rd 400 1550), 2, 9, by dsimp only; decide +kernel⟩

theorem witness_ThermalAndStop_6 : ∃ (s : State),
    let th := getF s F.THM_STAT_STATE
    let graced := th = 1 ∧ s.power.requested + 50000000 * getF s F.THM_CFG_GRACE ≤ s.now
    graced :=
  ⟨(setF (setF (zs 1850 (thm 1)) F.THM_STAT_WARN 4) (F.THM_ZONE_LEVEL 2) 1), by dsimp only; decide +kernel⟩

theorem witness_ThermalAndStop_7 : ∃ (s : State) (n : Fin 64),
    let th := getF s F.THM_STAT_STATE
    let live := s.power.inReset = false ∧ s.power.tripped = false
    let bad := fun (k : Nat) => bitF s (F.THM_ZONE_FAILED (k / 4)) (k % 4)
    live ∧ th < 3 ∧ failedCount s (n / 4) = 1 ∧ bad n = false :=
  ⟨(setF base (F.THM_ZONE_FAILED 2) 1), 9, by dsimp only; decide +kernel⟩

theorem witness_ThermalAndStop_8 : ∃ (s : State) (n : Fin 64),
    let live := s.power.inReset = false ∧ s.power.tripped = false
    let bad := fun (k : Nat) => bitF s (F.THM_ZONE_FAILED (k / 4)) (k % 4)
    live ∧ bad n = true ∧ (∀ k : Fin 16, failedCount s k < 2) :=
  ⟨(setF base (F.THM_ZONE_FAILED 2) 2), 9, by dsimp only; decide +kernel⟩

theorem witness_ThermalAndStop_9 : ∃ (s : State) (tick : Nat),
    let restored := ∀ q : Fin 16, tget s.power.restore none q.val = none
    s.power.stop = some (tick, 0) ∧ s.now < tick ∨ ¬ restored :=
  ⟨(pw (fun p => { p with stop := some (5000000, 0) }) (busy (thm 3))), 5000000, by dsimp only; decide +kernel⟩

theorem witness_ThermalAndStop_10 : ∃ (s : State) (tick : Nat),
    let sources := ∀ q : Fin 16, tget s.out.seqs none q.val = none
    s.power.stop = some (tick, 1) ∧ tick + 500000 ≤ s.now ∧ sources :=
  ⟨(pw (fun p => { p with stop := some (5, 1) }) (thm 3)), 5, by dsimp only; decide +kernel⟩

theorem witness_ThermalAndStop_11 : ∃ (s : State) (tick : Nat),
    let sources := ∀ q : Fin 16, tget s.out.seqs none q.val = none
    s.power.stop = some (tick, 1) ∧ tick + 500000 ≤ s.now ∧ ¬ sources :=
  ⟨(setSeq (pw (fun p => { p with stop := some (5, 1) }) (thm 3)) 3 (some ⟨true, false, none⟩)), 5, by dsimp only; decide +kernel⟩

theorem witness_ThermalAndStop_12 : ∃ (s : State) (tick : Nat),
    s.power.stop = some (tick, 1) ∧ s.now < tick + 500000 :=
  ⟨(pw (fun p => { p with stop := some (2000000, 1) }) (thm 3)), 2000000, by decide +kernel⟩

theorem witness_ThermalAndStop_13 : ∃ (s : State),
    let th := getF s F.THM_STAT_STATE
    let barred := (∃ k : Fin 16, getF s (F.THM_ZONE_LEVEL k) = 2 ∨ 2 ≤ failedCount s k) ∨ getF s F.PWR_STAT_RGOOD ≠ 15
    th = 4 ∧ ¬ barred :=
  ⟨(thm 4), by dsimp only; decide +kernel⟩

theorem witness_ThermalAndStop_14 : ∃ (s : State),
    let th := getF s F.THM_STAT_STATE
    let barred := (∃ k : Fin 16, getF s (F.THM_ZONE_LEVEL k) = 2 ∨ 2 ≤ failedCount s k) ∨ getF s F.PWR_STAT_RGOOD ≠ 15
    s.power.railOff ≠ [] ∧ th ≠ 4 ∧ ¬ barred :=
  ⟨(pw (fun p => { p with railOff := [2] }) base), by dsimp only; decide +kernel⟩

theorem witness_ThermalAndStop_15 : ∃ (s : State) (tick : Nat),
    let toStandby := s.power.moving.map (·.1) == some 2
    s.power.biasDue = some tick ∧ tick ≤ s.now ∧ toStandby = false ∧ s.power.stop.map (·.2) ≠ some 2 :=
  ⟨(pw (fun p => { p with biasDue := some 5, hot := true }) base), 5, by dsimp only; decide +kernel⟩

theorem witness_ThermalAndStop_16 : ∃ (s : State) (tick begun : Nat),
    let toStandby := s.power.moving.map (·.1) == some 2
    s.power.biasDue = some tick ∧ tick ≤ s.now ∧ toStandby = false ∧ s.power.stop = some (begun, 2) :=
  ⟨(setSeq (pw (fun p => { p with stop := some (9, 2), biasDue := some 5 }) (on (thm 3))) 3 (some ⟨true, false, none⟩)), 5, 9, by dsimp only; decide +kernel⟩

end P

namespace Q

def base : State := { st [(F.THR_STAT_STATE 2 7, 1), (F.CTX_STAT_STATE 2 7, 1), (F.SEG_W1_LENGTH 2 7, 100)] with now := 2000000, time := { State.reset.time with started := true }, mem := [(0x1000, 5), (0x1009, 7)] }

def pw (f : PowerState → PowerState) (s : State) : State := { s with power := f s.power }

def ln : BridgeLane := ⟨true, 3, [(2, .drive 1), (2, .flux 5), (9, .drive 0), (2, .acq)]⟩

def win : OpenWin := ⟨3, 3, 900, 5, 10, ⟨5, 32767, 0, 5, 6, 7, 8⟩, false, [], false⟩

def wb : State := setCell base 2 4 { cellOf base 2 4 with wins := [win] }

def sick : State := setBias (setFlux base 2 5 { fluxOf base 2 5 with faulty := true }) 2 1 { biasOf base 2 1 with faulty := true }

def rq : ResultPath := { results base 2 with queue := [⟨[1,2,3,4,5,6,7,8], 10⟩] }

def dn : State := pw (fun p => { p with vatman := [(0, 1)] }) (on base)

def nx (o : Host.Outcome State Fault Refusal) : State := match o with | .next t => t | _ => base

def up1 : State := nx (exec (.vatmanRestartComplete 0 false) dn)

def d2 : State := { dn with store := { dn.store with stalled := [.ladderWrite .pcie 2 5 88] } }

def v2 : State := nx (exec (.ladderWrite .pcie 2 5 88) up1)

theorem witness_FaultContainment_1 : ∃ (s : State) (q : Fin 16) (i : Fin 24) (g : Fin 4) (lane : BridgeLane),
    let switching := s.power.switching.contains (g.val, lane) = true
    let up := vatmanUp s g = true
    let settling := resetNow s q = true
    up ∧ ¬ switching ∧ 0 < lanesLeft s g lane.out ∧ ¬ switching ∧ ¬ settling ∧ (fluxOf s q i).faulty = false :=
  ⟨(pw (fun p => { p with restore := [(2, some 50)], restarting := [2, 3] }) base), 2, 5, 0, ln, by dsimp only; decide +kernel⟩

theorem witness_FaultContainment_2 : ∃ (s : State) (q : Fin 16) (b : Fin 2) (k : Fin 16) (a : Nat),
    let active := isActive (thrState s q k) = true
    let live := isActive (ctxState s q k) = true
    let settling := resetNow s q = true
    let idle := restoring s q = false
    ¬ settling ∧ (biasOf s q b).faulty = false ∧ ¬ settling ∧ ¬ active ∧ ¬ settling ∧ ¬ live ∧ ¬ idle ∧ a < 0x6000000 :=
  ⟨(pw (fun p => { p with restore := [(2, some 50)], restarting := [2, 3] }) base), 2, 1, 8, 0x1002, by dsimp only; decide +kernel⟩

theorem witness_FaultContainment_3 : ∃ (s : State) (q : Fin 16) (i : Fin 24) (cell : CellRef),
    let settling := resetNow s q = true
    let idle := restoring s q = false
    settling ∧ cellQuire cell = q ∧ cell ≠ .handler q ∧ ¬ idle ∧ ¬ idle ∧ (fluxOf s q i).faulty = false ∧ ¬ idle ∧ coreDown s q = false ∧ spareCoreFree s (q / 4) = true :=
  ⟨(pw (fun p => { p with restore := [(2, some 2000000)], restarting := [2, 3] }) base), 2, 5, (.flux 2 5), by dsimp only; decide +kernel⟩

theorem witness_FaultContainment_4 : ∃ (s : State) (q : Fin 16) (k : Fin 16) (g : Fin 4) (router : Bool),
    let active := isActive (thrState s q k) = true
    let live := isActive (ctxState s q k) = true
    let settling := resetNow s q = true
    let idle := restoring s q = false
    let bit := router.toNat
    let isDown := (tget s.power.vatman 0 g.val).testBit bit = true
    ¬ settling ∧ active ∧ ¬ settling ∧ live ∧ idle ∧ ¬ isDown :=
  ⟨wb, 2, 7, 0, false, by dsimp only; decide +kernel⟩

theorem witness_FaultContainment_5 : ∃ (s : State) (q : Fin 16) (g core : Fin 4) (lane : BridgeLane),
    let switching := s.power.switching.contains (g.val, lane) = true
    let up := vatmanUp s g = true
    let settling := resetNow s q = true
    let sound := coreDown s q = false ∧ ¬ settling
    (¬ up ∨ switching) ∧ switching ∧ sound ∧ spareCoreFree s (q / 4) = true ∧ (tget s.power.coreSubst none g.val = none ∨ ¬ up) ∧ core.val ∉ s.power.restarting :=
  ⟨(pw (fun p => { p with switching := [(0, ln)] }) base), 2, 0, 2, ln, by dsimp only; decide +kernel⟩

theorem witness_FaultContainment_6 : ∃ (s : State) (q : Fin 16) (a : Nat) (x : CoreSubst),
    let settling := resetNow s q = true
    let idle := restoring s q = false
    let sent := tget s.power.coreSubst none (q.val / 4) = some x
    let sound := coreDown s q = false ∧ ¬ settling
    0x6000000 ≤ a ∧ idle ∧ ¬ sound ∧ sent ∧ x.q = q ∧ vatmanUp s (q / 4) = true :=
  ⟨(pw (fun p => { p with coreSubst := [(0, some ⟨2, 2000000⟩)] }) base), 2, 0x6001002, ⟨2, 2000000⟩, by dsimp only; decide +kernel⟩

theorem witness_FaultContainment_7 : ∃ (s : State) (core : Fin 4),
    core.val ∈ s.power.restarting :=
  ⟨(pw (fun p => { p with restore := [(2, some 50)], restarting := [2, 3] }) base), 2, by decide +kernel⟩

theorem witness_FaultContainment_8 : ∃ (s : State) (q : Fin 16) (i : Fin 24) (b : Fin 2),
    (fluxOf s q i).faulty = true ∧ (biasOf s q b).faulty = true :=
  ⟨sick, 2, 5, 1, by decide +kernel⟩

theorem witness_FaultContainment_9 : ∃ (s : State) (g : Fin 4) (lane : BridgeLane),
    let switching := s.power.switching.contains (g.val, lane) = true
    let up := vatmanUp s g = true
    up ∧ ¬ switching ∧ lanesLeft s g lane.out = 0 :=
  ⟨(pw (fun p => { p with spareLanes := [((0, true), 0)] }) wb), 0, ln, by dsimp only; decide +kernel⟩

theorem witness_FaultContainment_10 : ∃ (s : State) (g : Fin 4) (router : Bool),
    let bit := router.toNat
    let isDown := (tget s.power.vatman 0 g.val).testBit bit = true
    isDown ∧ s.store.stalled = [] :=
  ⟨(pw (fun p => { p with vatman := [(0, 3)] }) base), 0, true, by dsimp only; decide +kernel⟩

theorem witness_FaultContainment_11 : ∃ (s : State) (q : Fin 16),
    let settling := resetNow s q = true
    let sound := coreDown s q = false ∧ ¬ settling
    sound ∧ spareCoreFree s (q / 4) = false ∧ coreYields s q = none :=
  ⟨(pw (fun p => { p with spareCore := [(0, some 3)] }) base), 2, by dsimp only; decide +kernel⟩

theorem witness_FaultContainment_12 : ∃ (s : State) (q : Fin 16) (x : CoreSubst),
    let settling := resetNow s q = true
    let sent := tget s.power.coreSubst none (q.val / 4) = some x
    let sound := coreDown s q = false ∧ ¬ settling
    sound ∧ sent ∧ q.val < x.q ∧ x.d = s.now :=
  ⟨(pw (fun p => { p with coreSubst := [(0, some ⟨3, 2000000⟩)] }) base), 2, ⟨3, 2000000⟩, by dsimp only; decide +kernel⟩

theorem witness_HeldAccesses : ∃ (s u : State) (router : Bool) (g : Fin 4),
    let restart := Instr.vatmanRestartComplete g router
    let cleared := { s with store := { s.store with stalled := [] } }
    (tget s.power.vatman 0 g.val).testBit router.toNat = true ∧ s.store.stalled.length = 1 ∧ completes restart cleared (fun t => t = u) :=
  ⟨d2, up1, false, 0, by decide +kernel, rfl, ⟨_, rfl, rfl⟩⟩

end Q

namespace R

def base0 : State := { st [(F.THR_STAT_STATE 2 7, 1), (F.SEQ_CTRL_EVCLR_SHOT 2, 1), (F.SEQ_EVFLAG_FLAG 2, 9), (F.DRV_PD_CTRL_PENDING 2 1, 1), (F.FLX_PRESS_CTRL_PENDING 2 5, 1), (F.HB_CTRL_PENDING 2, 1), (F.CL_STAT_OUT_EPOCH, 1), (F.CHIP_PERS_FUSED, 1), (F.CHIP_PERS_ACTIVE, 1), (F.CHIP_PERS_STRAP, 1)] with now := 2000000, time := { State.reset.time with started := true }, mem := [(0x1000, 5), (0x1009, 7)] }

def base : State := { base0 with seq := { base0.seq with announced := [2000000, 2000500] }, sec := { base0.sec with images := [(.b, some (5, true))], running := true }, power := { base0.power with booting := false, inReset := false, loftOn := true, ring := [⟨.trip, 3, 4, none⟩] } }

def pw (f : PowerState → PowerState) (s : State) : State := { s with power := f s.power }

def rec (l : List (StoreItem × Option Record)) : State := { pw (fun p => { p with booting := true }) base with store := { State.reset.store with records := l } }

theorem witness_ResetBootAndTick_1 : ∃ (s : State) (on : Bool) (k : Slot) (svn : Nat),
    let begins := s.power.inReset = true ∧ s.power.loftOn = true
    let rom := s.power.booting = true ∧ s.power.inReset = false ∧ s.power.loftOn = true ∧ s.power.tripped = false
    let sec := trialBoot (zeroFinish s.sec)
    s.power.inReset = false ∧ s.power.tripped = false ∧ s.power.inReset = false ∧ on = s.power.loftOn ∧ ¬ begins ∧ rom ∧ bootImage { s with sec := sec } = some (k, svn) ∧ recordData s .values = none ∧ rom ∧ bootImage { s with sec := sec } = some (k, svn) ∧ s.store.records = [] :=
  ⟨(pw (fun p => { p with booting := true }) base), true, .b, 5, by dsimp only; decide +kernel⟩

theorem witness_ResetBootAndTick_2 : ∃ (s : State),
    let begins := s.power.inReset = true ∧ s.power.loftOn = true
    let rom := s.power.booting = true ∧ s.power.inReset = false ∧ s.power.loftOn = true ∧ s.power.tripped = false
    let due := boundaryDue s = true
    s.power.inReset = true ∧ begins ∧ ¬ rom ∧ (due ∧ (s.chain.prepared = none ∨ s.chain.learned ≠ some s.now)) ∧ s.time.started = true :=
  ⟨(pw (fun p => { p with inReset := true }) base), by dsimp only; decide +kernel⟩

theorem witness_ResetBootAndTick_3 : ∃ (s : State),
    let due := boundaryDue s = true
    ¬ due ∧ s.time.started = false :=
  ⟨{ base with time := State.reset.time, seq := State.reset.seq }, by dsimp only; decide +kernel⟩

theorem witness_ResetBootAndTick_4 : ∃ (s : State) (on : Bool),
    on ≠ s.power.loftOn :=
  ⟨base, false, by decide +kernel⟩

theorem witness_ResetBootAndTick_5 : ∃ (s : State),
    s.power.inReset = false ∧ s.power.tripped = true :=
  ⟨(pw (fun p => { p with tripped := true }) base), by decide +kernel⟩

theorem witness_ResetBootAndTick_6 : ∃ (s : State),
    let rom := s.power.booting = true ∧ s.power.inReset = false ∧ s.power.loftOn = true ∧ s.power.tripped = false
    let sec := trialBoot (zeroFinish s.sec)
    rom ∧ bootImage { s with sec := sec } = none :=
  ⟨(pw (fun p => { p with booting := true }) { base with sec := { base.sec with fuse := 9 } }), by dsimp only; decide +kernel⟩

theorem witness_ResetBootAndTick_7 : ∃ (s : State) (k : Slot) (svn : Nat) (vs : List ((Nat × Nat) × List Nat)),
    let rom := s.power.booting = true ∧ s.power.inReset = false ∧ s.power.loftOn = true ∧ s.power.tripped = false
    let sec := trialBoot (zeroFinish s.sec)
    rom ∧ bootImage { s with sec := sec } = some (k, svn) ∧ recordData s .values = some (.values vs) ∧ (∀ x ∈ vs, dictEntry x.1.1 x.1.2 = none) :=
  ⟨(rec [(.values, some ⟨true, 1, .values [((0xFFFF, 1), [3]), ((0xFFFE, 0), [])]⟩)]), .b, 5, [((0xFFFF, 1), [3]), ((0xFFFE, 0), [])], by dsimp only; decide +kernel⟩

end R

theorem witness_ProgramWords : (∃ (i : Instr) (w : Nat), threadWord i = some w) ∧ (∃ (i : Instr) (w : Nat), contextWord i = some w) :=
  ⟨⟨.br 1 2 false 5, _, rfl⟩, ⟨.rot 1 2 false 3, _, rfl⟩⟩

theorem witness_QueueIsFirstInFirstOut : ∃ (s t : State), step s = .next t := ⟨State.reset, _, rfl⟩

theorem witness_MemoryStaysCanonical : ∃ (s t : State), Memory.wf s.mem = true ∧ step s = .next t :=
  ⟨setByte State.reset 7 5, _, by decide +kernel, rfl⟩

theorem witness_FrontCommandRuns : ∃ s : State, s.pending = [] := ⟨State.reset, rfl⟩

end Sys2Proof.Tests
end

section
/-! The timebase: frames of the shared operations (`onlyIn`), what the fence and the threads' stop establish, loss and return of the reference,
Dandy lock and the reads of device time and the wall clock, and with them the statement O36; and the statement O39 on the Ethernet ports. -/

namespace Sys2Proof.Machine

/-! ### Frames: `onlyIn` is a preorder that grows with its lists -/

section
variable {P P' : List Part} {N N' : List RegName} {s t u : State}

theorem onlyIn.refl (P : List Part) (N : List RegName) (s : State) : onlyIn P N s s :=
  ⟨fun p _ => by cases p <;> rfl, fun _ _ => rfl⟩

theorem Part.kept_trans {p : Part} (h : p.kept s t) (k : p.kept t u) : p.kept s u := by
  cases p <;> exact Eq.trans k h

theorem onlyIn.trans (h : onlyIn P N s t) (k : onlyIn P N t u) : onlyIn P N s u :=
  ⟨fun p hp => Part.kept_trans (h.1 p hp) (k.1 p hp), fun f hf => (k.2 f hf).trans (h.2 f hf)⟩

theorem onlyIn.mono (h : onlyIn P N s t) (hP : P ⊆ P') (hN : N ⊆ N') : onlyIn P' N' s t :=
  ⟨fun p hp => h.1 p (fun m => hp (hP m)), fun f hf => h.2 f (fun m => hf (hN m))⟩

theorem onlyIn.foldl {α : Type} {f : State → α → State} (h : ∀ s a, onlyIn P N s (f s a)) (l : List α) (s : State) :
    onlyIn P N s (l.foldl f s) := by
  induction l generalizing s with
  | nil => exact .refl P N s
  | cons a l ih => exact (h s a).trans (ih (f s a))

/-- Where no register changes, the parts alone decide. -/
theorem onlyIn_of_regs (hr : t.regs = s.regs) (h : ∀ p, p ∉ P → p.kept s t) : onlyIn P N s t :=
  ⟨h, fun f _ => by simp [getF, hr]⟩

/-- A field of a register outside a frame reads as before. -/
theorem onlyIn.getF_eq (h : onlyIn P N s t) {f : Fld} (hf : N.contains f.key.reg.name = false) : getF t f = getF s f :=
  h.2 f (by simpa using hf)

theorem onlyIn.flagF_eq (h : onlyIn P N s t) {f : Fld} (hf : N.contains f.key.reg.name = false) : flagF t f = flagF s f := by
  simp [flagF, h.getF_eq hf]

/-! ### The frames of the primitive updates -/

theorem onlyIn.setF (h : onlyIn P N s t) {f : Fld} {v : Nat} (hf : N.contains f.key.reg.name = true) : onlyIn P N s (setF t f v) :=
  h.trans ⟨fun p _ => by cases p <;> rfl, fun g hg => getF_setF_reg t v (fun e => hg (by simpa [e] using hf))⟩

theorem onlyIn.setB (h : onlyIn P N s t) {f : Fld} {b : Bool} (hf : N.contains f.key.reg.name = true) : onlyIn P N s (setB t f b) :=
  h.setF hf

theorem onlyIn.incF (h : onlyIn P N s t) {f : Fld} (hf : N.contains f.key.reg.name = true) : onlyIn P N s (incF t f) := h.setF hf

theorem onlyIn.setBitF (h : onlyIn P N s t) {f : Fld} {n : Nat} {b : Bool} (hf : N.contains f.key.reg.name = true) :
    onlyIn P N s (setBitF t f n b) := h.setF hf

/-- An update of one part of the state lies in every frame that lists the part. -/
theorem onlyIn.part (p₀ : Part) (h : onlyIn P N s t) (hr : u.regs = t.regs) (hk : ∀ p, p ≠ p₀ → p.kept t u)
    (hP : P.contains p₀ = true) : onlyIn P N s u :=
  h.trans (onlyIn_of_regs hr fun p hp => hk p (fun e => hp (by simpa [e] using hP)))

theorem onlyIn.taints (h : onlyIn P N s t) {x : List Taint} (hP : P.contains .taints = true) : onlyIn P N s { t with taints := x } :=
  h.part .taints rfl (fun p hp => by cases p <;> trivial) hP

theorem onlyIn.post (h : onlyIn P N s t) {x : PostState} (hP : P.contains .post = true) : onlyIn P N s { t with post := x } :=
  h.part .post rfl (fun p hp => by cases p <;> trivial) hP

theorem onlyIn.seq (h : onlyIn P N s t) {x : SeqState} (hP : P.contains .seq = true) : onlyIn P N s { t with seq := x } :=
  h.part .seq rfl (fun p hp => by cases p <;> trivial) hP

theorem onlyIn.out (h : onlyIn P N s t) {x : OutState} (hP : P.contains .out = true) : onlyIn P N s { t with out := x } :=
  h.part .out rfl (fun p hp => by cases p <;> trivial) hP

theorem onlyIn.head (h : onlyIn P N s t) {x : HeadState} (hP : P.contains .head = true) : onlyIn P N s { t with head := x } :=
  h.part .head rfl (fun p hp => by cases p <;> trivial) hP

theorem onlyIn.capture (h : onlyIn P N s t) {x : Tab Nat CapUnit} (hP : P.contains .capture = true) : onlyIn P N s { t with capture := x } :=
  h.part .capture rfl (fun p hp => by cases p <;> trivial) hP

theorem onlyIn.time (h : onlyIn P N s t) {x : TimeState} (hP : P.contains .time = true) : onlyIn P N s { t with time := x } :=
  h.part .time rfl (fun p hp => by cases p <;> trivial) hP

theorem onlyIn.sizing (h : onlyIn P N s t) {x : SizingState} (hP : P.contains .sizing = true) : onlyIn P N s { t with sizing := x } :=
  h.part .sizing rfl (fun p hp => by cases p <;> trivial) hP

theorem onlyIn.latchFire (h : onlyIn P N s t) {p : Nat} (hP : P.contains .post = true) : onlyIn P N s (latchFire t p) := by
  unfold Machine.latchFire
  split
  · exact h
  · exact (h.post hP).post hP

theorem onlyIn.latch (h : onlyIn P N s t) {f : Fld} {p : Nat} (hf : N.contains f.key.reg.name = true) (hP : P.contains .post = true) :
    onlyIn P N s (latch t f p) := by
  unfold Machine.latch
  split
  · exact h
  · exact (h.setB hf).latchFire hP

end

/-! ### Taints and late commands -/

theorem onlyIn_wantShotRecord (s : State) (q : Nat) (p : Packet) : onlyIn [.head] [.HB_RQ_CREDIT] s (wantShotRecord s q p) := by
  unfold wantShotRecord
  split
  · exact (onlyIn.refl ..).head rfl
  · exact ((onlyIn.refl ..).setF rfl).head rfl

theorem onlyIn_reviseQuire (s : State) (q : Nat) : onlyIn [.head] [.HB_RQ_CREDIT, .HB_RQ_CNT] s (reviseQuire s q) := by
  refine onlyIn.foldl (fun s r => ?_) _ s
  split
  · exact .refl ..
  · exact ((onlyIn_wantShotRecord ..).mono (List.Subset.refl _) (by decide)).incF rfl

theorem onlyIn_addTaint (s : State) (x : Taint) : onlyIn [.taints, .head] [.HB_RQ_CREDIT, .HB_RQ_CNT] s (addTaint s x) := by
  have revise (s q) : onlyIn [.taints, .head] [.HB_RQ_CREDIT, .HB_RQ_CNT] s (reviseQuire s q) :=
    (onlyIn_reviseQuire s q).mono (by decide) (by decide)
  have marked : onlyIn [.taints, .head] [.HB_RQ_CREDIT, .HB_RQ_CNT] s { s with taints := s.taints ++ [x] } := (onlyIn.refl ..).taints rfl
  unfold addTaint
  split
  · exact marked.trans (revise ..)
  · exact marked.trans (.foldl revise ..)

/-- The registers a late command marks. -/
def lateMarks : List RegName := [.THR_LATCH, .THR_CNT, .SEQ_CNT_LATE, .HB_RQ_CNT, .HB_RQ_CREDIT]

theorem onlyIn_lateCommand (s : State) (q t tick : Nat) : onlyIn [.post, .taints, .head] lateMarks s (lateCommand s q t tick) :=
  ((((onlyIn.refl ..).latch rfl rfl).incF rfl).incF rfl).trans ((onlyIn_addTaint ..).mono (by decide) (by decide))

/-! ### Threads stop, and their commands are removed -/

theorem onlyIn_failSet (s : State) (q t : Nat) : onlyIn [.post, .taints, .head] lateMarks s (failSet s q t) := by
  unfold failSet
  split
  · exact (onlyIn_lateCommand ..).latch rfl rfl
  · exact .refl ..

/-- A thread that ends, before its state shows it: the set it builds has failed, its wait is over. -/
def endSet (s : State) (q t : Nat) : State := setThread (failSet s q t) q t { thread (failSet s q t) q t with set := .none, wait := none }

theorem threadEnd_eq (s : State) (q t st : Nat) : threadEnd s q t st = setThrState (endSet s q t) q t st 0 := rfl

theorem onlyIn_endSet (s : State) (q t : Nat) : onlyIn [.post, .taints, .head, .seq] lateMarks s (endSet s q t) :=
  ((onlyIn_failSet s q t).mono (by decide) (List.Subset.refl _)).seq rfl

theorem onlyIn_threadEnd (s : State) (q t st : Nat) : onlyIn [.post, .taints, .head, .seq] lateRegs s (threadEnd s q t st) :=
  (((onlyIn_endSet s q t).mono (List.Subset.refl _) (by decide)).setF rfl).setF rfl

theorem onlyIn_szShow (s : State) (q : Nat) : onlyIn [] [.SZ_Q_STAT] s (szShow s q) :=
  (((onlyIn.refl ..).setF rfl).setB rfl).setB rfl

theorem onlyIn_szAbandon (s : State) (q : Nat) : onlyIn [.post, .sizing] gateRegs s (szAbandon s q) := by
  have shown (s) : onlyIn [.post, .sizing] gateRegs s (szShow s q) := (onlyIn_szShow s q).mono (by decide) (by decide)
  unfold szAbandon
  dsimp only
  split
  · exact ((((onlyIn.refl ..).sizing rfl).incF rfl).latch rfl rfl).trans (shown _)
  · split
    · exact ((onlyIn.refl ..).sizing rfl).trans (shown _)
    · exact .refl ..

theorem onlyIn_setDomains (s : State) (d n : Nat) (b : Bool) : onlyIn [] [.PWR_DOM] s (setDomains s d n b) :=
  .foldl (fun s _ => (onlyIn.refl _ _ s).setBitF rfl) _ s

theorem onlyIn_quireGate (s : State) (q : Nat) : onlyIn [.post, .sizing] gateRegs s (quireGate s q) := by
  unfold quireGate
  split
  · exact ((onlyIn_szAbandon ..).trans ((onlyIn_setDomains ..).mono (by decide) (by decide))).setB rfl
  · exact .refl ..

/-- What the stop of threads reaches. -/
def stopParts : List Part := [.post, .taints, .head, .seq, .sizing]

/-- The registers of a thread's stop, and those that count references to segments and weights (R103, R201). -/
def stopRegs : List RegName := [.SEG_W3, .WGT_W3] ++ lateRegs ++ gateRegs

theorem onlyIn_threadStop (s : State) (q t : Nat) : onlyIn stopParts stopRegs s (threadStop s q t) := by
  unfold threadStop
  split
  · exact ((onlyIn_threadEnd ..).mono (by decide) (by decide)).trans ((onlyIn_quireGate ..).mono (by decide) (by decide))
  · exact .refl ..

/-- What the removal of commands reaches. -/
def flushRegs : List RegName := [.SEG_W3, .WGT_W3]

theorem onlyIn_releaseEntry (s : State) (q : Nat) (e : Entry) : onlyIn [.head, .seq] flushRegs s (releaseEntry s q e) := by
  refine onlyIn.foldl (fun s m => ?_) _ s
  unfold releaseBody
  split
  · unfold streamEnd
    split
    · exact ((onlyIn.refl ..).setF rfl).seq rfl
    · exact (onlyIn.refl ..).setF rfl
  · exact (onlyIn.refl ..).setF rfl
  · exact .refl ..

theorem onlyIn_flushed (s : State) (c : Chan) (e : Entry) : onlyIn [.head, .seq] flushRegs s (flushed s c e) := by
  unfold flushed
  split
  · exact (onlyIn.refl ..).head rfl
  · exact .refl ..

theorem onlyIn_flushQueue (s : State) (c : Chan) (t : Nat) : onlyIn [.head, .seq] flushRegs s (flushQueue s c t) :=
  ((onlyIn.refl ..).seq rfl).trans (.foldl (fun _ _ => (onlyIn_releaseEntry ..).trans (onlyIn_flushed ..)) _ _)

theorem onlyIn_threadFlush (s : State) (q t : Nat) : onlyIn [.head, .seq] flushRegs s (threadFlush s q t) :=
  ((onlyIn.foldl (fun _ _ => onlyIn_flushQueue ..) _ s).seq rfl).trans (.foldl (fun _ _ => onlyIn_flushed ..) _ _)

theorem onlyIn_fenceQuire (s : State) (q : Nat) : onlyIn stopParts stopRegs s (fenceQuire s q) :=
  .foldl (fun _ _ => (onlyIn_threadStop ..).trans ((onlyIn_threadFlush ..).mono (by decide) (by decide))) _ s

/-! ### Mutes -/

theorem onlyIn_cwRampFrom (s : State) (q o : Nat) (source target : Int) (len : Nat) :
    onlyIn [.out] [.DRV_STAT] s (cwRampFrom s q o source target len) := by
  unfold cwRampFrom
  dsimp only
  split <;> exact ((onlyIn.refl ..).out rfl).setB rfl

theorem onlyIn_drvUpdate (s : State) (q o onset : Nat) : onlyIn [.out, .post] [.DRV_STAT, .DRV_CNT, .DRV_LATCH] s (drvUpdate s q o onset) := by
  unfold drvUpdate
  split
  · exact .refl ..
  · split
    · exact (((((onlyIn.refl ..).out rfl).setB rfl).setB rfl).incF rfl).latch rfl rfl
    · exact (((onlyIn.refl ..).out rfl).setB rfl).trans ((onlyIn_cwRampFrom ..).mono (by decide) (by decide))

theorem onlyIn_flxUpdate (s : State) (q i onset : Nat) : onlyIn [.out, .post] [.FLX_STAT, .FLX_CNT, .FLX_LATCH] s (flxUpdate s q i onset) := by
  unfold flxUpdate
  split
  · exact .refl ..
  · split
    · exact ((((onlyIn.refl ..).out rfl).setB rfl).incF rfl).latch rfl rfl
    · exact ((onlyIn.refl ..).out rfl).setB rfl

/-- The registers of the mutes. -/
def muteRegs : List RegName := [.DRV_STAT, .DRV_CNT, .DRV_LATCH, .FLX_STAT, .FLX_CNT, .FLX_LATCH]

/-- The fence of a quire's flux channels, on or off. -/
def fluxFence (s : State) (q onset : Nat) (b : Bool) : State :=
  (List.range 24).foldl (fun s i => flxUpdate (setB s (F.FLX_STAT_FENCE q i) b) q i onset) s

/-- The fence of a quire's drive and probe outputs, on or off. -/
def driveFence (s : State) (q onset : Nat) (b : Bool) : State :=
  (List.range 5).foldl (fun s o => drvUpdate (setB s (F.DRV_STAT_FENCE q o) b) q o onset) s

theorem fenceMute_eq (s : State) (b : Bool) : fenceMute s b =
    (List.range 16).foldl (fun s q => fluxFence (driveFence s q (if b then s.now + 2 else s.now) b) q (if b then s.now + 2 else s.now) b) s := rfl

theorem onlyIn_fluxFence (s : State) (q onset : Nat) (b : Bool) :
    onlyIn [.out, .post] [.FLX_STAT, .FLX_CNT, .FLX_LATCH] s (fluxFence s q onset b) :=
  .foldl (fun _ _ => ((onlyIn.refl ..).setB rfl).trans (onlyIn_flxUpdate ..)) _ s

theorem onlyIn_driveFence (s : State) (q onset : Nat) (b : Bool) :
    onlyIn [.out, .post] [.DRV_STAT, .DRV_CNT, .DRV_LATCH] s (driveFence s q onset b) :=
  .foldl (fun _ _ => ((onlyIn.refl ..).setB rfl).trans (onlyIn_drvUpdate ..)) _ s

theorem onlyIn_fenceMute (s : State) (b : Bool) : onlyIn [.out, .post] muteRegs s (fenceMute s b) := by
  rw [fenceMute_eq]
  exact onlyIn.foldl (fun _ _ => ((onlyIn_driveFence ..).mono (List.Subset.refl _) (by decide)).trans
    ((onlyIn_fluxFence ..).mono (List.Subset.refl _) (by decide))) _ s

/-! ### What a fold over all quires, threads or outputs establishes -/

/-- What the step of each element establishes for it, and every step keeps, holds of all elements after the fold. -/
theorem foldl_establishes {α σ : Type} {P : α → σ → Prop} {f : σ → α → σ} (new : ∀ s a, P a (f s a))
    (keep : ∀ s a b, P b s → P b (f s a)) {l : List α} {a : α} (ha : a ∈ l) (s : σ) : P a (l.foldl f s) := by
  induction l generalizing s with
  | nil => cases ha
  | cons b l ih =>
    rcases List.mem_cons.1 ha with rfl | hl
    · exact List.foldlRecOn l f (new s a) (fun t ht c _ => keep t c a ht)
    · exact ih hl (f s b)

/-- A thread is not active. -/
def stopped (s : State) (q t : Nat) : Prop := isActive (thrState s q t) = false

theorem onlyIn.stopped {P : List Part} {N : List RegName} {s u : State} (h : onlyIn P N s u) (hN : N.contains .THR_STAT = false) {q t : Nat}
    (hs : stopped s q t) : stopped u q t := by
  rw [Machine.stopped, thrState, h.getF_eq (f := F.THR_STAT_STATE q t) hN]
  exact hs

theorem stopped_setThrState_same (s : State) (q t : Nat) : stopped (setThrState s q t stDone 0) q t := by
  simp [stopped, thrState, setThrState, getF_setF, F.THR_STAT_STATE, F.THR_STAT_WCAUSE, stDone, isActive, stRun, stStall, stWait]

theorem stopped_setThrState {s : State} {q t : Nat} (q' t' : Nat) (h : stopped s q t) : stopped (setThrState s q' t' stDone 0) q t := by
  by_cases e : q = q' ∧ t = t'
  · obtain ⟨rfl, rfl⟩ := e
    exact stopped_setThrState_same s q t
  · simpa [stopped, thrState, setThrState, getF_setF, F.THR_STAT_STATE, F.THR_STAT_WCAUSE, e] using h

theorem stopped_threadStop_same (s : State) (q t : Nat) : stopped (threadStop s q t) q t := by
  unfold threadStop
  split
  · rw [threadEnd_eq]
    exact (onlyIn_quireGate ..).stopped rfl (stopped_setThrState_same ..)
  · next h => exact Bool.eq_false_iff.2 h

theorem stopped_threadStop {s : State} {q t : Nat} (q' t' : Nat) (h : stopped s q t) : stopped (threadStop s q' t') q t := by
  unfold threadStop
  split
  · rw [threadEnd_eq]
    exact (onlyIn_quireGate ..).stopped rfl (stopped_setThrState q' t' ((onlyIn_endSet ..).stopped rfl h))
  · exact h

theorem fenceQuire_stopped {s : State} {q t : Nat} (q' : Nat) (h : stopped s q t) : stopped (fenceQuire s q') q t :=
  List.foldlRecOn (motive := fun s => stopped s q t) _ _ h fun _ hs t' _ => (onlyIn_threadFlush ..).stopped rfl (stopped_threadStop q' t' hs)

theorem fenceQuire_stops (s : State) (q : Nat) {t : Nat} (ht : t < 16) : stopped (fenceQuire s q) q t :=
  foldl_establishes (P := fun t s => stopped s q t) (fun _ _ => (onlyIn_threadFlush ..).stopped rfl (stopped_threadStop_same ..))
    (fun _ t' _ hs => (onlyIn_threadFlush ..).stopped rfl (stopped_threadStop q t' hs)) (List.mem_range.2 ht) s

/-- The threads of every quire stop, and their commands are removed (R491). -/
def fenceQuires (s : State) : State := (List.range 16).foldl fenceQuire s

theorem onlyIn_fenceQuires (s : State) : onlyIn stopParts stopRegs s (fenceQuires s) := .foldl onlyIn_fenceQuire _ s

theorem fenceQuires_stop (s : State) {q t : Nat} (hq : q < 16) (ht : t < 16) : stopped (fenceQuires s) q t :=
  foldl_establishes (P := fun q s => stopped s q t) (fun s q => fenceQuire_stops s q ht) (fun _ q' _ hs => fenceQuire_stopped q' hs)
    (List.mem_range.2 hq) s

/-- The fence mutes a drive or probe output. -/
def fencedOff (s : State) (q o : Nat) : Prop := flagF s (F.DRV_STAT_FENCE q o) = true ∧ flagF s (F.DRV_STAT_MUTED q o) = true

theorem onlyIn.fencedOff {P : List Part} {N : List RegName} {s u : State} (h : onlyIn P N s u) (hN : N.contains .DRV_STAT = false) {q o : Nat}
    (hs : fencedOff s q o) : fencedOff u q o :=
  ⟨(h.flagF_eq hN).trans hs.1, (h.flagF_eq hN).trans hs.2⟩

/-- Setting a flag clears none. -/
theorem flagF_setB_true {s : State} {f g : Fld} (hf : 0 < f.width) (h : flagF s g = true) : flagF (setB s f true) g = true := by
  by_cases e : g.key = f.key
  · have one : 1 % 2 ^ f.width = 1 := Nat.mod_eq_of_lt (Nat.one_lt_two_pow (by omega))
    simp [flagF, setB, getF_setF_key s _ e, one]
  · rw [flagF, getF_setB_other s true e]
    exact h

theorem drvMuteEnter_flagF (s : State) (q o onset : Nat) {g : Fld} (hg : g.key.reg.name = .DRV_STAT)
    (hr : g.key ≠ (F.DRV_STAT_CW_RAMPING q o).key) : flagF (drvMuteEnter s q o onset) g = flagF (setB s (F.DRV_STAT_MUTED q o) true) g := by
  unfold drvMuteEnter flagF
  rw [getF_latch_other _ _ (fun e => by simp [e, F.DRV_LATCH_MUTE] at hg), getF_incF_other _ (fun e => by simp [e, F.DRV_CNT_MUTES] at hg),
    getF_setB_other _ _ hr]
  rfl

/-- With the fence set on an output, bringing its mute in line mutes it, and leaves muted what the fence mutes. -/
theorem drvUpdate_fencedOff {s : State} {q o : Nat} (onset : Nat) (h : flagF s (F.DRV_STAT_FENCE q o) = true) :
    fencedOff (drvUpdate s q o onset) q o ∧ ∀ q' o', fencedOff s q' o' → fencedOff (drvUpdate s q o onset) q' o' := by
  have cause : drvCause s q o = true := by simp [drvCause, h]
  unfold drvUpdate
  rw [cause]
  split
  · next muted => exact ⟨⟨h, muted.symm⟩, fun _ _ hs => hs⟩
  · have entered (q' o') (hf : flagF s (F.DRV_STAT_FENCE q' o') = true) (hm : flagF (setB s (F.DRV_STAT_MUTED q o) true) (F.DRV_STAT_MUTED q' o') = true) :
        fencedOff (drvMuteEnter s q o onset) q' o' := by
      refine ⟨?_, ?_⟩
      · rw [drvMuteEnter_flagF _ _ _ _ rfl (by simp [F.DRV_STAT_FENCE, F.DRV_STAT_CW_RAMPING])]
        exact flagF_setB_true Nat.one_pos hf
      · rw [drvMuteEnter_flagF _ _ _ _ rfl (by simp [F.DRV_STAT_MUTED, F.DRV_STAT_CW_RAMPING])]
        exact hm
    exact ⟨entered q o h (flagF_setB_same _ _ _ Nat.one_pos), fun q' o' hs => entered q' o' hs.1 (flagF_setB_true Nat.one_pos hs.2)⟩

/-- The fence set on an output mutes it, and leaves muted what the fence mutes. -/
theorem fenceOutput_fencedOff (s : State) (q o onset : Nat) :
    fencedOff (drvUpdate (setB s (F.DRV_STAT_FENCE q o) true) q o onset) q o ∧
    ∀ q' o', fencedOff s q' o' → fencedOff (drvUpdate (setB s (F.DRV_STAT_FENCE q o) true) q o onset) q' o' := by
  obtain ⟨new, keep⟩ := drvUpdate_fencedOff onset (flagF_setB_same s (F.DRV_STAT_FENCE q o) true Nat.one_pos)
  exact ⟨new, fun q' o' hs => keep q' o' ⟨flagF_setB_true Nat.one_pos hs.1, flagF_setB_true Nat.one_pos hs.2⟩⟩

/-- With the fence of FENCED on, it mutes every drive and probe output (R56, R135). -/
theorem fenceMute_fencedOff (s : State) {q o : Nat} (hq : q < 16) (ho : o < 5) : fencedOff (fenceMute s true) q o := by
  rw [fenceMute_eq]
  refine foldl_establishes (P := fun q s => fencedOff s q o) (fun s q => ?_) (fun s q' q hs => ?_) (List.mem_range.2 hq) s
  · exact (onlyIn_fluxFence ..).fencedOff rfl (foldl_establishes (P := fun o s => fencedOff s q o)
      (fun s o => (fenceOutput_fencedOff s q o _).1) (fun s o' o hs => (fenceOutput_fencedOff s q o' _).2 q o hs) (List.mem_range.2 ho) s)
  · exact (onlyIn_fluxFence ..).fencedOff rfl (List.foldlRecOn (motive := fun s => fencedOff s q o) _ _ hs
      fun s hs o' _ => (fenceOutput_fencedOff s q' o' _).2 q o hs)

/-! ### Out of epoch -/

/-- What going out of epoch reaches, entering FENCED apart. -/
def epochParts : List Part := .out :: stopParts
def epochRegs : List RegName := [.CL_STAT, .CL_LATCH] ++ muteRegs ++ stopRegs

theorem onlyIn_taintSince (s : State) (tick : Nat) : onlyIn [.taints, .head] [.HB_RQ_CREDIT, .HB_RQ_CNT] s (taintSince s tick) :=
  .foldl (fun _ _ => onlyIn_addTaint ..) _ s

theorem onlyIn_shotRecords (s : State) : onlyIn [.head] [.HB_RQ_CREDIT] s (shotRecords s) := by
  unfold shotRecords
  split
  · refine onlyIn.foldl (fun s q => ?_) _ s
    unfold shotRecord
    split
    · exact onlyIn_wantShotRecord ..
    · exact .refl ..
  · exact .refl ..

/-- The first part of going out of epoch: it is shown, and the outputs are muted. -/
def epochMute (s : State) : State := fenceMute (fire (latch (setB s F.CL_STAT_OUT_EPOCH true) F.CL_LATCH_EPOCH 640) 543) true

theorem onlyIn_epochMute (s : State) : onlyIn epochParts epochRegs s (epochMute s) :=
  (((onlyIn.refl ..).setB rfl).latch rfl rfl |>.post rfl).trans ((onlyIn_fenceMute ..).mono (by decide) (by decide))

theorem outOfEpoch_in {s : State} (since : Nat) (h : flagF s F.CL_STAT_OUT_EPOCH = false) :
    outOfEpoch s since = shotRecords (taintSince (fenceQuires (epochMute s)) (min since (fenceQuires (epochMute s)).now)) := by
  rw [outOfEpoch, if_neg (by simp [h])]
  rfl

theorem outOfEpoch_out {s : State} (since : Nat) (h : flagF s F.CL_STAT_OUT_EPOCH = true) : outOfEpoch s since = taintSince s since := if_pos h

/-- After the mute nothing that going out of epoch does reaches the outputs or the cluster's status. -/
theorem outOfEpoch_afterMute {s : State} (since : Nat) (h : flagF s F.CL_STAT_OUT_EPOCH = false) :
    onlyIn stopParts stopRegs (epochMute s) (outOfEpoch s since) := by
  rw [outOfEpoch_in since h]
  exact (onlyIn_fenceQuires _).trans (((onlyIn_taintSince ..).mono (by decide) (by decide)).trans
    ((onlyIn_shotRecords _).mono (by decide) (by decide)))

theorem onlyIn_outOfEpoch (s : State) (since : Nat) : onlyIn epochParts epochRegs s (outOfEpoch s since) := by
  cases h : flagF s F.CL_STAT_OUT_EPOCH with
  | false => exact (onlyIn_epochMute s).trans ((outOfEpoch_afterMute since h).mono (by decide) (by decide))
  | true =>
    rw [outOfEpoch_out since h]
    exact (onlyIn_taintSince ..).mono (by decide) (by decide)

/-- A device that was in epoch is then shown out of epoch, its outputs muted by the fence. -/
theorem outOfEpoch_muted {s : State} (since : Nat) (h : flagF s F.CL_STAT_OUT_EPOCH = false) :
    flagF (outOfEpoch s since) F.CL_STAT_OUT_EPOCH = true ∧ ∀ q o, q < 16 → o < 5 → fencedOff (outOfEpoch s since) q o := by
  have rest := outOfEpoch_afterMute since h
  refine ⟨?_, fun q o hq ho => rest.fencedOff rfl (fenceMute_fencedOff _ hq ho)⟩
  rw [rest.flagF_eq rfl, epochMute, (onlyIn_fenceMute ..).flagF_eq rfl]
  change flagF (latch _ _ _) _ = true
  rw [flagF, getF_latch_other _ _ (by decide)]
  exact flagF_setB_same s F.CL_STAT_OUT_EPOCH true Nat.one_pos

/-! ### FENCED -/

/-- The state in which FENCED is entered: the time status and its latch, the measurements dropped (R56). -/
def fencedStatus (s : State) : State :=
  latch (setTimeStatus { s with time := { s.time with meas := [], trim := none } } tsFenced) F.TB_TLATCH_FENCE 25

theorem enterFenced_eq (s : State) : enterFenced s = fenceQuires (outOfEpoch (fencedStatus s) (fencedStatus s).now) := rfl

theorem onlyIn_fencedStatus (s : State) : onlyIn [.time, .post] [.TB_TSTAT, .TB_TLATCH] s (fencedStatus s) :=
  ((onlyIn.refl ..).time rfl |>.setF rfl).latch rfl rfl

/-- After the status nothing that entering FENCED does reaches the timebase. -/
theorem enterFenced_afterStatus (s : State) : onlyIn epochParts epochRegs (fencedStatus s) (enterFenced s) := by
  rw [enterFenced_eq]
  exact (onlyIn_outOfEpoch ..).trans ((onlyIn_fenceQuires _).mono (by decide) (by decide))

theorem onlyIn_enterFenced (s : State) : onlyIn fenceParts fenceRegs s (enterFenced s) :=
  ((onlyIn_fencedStatus s).mono (by decide) (by decide)).trans ((enterFenced_afterStatus s).mono (by decide) (by decide))

theorem enterFenced_time (s : State) : (enterFenced s).time = { s.time with meas := [], trim := none } :=
  ((enterFenced_afterStatus s).1 .time (by decide)).trans (latch_time ..)

theorem timeStatus_enterFenced (s : State) : timeStatus (enterFenced s) = tsFenced := by
  rw [timeStatus, (enterFenced_afterStatus s).getF_eq rfl, fencedStatus, getF_latch_other _ _ (by decide)]
  exact getF_setF_same ..

theorem flagF_enterFenced_fence (s : State) : flagF (enterFenced s) F.TB_TLATCH_FENCE = true := by
  rw [(enterFenced_afterStatus s).flagF_eq rfl]
  exact flagF_latch _ _ _ Nat.one_pos

/-- Entering FENCED takes a device that was in epoch out of it (R56, R348). -/
theorem isOutOfEpoch_enterFenced {s : State} (h : flagF s F.CL_STAT_OUT_EPOCH = false) : isOutOfEpoch (enterFenced s) := by
  have quires := onlyIn_fenceQuires (outOfEpoch (fencedStatus s) (fencedStatus s).now)
  obtain ⟨shown, muted⟩ := outOfEpoch_muted (fencedStatus s).now (((onlyIn_fencedStatus s).flagF_eq rfl).trans h)
  rw [enterFenced_eq]
  refine ⟨(quires.flagF_eq rfl).trans shown, fun q k => fenceQuires_stop _ q.isLt k.isLt, fun q o => quires.fencedOff rfl (muted q o q.isLt o.isLt)⟩

/-! ### The reference -/

theorem onlyIn_capStop (s : State) (u : Nat) (b : Bool) : onlyIn [.post, .capture] [.CAP_STAT, .CAP_LATCH] s (capStop s u b) := by
  unfold capStop
  dsimp only
  split
  · exact ((onlyIn.refl ..).capture rfl |>.setF rfl).latch rfl rfl
  · exact (onlyIn.refl ..).capture rfl |>.setF rfl

theorem onlyIn_capStopAll (s : State) : onlyIn [.post, .capture] [.CAP_STAT, .CAP_LATCH] s (capStopAll s) :=
  .foldl (fun _ _ => onlyIn_capStop ..) _ s

/-- The loss of the reference as it shows in TB_REF_STAT, seen from the state before (R42, R44). -/
def refLost (s t : State) : Prop :=
  flagF t F.TB_REF_STAT_REF_PRESENT = false ∧ flagF t F.TB_REF_STAT_DANDY_LOCK = false ∧ flagF t F.TB_REF_STAT_REF_LOSS = true ∧
  (flagF s F.TB_REF_STAT_DANDY_LOCK = true → flagF t F.TB_REF_STAT_LOCK_LOSS = true)

theorem onlyIn.refLost {P : List Part} {N : List RegName} {s t u : State} (h : onlyIn P N t u) (hN : N.contains .TB_REF_STAT = false)
    (hs : refLost s t) : refLost s u := by
  obtain ⟨present, lock, loss, lockLoss⟩ := hs
  exact ⟨(h.flagF_eq hN).trans present, (h.flagF_eq hN).trans lock, (h.flagF_eq hN).trans loss, fun l => (h.flagF_eq hN).trans (lockLoss l)⟩

/-- The reference is no longer present, and its loss is latched. -/
def refGone (s : State) : State := latch (setB s F.TB_REF_STAT_REF_PRESENT false) F.TB_REF_STAT_REF_LOSS 26

theorem onlyIn_refGone (s : State) : onlyIn [.post] [.TB_REF_STAT] s (refGone s) := ((onlyIn.refl ..).setB rfl).latch rfl rfl

theorem flagF_refGone_lock (s : State) : flagF (refGone s) F.TB_REF_STAT_DANDY_LOCK = flagF s F.TB_REF_STAT_DANDY_LOCK := by
  unfold refGone flagF
  rw [getF_latch_other _ _ (by decide), getF_setB_other _ _ (by decide)]

theorem flagF_refGone (s : State) : flagF (refGone s) F.TB_REF_STAT_REF_PRESENT = false ∧ flagF (refGone s) F.TB_REF_STAT_REF_LOSS = true := by
  refine ⟨?_, flagF_latch _ _ _ Nat.one_pos⟩
  rw [refGone, flagF, getF_latch_other _ _ (by decide)]
  exact flagF_setB_same s F.TB_REF_STAT_REF_PRESENT false Nat.one_pos

/-- DANDY_LOCK falls where it was set, and stays as it is where it was not. -/
theorem lockFalls_locked {s : State} (h : flagF s F.TB_REF_STAT_DANDY_LOCK = true) :
    lockFalls s = capStopAll (latch (setB s F.TB_REF_STAT_DANDY_LOCK false) F.TB_REF_STAT_LOCK_LOSS 27) := if_pos h

theorem lockFalls_unlocked {s : State} (h : flagF s F.TB_REF_STAT_DANDY_LOCK = false) : lockFalls s = s := by simp [lockFalls, h]

theorem onlyIn_lockFalls (s : State) : onlyIn [.post, .capture] [.TB_REF_STAT, .CAP_STAT, .CAP_LATCH] s (lockFalls s) := by
  unfold lockFalls
  split
  · exact (((onlyIn.refl ..).setB rfl).latch rfl rfl).trans ((onlyIn_capStopAll _).mono (by decide) (by decide))
  · exact .refl ..

theorem refLost_lockFalls (s : State) : refLost s (lockFalls (refGone s)) := by
  obtain ⟨present, loss⟩ := flagF_refGone s
  have lock := flagF_refGone_lock s
  cases h : flagF s F.TB_REF_STAT_DANDY_LOCK with
  | false =>
    rw [lockFalls_unlocked (lock.trans h)]
    exact ⟨present, lock.trans h, loss, fun l => absurd (h.symm.trans l) (by decide)⟩
  | true =>
    rw [lockFalls_locked (lock.trans h)]
    refine (onlyIn_capStopAll _).refLost rfl ⟨?_, ?_, ?_, fun _ => flagF_latch _ _ _ Nat.one_pos⟩
    · rwa [flagF, getF_latch_other _ _ (by decide), getF_setB_other _ _ (by decide)]
    · rw [flagF, getF_latch_other _ _ (by decide)]
      exact flagF_setB_same _ F.TB_REF_STAT_DANDY_LOCK false Nat.one_pos
    · rwa [flagF, getF_latch_other _ _ (by decide), getF_setB_other _ _ (by decide)]

/-- A time status from which a lost reference fences the device (R55). -/
def timeRuns (s : State) : Prop := timeStatus s = tsMaster ∨ timeStatus s = tsMeasure ∨ timeStatus s = tsLocked ∨ timeStatus s = tsHold

/-- The time status outlives the loss of the reference itself. -/
theorem timeStatus_lockFalls (s : State) : timeStatus (lockFalls (refGone s)) = timeStatus s :=
  ((onlyIn_lockFalls _).getF_eq rfl).trans ((onlyIn_refGone s).getF_eq rfl)

theorem referenceLost_absent {s : State} (h : flagF s F.TB_REF_STAT_REF_PRESENT = false) : referenceLost s = s := by
  simp [referenceLost, h]

theorem referenceLost_running {s : State} (h : flagF s F.TB_REF_STAT_REF_PRESENT = true) (r : timeRuns s) :
    referenceLost s = enterFenced (lockFalls (refGone s)) := by
  rw [timeRuns, ← timeStatus_lockFalls s] at r
  rw [referenceLost, if_pos h]
  exact if_pos r

theorem referenceLost_still {s : State} (h : flagF s F.TB_REF_STAT_REF_PRESENT = true) (r : ¬ timeRuns s) :
    referenceLost s = lockFalls (refGone s) := by
  rw [timeRuns, ← timeStatus_lockFalls s] at r
  rw [referenceLost, if_pos h]
  exact if_neg r

/-- Whether the present frequency window holds a gap is noted. -/
def setGap (s : State) (b : Bool) : State := { s with time := { s.time with gap := b } }

theorem onlyIn_lockFalls_refGone (s : State) : onlyIn [.time, .post, .capture] [.TB_REF_STAT, .CAP_STAT, .CAP_LATCH] s (lockFalls (refGone s)) :=
  ((onlyIn_refGone s).mono (by decide) (by decide)).trans ((onlyIn_lockFalls _).mono (by decide) (by decide))

/-- The reference of a device whose time runs is lost: it is fenced (R42, R44, R55, R56). -/
theorem referenceLost_fences {s : State} (b : Bool) (h : flagF s F.TB_REF_STAT_REF_PRESENT = true) (r : timeRuns s) :
    refLost s (referenceLost (setGap s b)) ∧ timeStatus (referenceLost (setGap s b)) = tsFenced ∧
    flagF (referenceLost (setGap s b)) F.TB_TLATCH_FENCE = true ∧
    (flagF s F.CL_STAT_OUT_EPOCH = false → isOutOfEpoch (referenceLost (setGap s b))) ∧
    onlyIn (.capture :: fenceParts) (.TB_REF_STAT :: .CAP_STAT :: .CAP_LATCH :: fenceRegs) s (referenceLost (setGap s b)) ∧
    (referenceLost (setGap s b)).time.gap = b := by
  have lost := onlyIn_lockFalls_refGone (setGap s b)
  have gone : (lockFalls (refGone (setGap s b))).time = (setGap s b).time :=
    ((onlyIn_lockFalls _).1 .time (by decide)).trans ((onlyIn_refGone _).1 .time (by decide))
  rw [referenceLost_running (s := setGap s b) h r]
  refine ⟨(onlyIn_enterFenced _).refLost rfl (refLost_lockFalls (setGap s b)), timeStatus_enterFenced _, flagF_enterFenced_fence _,
    fun e => isOutOfEpoch_enterFenced ((lost.flagF_eq rfl).trans e), ?_, ?_⟩
  · exact (((onlyIn.refl ..).time rfl).trans (lost.mono (by decide) (by decide))).trans ((onlyIn_enterFenced _).mono (by decide) (by decide))
  · rw [enterFenced_time, gone]
    rfl

/-- The reference of a device whose time does not run is lost: the status stays (R42, R44). -/
theorem referenceLost_shown {s : State} (b : Bool) (h : flagF s F.TB_REF_STAT_REF_PRESENT = true) (r : ¬ timeRuns s) :
    refLost s (referenceLost (setGap s b)) ∧ timeStatus (referenceLost (setGap s b)) = timeStatus s ∧ (referenceLost (setGap s b)).time.gap = b ∧
    onlyIn [.time, .post, .capture] [.TB_REF_STAT, .CAP_STAT, .CAP_LATCH] s (referenceLost (setGap s b)) := by
  have gone : (lockFalls (refGone (setGap s b))).time = (setGap s b).time :=
    ((onlyIn_lockFalls _).1 .time (by decide)).trans ((onlyIn_refGone _).1 .time (by decide))
  rw [referenceLost_still (s := setGap s b) h r]
  exact ⟨refLost_lockFalls (setGap s b), timeStatus_lockFalls (setGap s b), by rw [gone]; rfl,
    ((onlyIn.refl ..).time rfl).trans (onlyIn_lockFalls_refGone (setGap s b))⟩

/-- Where DANDY_LOCK was not set either, the loss of the reference is all there is to see. -/
theorem referenceLost_unlocked {s : State} (b : Bool) (h : flagF s F.TB_REF_STAT_REF_PRESENT = true) (r : ¬ timeRuns s)
    (l : flagF s F.TB_REF_STAT_DANDY_LOCK = false) : onlyIn [.time, .post] [.TB_REF_STAT] s (referenceLost (setGap s b)) := by
  rw [referenceLost_still (s := setGap s b) h r, lockFalls_unlocked ((flagF_refGone_lock (setGap s b)).trans l)]
  exact ((onlyIn.refl ..).time rfl).trans ((onlyIn_refGone _).mono (by decide) (List.Subset.refl _))

/-- A frequency window in range ends: without a gap the reference is present (R42). -/
theorem refWindow_clean {s : State} (h : s.time.gap = false) : refWindow s true = setB (setGap s false) F.TB_REF_STAT_REF_PRESENT true := by
  simp [refWindow, h, setGap]

theorem refWindow_gap {s : State} (h : s.time.gap = true) : refWindow s true = setGap s false := by simp [refWindow, h, setGap]

/-! ### Dandy lock -/

/-- The Dandy is locked, and device time runs; where it did not, it starts at zero (R45, R48). -/
def lockStart (s : State) : State :=
  let s := setB s F.TB_REF_STAT_DANDY_LOCK true
  if s.time.started then s else { s with now := 0, time := { s.time with started := true }, post := { s.post with base := s.post.ps } }

theorem dandyLock_eq {s : State} (p : flagF s F.TB_REF_STAT_REF_PRESENT = true) (l : flagF s F.TB_REF_STAT_DANDY_LOCK = false) :
    dandyLock s = leaveUnsync (lockStart s) := by
  rw [dandyLock, p, l]
  rfl

/-- DANDY_LOCK as it shows, and device time as it then runs, seen from the state before. -/
def lockShown (s t : State) : Prop :=
  flagF t F.TB_REF_STAT_DANDY_LOCK = true ∧ t.time.started = true ∧ t.now = (if s.time.started then s.now else 0) ∧
  t.post = (if s.time.started then s.post else { s.post with base := s.post.ps })

theorem lockShown_lockStart (s : State) : lockShown s (lockStart s) := by
  have lock : flagF (setB s F.TB_REF_STAT_DANDY_LOCK true) F.TB_REF_STAT_DANDY_LOCK = true := flagF_setB_same s _ true Nat.one_pos
  unfold lockStart
  dsimp only
  split
  · next h =>
    rw [setB_time] at h
    exact ⟨lock, h, by simp [h], by simp [h]⟩
  · next h =>
    rw [setB_time] at h
    exact ⟨lock, rfl, by simp [h], by simp [h]⟩

theorem onlyIn_lockStart (s : State) : onlyIn [.now, .time, .post] [.TB_REF_STAT] s (lockStart s) := by
  have locked : onlyIn [.now, .time, .post] [.TB_REF_STAT] s (setB s F.TB_REF_STAT_DANDY_LOCK true) := (onlyIn.refl ..).setB rfl
  unfold lockStart
  dsimp only
  split
  · exact locked
  · exact locked.trans (onlyIn_of_regs rfl fun p hp => by cases p <;> simp [Part.kept] at hp ⊢)

/-- Updates that leave device time, the instant and TB_REF_STAT keep what a lock shows. -/
theorem lockShown.keep {s t u : State} (h : lockShown s t) (hr : flagF u F.TB_REF_STAT_DANDY_LOCK = flagF t F.TB_REF_STAT_DANDY_LOCK)
    (ht : u.time.started = t.time.started) (hn : u.now = t.now) (hp : u.post = t.post) : lockShown s u := by
  obtain ⟨lock, started, now, post⟩ := h
  exact ⟨hr.trans lock, ht.trans started, hn.trans now, hp.trans post⟩

theorem onlyIn.isMaster {P : List Part} {N : List RegName} {s t : State} (h : onlyIn P N s t) (hE : N.contains .CL_CFG = false)
    (hM : N.contains .CHIP_PERS = false) : isMaster t = isMaster s := by
  rw [Machine.isMaster, h.flagF_eq hE, h.flagF_eq hM, Machine.isMaster]

theorem onlyIn.parentRuns {P : List Part} {N : List RegName} {s t : State} (h : onlyIn P N s t) (hT : N.contains .TB_TSTAT = false)
    (hC : N.contains .CHN_PORT_STAT = false) : parentRuns t = parentRuns s := by
  rw [Machine.parentRuns, h.flagF_eq hT, h.getF_eq (f := F.TB_TSTAT_PARENT) hT, h.getF_eq hC, Machine.parentRuns]

/-- A master with its Dandy locked leaves UNSYNC for MASTER (R55). -/
theorem leaveUnsync_master {s : State} (u : timeStatus s = tsUnsync) (l : flagF s F.TB_REF_STAT_DANDY_LOCK = true) (m : isMaster s = true) :
    leaveUnsync s = setB (setF (setTimeStatus s tsMaster) F.CL_STAT_HOPS 0) F.CL_STAT_MASTER true := by
  rw [leaveUnsync, if_pos ⟨u, l⟩, if_pos m]

/-- A follower whose parent port is in Run leaves UNSYNC for MEASURE (R55). -/
theorem leaveUnsync_follower {s : State} (u : timeStatus s = tsUnsync) (l : flagF s F.TB_REF_STAT_DANDY_LOCK = true) (m : isMaster s = false)
    (p : parentRuns s = true) : leaveUnsync s = setTimeStatus { s with time := { s.time with steps := 0 } } tsMeasure := by
  rw [leaveUnsync, if_pos ⟨u, l⟩, if_neg (by simp [m]), if_pos p]

theorem leaveUnsync_stays {s : State} (h : timeStatus s ≠ tsUnsync ∨ isMaster s = false ∧ parentRuns s = false) : leaveUnsync s = s := by
  unfold leaveUnsync
  rcases h with h | ⟨m, p⟩
  · rw [if_neg (fun c => h c.1)]
  · simp [m, p]

theorem dandyLock_master {s : State} (p : flagF s F.TB_REF_STAT_REF_PRESENT = true) (l : flagF s F.TB_REF_STAT_DANDY_LOCK = false)
    (u : timeStatus s = tsUnsync) (m : isMaster s = true) :
    lockShown s (dandyLock s) ∧ timeStatus (dandyLock s) = tsMaster ∧ flagF (dandyLock s) F.CL_STAT_MASTER = true ∧
    getF (dandyLock s) F.CL_STAT_HOPS = 0 ∧ onlyIn [.now, .time, .post] [.TB_REF_STAT, .TB_TSTAT, .CL_STAT] s (dandyLock s) := by
  have start := onlyIn_lockStart s
  have shown := lockShown_lockStart s
  rw [dandyLock_eq p l, leaveUnsync_master ((start.getF_eq rfl).trans u) shown.1 ((start.isMaster rfl rfl).trans m)]
  refine ⟨shown.keep ?_ rfl rfl rfl, ?_, flagF_setB_same _ _ _ Nat.one_pos, ?_, ?_⟩
  · rw [flagF, getF_setB_other _ _ (by decide), getF_setF_other _ _ (by decide)]
    exact congrArg (· != 0) (getF_setF_other _ _ (by decide))
  · rw [timeStatus, getF_setB_other _ _ (by decide), getF_setF_other _ _ (by decide)]
    exact getF_setF_same ..
  · rw [getF_setB_other _ _ (by decide)]
    exact getF_setF_same ..
  · exact ((start.mono (List.Subset.refl _) (by decide)).setF rfl |>.setF rfl).setB rfl

theorem dandyLock_follower {s : State} (p : flagF s F.TB_REF_STAT_REF_PRESENT = true) (l : flagF s F.TB_REF_STAT_DANDY_LOCK = false)
    (u : timeStatus s = tsUnsync) (m : isMaster s = false) (r : parentRuns s = true) :
    lockShown s (dandyLock s) ∧ timeStatus (dandyLock s) = tsMeasure ∧ (dandyLock s).time.steps = 0 ∧
    onlyIn [.now, .time, .post] [.TB_REF_STAT, .TB_TSTAT] s (dandyLock s) := by
  have start := onlyIn_lockStart s
  have shown := lockShown_lockStart s
  rw [dandyLock_eq p l, leaveUnsync_follower ((start.getF_eq rfl).trans u) shown.1 ((start.isMaster rfl rfl).trans m)
    ((start.parentRuns rfl rfl).trans r)]
  exact ⟨shown.keep (congrArg (· != 0) (getF_setF_other _ _ (by decide))) rfl rfl rfl, getF_setF_same .., rfl,
    (start.mono (List.Subset.refl _) (by decide)).time rfl |>.setF rfl⟩

theorem dandyLock_stays {s : State} (p : flagF s F.TB_REF_STAT_REF_PRESENT = true) (l : flagF s F.TB_REF_STAT_DANDY_LOCK = false)
    (h : timeStatus s ≠ tsUnsync ∨ isMaster s = false ∧ parentRuns s = false) :
    lockShown s (dandyLock s) ∧ timeStatus (dandyLock s) = timeStatus s ∧ onlyIn [.now, .time, .post] [.TB_REF_STAT] s (dandyLock s) := by
  have start := onlyIn_lockStart s
  have status : timeStatus (lockStart s) = timeStatus s := start.getF_eq rfl
  rw [dandyLock_eq p l, leaveUnsync_stays (by rwa [status, start.isMaster rfl rfl, start.parentRuns rfl rfl])]
  exact ⟨lockShown_lockStart s, status, start⟩

/-- A Dandy without its reference, or locked already, does not lock. -/
theorem dandyLock_idle {s : State} (h : flagF s F.TB_REF_STAT_REF_PRESENT = false ∨ flagF s F.TB_REF_STAT_DANDY_LOCK = true) : dandyLock s = s := by
  unfold dandyLock
  rcases h with h | h <;> simp [h]

/-! ### Reads of device time and the wall clock -/

/-- A read of TB_TIME_LO takes device time whole (R50). -/
theorem timeLoRead_reads (s : State) :
    getF (timeLoRead s) F.TB_TIME_LO_TIME = s.now % 2 ^ 32 ∧ getF (timeLoRead s) F.TB_TIME_HI_TIME = s.now / 2 ^ 32 % 2 ^ 32 ∧
    onlyIn [] [.TB_TIME_LO, .TB_TIME_HI] s (timeLoRead s) := by
  refine ⟨?_, getF_setF_same .., ((onlyIn.refl ..).setF rfl).setF rfl⟩
  rw [timeLoRead, getF_setF_other _ _ (by decide), getF_setF_same]
  exact Nat.mod_mod ..

/-- The wall clock's nanoseconds; before it is set it reads zero. -/
def wallNs (s : State) : Nat := s.time.wall.getD 0 / 2 ^ 32

theorem wctRead_eq (s : State) : wctRead s =
    setF (setF (setF (setF (setF s F.TB_WCT_NS_VALUE (wallNs s % 1000000000)) F.TB_WCT_SEC_LO_VALUE (wallNs s / 1000000000 % 2 ^ 32))
      F.TB_WCT_SEC_HI_VALUE (wallNs s / 1000000000 / 2 ^ 32)) F.TB_WCT_DT_LO_TIME (s.now % 2 ^ 32)) F.TB_WCT_DT_HI_TIME (s.now / 2 ^ 32) := by
  unfold wctRead wallNs
  cases s.time.wall <;> rfl

/-- A read of TB_WCT_NS takes the wall clock and the device time of the same tick whole (R66). -/
theorem wctRead_reads (s : State) :
    getF (wctRead s) F.TB_WCT_NS_VALUE = wallNs s % 1000000000 ∧ getF (wctRead s) F.TB_WCT_SEC_LO_VALUE = wallNs s / 1000000000 % 2 ^ 32 ∧
    getF (wctRead s) F.TB_WCT_SEC_HI_VALUE = wallNs s / 1000000000 / 2 ^ 32 % 2 ^ 16 ∧ getF (wctRead s) F.TB_WCT_DT_LO_TIME = s.now % 2 ^ 32 ∧
    getF (wctRead s) F.TB_WCT_DT_HI_TIME = s.now / 2 ^ 32 % 2 ^ 32 ∧
    onlyIn [] [.TB_WCT_NS, .TB_WCT_SEC_LO, .TB_WCT_SEC_HI, .TB_WCT_DT_LO, .TB_WCT_DT_HI] s (wctRead s) := by
  rw [wctRead_eq]
  refine ⟨?_, ?_, ?_, ?_, getF_setF_same .., ((((onlyIn.refl ..).setF rfl).setF rfl).setF rfl |>.setF rfl).setF rfl⟩
  · rw [getF_setF_other _ _ (by decide), getF_setF_other _ _ (by decide), getF_setF_other _ _ (by decide), getF_setF_other _ _ (by decide),
      getF_setF_same]
    exact Nat.mod_eq_of_lt (Nat.lt_trans (Nat.mod_lt _ (by decide)) (by decide))
  · rw [getF_setF_other _ _ (by decide), getF_setF_other _ _ (by decide), getF_setF_other _ _ (by decide), getF_setF_same]
    exact Nat.mod_mod ..
  · rw [getF_setF_other _ _ (by decide), getF_setF_other _ _ (by decide)]
    exact getF_setF_same ..
  · rw [getF_setF_other _ _ (by decide), getF_setF_same]
    exact Nat.mod_mod ..

/-! ### The write-back of a descriptor where memory is not in canonical form -/

/-- A frame without a launch tick whose descriptor lies at the start of LPDDR6. -/
def sentDesc : TxDesc := ⟨ddrKey 0, 0, none, 60⟩

/-- After reset, but that port 0 has that frame on its wire, sent by tick 0, and that memory lists byte 13 of LPDDR6 twice: not the canonical
form (`Memory.wf`). -/
def doubledByte : State := { State.reset with
  mem := [(ddrKey 13, 1), (ddrKey 13, 1)]
  host := { State.reset.host with eth := [(0, { EthPort.init with wire := some (sentDesc, 0) })] } }

/-- The zero that the write-back puts into byte 13 takes out its first cell only, and the second is read. -/
theorem memWord_txComplete_doubledByte : memWord (txComplete doubledByte 0) (sentDesc.slot + 12) = 2 ^ 31 + 256 := by decide

end Sys2Proof.Machine

section
open Sys2Proof Sys2Proof.Machine

/-- Settles O36: each event is one of the cases of the lemmas above; where it is not due, or the register's block is off, its guard fails. -/
theorem referenceAndTime : Obligations.ReferenceAndTime := by
  intro s ns
  refine ⟨fun p => ?_, fun p => ?_, fun p => ?_, fun p hn => ?_, fun p r => ?_, fun p l r => ?_, fun p l r => ?_, fun p => ?_, fun p r => ?_,
    fun p r => ?_, fun p => ?_, fun g => ?_, fun g => ?_, fun ⟨d, p, l⟩ u m => ?_, fun ⟨d, p, l⟩ u m r => ?_, fun ⟨d, p, l⟩ h => ?_, fun h => ?_⟩
  · exact ⟨timeLoRead s, congrArg Host.Outcome.next (if_pos p), timeLoRead_reads s⟩
  · exact ⟨s, congrArg Host.Outcome.next (if_neg (by simp [p])), rfl⟩
  · exact ⟨s, congrArg Host.Outcome.next (if_neg (by simp [p])), rfl⟩
  · subst hn
    exact ⟨wctRead s, congrArg Host.Outcome.next (if_pos p), wctRead_reads s⟩
  · obtain ⟨lost, status, fence, out, frame, gap⟩ := referenceLost_fences true p r
    exact ⟨_, rfl, ⟨lost, status, fence, out, frame⟩, gap⟩
  · obtain ⟨⟨present, -⟩, status, -⟩ := referenceLost_shown true p r
    exact ⟨_, rfl, present, status, referenceLost_unlocked true p r l⟩
  · exact ⟨_, rfl, referenceLost_shown true p r⟩
  · exact ⟨_, rfl, referenceLost_absent (s := setGap s true) p⟩
  · obtain ⟨lost, status, fence, out, frame, gap⟩ := referenceLost_fences false p r
    exact ⟨_, rfl, ⟨lost, status, fence, out, frame⟩, gap⟩
  · exact ⟨_, rfl, referenceLost_shown false p r⟩
  · exact ⟨_, rfl, referenceLost_absent (s := setGap s false) p⟩
  · exact ⟨_, congrArg Host.Outcome.next (refWindow_clean g), flagF_setB_same _ _ _ Nat.one_pos, ((onlyIn.refl ..).time rfl).setB rfl⟩
  · exact ⟨_, congrArg Host.Outcome.next (refWindow_gap g), rfl, rfl, (onlyIn.refl ..).time rfl⟩
  · exact ⟨_, congrArg Host.Outcome.next (if_pos d), dandyLock_master p l u m⟩
  · exact ⟨_, congrArg Host.Outcome.next (if_pos d), dandyLock_follower p l u m r⟩
  · exact ⟨_, congrArg Host.Outcome.next (if_pos d), dandyLock_stays p l h⟩
  · rcases h with d | h
    · exact ⟨s, congrArg Host.Outcome.next (if_neg (by simp [d])), rfl⟩
    · exact ⟨_, rfl, by simp [dandyLock_idle h]⟩

/-- Refutes O39: the statement does not ask that memory be in canonical form (`Memory.wf`). Where a key is listed twice, the write-back of a frame
that was sent leaves another word than 2^31 in its descriptor (R383). -/
theorem not_ethernetPorts : ¬ Obligations.EthernetPorts := by
  unfold Obligations.EthernetPorts
  intro h
  obtain ⟨-, -, -, -, -, -, -, -, -, -, -, -, -, -, sent, -⟩ := h doubledByte 0 .arp sentDesc sentDesc [] 0 false
  obtain ⟨t, run, -, -, word, -⟩ := sent rfl (Nat.le_refl 0)
  cases run
  exact absurd (memWord_txComplete_doubledByte.symm.trans word) (by decide)

end
end

section
/-! Barriers: what a thread shows that goes on or waits, what a thread's fault leaves of the latches and of the other threads, the wakes of a
release, and with them the statement O8. -/

namespace Sys2Proof.Machine

/-! ### The state a thread shows, and the frame of a change of one thread -/

section
variable {s u : State} {q t q' t' st w : Nat} {v : Thread}

theorem thrState_setThrState_same (h : st < 8) : thrState (setThrState s q t st w) q t = st := by
  rw [thrState, setThrState, getF_setF_other _ _ (by simp [F.THR_STAT_STATE, F.THR_STAT_WCAUSE]), getF_setF_same]
  exact Nat.mod_eq_of_lt h

theorem waitCause_setThrState (h : w < 16) : getF (setThrState s q t st w) (F.THR_STAT_WCAUSE q t) = w := by
  rw [setThrState, getF_setF_same]
  exact Nat.mod_eq_of_lt h

theorem thrState_setThrState_other (h : (q', t') ≠ (q, t)) : thrState (setThrState s q t st w) q' t' = thrState s q' t' := by
  rw [thrState, setThrState, getF_setF_other _ _ (by simp [F.THR_STAT_STATE, F.THR_STAT_WCAUSE]),
    getF_setF_other _ _ (by simpa [F.THR_STAT_STATE] using h)]
  rfl

@[simp] theorem thread_setThrState : thread (setThrState s q t st w) q' t' = thread s q' t' := rfl

@[simp] theorem thrState_setThread : thrState (setThread s q t v) q' t' = thrState s q' t' := rfl

/-- A thread set and its state shown is a change of that thread alone. -/
theorem onlyThread_setThrState_setThread : onlyThread s (setThrState (setThread s q t v) q t st w) q t := by
  have frame : onlyIn [.seq] [.THR_STAT] s (setThrState (setThread s q t v) q t st w) := (((onlyIn.refl ..).seq rfl).setF rfl).setF rfl
  refine ⟨⟨frame.1, fun f hf => ?_⟩, fun _ _ h => thread_setThread_other s q t v h, rfl⟩
  rw [setThrState, getF_setF_other _ _ (hf _ (by simp)).symm, getF_setF_other _ _ (hf _ (by simp)).symm, getF_setThread]

theorem onlyIn.thread_eq {P : List Part} {N : List RegName} (h : onlyIn P N s u) (hP : P.contains .seq = false) : thread u q t = thread s q t := by
  have kept : u.seq = s.seq := h.1 .seq (by simpa using hP)
  rw [thread, thread, kept]

theorem onlyIn.thrState_eq {P : List Part} {N : List RegName} (h : onlyIn P N s u) (hN : N.contains .THR_STAT = false) :
    thrState u q t = thrState s q t := h.getF_eq hN

end

/-! ### A thread goes on, or waits -/

theorem tset_tset {κ α : Type} [DecidableEq κ] (m : Tab κ α) (k : κ) (v w : α) : tset (tset m k v) k w = tset m k w := by
  induction m with
  | nil => simp [tset]
  | cons x r ih => by_cases h : x.1 = k <;> simp [tset, h, ih]

/-- A thread that changes and goes on is set once: changed, at the next instruction, waiting for nothing. -/
theorem advanceWith_eq (s : State) (q t : Nat) (f : Thread → Thread) :
    advanceWith s q t f = setThrState (setThread s q t { (f (thread s q t)).next with wait := none }) q t stRun 0 := by
  simp [advanceWith, advance, setThread, thread, tset_tset]

theorem advanceWith_goesOn (s : State) (q t : Nat) {f : Thread → Thread} (h : (f (thread s q t)).next.pc = (thread s q t).next.pc) :
    goesOn s (advanceWith s q t f) q t ∧ onlyThread s (advanceWith s q t f) q t := by
  rw [advanceWith_eq]
  exact ⟨⟨thrState_setThrState_same (by decide), by simpa using h⟩, onlyThread_setThrState_setThread⟩

theorem thread_advanceWith_tt (s : State) (q t : Nat) (f : Thread → Thread) :
    (thread (advanceWith s q t f) q t).tt = (f (thread s q t)).tt := by
  rw [advanceWith_eq, thread_setThrState, thread_setThread_same]
  rfl

/-- A thread that enters WAIT shows it and its cause, and keeps its time. -/
theorem enterWait_waits (s : State) (q t : Nat) {c : Nat} (w : Wait) (h : c < 16) :
    thrState (enterWait s q t c w) q t = stWait ∧ getF (enterWait s q t c w) (F.THR_STAT_WCAUSE q t) = c ∧
    (thread (enterWait s q t c w) q t).wait = some w ∧ (thread (enterWait s q t c w) q t).tt = (thread s q t).tt ∧
    onlyThread s (enterWait s q t c w) q t := by
  unfold enterWait
  exact ⟨thrState_setThrState_same (by decide), waitCause_setThrState h, by simp, by simp [Thread.next], onlyThread_setThrState_setThread⟩

/-! ### A thread faults -/

section
variable (s : State) (q t cause : Nat)

/-- A thread in FAULT with its cause, before its fault is latched and the shot tainted. -/
def faultShown : State := setF (threadEnd s q t stFault) (F.THR_STAT_FCAUSE q t) cause

/-- After the state and its cause a fault only latches and taints. -/
theorem threadFault_afterShown :
    onlyIn [.post, .taints, .head] [.THR_LATCH, .HB_RQ_CNT, .HB_RQ_CREDIT] (faultShown s q t cause) (threadFault s q t cause) :=
  (((onlyIn.refl ..).latch rfl rfl).latch rfl rfl).trans ((onlyIn_addTaint ..).mono (by decide) (by decide))

theorem onlyIn_threadFault : onlyIn [.seq, .post, .taints, .head] lateRegs s (threadFault s q t cause) :=
  (((onlyIn_threadEnd s q t stFault).mono (by decide) (List.Subset.refl _)).setF rfl).trans
    ((threadFault_afterShown ..).mono (by decide) (by decide))

theorem thrState_threadFault : thrState (threadFault s q t cause) q t = stFault := by
  rw [(threadFault_afterShown ..).thrState_eq rfl, thrState, faultShown, getF_setF_other _ _ (by simp [F.THR_STAT_STATE, F.THR_STAT_FCAUSE])]
  exact thrState_setThrState_same (by decide)

theorem faultCause_threadFault (h : cause < 256) : getF (threadFault s q t cause) (F.THR_STAT_FCAUSE q t) = cause := by
  rw [(threadFault_afterShown ..).getF_eq rfl, faultShown, getF_setF_same]
  exact Nat.mod_eq_of_lt h

theorem thread_threadFault_wait : (thread (threadFault s q t cause) q t).wait = none := by
  rw [(threadFault_afterShown ..).thread_eq rfl, faultShown, thread_setF, threadEnd_eq, thread_setThrState, endSet, thread_setThread_same]

theorem thread_threadFault_other {q' t' : Nat} (h : (q', t') ≠ (q, t)) : thread (threadFault s q t cause) q' t' = thread s q' t' := by
  rw [(threadFault_afterShown ..).thread_eq rfl, faultShown, thread_setF, threadEnd_eq, thread_setThrState, endSet,
    thread_setThread_other _ _ _ _ h, (onlyIn_failSet ..).thread_eq rfl]

end

/-! ### A thread's fault clears no latch of a thread -/

section
variable {s : State} {g : Fld}

theorem flagF_latch_true {f : Fld} (p : Nat) (hf : 0 < f.width) (h : flagF s g = true) : flagF (latch s f p) g = true := by
  unfold latch
  split
  · exact h
  · rw [flagF_latchFire]
    exact flagF_setB_true hf h

variable (q t : Nat) (hg : g.key.reg.name = .THR_LATCH) (h : flagF s g = true)
include hg h

theorem flagF_lateCommand_true (tick : Nat) : flagF (lateCommand s q t tick) g = true := by
  have counted : onlyIn [.taints, .head] [.THR_CNT, .SEQ_CNT_LATE, .HB_RQ_CREDIT, .HB_RQ_CNT] (latch s (F.THR_LATCH_LATE q t) (quireEvent q 0))
      (lateCommand s q t tick) :=
    (((onlyIn.refl ..).incF rfl).incF rfl).trans ((onlyIn_addTaint ..).mono (List.Subset.refl _) (by decide))
  rw [counted.flagF_eq (by rw [hg]; rfl)]
  exact flagF_latch_true _ Nat.one_pos h

theorem flagF_failSet_true : flagF (failSet s q t) g = true := by
  unfold failSet
  split
  · exact flagF_latch_true _ Nat.one_pos (flagF_lateCommand_true q t hg h _)
  · exact h

theorem flagF_threadFault_true (cause : Nat) : flagF (threadFault s q t cause) g = true := by
  have shown : onlyIn [.seq] [.THR_STAT] (failSet s q t) (faultShown s q t cause) := ((((onlyIn.refl ..).seq rfl).setF rfl).setF rfl).setF rfl
  refine ((onlyIn_addTaint ..).flagF_eq (by rw [hg]; rfl)).trans (flagF_latch_true _ Nat.one_pos (flagF_latch_true _ Nat.one_pos ?_))
  exact (shown.flagF_eq (by rw [hg]; rfl)).trans (flagF_failSet_true q t hg h)

end

/-! ### The release of a barrier: every participant wakes once -/

/-- A thread has gone on at a time, waiting for nothing. -/
def awakeAt (s : State) (q t tt : Nat) : Prop := thrState s q t = stRun ∧ (thread s q t).wait = none ∧ (thread s q t).tt = tt

section
variable {s : State} {scope bar r q t gap : Nat}

theorem atBarrier_of_wait (h : (thread s q t).wait = some (.barrier scope bar gap)) : atBarrier s scope bar (q, t) = some gap := by
  simp [atBarrier, h]

theorem barWake_arrived {x : Nat × Nat} (h : atBarrier s scope bar x = some gap) : barWake scope bar r s x =
    setThrState (setThread s x.1 x.2 { thread s x.1 x.2 with wait := none, tt := (r + gap) % 2 ^ 64 }) x.1 x.2 stRun 0 := by
  simp [barWake, h]

theorem barWake_absent {x : Nat × Nat} (h : atBarrier s scope bar x = none) : barWake scope bar r s x = s := by simp [barWake, h]

theorem awakeAt_barWake_same (h : atBarrier s scope bar (q, t) = some gap) : awakeAt (barWake scope bar r s (q, t)) q t ((r + gap) % 2 ^ 64) := by
  rw [barWake_arrived h]
  exact ⟨thrState_setThrState_same (by decide), by simp, by simp⟩

/-- The wake of a participant leaves every other thread. -/
theorem barWake_other {x : Nat × Nat} (h : (q, t) ≠ x) :
    thread (barWake scope bar r s x) q t = thread s q t ∧ thrState (barWake scope bar r s x) q t = thrState s q t := by
  cases a : atBarrier s scope bar x with
  | none => simp [barWake_absent a]
  | some g =>
    rw [barWake_arrived a]
    exact ⟨thread_setThread_other _ _ _ _ h, thrState_setThrState_other h⟩

theorem awakeAt.atBarrier_eq {tt : Nat} : awakeAt s q t tt → atBarrier s scope bar (q, t) = none
  | ⟨_, awake, _⟩ => by simp [atBarrier, awake]

/-- No later wake reaches a thread that is awake. -/
theorem awakeAt.barWake {tt : Nat} (h : awakeAt s q t tt) (x : Nat × Nat) : awakeAt (barWake scope bar r s x) q t tt := by
  by_cases e : (q, t) = x
  · subst e
    rwa [barWake_absent h.atBarrier_eq]
  · obtain ⟨thread_eq, state_eq⟩ := barWake_other (scope := scope) (bar := bar) (r := r) (s := s) e
    rwa [awakeAt, thread_eq, state_eq]

theorem awakeAt_barWakes {l : List (Nat × Nat)} (hl : (q, t) ∈ l) (h : atBarrier s scope bar (q, t) = some gap) :
    awakeAt (l.foldl (barWake scope bar r) s) q t ((r + gap) % 2 ^ 64) := by
  induction l generalizing s with
  | nil => cases hl
  | cons x l ih =>
    by_cases e : (q, t) = x
    · subst e
      exact List.foldlRecOn (motive := fun s => awakeAt s q t _) l _ (awakeAt_barWake_same h) fun _ awake y _ => awake.barWake y
    · refine ih ((List.mem_cons.1 hl).resolve_left e) ?_
      rw [atBarrier, (barWake_other e).1]
      exact h

variable (s scope bar r)

theorem onlyIn_barWake (x : Nat × Nat) : onlyIn [.seq] [.THR_STAT] s (barWake scope bar r s x) := by
  unfold barWake
  split
  · exact (((onlyIn.refl ..).seq rfl).setF rfl).setF rfl
  · exact .refl ..

/-- Quires fire barrier release (R286). -/
def fireReleases (s : State) (qs : List Nat) : State := qs.foldl (fun s q => fire s (quireEvent q 23)) s

theorem onlyIn_fireReleases (qs : List Nat) : onlyIn [.post] [] s (fireReleases s qs) := .foldl (fun _ _ => (onlyIn.refl ..).post rfl) qs s

theorem fired_fireReleases {qs : List Nat} (h : q ∈ qs) : quireEvent q 23 ∈ (fireReleases s qs).post.fired :=
  foldl_establishes (P := fun q s => quireEvent q 23 ∈ s.post.fired) (fun _ _ => by simp [fire]) (fun _ _ _ m => by simp [fire, m]) h s

variable (p : Nat)

theorem barRelease_eq : barRelease s scope p bar r =
    fireReleases ((barThreads s scope p bar).foldl (barWake scope bar r) s) (barQuires s scope p bar) := rfl

theorem onlyIn_barRelease : onlyIn [.seq, .post] [.THR_STAT] s (barRelease s scope p bar r) :=
  ((onlyIn.foldl (onlyIn_barWake · scope bar r) _ s).mono (by decide) (List.Subset.refl _)).trans
    ((onlyIn_fireReleases ..).mono (by decide) (by decide))

variable {s scope bar p}

/-- A participant of a barrier goes on at its release tick and its own GAP, and its quire fires barrier release (R99). -/
theorem barRelease_participant (m : (q, t) ∈ barThreads s scope p bar) (h : (thread s q t).wait = some (.barrier scope bar gap)) :
    awakeAt (barRelease s scope p bar r) q t ((r + gap) % 2 ^ 64) ∧ quireEvent q 23 ∈ (barRelease s scope p bar r).post.fired := by
  have member : q ∈ barQuires s scope p bar := by
    simp only [barThreads, List.mem_flatMap, List.mem_map, Prod.mk.injEq] at m
    obtain ⟨_, hq, _, -, rfl, -⟩ := m
    exact hq
  have fires := onlyIn_fireReleases ((barThreads s scope p bar).foldl (barWake scope bar r) s) (barQuires s scope p bar)
  rw [barRelease_eq, awakeAt, fires.thread_eq rfl, fires.thrState_eq rfl]
  exact ⟨awakeAt_barWakes m (atBarrier_of_wait h), fired_fireReleases _ member⟩

end

theorem barrierReleaseOp_full {s : State} {kind : Fin 3} {p bar : Nat} (f : barFull s kind p bar = true) (d : barLast s kind p bar < s.now)
    (c : kind = 2 → flagF s F.CL_CFG_EN = false) :
    barrierReleaseOp s kind p bar = barRelease s kind p bar (barTick s kind p bar (barLast s kind p bar)) := by
  have alone : kind.val < 2 ∨ flagF s F.CL_CFG_EN = false := by
    by_cases h : kind = 2
    · exact .inr (c h)
    · exact .inl (by omega)
  exact if_pos ⟨f, d, alone⟩

theorem barTick_eq (s : State) (kind : Fin 3) (p bar d : Nat) :
    barTick s kind p bar d = if kind = 0 then barTT s kind p bar else max (barTT s kind p bar) (d + barMargin s kind bar) := by
  by_cases h : kind = 0
  · simp [barTick, h]
  · simp [barTick, h]

/-! ### The time limit of a barrier -/

section
variable (s : State) (q t : Nat)

/-- A thread has waited too long at a barrier, which is latched and not yet its fault (R100). -/
def tmoLatched : State := latch s (F.THR_LATCH_SYNC_TMO q t) (quireEvent q 2)

/-- The thread has faulted, and its quire, if that made it idle, is gated (R456). -/
def timedOut : State := quireGate (threadFault (tmoLatched s q t) q t 4) q

theorem barrierTimeoutOp_due {scope bar gap : Nat} (w : (thread s q t).wait = some (.barrier scope bar gap))
    (n : getF s (F.SEQ_SYNC_TMO_TMO q) ≠ 0) (d : (thread s q t).since + getF s (F.SEQ_SYNC_TMO_TMO q) ≤ s.now) :
    barrierTimeoutOp s q t = timedOut s q t := by
  simp [barrierTimeoutOp, timedOut, tmoLatched, w, n, d]

theorem onlyIn_tmoLatched : onlyIn [.post] [.THR_LATCH] s (tmoLatched s q t) := (onlyIn.refl ..).latch rfl rfl

/-- The gating leaves what the fault shows. -/
theorem timedOut_afterFault : onlyIn [.post, .sizing] gateRegs (threadFault (tmoLatched s q t) q t 4) (timedOut s q t) := onlyIn_quireGate ..

theorem onlyIn_timedOut : onlyIn [.seq, .post, .taints, .head, .sizing] (lateRegs ++ gateRegs) s (timedOut s q t) :=
  (((onlyIn_tmoLatched s q t).mono (by decide) (by decide)).trans ((onlyIn_threadFault ..).mono (by decide) (by decide))).trans
    ((timedOut_afterFault ..).mono (by decide) (by decide))

theorem timedOut_shown : thrState (timedOut s q t) q t = stFault ∧ getF (timedOut s q t) (F.THR_STAT_FCAUSE q t) = 4 ∧
    flagF (timedOut s q t) (F.THR_LATCH_SYNC_TMO q t) = true := by
  have gate := timedOut_afterFault s q t
  rw [gate.thrState_eq rfl, gate.getF_eq rfl, gate.flagF_eq rfl]
  exact ⟨thrState_threadFault .., faultCause_threadFault _ _ _ _ (by decide),
    flagF_threadFault_true q t rfl (flagF_latch s _ _ Nat.one_pos) 4⟩

theorem thread_timedOut_wait : (thread (timedOut s q t) q t).wait = none := by
  rw [(timedOut_afterFault ..).thread_eq rfl, thread_threadFault_wait]

theorem thread_timedOut_other {q' t' : Nat} (h : (q', t') ≠ (q, t)) : thread (timedOut s q t) q' t' = thread s q' t' := by
  rw [(timedOut_afterFault ..).thread_eq rfl, thread_threadFault_other _ _ _ _ h, (onlyIn_tmoLatched ..).thread_eq rfl]

end

/-! ### SYNC -/

section
variable {s : State} {q t bar : Fin 16} {scope : Fin 4} {gap : Fin 16384}

/-- SYNC of scope 0 to 2 that may issue. -/
theorem exec_sync_barrier (h : mayIssue s q t) (hs : scope.val < 3) :
    exec (.sync q t false scope bar gap) s = .next (syncBarrier s q t scope bar gap) :=
  congrArg Host.Outcome.next ((issue_runs s q t _ h.1 h.2).trans (if_neg (by omega)))

/-- SYNC of scope 3 that may issue. -/
theorem exec_sync_shot (h : mayIssue s q t) : exec (.sync q t false 3 bar gap) s = .next (syncShot s q t gap) :=
  congrArg Host.Outcome.next (issue_runs s q t _ h.1 h.2)

end

theorem syncBarrier_left {s : State} {q t bar : Nat} (scope gap : Nat) (h : barMasked s q t bar = false) :
    syncBarrier s q t scope bar gap = threadFault s q t 5 := by simp [syncBarrier, h]

/-- A masked thread enters WAIT; on a standalone device no cluster hears of it. -/
theorem syncBarrier_arrives {s : State} {q t scope bar : Nat} (gap : Nat) (h : barMasked s q t bar = true)
    (c : scope = 2 → flagF s F.CL_CFG_EN = false) : syncBarrier s q t scope bar gap = enterWait s q t 6 (.barrier scope bar gap) := by
  have alone (hs : scope = 2) : flagF (enterWait s q t 6 (.barrier 2 bar gap)) F.CL_CFG_EN = false := by
    have frame : onlyIn [.seq] [.THR_STAT] s (enterWait s q t 6 (.barrier 2 bar gap)) := (((onlyIn.refl ..).seq rfl).setF rfl).setF rfl
    exact (frame.flagF_eq rfl).trans (c hs)
  by_cases hs : scope = 2
  · subst hs
    simp [syncBarrier, h, clusterArrive, alone rfl]
  · simp [syncBarrier, h, hs]

theorem syncShot_announced {s : State} {q t b : Nat} (gap : Nat) (h : boundFrom s (thread s q t).tt = some b) :
    syncShot s q t gap = advanceWith s q t (fun x => { x with tt := (b + gap) % 2 ^ 64 }) := by simp [syncShot, h]

theorem syncShot_unknown {s : State} {q t : Nat} (gap : Nat) (h : boundFrom s (thread s q t).tt = none) :
    syncShot s q t gap = enterWait s q t 7 (.shot gap) := by simp [syncShot, h]

end Sys2Proof.Machine

section
open Sys2Proof Sys2Proof.Machine

/-- Settles O8: SYNC enters WAIT, faults or goes on; a release wakes every participant once; the time limit faults the thread alone. -/
theorem barriers : Obligations.Barriers := by
  intro s q t p bar scope kind gap b
  refine ⟨fun may mask hs alone => ?_, fun may mask hs => ?_, fun may known => ?_, fun may unknown => ?_,
    fun full last alone member wait => ?_, fun wait limit due => ?_⟩
  · exact ⟨_, (exec_sync_barrier may hs).trans (congrArg _ (syncBarrier_arrives gap mask alone)), enterWait_waits s q t _ (by decide)⟩
  · exact ⟨_, (exec_sync_barrier may hs).trans (congrArg _ (syncBarrier_left scope gap mask)), thrState_threadFault ..,
      faultCause_threadFault _ _ _ _ (by decide), onlyIn_threadFault ..⟩
  · exact ⟨_, (exec_sync_shot may).trans (congrArg _ (syncShot_announced gap known)), thread_advanceWith_tt .., advanceWith_goesOn s q t rfl⟩
  · obtain ⟨state, cause, -, time, frame⟩ := enterWait_waits s q t (c := 7) (.shot gap) (by decide)
    exact ⟨_, (exec_sync_shot may).trans (congrArg _ (syncShot_unknown gap unknown)), state, cause, time, frame⟩
  · obtain ⟨⟨state, awake, time⟩, fired⟩ := barRelease_participant (barTick s kind p bar (barLast s kind p bar)) member wait
    exact ⟨_, congrArg Host.Outcome.next (barrierReleaseOp_full full last alone), state, awake,
      time.trans (by rw [barTick_eq]), fired, onlyIn_barRelease ..⟩
  · obtain ⟨state, cause, latched⟩ := timedOut_shown s q t
    refine ⟨_, congrArg Host.Outcome.next (barrierTimeoutOp_due s q t wait limit due), state, cause, latched, thread_timedOut_wait s q t,
      fun q' t' ne => ?_, onlyIn_timedOut s q t⟩
    exact congrArg Thread.wait (thread_timedOut_other s q t (by simpa [Fin.ext_iff] using ne))

end
end
